-- ==== Sys2Proof/Word.lean ====
section
/-!
DEFINITION. Word.lean: the widths the spec names, as bit vectors (R8, R173, R290: 8-, 32- and 64-bit quantities).
-/
namespace Sys2Proof

/-- One byte of a buffer, of flash, or of an SC register. -/
abbrev Byte := BitVec 8

/-- One 32-bit register or layout word (R8). -/
abbrev Word := BitVec 32

/-- One 64-bit block payload of a lane (R133), or one valve time (R10). -/
abbrev DWord := BitVec 64

end Sys2Proof
end

