-- ==== Sys2Proof/Syntax/Operand.lean ====
section
/-!
DEFINITION. Syntax/Operand.lean: the shapes of what arrives at the parts from outside: link blocks, frames, host buffers.
A command carries the raw bits, so that the model computes every check the spec names.
-/
namespace Sys2Proof

/-- One 64b/66b block as received: `ctl` is 1 for sync header 0b10, 0 for 0b01 (R133, R172). -/
structure Block where
  ctl : Bool
  pay : DWord
deriving DecidableEq, Repr

/-- What a host-memory read of a descriptor's buffer gives: its bytes, or a failed read (DMA_ERR, R296). -/
inductive HostBuf where
  | bytes (b : List Byte)
  | failed
deriving DecidableEq, Repr

/-- One end of a serial link (R171, R200): a VC lane, or the up or down lane of the cell at a position of a string. -/
inductive LinkEnd where
  | vc (l : Fin 108)
  | cc (s : Fin 48) (p : Fin 96) (down : Bool)
deriving DecidableEq, Repr

/-- Words as a receiver gets them (R201): 10-bit code groups, the first bit highest, or 66-bit blocks, the sync header as written in
[1:0] and the payload above it, the first bit lowest. -/
inductive RxWords where
  | groups (gs : List (BitVec 10))
  | blocks (bs : List (BitVec 66))
deriving DecidableEq, Repr

/-- The words at an end of a link. -/
structure LineRx where
  e     : LinkEnd
  words : RxWords
deriving DecidableEq, Repr

/-- A training frame of R204: its four words in order. -/
structure TrainFrame where
  w0 : Word
  w1 : Word
  w2 : Word
  w3 : Word
deriving DecidableEq, Repr

/-- A cell message of R191 as received: M0, the payload blocks, and the CHECK block. -/
structure MsgFrame where
  m0      : Block
  payload : List DWord
  check   : DWord
deriving DecidableEq, Repr

/-- A register of the endpoint's configuration space that the model acts by (R284): Device ID, Command, class code, Device Control, the
Message Control of MSI-X, the power state, and the AER Uncorrectable Error Status. -/
inductive CfgReg where
  | id | command | classCode | devControl | msixControl | power | aerStatus
deriving DecidableEq, Repr

/-- What an access of the host addresses (R284): an offset of BAR0, one of BAR2, or a register of configuration space. -/
inductive PcieAddr where
  | bar0 (a : BitVec 22)
  | bar2 (a : BitVec 13)
  | config (r : CfgReg)
deriving DecidableEq, Repr

/-- An upset of one value of a comparator instance's own copy of its thresholds and configuration, since the last tick (R137). -/
structure CmpUpset where
  /-- instance, channel (4 × lane + channel), field (0 HI, 1 LO, 2 CONSEC, 3 EN), and the value it now holds -/
  inst  : Fin 3
  chan  : Fin 32
  field : Fin 4
  value : BitVec 16
deriving DecidableEq, Repr

/-- What one control die delivers to the voter in a tick when it deviates from the reference die (R39, R40): the items
that arrived late or differ, and the die's own faults. -/
structure DieData where
  /-- the die's data for every item arrived more than 40 ns after the second die's, or not at all -/
  late    : Bool := false
  /-- the same of the command words of some facets, of the Lens block requests, or of the digest alone -/
  lateCmds : List (Fin 73728) := []
  lateBlk : Bool := false
  lateDig : Bool := false
  /-- the die's command word of a facet, by its global ID, where it differs from the computed one -/
  cmds    : List (Fin 73728 × BitVec 48) := []
  /-- the die's Lens block requests, where they differ -/
  blkMask : Option (BitVec 16) := none
  /-- the die's digest differs from the reference die's; two dies with equal marks agree with each other -/
  digest  : Option (BitVec 64) := none
deriving DecidableEq, Repr

/-- One ASDU of a sampled-value frame, as its encoding gives it (IEC 61850-9-2, R70): the svID string, smpCnt, confRev,
smpSynch, and the value and quality pairs: INT32 value, validity good, test bit. -/
structure Asdu where
  svId     : List Byte
  smpCnt   : BitVec 16
  confRev  : Word
  smpSynch : Byte
  vals     : List (Word × Bool × Bool)
deriving DecidableEq, Repr

/-- A sampled-value frame received on a 1000BASE-X port: destination, number of 802.1Q tags, Ethertype, APPID, the
simulation bit of its reserved field, its ASDUs. -/
structure SvFrame where
  port  : Bool
  dmac  : BitVec 48
  tags  : Nat
  etype : BitVec 16
  appid : BitVec 16
  sim   : Bool
  asdus : List Asdu
deriving DecidableEq, Repr

/-- A PTP message as received (R272): port, 802.1Q tags, domain, source identity, sequenceId, correctionField (2^-16 ns,
signed), logMessageInterval (signed), the two-step flag, whether its requestingPortIdentity is this clock, its timestamp
field, and how many 250 ps units before the command its start of frame passed (R273). -/
structure PtpMsg where
  port     : Bool
  tags     : Nat
  domain   : Byte
  clock    : DWord
  portNo   : BitVec 16
  seq      : BitVec 16
  corr     : DWord
  interval : Byte
  twoStep  : Bool
  mine     : Bool
  sec      : BitVec 48
  ns       : Word
  ago      : Nat
deriving DecidableEq, Repr

/-- A part of the chipset whose TAP is meant (R395): the cell controller that the command names, the VC, or a safety companion. -/
inductive TapPart where
  | cell
  | vc
  | sc (n : Fin 2)
deriving DecidableEq, Repr

/-- An instruction shifted into a TAP (R395); any other code is `other`. -/
inductive TapInstr where
  | bypass | idcode | sample | extest | highz | other
deriving DecidableEq, Repr

/-- What is done at a TAP: the core is halted or let run (R234); the Test-Logic-Reset state (TRST_N, or TMS high for five clocks); a scan
of the instruction register; a scan of the data register selected, with the bits at TDI, the first one first. `low` says that the
part's reset input is low. -/
inductive TapAct where
  | halt (on : Bool)
  | reset
  | loadIr (low : Bool) (i : TapInstr)
  | scanDr (low : Bool) (tdi : List Bool)
deriving DecidableEq, Repr

/-- An operation of a TAP. -/
structure TapOp where
  part : TapPart := .cell
  act  : TapAct
deriving DecidableEq, Repr

/-- What a start finds outside the boot controller (R367): which dies pass their self-test, the step that does not get done, if one
hangs until its limit, and that its writes of the slot pointer fail (R359). -/
structure BootRes where
  diePass : BitVec 3 := 7
  ptrBad  : Bool := false
  hang    : Option (Fin 9) := none
deriving DecidableEq, Repr

/-- What begins a cold reset (R383, R385): power coming up or a rail below its threshold, with VDDIO in its operating range all along or
not; or the reset input held low for a time in ns. -/
inductive ColdCause where
  | power (vddio : Bool)
  | pin (ns : Nat)
deriving DecidableEq, Repr

/-- An isolation frame's content (R338): the P and Q switch commands go to the field die; the field die sends the current of
each input in µA, which terminals OUTk_P and OUTk_N read energised, and the field supply in 0.125 V. The spec gives the frame
no layout, so that a command says beside it whether its CRC-16 is good. -/
inductive IsoFrame where
  | toField
  | toLogic (currents : List (BitVec 16)) (outP outN : BitVec 8) (loads : List (BitVec 16)) (fsv : Byte)
deriving DecidableEq, Repr

/-- What the two channels and the pins of an SC show at a cycle end where they deviate (R328, R342): Q's output commands and
permit command where they differ from P's, differing lock-out states, and pins that do not read as they are commanded. -/
structure ScCycle where
  qOuts   : Option (BitVec 8) := none
  qPermit : Option Bool := none
  qLock   : Bool := false
  pinA    : Option Bool := none
  pinB    : Option Bool := none
deriving DecidableEq, Repr

/-- A string of another VC as its status reports it: its VC, its map entry, its cells, its L_C with the hops of R30. -/
structure RemStr where
  vc    : Nat
  str   : Nat
  arm   : Nat
  home  : Nat
  cells : Nat
  lc    : Nat
  runs  : Bool
  /-- its facets that meet R111, but for their arm's state -/
  ready : Nat
deriving DecidableEq, Repr

/-- What a home VC tells the cascade of one of its arms: its state and its L_C (R111, R113, R174), its N_AVAIL and its N_MIN (R131,
log 99). -/
structure ArmNote where
  home  : Fin 16
  arm   : Fin 12
  state : BitVec 2
  lc    : BitVec 3
  avail : BitVec 11
  nMin  : BitVec 11
deriving DecidableEq, Repr

/-- What a cascade frame of commands carries beside them: the lead's deblock (R305, log 42), and notes of arms (log 99). -/
structure FrameNotes where
  deblock : Bool
  arms    : List ArmNote
deriving DecidableEq, Repr

/-- A level that a BLKREQ pin takes, and for how many ns it holds (R140). -/
structure PinLevel where
  level : Bool
  ns    : Nat
deriving DecidableEq, Repr

/-- What the control dies notice as an item ends (R159): its result, or the value of its trap; the dies whose own notice came more than
40 ns after the second one, and those whose own result differs. -/
structure ItemEnd where
  value : Word
  late  : BitVec 3 := 0
  odd   : BitVec 3 := 0
deriving DecidableEq, Repr

/-- What an Announce message tells of its grandmaster (R272). -/
structure GmData where
  id       : DWord
  prio1    : Byte
  cls      : Byte
  acc      : Byte
  var      : BitVec 16
  prio2    : Byte
  steps    : BitVec 16
  utc      : BitVec 16
  utcValid : Bool
deriving DecidableEq, Repr

end Sys2Proof
end

