-- ==== Sys2Proof/Syntax.lean ====
section
/-!
DEFINITION. Syntax.lean: the commands of the chipset, one constructor for each row of the table. Every command but TICK and
COLD_RESET begins with dt: the 250 ps units that have passed since the command before it (log 2). The operands are what the
event brings: a written word, a received block or frame, a buffer read, the part that it reaches.
-/
namespace Sys2Proof

inductive Instr where
  /-- COLD_RESET: the VC enters cold reset (R383) -/
  | coldReset (c : ColdCause)
  /-- BOOT_START: the start runs its steps (R367) -/
  | bootStart (dt : Nat) (r : BootRes)
  /-- BOOT_STEP_TIMEOUT: the limit of a start step passes (R367) -/
  | bootStepTimeout (dt : Nat) (r : BootRes)
  /-- START_DONE: BOOT.CTRL.START_DONE (R367, R371) -/
  | startDone (dt : Nat) (req : BitVec 16) (w : Word)
  /-- CONFIRM: BOOT.CTRL.CONFIRM (R362, R371) -/
  | confirmImage (dt : Nat) (req : BitVec 16) (w : Word)
  /-- CLR_HISTORY: BOOT.CTRL.CLR_HISTORY (R370, R371) -/
  | clrHistory (dt : Nat) (req : BitVec 16) (w : Word)
  /-- WARM_RESET: a warm reset asked for by the host (0), firmware (1) or the boot controller (2) (R48) -/
  | warmReset (dt : Nat) (by_ : Fin 3)
  /-- REGISTER_WRITE: a BAR0 write (R5, R8, R53) -/
  | registerWrite (dt : Nat) (req : BitVec 16) (addr : PcieAddr) (be : BitVec 4) (w : Word)
  /-- LATCHED_HIGH_WORD_READ: a read of the low word of a 64-bit register (R9) -/
  | latchedRead (dt : Nat) (req : BitVec 16) (addr : BitVec 22)
  /-- FACET_WINDOW_READ: a read of word 0 of a facet window entry (R109) -/
  | facetWindowRead (dt : Nat) (req : BitVec 16) (n : Fin 4608)
  /-- CLR_SUMMARY: ERR.CTRL.CLR_SUMMARY (R56) -/
  | clrSummary (dt : Nat) (req : BitVec 16) (w : Word)
  /-- REGISTER_READ: a BAR0 read (R8, R53) -/
  | registerRead (dt : Nat) (req : BitVec 16) (addr : PcieAddr) (be : BitVec 4)
  /-- TICK: one valve tick (R22) -/
  | tick (dies : List DieData) (cmpCrc : List CmpUpset)
  /-- STEP_OVERRUN: a Lens step has not committed by its next due tick (R96) -/
  | stepOverrun (dt : Nat) (c : Fin 16)
  /-- FLIT_RX: a flit on an in-package channel (R38) -/
  | flitRx (dt : Nat) (d : Fin 3) (data : BitVec 256) (crc : BitVec 16) (replay : Bool)
  /-- VOTER_ASIDE: VOTER.CTRL.ASIDE (R42, R55) -/
  | voterAside (dt : Nat) (req : BitVec 16) (w : Word)
  /-- VOTER_REALIGN: VOTER.CTRL.REALIGN (R42, R55) -/
  | voterRealign (dt : Nat) (req : BitVec 16) (w : Word)
  /-- DIE_SELF_TEST_DONE: a resetting die's self-test ends (R42) -/
  | dieSelfTestDone (dt : Nat) (d : Fin 3) (pass : Bool)
  /-- REALIGN_COPY_COMPLETE: copy tick 64 (R43) -/
  | realignCopyComplete (dt : Nat) (d : Fin 3) (agrees : Bool)
  /-- DIE_ERROR: a control die reports an error above CORRECTED (R42) -/
  | dieError (dt : Nat) (d : Fin 3)
  /-- CASCADE_START: CASCADE.CTRL.START (R34, R36) -/
  | cascadeStart (dt : Nat) (req : BitVec 16) (w : Word)
  /-- CASCADE_STOP: CASCADE.CTRL.STOP (R34, R36) -/
  | cascadeStop (dt : Nat) (req : BitVec 16) (w : Word)
  /-- ENUMERATION_FRAME: an enumeration frame at a member (R34) -/
  | enumerationFrame (dt : Nat) (id : BitVec 8) (count : BitVec 8) (bad : BitVec 2)
  /-- ENUM_ACKNOWLEDGE: the acknowledgements of the members (R34) -/
  | enumAcknowledge (dt : Nat) (acks : List (BitVec 8 × BitVec 8)) (bad : BitVec 2)
  /-- ENUM_TIMEOUT: 10 ms from START without enumeration (R34) -/
  | enumTimeout (dt : Nat)
  /-- TICK_ALIGNMENT_DONE: the two-way exchange completes (R29, R30) -/
  | tickAlignmentDone (dt : Nat) (delay : Nat) (vt tickNo : DWord) (tickOfs : BitVec 24)
  /-- CASCADE_READY: every member reports ready (R34) -/
  | cascadeReady (dt : Nat)
  /-- CASCADE_BLOCK_RX: a cascade block on the UP or the DN pair (R144) -/
  | cascadeBlockRx (dt : Nat) (down : Bool) (blk : Block)
  /-- CASCADE_COMMAND_FRAME: voted commands for remote facets (R128) -/
  | cascadeCommandFrame (dt : Nat) (dest : Fin 16) (cmds : List (Fin 4608 × BitVec 48)) (notes : FrameNotes) (bad : BitVec 2)
  /-- FACET_SLICE_RX: a facet slice of a remote string (R127) -/
  | facetSliceRx (dt : Nat) (home vc : Fin 16) (str : Fin 48) (ws : List Word) (bad : BitVec 2)
  /-- CASC_VALUE_RX: a CASC_OUT value (R81) -/
  | cascValueRx (dt : Nat) (origin : Fin 16) (slot : Fin 64) (value : Word) (period : Nat) (bad : BitVec 2)
  /-- MEMBER_STATUS_RX: a member's status of the tick (R305) -/
  | memberStatusRx (dt : Nat) (vc : Fin 16) (conds : BitVec 4) (strs : List RemStr) (bad : BitVec 2)
  /-- CTX_START: CTXCTRL.START (R84) -/
  | ctxStart (dt : Nat) (c : Fin 16) (req : BitVec 16) (w : Word)
  /-- CTX_STOP: CTXCTRL.STOP (R85) -/
  | ctxStop (dt : Nat) (c : Fin 16) (req : BitVec 16) (w : Word)
  /-- SETPOINT_WRITE: a host write of LENS.SETPT (R74) -/
  | setpointWrite (dt : Nat) (n : Fin 64) (req : BitVec 16) (w : Word)
  /-- CLR_LOAD: LENS.CTRL.CLR_LOAD (R89) -/
  | clrLoad (dt : Nat) (req : BitVec 16) (w : Word)
  /-- SV_FRAME: a sampled-value frame (R70) -/
  | svFrame (dt : Nat) (f : SvFrame)
  /-- COEF_LOAD: COEF_LOAD with DIR 0 (R88) -/
  | coefLoad (dt : Nat) (id : Nat) (buf : HostBuf)
  /-- COEF_READBACK: COEF_LOAD with DIR 1 (R88) -/
  | coefReadback (dt : Nat) (id : Nat) (buf : HostBuf)
  /-- COEF_SWAP: COEF_SWAP (R101) -/
  | coefSwap (dt : Nat) (id : Nat)
  /-- ARM_FORM: ARMCTL.FORM (R114) -/
  | armForm (dt : Nat) (a : Fin 12) (req : BitVec 16) (w : Word)
  /-- ARM_RELEASE: ARMCTL.RELEASE (R113) -/
  | armRelease (dt : Nat) (a : Fin 12) (req : BitVec 16) (w : Word)
  /-- CLR_TIMING: PRISM.CTRL.CLR_TIMING (R132) -/
  | clrTiming (dt : Nat) (req : BitVec 16) (w : Word)
  /-- FACET_SET_TRIM: FACET_CTL SET_TRIM (R131) -/
  | facetSetTrim (dt : Nat) (id : Nat) (buf : HostBuf)
  /-- FACET_RETURN: FACET_CTL RETURN (R131) -/
  | facetReturn (dt : Nat) (id : Nat) (buf : HostBuf)
  /-- FACET_REMOVE: FACET_CTL REMOVE (R131) -/
  | facetRemove (dt : Nat) (id : Nat) (buf : HostBuf)
  /-- FACET_CLEAR_COUNTS: FACET_CTL CLEAR_COUNTS (R131) -/
  | facetClearCounts (dt : Nat) (id : Nat) (buf : HostBuf)
  /-- MEAS_FRAME_RX: a sample frame of a measurement lane; for each channel, a bit for each comparator instance that judges its
  sample wrongly (R134, R137) -/
  | measFrameRx (dt : Nat) (l : Fin 8) (bs : List Block) (bad : BitVec 12)
  /-- MEAS_MISS: a channel has had no valid sample for its MISS time (R135) -/
  | measMiss (dt : Nat) (l : Fin 8) (ch : Fin 4)
  /-- BLOCK_PERMIT_CHANGE: a BLKREQ pin has held a level for a time, and its filter acts on it (R140) -/
  | blockPermitChange (dt : Nat) (pinB : Bool) (x : PinLevel)
  /-- PROT_CLEAR: PROT.CTRL.CLEAR (R139) -/
  | protClear (dt : Nat) (req : BitVec 16) (w : Word)
  /-- PROT_HOST_BLOCK: PROT.CTRL.BLOCK (R139) -/
  | protHostBlock (dt : Nat) (req : BitVec 16) (w : Word)
  /-- PROT_TEST_GO: PROT.TEST.GO (R404) -/
  | protTestGo (dt : Nat) (req : BitVec 16) (w : Word)
  /-- TOKEN_GRANT: TOKCFG with a COUNT (R150) -/
  | tokenGrant (dt : Nat) (a : Fin 12) (req : BitVec 16) (w : Word)
  /-- TOKEN_REVOKE: TOKCFG with COUNT 0 (R150) -/
  | tokenRevoke (dt : Nat) (a : Fin 12) (req : BitVec 16) (w : Word)
  /-- TOKEN_EXPIRY: a token's time runs out (R150) -/
  | tokenExpiry (dt : Nat) (a : Fin 12)
  /-- BYPASS_FIRE_REQUEST: PROT.FIRE (R151) -/
  | bypassFireRequest (dt : Nat) (req : BitVec 16) (w : Word)
  /-- FIRING_END: a firing ends (R152) -/
  | firingEnd (dt : Nat)
  /-- ITEM_ARM: ITEMCTL ARM of the host, or of a core for an item (R157) -/
  | itemArm (dt : Nat) (req : BitVec 16) (w : Word) (by_ : Option (Fin 256))
  /-- ITEM_CANCEL: ITEMCTL CANCEL of the host, or of a core (R164) -/
  | itemCancel (dt : Nat) (req : BitVec 16) (w : Word) (by_ : Option (Fin 256))
  /-- ITEM_FREE: ITEMCTL FREE of the host, or of a core (R157) -/
  | itemFree (dt : Nat) (req : BitVec 16) (w : Word) (by_ : Option (Fin 256))
  /-- ITEM_COMPLETE: a core returns from its item (R159) -/
  | itemComplete (dt : Nat) (core : Fin 8) (x : ItemEnd)
  /-- ITEM_TRAP: an item traps (R165) -/
  | itemTrap (dt : Nat) (core : Fin 8) (cause : BitVec 5) (x : ItemEnd)
  /-- CORE_SETPOINT_WRITE: a core writes a set-point port (R169) -/
  | coreSetpointWrite (dt : Nat) (core : Fin 8) (sp : Fin 64) (x : Word)
  /-- DEADLINE_MISS: an item's completion has not been applied by its deadline (R163) -/
  | deadlineMiss (dt : Nat) (j : Fin 256)
  /-- STRING_START: STRING.CTRL.START (R196) -/
  | stringStart (dt : Nat) (n : Fin 48) (req : BitVec 16) (w : Word)
  /-- STRING_STOP: STRING.CTRL.STOP (R196) -/
  | stringStop (dt : Nat) (n : Fin 48) (req : BitVec 16) (w : Word)
  /-- STOP_SWEEPS_END: the BLOCK sweeps after STOP have been sent (R196) -/
  | stopSweepsEnd (dt : Nat) (n : Fin 48)
  /-- STRING_LOAD: STRING.CTRL.LOAD (R195) -/
  | stringLoad (dt : Nat) (n : Fin 48) (req : BitVec 16) (w : Word)
  /-- LOAD_END: every cell confirms, or 8 sweeps have passed (R195) -/
  | loadEnd (dt : Nat) (n : Fin 48)
  /-- STRING_TRAIN_TIMEOUT: 100 ms in TRAIN (R196) -/
  | stringTrainTimeout (dt : Nat) (n : Fin 48)
  /-- ASSIGN_REPEAT: 1 ms in ASSIGN (R196) -/
  | assignRepeat (dt : Nat) (n : Fin 48)
  /-- ASSIGN_RETURN: ASSIGN at the Y end (R196) -/
  | assignReturn (dt : Nat) (n : Fin 48) (m : MsgFrame)
  /-- ASSIGN_TIMEOUT: 100 ms in ASSIGN (R196) -/
  | assignTimeout (dt : Nat) (n : Fin 48)
  /-- CALIBRATION_DONE: all link delays are measured and read (R198) -/
  | calibrationDone (dt : Nat) (n : Fin 48)
  /-- IMAGE_LOAD_DONE: 8 ms after the final message: each cell's BOOT.STATUS and IMGVER, and at which attempt it acknowledged its path delays (R227, R280) -/
  | imageLoadDone (dt : Nat) (n : Fin 48) (rx : List Nat) (replies : List (Option (Word × Word))) (acks : List Nat)
  /-- SYNC_COMPLETE: 16 clean ticks in SYNC (R196) -/
  | syncComplete (dt : Nat) (n : Fin 48)
  /-- STRING_SYNC_TIMEOUT: 256 ticks in SYNC (R196) -/
  | stringSyncTimeout (dt : Nat) (n : Fin 48)
  /-- STRING_DOWN: both lane ends lost, or no report for WDOG_TICKS ticks (R196) -/
  | stringDown (dt : Nat) (n : Fin 48)
  /-- SWEEP_RETURN: a piece of a returning sweep copy (R183) -/
  | sweepReturn (dt : Nat) (n : Fin 48) (endY : Bool) (hdr : List Block) (start : Fin 96) (reps : List DWord) (tr : Option (Block × Block))
  /-- CELL_MSG_SEND: a queued cell message leaves when it fits (R193) -/
  | cellMsgSend (dt : Nat) (n : Fin 48)
  /-- MSG_RESPONSE_RX: a response reaches a lane end (R192) -/
  | msgResponseRx (dt : Nat) (n : Fin 48) (endY : Bool) (m : MsgFrame)
  /-- MSG_TIMEOUT: no response within the message time (R192) -/
  | msgTimeout (dt : Nat) (n : Fin 48)
  /-- SWEEP_COPY_RX: a sweep copy passes a cell (R180) -/
  | sweepCopyRx (dt : Nat) (st : Fin 48) (p : Fin 96) (down : Bool) (hdr : List Block) (cmd rep t0 t1 : Block) (ago : Nat)
  /-- CC_FLASH_RX: a block flash at a cell (R189) -/
  | ccFlashRx (dt : Nat) (st : Fin 48) (p : Fin 96) (down : Bool) (blk : Block)
  /-- CELL_TICK_INSTANT: an effective tick of cell time (R181) -/
  | cellTickInstant (dt : Nat) (st : Fin 48) (p : Fin 96)
  /-- CELL_SWEEP_WATCHDOG: tick instants without an accepted command (R190) -/
  | cellSweepWatchdog (dt : Nat) (st : Fin 48) (p : Fin 96)
  /-- CC_MSG_READ: READ at a cell (R192) -/
  | ccMsgRead (dt : Nat) (st : Fin 48) (p : Fin 96) (down : Bool) (m : MsgFrame)
  /-- CC_MSG_WRITE: WRITE at a cell (R235) -/
  | ccMsgWrite (dt : Nat) (st : Fin 48) (p : Fin 96) (down : Bool) (m : MsgFrame)
  /-- CC_MSG_ASSIGN: ASSIGN at a cell (R197) -/
  | ccMsgAssign (dt : Nat) (st : Fin 48) (p : Fin 96) (down : Bool) (m : MsgFrame)
  /-- CC_MSG_CAL_START: CAL_START at a cell (R198) -/
  | ccMsgCalStart (dt : Nat) (st : Fin 48) (p : Fin 96) (down : Bool) (m : MsgFrame)
  /-- CC_MSG_FW_BLOCK: FW_BLOCK at a cell (R226) -/
  | ccMsgFwBlock (dt : Nat) (st : Fin 48) (p : Fin 96) (down : Bool) (m : MsgFrame)
  /-- CC_RESPONSE_SEND: a response leaves when it fits (R193) -/
  | ccResponseSend (dt : Nat) (st : Fin 48) (p : Fin 96)
  /-- PROBE_RX: a PROBE, answered with TURN (R198) -/
  | probeRx (dt : Nat) (e : LinkEnd) (blk : Block) (turn : BitVec 16)
  /-- ECHO_RX: an ECHO, with the RTT taken in ps (R198) -/
  | echoRx (dt : Nat) (e : LinkEnd) (blk : Block) (rttPs : Nat)
  /-- ECHO_TIMEOUT: 100 µs of a link measurement: of the VC's X end, or of a cell (R198) -/
  | echoTimeout (dt : Nat) (st : Fin 48) (p : Option (Fin 96))
  /-- LINK_FAULT_RX: LINK_FAULT (R184) -/
  | linkFaultRx (dt : Nat) (e : LinkEnd) (blk : Block)
  /-- LINK_RETURN: both receivers have held lock for 1 ms (R184) -/
  | linkReturn (dt : Nat) (e : LinkEnd)
  /-- LOSS_OF_LOCK: a receiver loses lock (R203) -/
  | lossOfLock (dt : Nat) (e : LinkEnd)
  /-- FAULT_TX_EXPIRY: 2 µs in FAULT_TX (R207) -/
  | faultTxExpiry (dt : Nat) (e : LinkEnd)
  /-- BACKOFF_EXPIRY: 1 ms in BACKOFF (R207) -/
  | backoffExpiry (dt : Nat) (e : LinkEnd)
  /-- BRINGUP_TIMEOUT: no progress for 1 ms, or loss of sync (R207) -/
  | bringupTimeout (dt : Nat) (e : LinkEnd)
  /-- CAP_RX: a CAP frame (R207) -/
  | capRx (dt : Nat) (e : LinkEnd) (f : TrainFrame)
  /-- STEP_RX: a STEP frame (R207) -/
  | stepRx (dt : Nat) (e : LinkEnd) (f : TrainFrame)
  /-- TRIAL_SLOTS_DONE: the trial slots have run, with the FOM of each (R209) -/
  | trialSlotsDone (dt : Nat) (e : LinkEnd) (foms : List (Option Byte))
  /-- RESULT_RX: a RESULT frame (R209) -/
  | resultRx (dt : Nat) (e : LinkEnd) (f : TrainFrame)
  /-- GO_RX: a GO frame (R207) -/
  | goRx (dt : Nat) (e : LinkEnd) (f : TrainFrame)
  /-- BLOCK_LOCK_ACQUIRED: block lock in FINAL (R207) -/
  | blockLockAcquired (dt : Nat) (e : LinkEnd)
  /-- FINAL_LOCK_TIMEOUT: no block lock within 20 µs (R207) -/
  | finalLockTimeout (dt : Nat) (e : LinkEnd)
  /-- TRAIN_FRAME_ERROR: a training frame that fails R204 (R204) -/
  | trainFrameError (dt : Nat) (e : LinkEnd) (f : TrainFrame)
  /-- CODE_ERROR: an invalid code group, sync header or line error (R203) -/
  | codeError (dt : Nat) (r : LineRx)
  /-- CC_RATE_LIMIT_RESET: neither receiver has had signal for 10 ms (R208) -/
  | ccRateLimitReset (dt : Nat) (st : Fin 48) (p : Fin 96)
  /-- MLANE_EQ_SLOTS_DONE: the CTLE slots of a measurement lane have run (R211) -/
  | mlaneEqSlotsDone (dt : Nat) (l : Fin 8) (foms : List (Option Byte))
  /-- FOM_MEASURE: the FOM of the millisecond (R214) -/
  | fomMeasure (dt : Nat) (e : LinkEnd) (fom : Byte)
  /-- LANE_RETRAIN: LANE.CTRL.RETRAIN (R207, R220) -/
  | laneRetrain (dt : Nat) (l : Fin 108) (req : BitVec 16) (w : Word)
  /-- LANE_RELEASE: LANE.CTRL.RELEASE (R216, R220) -/
  | laneRelease (dt : Nat) (l : Fin 108) (req : BitVec 16) (w : Word)
  /-- CLR_FOMMIN: LANE.CTRL.CLR_FOMMIN (R220) -/
  | clrFommin (dt : Nat) (l : Fin 108) (req : BitVec 16) (w : Word)
  /-- LANE_TEST: the bits that reached the checker of the test under way, correct or not, then a write of LANE.TEST (R218) -/
  | laneTest (dt : Nat) (l : Fin 108) (rx : List Bool) (req : BitVec 16) (w : Word)
  /-- ALIGN_SLIP: ALIGN.SLIP (R219) -/
  | alignSlip (dt : Nat) (l : Fin 108) (req : BitVec 16) (w : Word)
  /-- CC_LINK_TEST_END: the bits that reached the checkers of a lane test, then its end at DUR (R235) -/
  | ccLinkTestEnd (dt : Nat) (st : Fin 48) (p : Fin 96) (upBits downBits : List Bool)
  /-- CC_COLD_RESET: a supply drop or RST_N low (R223) -/
  | ccColdReset (dt : Nat) (st : Fin 48) (p : Fin 96) (c : ColdCause)
  /-- CC_RESET_RELEASE: the CC leaves cold reset (R223) -/
  | ccResetRelease (dt : Nat) (st : Fin 48) (p : Fin 96)
  /-- CORE_RST: the core writes BOOT.CTRL.CORE_RST (R223) -/
  | coreRst (dt : Nat) (st : Fin 48) (p : Fin 96) (v : Word)
  /-- CORE_WATCHDOG_EXPIRY: the core watchdog expires (R234) -/
  | coreWatchdogExpiry (dt : Nat) (st : Fin 48) (p : Fin 96)
  /-- KICK: the core writes WDOG.KICK (R235) -/
  | kick (dt : Nat) (st : Fin 48) (p : Fin 96) (v : Word)
  /-- DEBUG_HALT: the TAP halts the core, or lets it run (R234) -/
  | debugHalt (dt : Nat) (st : Fin 48) (p : Fin 96) (op : TapOp)
  /-- SM3_CHECK_DONE: the image digest check completes (R226) -/
  | sm3CheckDone (dt : Nat) (st : Fin 48) (p : Fin 96) (kept : List (Fin 49152 × Byte))
  /-- BYP_FIRE_PULSE_END: BYP_FIRE has been active for PULSE_MS (R230) -/
  | bypFirePulseEnd (dt : Nat) (st : Fin 48) (p : Fin 96)
  /-- BYPASS_CONFIRM_TIMEOUT: CONFIRM_MS passes (R230) -/
  | bypassConfirmTimeout (dt : Nat) (st : Fin 48) (p : Fin 96)
  /-- ADC_SLOT: a conversion slot completes (R259) -/
  | adcSlot (dt : Nat) (st : Fin 48) (p : Fin 96) (raw : BitVec 16)
  /-- TICK_SAMPLE_HOLD: the tick track-and-hold holds (R261) -/
  | tickSampleHold (dt : Nat) (st : Fin 48) (p : Fin 96)
  /-- REF_SETTLED: the reference buffer has been on for 150 µs (R260) -/
  | refSettled (dt : Nat) (st : Fin 48) (p : Fin 96)
  /-- OPEN_WIRE_TEST: the core writes OWCTL.GO (R263) -/
  | openWireTest (dt : Nat) (st : Fin 48) (p : Fin 96) (v : Word)
  /-- OPEN_WIRE_SETTLE: the settling time of a test step ends (R263) -/
  | openWireSettle (dt : Nat) (st : Fin 48) (p : Fin 96)
  /-- QPOP_READ: the core reads QPOP (R266) -/
  | qpopRead (dt : Nat) (st : Fin 48) (p : Fin 96)
  /-- CELL_CORE_REGISTER_WRITE: the core writes a CC register (R222) -/
  | cellCoreRegisterWrite (dt : Nat) (st : Fin 48) (p : Fin 96) (addr : BitVec 16) (v : Word)
  /-- GATE_EDGE: the next edge arrives (R240) -/
  | gateEdge (dt : Nat) (st : Fin 48) (p : Fin 96)
  /-- GATE_TURN_ON: a pending output's dead time ends (R241) -/
  | gateTurnOn (dt : Nat) (st : Fin 48) (p : Fin 96)
  /-- DELAY_LINE_CALIBRATION: the delay line of an output is calibrated: the length found (R246) -/
  | delayLineCalibration (dt : Nat) (st : Fin 48) (p : Fin 96) (k : Fin 4) (m : Nat)
  /-- TRIP_INPUT: the filtered level of a trip input (R249) -/
  | tripInput (dt : Nat) (st : Fin 48) (p : Fin 96) (pin : Fin 6) (level : Bool)
  /-- DESAT_BLANKING_END: blanking T1 ends (R250) -/
  | desatBlankingEnd (dt : Nat) (st : Fin 48) (p : Fin 96) (pin : Fin 6)
  /-- TRIP_CLEAR: the core writes TRIP.CTRL.CLEAR (R252) -/
  | tripClear (dt : Nat) (st : Fin 48) (p : Fin 96) (v : Word)
  /-- PTP_SYNC: a Sync (R274) -/
  | ptpSync (dt : Nat) (m : PtpMsg)
  /-- PTP_FOLLOW_UP: a Follow_Up (R272) -/
  | ptpFollowUp (dt : Nat) (m : PtpMsg)
  /-- PTP_ANNOUNCE: an Announce (R276) -/
  | ptpAnnounce (dt : Nat) (m : PtpMsg) (g : GmData)
  /-- PDELAY_REQ_SEND: Pdelay_Req is sent (R272) -/
  | pdelayReqSend (dt : Nat)
  /-- PDELAY_REQ_RX: a Pdelay_Req (R272) -/
  | pdelayReqRx (dt : Nat) (m : PtpMsg)
  /-- PDELAY_RESP_RX: a Pdelay_Resp, or its Follow_Up (R272) -/
  | pdelayRespRx (dt : Nat) (m : PtpMsg) (followUp : Bool)
  /-- PDELAY_TIMEOUT: no response within 1 s (R277) -/
  | pdelayTimeout (dt : Nat)
  /-- PTP_SYNC_TIMEOUT: no Sync within three intervals (R276) -/
  | ptpSyncTimeout (dt : Nat)
  /-- ANNOUNCE_TIMEOUT: no Announce within ANN_TO intervals (R276) -/
  | announceTimeout (dt : Nat)
  /-- STEP_APPLY: a held step is applied (R275) -/
  | stepApply (dt : Nat)
  /-- PTP_ENABLE: TIME.CFG with PTP_EN (R276) -/
  | ptpEnable (dt : Nat) (req : BitVec 16) (w : Word)
  /-- REARM: TIME.CTRL.REARM (R276) -/
  | rearm (dt : Nat) (req : BitVec 16) (w : Word)
  /-- LOADVT: TIME.CTRL.LOADVT (R278) -/
  | loadvt (dt : Nat) (req : BitVec 16) (w : Word)
  /-- SQ_DOORBELL: SQDB (R288) -/
  | sqDoorbell (dt : Nat) (q : Fin 16) (req : BitVec 16) (w : Word)
  /-- CQ_DOORBELL: CQDB (R288) -/
  | cqDoorbell (dt : Nat) (q : Fin 16) (req : BitVec 16) (w : Word)
  /-- DESCRIPTOR_FETCH: a descriptor is fetched: its 16 words, or a failed read (R289) -/
  | descriptorFetch (dt : Nat) (ws : Option (List Word))
  /-- COALESCE_TIMEOUT: COAL_US passes (R291) -/
  | coalesceTimeout (dt : Nat) (c : Fin 16)
  /-- SQ_ENABLE: SQ CFG with EN 1 (R303) -/
  | sqEnable (dt : Nat) (q : Fin 16) (req : BitVec 16) (w : Word)
  /-- SQ_DISABLE: SQ CFG with EN 0 (R303) -/
  | sqDisable (dt : Nat) (q : Fin 16) (req : BitVec 16) (w : Word)
  /-- CQ_ENABLE: CQ CFG with EN 1 (R309) -/
  | cqEnable (dt : Nat) (q : Fin 16) (req : BitVec 16) (w : Word)
  /-- SQ_RESUME: SQ CTRL.RESUME (R303) -/
  | sqResume (dt : Nat) (q : Fin 16) (req : BitVec 16) (w : Word)
  /-- SQ_ABORT: SQ CTRL.ABORT (R304) -/
  | sqAbort (dt : Nat) (q : Fin 16) (req : BitVec 16) (w : Word)
  /-- FUNCTION_LEVEL_RESET: a Function Level Reset (R286) -/
  | functionLevelReset (dt : Nat)
  /-- PCIE_LINK_DOWN: link-down, hot reset, PERST_N or D3hot (R286) -/
  | pcieLinkDown (dt : Nat)
  /-- BUS_MASTER_CLEAR: Bus Master Enable is cleared (R286) -/
  | busMasterClear (dt : Nat)
  /-- BUS_MASTER_SET: Bus Master Enable is set (R286) -/
  | busMasterSet (dt : Nat)
  /-- NOP: NOP (R295) -/
  | nopDescriptor (dt : Nat) (id : Nat)
  /-- VALVE_CTL_DEBLOCK: VALVE_CTL DEBLOCK (R305) -/
  | valveCtlDeblock (dt : Nat) (id : Nat)
  /-- VALVE_CTL_BLOCK: VALVE_CTL BLOCK (R305) -/
  | valveCtlBlock (dt : Nat) (id : Nat)
  /-- CELL_CLEAR: CELL_CLEAR (R306) -/
  | cellClear (dt : Nat) (id : Nat)
  /-- CELL_CLEAR_DONE: every facet has reported, or 16 ticks pass (R306) -/
  | cellClearDone (dt : Nat) (id : Nat)
  /-- CELL_MSG_READ: CELL_MSG READ (R307) -/
  | cellMsgRead (dt : Nat) (id : Nat) (buf : HostBuf)
  /-- CELL_MSG_WRITE: CELL_MSG WRITE (R307) -/
  | cellMsgWrite (dt : Nat) (id : Nat) (buf : HostBuf)
  /-- SNAPSHOT: SNAPSHOT (R308) -/
  | snapshot (dt : Nat) (id : Nat)
  /-- LEDGER_READ: LEDGER_READ; `ok` says that the flash could be read (R318) -/
  | ledgerRead (dt : Nat) (id : Nat) (ok : Bool)
  /-- APERTURE_READ: APERTURE_READ (R325) -/
  | apertureRead (dt : Nat) (id : Nat)
  /-- CONFIG_WRITE: CONFIG_WRITE (R365) -/
  | configWrite (dt : Nat) (id : Nat) (buf : HostBuf)
  /-- FW_WRITE: FW_BLOCK WRITE (R360) -/
  | fwWrite (dt : Nat) (id : Nat) (buf : HostBuf)
  /-- FW_VERIFY: FW_BLOCK VERIFY (R360) -/
  | fwVerify (dt : Nat) (id : Nat) (buf : HostBuf)
  /-- FW_ACTIVATE: FW_BLOCK ACTIVATE (R360) -/
  | fwActivate (dt : Nat) (id : Nat) (buf : HostBuf)
  /-- FLASH_OPERATION_DONE: an xSPI operation completes, or fails (R355) -/
  | flashOperationDone (dt : Nat) (ok readOk : Bool)
  /-- LEDGER_FLASH_WRITE: the next queued record is programmed, or the write fails (R312) -/
  | ledgerFlashWrite (dt : Nat) (ok : Bool)
  /-- STATS_WRITE: the statistics are written (R317) -/
  | statsWrite (dt : Nat) (ok : Bool)
  /-- HOURS_SAVE: HOURS is kept in flash (R315) -/
  | hoursSave (dt : Nat) (ok : Bool)
  /-- HOURS_SECOND: a whole second out of cold reset (R315) -/
  | hoursSecond (dt : Nat)
  /-- FLUSH: LEDGER.CTRL.FLUSH (R326) -/
  | flush (dt : Nat) (req : BitVec 16) (w : Word)
  /-- UNIT_RST: LEDGER.CTRL.UNIT_RST (R326) -/
  | unitRst (dt : Nat) (req : BitVec 16) (w : Word)
  /-- CLR_STATS: LEDGER.CTRL.CLR_STATS (R317) -/
  | clrStats (dt : Nat) (req : BitVec 16) (w : Word)
  /-- FORMAT: LEDGER.CTRL.FORMAT (R316) -/
  | format (dt : Nat) (req : BitVec 16) (w : Word)
  /-- LEDGER_FORMAT_DONE: formatting ends (R316) -/
  | ledgerFormatDone (dt : Nat)
  /-- APERTURE_START: APERTURE.CTRL.START (R324) -/
  | apertureStart (dt : Nat) (req : BitVec 16) (w : Word)
  /-- APERTURE_STOP: APERTURE.CTRL.STOP (R324) -/
  | apertureStop (dt : Nat) (req : BitVec 16) (w : Word)
  /-- FORCE: APERTURE.CTRL.FORCE (R323) -/
  | force (dt : Nat) (req : BitVec 16) (w : Word)
  /-- APERTURE_AREA_COMPLETE: the post part fills, or POSTMAX ticks pass (R322) -/
  | apertureAreaComplete (dt : Nat)
  /-- HOLDOFF_END: hold-off ends (R324) -/
  | holdoffEnd (dt : Nat)
  /-- COMPANION_REQUEST: requests go out on the enabled companion ports (R351) -/
  | companionRequest (dt : Nat)
  /-- COMPANION_RESPONSE_RX: a response of an SC (R352) -/
  | companionResponseRx (dt : Nat) (p : Fin 2) (w0 w1 : DWord)
  /-- COMPANION_ACCESS: PORT.ACC (R353) -/
  | companionAccess (dt : Nat) (p : Fin 2) (req : BitVec 16) (w : Word)
  /-- PERMIT_MISMATCH: the BLKREQ pins and the reported permits (R352) -/
  | permitMismatch (dt : Nat)
  /-- SAFETY_CYCLE: the end of a 1 ms cycle (R328) -/
  | safetyCycle (dt : Nat) (n : Fin 2) (c : ScCycle)
  /-- ISO_FRAME_RX: an isolation frame (R338) -/
  | isoFrameRx (dt : Nat) (n : Fin 2) (good : Bool) (f : IsoFrame)
  /-- ISO_TIMEOUT: no valid isolation frame for 1 ms, at the field or the logic die (R338) -/
  | isoTimeout (dt : Nat) (n : Fin 2) (field : Bool)
  /-- FIELD_SUPPLY_SAG: the field supply falls below 18.0 V, in 0.125 V (R339) -/
  | fieldSupplySag (dt : Nat) (n : Fin 2) (x : Byte)
  /-- FIELD_SUPPLY_SAG_END: the field supply rises above 18.5 V (R339) -/
  | fieldSupplySagEnd (dt : Nat) (n : Fin 2) (x : Byte)
  /-- SUPPLY_LOW: below 16.0 V for 2 ms (R339) -/
  | supplyLow (dt : Nat) (n : Fin 2)
  /-- OUTPUT_OVERLOAD: limited for 5 ms (R335) -/
  | outputOverload (dt : Nat) (n : Fin 2) (k : Fin 8)
  /-- OUTPUT_OVERTEMP: a switch above 160 °C (R335) -/
  | outputOvertemp (dt : Nat) (n : Fin 2) (k : Fin 8)
  /-- OUTPUT_OPEN_WIRE: under 10 mA for 100 ms (R335) -/
  | outputOpenWire (dt : Nat) (n : Fin 2) (k : Fin 8)
  /-- OFF_TEST: a switch is opened for PULSE (R336) -/
  | offTest (dt : Nat) (n : Fin 2) (k : Fin 8) (high : Bool)
  /-- OFF_TEST_END: the readbacks of a pulse (R337) -/
  | offTestEnd (dt : Nat) (n : Fin 2) (during : BitVec 8) (nUp : Bool)
  /-- RESET_BUTTON: RST_BTN released (R345) -/
  | resetButton (dt : Nat) (n : Fin 2) (ms : Nat)
  /-- RST_STUCK: a press passes 3 s (R345) -/
  | rstStuck (dt : Nat) (n : Fin 2)
  /-- RST_STUCK_CLEAR: RST_BTN open for 1 s (R345) -/
  | rstStuckClear (dt : Nat) (n : Fin 2)
  /-- SC_POWER_UP: power-up or RST_N (R346) -/
  | scPowerUp (dt : Nat) (n : Fin 2) (btn : Bool)
  /-- ESW_CLOSE: the request CLOSE written to ESWREQ (R341) -/
  | eswClose (dt : Nat) (n : Fin 2)
  /-- ESW_OPEN: the request OPEN (R341) -/
  | eswOpen (dt : Nat) (n : Fin 2)
  /-- ESW_ABORT: the request ABORT (R341) -/
  | eswAbort (dt : Nat) (n : Fin 2)
  /-- ESW_DELAY_EXPIRY: DELAY passes in WAIT (R341) -/
  | eswDelayExpiry (dt : Nat) (n : Fin 2)
  /-- ESW_FB_TIMEOUT: FBTIME passes (R341) -/
  | eswFbTimeout (dt : Nat) (n : Fin 2)
  /-- MODE_ENTER: a WRITE of MODE.REQ ENTER (R347) -/
  | modeEnter (dt : Nat) (n : Fin 2) (q : DWord)
  /-- MODE_LEAVE: a WRITE of MODE.REQ LEAVE (R347) -/
  | modeLeave (dt : Nat) (n : Fin 2) (q : DWord)
  /-- SC_UNLOCK: a WRITE of UNLOCK[3] (R348) -/
  | scUnlock (dt : Nat) (n : Fin 2) (q : DWord)
  /-- RELOCK: a WRITE of SECCTL.RELOCK (R348) -/
  | relock (dt : Nat) (n : Fin 2) (q : DWord)
  /-- UNLOCK_EXPIRY: UNLOCKED or BARRED runs out (R348) -/
  | unlockExpiry (dt : Nat) (n : Fin 2)
  /-- PASSWORD_CHANGE: a WRITE of PWD[3] (R348) -/
  | passwordChange (dt : Nat) (n : Fin 2) (q : DWord)
  /-- SC_PARAMETER_WRITE: a WRITE of a parameter (R347) -/
  | scParameterWrite (dt : Nat) (n : Fin 2) (q : DWord)
  /-- SC_CONFIRM: a WRITE of CONFIRM[3] (R350) -/
  | scConfirm (dt : Nat) (n : Fin 2) (q : DWord)
  /-- CONFIRM_TIMEOUT: 30 s without a reset press (R350) -/
  | confirmTimeout (dt : Nat) (n : Fin 2)
  /-- SC_POLL: a POLL request (R351) -/
  | scPoll (dt : Nat) (n : Fin 2) (q : DWord)
  /-- SC_READ: a READ request (R351) -/
  | scRead (dt : Nat) (n : Fin 2) (q : DWord)
  /-- SC_WRITE: a WRITE request (R351) -/
  | scWrite (dt : Nat) (n : Fin 2) (q : DWord)
  /-- SC_UNPOWERED: VDDL below 2.5 V (R386) -/
  | scUnpowered (dt : Nat) (n : Fin 2)
deriving DecidableEq, Repr

end Sys2Proof
end

