-- ==== Sys2Proof/WellFormed.lean ====
section
/-!
DEFINITION. WellFormed.lean: which commands are of the shape that the links, frames and buffers of the spec can bring. exec
gives a meaning to every command; a list of another length is a frame that fails its check.
-/
namespace Sys2Proof

/-- A cell message carries at most 8 payload blocks (R191). -/
def MsgFrame.wellFormed (m : MsgFrame) : Bool := decide (m.payload.length ≤ 8)

/-- A sampled-value frame is one Ethernet frame (R70): no more ASDUs and pairs than its 1,522 bytes hold. -/
def SvFrame.wellFormed (f : SvFrame) : Bool :=
  decide (f.asdus.length ≤ 255) && f.asdus.all fun a => decide (a.vals.length ≤ 185) && decide (a.svId.length ≤ 129)

/-- The field die sends the current of each of the 16 inputs and the load of each of the 8 outputs (R338). -/
def IsoFrame.wellFormed : IsoFrame → Bool
  | .toField => true
  | .toLogic currents _ _ loads _ => decide (currents.length = 16 ∧ loads.length = 8)

/-- A descriptor's buffer is at most 16 MiB. -/
def HostBuf.wellFormed : HostBuf → Bool
  | .bytes b => decide (b.length ≤ 16777216)
  | .failed => true

/-- The shape of a command. -/
def Instr.wellFormed : Instr → Bool
  | .coldReset .. => true
  | .bootStart .. => true
  | .bootStepTimeout .. => true
  | .startDone .. => true
  | .confirmImage .. => true
  | .clrHistory .. => true
  | .warmReset .. => true
  | .registerWrite .. => true
  | .latchedRead .. => true
  | .facetWindowRead .. => true
  | .clrSummary .. => true
  | .registerRead .. => true
  | .tick dies _ => decide (dies.length ≤ 3)
  | .stepOverrun .. => true
  | .flitRx .. => true
  | .voterAside .. => true
  | .voterRealign .. => true
  | .dieSelfTestDone .. => true
  | .realignCopyComplete .. => true
  | .dieError .. => true
  | .cascadeStart .. => true
  | .cascadeStop .. => true
  | .enumerationFrame .. => true
  | .enumAcknowledge _ acks _ => decide (acks.length ≤ 15)
  | .enumTimeout .. => true
  | .tickAlignmentDone .. => true
  | .cascadeReady .. => true
  | .cascadeBlockRx .. => true
  | .cascadeCommandFrame _ _ cmds notes _ => decide (cmds.length ≤ 4608) && decide (notes.arms.length ≤ 192)
  | .facetSliceRx _ _ _ _ ws _ => decide (ws.length ≤ 96)
  | .cascValueRx .. => true
  | .memberStatusRx _ _ _ strs _ => decide (strs.length ≤ 48)
  | .ctxStart .. => true
  | .ctxStop .. => true
  | .setpointWrite .. => true
  | .clrLoad .. => true
  | .svFrame _ f => f.wellFormed
  | .coefLoad _ _ buf => buf.wellFormed
  | .coefReadback _ _ buf => buf.wellFormed
  | .coefSwap .. => true
  | .armForm .. => true
  | .armRelease .. => true
  | .clrTiming .. => true
  | .facetSetTrim _ _ buf => buf.wellFormed
  | .facetReturn _ _ buf => buf.wellFormed
  | .facetRemove _ _ buf => buf.wellFormed
  | .facetClearCounts _ _ buf => buf.wellFormed
  | .measFrameRx _ _ bs _ => decide (bs.length = 4)
  | .measMiss .. => true
  | .blockPermitChange .. => true
  | .protClear .. => true
  | .protHostBlock .. => true
  | .protTestGo .. => true
  | .tokenGrant .. => true
  | .tokenRevoke .. => true
  | .tokenExpiry .. => true
  | .bypassFireRequest .. => true
  | .firingEnd .. => true
  | .itemArm .. => true
  | .itemCancel .. => true
  | .itemFree .. => true
  | .itemComplete .. => true
  | .itemTrap .. => true
  | .coreSetpointWrite .. => true
  | .deadlineMiss .. => true
  | .stringStart .. => true
  | .stringStop .. => true
  | .stopSweepsEnd .. => true
  | .stringLoad .. => true
  | .loadEnd .. => true
  | .stringTrainTimeout .. => true
  | .assignRepeat .. => true
  | .assignReturn _ _ m => m.wellFormed
  | .assignTimeout .. => true
  | .calibrationDone .. => true
  | .imageLoadDone _ _ _ replies acks => decide (replies.length ≤ 96) && decide (acks.length ≤ 96)
  | .syncComplete .. => true
  | .stringSyncTimeout .. => true
  | .stringDown .. => true
  | .sweepReturn _ _ _ hdr _ reps _ => decide (hdr.length = 4) && decide (reps.length ≤ 96)
  | .cellMsgSend .. => true
  | .msgResponseRx _ _ _ m => m.wellFormed
  | .msgTimeout .. => true
  | .sweepCopyRx _ _ _ _ hdr _ _ _ _ _ => decide (hdr.length = 4)
  | .ccFlashRx .. => true
  | .cellTickInstant .. => true
  | .cellSweepWatchdog .. => true
  | .ccMsgRead _ _ _ _ m => m.wellFormed
  | .ccMsgWrite _ _ _ _ m => m.wellFormed
  | .ccMsgAssign _ _ _ _ m => m.wellFormed
  | .ccMsgCalStart _ _ _ _ m => m.wellFormed
  | .ccMsgFwBlock _ _ _ _ m => m.wellFormed
  | .ccResponseSend .. => true
  | .probeRx .. => true
  | .echoRx .. => true
  | .echoTimeout .. => true
  | .linkFaultRx .. => true
  | .linkReturn .. => true
  | .lossOfLock .. => true
  | .faultTxExpiry .. => true
  | .backoffExpiry .. => true
  | .bringupTimeout .. => true
  | .capRx .. => true
  | .stepRx .. => true
  | .trialSlotsDone _ _ foms => decide (foms.length ≤ 8)
  | .resultRx .. => true
  | .goRx .. => true
  | .blockLockAcquired .. => true
  | .finalLockTimeout .. => true
  | .trainFrameError .. => true
  | .codeError .. => true
  | .ccRateLimitReset .. => true
  | .mlaneEqSlotsDone _ _ foms => decide (foms.length ≤ 8)
  | .fomMeasure .. => true
  | .laneRetrain .. => true
  | .laneRelease .. => true
  | .clrFommin .. => true
  | .laneTest .. => true
  | .alignSlip .. => true
  | .ccLinkTestEnd .. => true
  | .ccColdReset .. => true
  | .ccResetRelease .. => true
  | .coreRst .. => true
  | .coreWatchdogExpiry .. => true
  | .kick .. => true
  | .debugHalt .. => true
  | .sm3CheckDone .. => true
  | .bypFirePulseEnd .. => true
  | .bypassConfirmTimeout .. => true
  | .adcSlot .. => true
  | .tickSampleHold .. => true
  | .refSettled .. => true
  | .openWireTest .. => true
  | .openWireSettle .. => true
  | .qpopRead .. => true
  | .cellCoreRegisterWrite .. => true
  | .gateEdge .. => true
  | .gateTurnOn .. => true
  | .delayLineCalibration .. => true
  | .tripInput .. => true
  | .desatBlankingEnd .. => true
  | .tripClear .. => true
  | .ptpSync .. => true
  | .ptpFollowUp .. => true
  | .ptpAnnounce .. => true
  | .pdelayReqSend .. => true
  | .pdelayReqRx .. => true
  | .pdelayRespRx .. => true
  | .pdelayTimeout .. => true
  | .ptpSyncTimeout .. => true
  | .announceTimeout .. => true
  | .stepApply .. => true
  | .ptpEnable .. => true
  | .rearm .. => true
  | .loadvt .. => true
  | .sqDoorbell .. => true
  | .cqDoorbell .. => true
  | .descriptorFetch _ ws => (match ws with | some x => decide (x.length = 16) | none => true)
  | .coalesceTimeout .. => true
  | .sqEnable .. => true
  | .sqDisable .. => true
  | .cqEnable .. => true
  | .sqResume .. => true
  | .sqAbort .. => true
  | .functionLevelReset .. => true
  | .pcieLinkDown .. => true
  | .busMasterClear .. => true
  | .busMasterSet .. => true
  | .nopDescriptor .. => true
  | .valveCtlDeblock .. => true
  | .valveCtlBlock .. => true
  | .cellClear .. => true
  | .cellClearDone .. => true
  | .cellMsgRead _ _ buf => buf.wellFormed
  | .cellMsgWrite _ _ buf => buf.wellFormed
  | .snapshot .. => true
  | .ledgerRead .. => true
  | .apertureRead .. => true
  | .configWrite _ _ buf => buf.wellFormed
  | .fwWrite _ _ buf => buf.wellFormed
  | .fwVerify _ _ buf => buf.wellFormed
  | .fwActivate _ _ buf => buf.wellFormed
  | .flashOperationDone .. => true
  | .ledgerFlashWrite .. => true
  | .statsWrite .. => true
  | .hoursSave .. => true
  | .hoursSecond .. => true
  | .flush .. => true
  | .unitRst .. => true
  | .clrStats .. => true
  | .format .. => true
  | .ledgerFormatDone .. => true
  | .apertureStart .. => true
  | .apertureStop .. => true
  | .force .. => true
  | .apertureAreaComplete .. => true
  | .holdoffEnd .. => true
  | .companionRequest .. => true
  | .companionResponseRx .. => true
  | .companionAccess .. => true
  | .permitMismatch .. => true
  | .safetyCycle .. => true
  | .isoFrameRx _ _ _ f => f.wellFormed
  | .isoTimeout .. => true
  | .fieldSupplySag .. => true
  | .fieldSupplySagEnd .. => true
  | .supplyLow .. => true
  | .outputOverload .. => true
  | .outputOvertemp .. => true
  | .outputOpenWire .. => true
  | .offTest .. => true
  | .offTestEnd .. => true
  | .resetButton .. => true
  | .rstStuck .. => true
  | .rstStuckClear .. => true
  | .scPowerUp .. => true
  | .eswClose .. => true
  | .eswOpen .. => true
  | .eswAbort .. => true
  | .eswDelayExpiry .. => true
  | .eswFbTimeout .. => true
  | .modeEnter .. => true
  | .modeLeave .. => true
  | .scUnlock .. => true
  | .relock .. => true
  | .unlockExpiry .. => true
  | .passwordChange .. => true
  | .scParameterWrite .. => true
  | .scConfirm .. => true
  | .confirmTimeout .. => true
  | .scPoll .. => true
  | .scRead .. => true
  | .scWrite .. => true
  | .scUnpowered .. => true

end Sys2Proof
end

