-- ==== Sys2Proof/Decode.lean ====
section
/-!
DEFINITION. Decode.lean: the spec gives no bits to any row of its table: a command arrives at a pin, on a link or as a
register access, and no word spells it.
-/
namespace Sys2Proof

/-- The command a word of the table spells: none, since no row has bits. -/
def decodeTableWord (_nbits _w : Nat) : Option Instr := none

end Sys2Proof
end

