-- ==== Sys2Proof/Config.lean ====
section
/-!
DEFINITION. Config.lean: what an implementation fixes and what the spec leaves open. Every constant here has no body:
nothing can evaluate it, and a statement holds whatever it is.
-/
namespace Sys2Proof.Config

/-- A free bit for each use (log 20): the choices the spec leaves between two outcomes, such as whether a RESET_N pulse between
100 ns and 1 µs resets (R383). -/
opaque freeBit : Nat → Bool

/-- A free value for each use (log 20): values the spec does not state. -/
opaque freeNat : Nat → Nat

/-- A free byte for each use (log 20): the contents of a flash write that was cut (R363), memory never written (R226). -/
opaque freeByte : Nat → Nat → BitVec 8

/-- The unique identity fused into a cell's controller: facet, word 0 or 1 (R235). -/
opaque cellUid : Nat → Nat → BitVec 32

/-- Whether a part is of development grade, as its fuses say: 0 the VC (R54), n + 1 the controller of facet n (R235). -/
opaque devGrade : Nat → Bool

/-- The digest of the signing key fused into the VC: words 0 to 7 (R372). -/
opaque keyHash : Nat → BitVec 32

/-- The CRC of a comparator instance's copies (R137; log 116): the spec names no polynomial. Entries are threshold and configuration values,
four for each channel: HI, LO, CONSEC, EN. -/
opaque copyCrc : List Nat → BitVec 32

/-- The length of the boundary-scan register of the VC (0), the cell controller (1) and the safety companion (2), which the spec does not
give (R395). -/
opaque bsrLen : Nat → Nat

/-- The Vendor ID (0) and the Revision ID (1) in configuration space, which the spec does not give (R284). -/
opaque vendorId : Nat → BitVec 16

/-- A byte of a control core's TCM as the firmware of a start left it, which the spec does not lay out (R155): start number, core,
offset (log 10). -/
opaque tcm : Nat → Nat → Nat → BitVec 8

/-- The address of the scheduler's exit, which ra holds when an item starts (R156). -/
opaque schedExit : BitVec 32

/-- A byte of the boot ROM of a cell's controller (R222). -/
opaque bootRom : Nat → BitVec 8

end Sys2Proof.Config
end

