-- ==== Sys2Proof/Machine/Flags.lean ====
section
/-!
DEFINITION. Machine/Flags.lean: bit fields, signed values, saturation, and the checks: CRC-16 (R401) and CRC-32C (R294).
-/
namespace Sys2Proof.Machine

/-- Bits [hi:lo] of a number. -/
def bits (n hi lo : Nat) : Nat := n / 2 ^ lo % 2 ^ (hi + 1 - lo)

/-- Bit `i` of a number. -/
def bit (n i : Nat) : Bool := n / 2 ^ i % 2 = 1

/-- The number with bit `i` set. -/
def withBit (n i : Nat) : Nat := if bit n i then n else n + 2 ^ i

/-- The number with bit `i` cleared. -/
def withoutBit (n i : Nat) : Nat := if bit n i then n - 2 ^ i else n

/-- 1 for true. -/
def b2n (b : Bool) : Nat := if b then 1 else 0

/-- A `w`-bit number read as two's complement. -/
def signed (w n : Nat) : Int := if n % 2 ^ w < 2 ^ (w - 1) then (n % 2 ^ w : Nat) else (n % 2 ^ w : Nat) - (2 ^ w : Nat)

/-- An integer as `w` bits of two's complement. -/
def unsigned (w : Nat) (i : Int) : Nat := (i % (2 ^ w : Nat)).toNat

/-- An integer limited to `w` bits of two's complement, as its bits. -/
def satSigned (w : Nat) (i : Int) : Nat :=
  unsigned w (max (-(2 ^ (w - 1) : Nat)) (min i ((2 ^ (w - 1) : Nat) - 1)))

/-- A count limited to `w` bits. -/
def sat (w n : Nat) : Nat := min n (2 ^ w - 1)

/-- The quotient rounded up. -/
def ceilDiv (a b : Nat) : Nat := (a + b - 1) / b

/-- `w` bits of a number from bit `lo` up, lowest first: the order of transmission of a lane block (R401). -/
def bitsUp (n lo w : Nat) : List Bool := (List.range w).map fun i => n.testBit (lo + i)

/-- One bit of the CRC-16 division by 0x8BB7 (R401). -/
def crc16Step (r : Nat) (b : Bool) : Nat :=
  let r' := r * 2 % 65536
  if (r ≥ 32768) = b then r' else Nat.xor r' 0x8BB7

/-- The CRC-16 remainder of bits in transmission order (R401). -/
def crc16 (bs : List Bool) : Nat := bs.foldl crc16Step 0

/-- The 16 bits of a number in reverse order. -/
def rev16 (n : Nat) : Nat := (List.range 16).foldl (fun a i => a * 2 + n / 2 ^ i % 2) 0

/-- The CHECK field for protected bits sent lowest first: the coefficient of x^15 in its lowest bit (R401). -/
def check16 (bs : List Bool) : Nat := rev16 (crc16 bs)

/-- One byte of CRC-32C (R294). -/
def crc32cByte (c b : Nat) : Nat :=
  (List.range 8).foldl (fun c _ => if c % 2 = 1 then Nat.xor (c / 2) 0x82F63B78 else c / 2) (Nat.xor c b)

/-- CRC-32C of bytes in ascending address (R294). -/
def crc32c (bs : List Nat) : Nat := Nat.xor (bs.foldl crc32cByte 0xFFFFFFFF) 0xFFFFFFFF

/-- The `n` bytes of a number, lowest first. -/
def bytesOf (n k : Nat) : List Nat := (List.range k).map fun i => n / 256 ^ i % 256

/-- The number whose bytes are given, lowest first. -/
def ofBytes (bs : List Nat) : Nat := bs.foldr (fun b a => b + 256 * a) 0

/-- Little-endian 32-bit words of a byte list (spec 00, Layouts). -/
def wordsOf (bs : List Nat) : List Nat :=
  (List.range (bs.length / 4)).map fun i => ofBytes ((bs.drop (4 * i)).take 4)

/-- The bytes of 32-bit words, word 0 first. -/
def bytesOfWords (ws : List Nat) : List Nat := ws.flatMap fun w => bytesOf w 4

end Sys2Proof.Machine
end

