-- ==== Sys2Proof/Machine/RvFloat.lean ====
section
/-!
DEFINITION. Machine/RvFloat.lean: binary32 as the F extension of the control cores computes it (R154): every rounding mode,
subnormal numbers, the canonical NaN, the exception flags NV 16, DZ 8, OF 4, UF 2, NX 1. The RISC-V unprivileged specification
that R154 names is not restated in the spec: what is taken from it is marked in log 10 (PRESUMED).
-/
namespace Sys2Proof.Machine.Rv

/-- A result with the exception flags it raises. -/
abbrev Flt := Nat × Nat

def fneg (f : Nat) : Bool := bit f 31
def fexp (f : Nat) : Nat := bits f 30 23
def ffrac (f : Nat) : Nat := bits f 22 0
def fNaN (f : Nat) : Bool := fexp f = 255 && ffrac f ≠ 0
def fSig (f : Nat) : Bool := fNaN f && !bit f 22
def fInf (f : Nat) : Bool := fexp f = 255 && ffrac f = 0
def fZero (f : Nat) : Bool := fexp f = 0 && ffrac f = 0
def fmk (n : Bool) (mag : Nat) : Nat := b2n n * 2147483648 + mag
def infMag : Nat := 0x7F800000
def maxMag : Nat := 0x7F7FFFFF
def nanBits : Nat := 0x7FC00000

/-- A finite value as mantissa × 2^exponent, the mantissa without its sign. -/
def fmant (f : Nat) : Nat := if fexp f = 0 then ffrac f else 8388608 + ffrac f
def fpow (f : Nat) : Int := if fexp f = 0 then -149 else (fexp f : Int) - 150

/-- a/b rounded to an integer in a rounding mode: 0 to nearest with ties to even, 1 towards zero, 2 down, 3 up, 4 to nearest with
ties away from zero. -/
def rint (rm : Nat) (n : Bool) (a b : Nat) : Nat :=
  let m := a / b
  let r := a % b
  let up := match rm with
    | 0 => decide (b < 2 * r) || (2 * r = b && m % 2 = 1)
    | 1 => false
    | 2 => n && r ≠ 0
    | 3 => !n && r ≠ 0
    | _ => decide (b ≤ 2 * r)
  if up then m + 1 else m

/-- num/den × 2^e scaled to units of 2^q, as a fraction. -/
def scaled (num den : Nat) (e q : Int) : Nat × Nat :=
  if q ≤ e then (num * 2 ^ (e - q).toNat, den) else (num, den * 2 ^ (q - e).toNat)

/-- The exponent of the leading bit of num/den × 2^e, which is not zero. -/
def lead (num den : Nat) (e : Int) : Int :=
  let l : Int := (Nat.log2 num : Int) - (Nat.log2 den : Int)
  let s := scaled num den 0 l
  (if s.1 < s.2 then l - 1 else l) + e

/-- num/den × 2^e rounded once, with its sign; tininess is judged after rounding. -/
def fround (rm : Nat) (n : Bool) (num den : Nat) (e : Int) : Flt :=
  if num = 0 then (fmk n 0, 0)
  else
    let l := lead num den e
    let q := max (l - 23) (-149)
    let s := scaled num den e q
    let m := rint rm n s.1 s.2
    let inexact : Bool := s.1 % s.2 ≠ 0
    let free := scaled num den e (l - 23)
    let tiny : Bool := decide (l < -126) && !(l = -127 && rint rm n free.1 free.2 = 16777216)
    let mag : Nat := if m < 8388608 then m else (((q + 150).toNat - 1) * 8388608 + m)
    if infMag ≤ mag then
      (fmk n (if rm = 1 ∨ (rm = 2 ∧ ¬ n) ∨ (rm = 3 ∧ n) then maxMag else infMag), 5)
    else (fmk n mag, b2n inexact + 2 * b2n (inexact && tiny))

/-- The flags of operands that are NaNs: a signalling one is invalid. -/
def nanFlags (fs : List Nat) : Nat := 16 * b2n (fs.any fSig)

/-- a × b + c, rounded once. -/
def ffma (rm a b c : Nat) : Flt :=
  let sp := fneg a != fneg b
  let bad := (fInf a && fZero b) || (fZero a && fInf b)
  if bad then (nanBits, 16)
  else if fNaN a || fNaN b || fNaN c then (nanBits, nanFlags [a, b, c])
  else if fInf a || fInf b then
    if fInf c && fneg c != sp then (nanBits, 16) else (fmk sp infMag, 0)
  else if fInf c then (c, 0)
  else
    let ep := fpow a + fpow b
    let ec := fpow c
    let e := min ep ec
    let p : Int := (if sp then -1 else 1) * ((fmant a * fmant b * 2 ^ (ep - e).toNat : Nat) : Int)
    let d : Int := (if fneg c then -1 else 1) * ((fmant c * 2 ^ (ec - e).toNat : Nat) : Int)
    let sum := p + d
    if sum = 0 then (fmk (if sp = fneg c then sp else rm = 2) 0, 0) else fround rm (sum < 0) sum.natAbs 1 e

/-- The sum, and the product: a product's zero keeps its own sign. -/
def fadd (rm a b : Nat) : Flt := ffma rm a 0x3F800000 b
def fmul (rm a b : Nat) : Flt := ffma rm a b (fmk (fneg a != fneg b) 0)
def fflip (a : Nat) : Nat := if fneg a then a - 2147483648 else a + 2147483648

/-- The quotient. -/
def fdiv (rm a b : Nat) : Flt :=
  let sp := fneg a != fneg b
  if fNaN a || fNaN b then (nanBits, nanFlags [a, b])
  else if (fInf a && fInf b) || (fZero a && fZero b) then (nanBits, 16)
  else if fInf a then (fmk sp infMag, 0)
  else if fInf b || fZero a then (fmk sp 0, 0)
  else if fZero b then (fmk sp infMag, 8)
  else fround rm sp (fmant a) (fmant b) (fpow a - fpow b)

/-- The integer square root of a number below 2^82, bit by bit. -/
def isqrt (n : Nat) : Nat :=
  (List.range 41).foldl (fun r k => let t := r + 2 ^ (40 - k); if t * t ≤ n then t else r) 0

/-- The square root: 26 bits of it or more, and a last bit for what remains. -/
def fsqrt (rm a : Nat) : Flt :=
  if fNaN a then (nanBits, nanFlags [a])
  else if fZero a then (a, 0)
  else if fneg a then (nanBits, 16)
  else if fInf a then (a, 0)
  else
    let e := fpow a
    let odd := e % 2
    let n := fmant a * 2 ^ odd.toNat * 2 ^ 56
    let r := isqrt n
    fround rm false (2 * r + b2n (r * r ≠ n)) 1 ((e - odd - 56) / 2 - 1)

/-- Order of two values that are no NaNs. -/
def forder (f : Nat) : Int := if fneg f then -((f % 2147483648 : Nat) : Int) else (f % 2147483648 : Nat)

/-- FMIN and FMAX: −0 is below +0, a NaN gives way to a number. -/
def fminmax (mx : Bool) (a b : Nat) : Flt :=
  let fl := nanFlags [a, b]
  if fNaN a && fNaN b then (nanBits, fl)
  else if fNaN a then (b, fl)
  else if fNaN b then (a, fl)
  else
    let less := decide (forder a < forder b) || (forder a = forder b && fneg a && !fneg b)
    (if less != mx then a else b, fl)

/-- FLE 0, FLT 1, FEQ 2. -/
def fcmp (op a b : Nat) : Flt :=
  if fNaN a || fNaN b then (0, if op = 2 then nanFlags [a, b] else 16)
  else (b2n (match op with
    | 0 => decide (forder a ≤ forder b)
    | 1 => decide (forder a < forder b)
    | _ => forder a = forder b), 0)

/-- FCLASS. -/
def fclass (a : Nat) : Nat :=
  let k :=
    if fNaN a then (if fSig a then 8 else 9)
    else if fInf a then (if fneg a then 0 else 7)
    else if fZero a then (if fneg a then 3 else 4)
    else if fexp a = 0 then (if fneg a then 2 else 5)
    else if fneg a then 1 else 6
  2 ^ k

/-- FCVT.W and FCVT.WU, as 32 bits. -/
def ftoInt (rm : Nat) (uns : Bool) (a : Nat) : Flt :=
  let hi : Int := if uns then 4294967295 else 2147483647
  let lo : Int := if uns then 0 else -2147483648
  let word (i : Int) : Nat := (i % 4294967296).toNat
  if fNaN a then (word hi, 16)
  else if fInf a then (word (if fneg a then lo else hi), 16)
  else
    let s := scaled (fmant a) 1 (fpow a) 0
    let m : Int := (rint rm (fneg a) s.1 s.2 : Nat)
    let i := if fneg a then -m else m
    if hi < i then (word hi, 16)
    else if i < lo then (word lo, 16)
    else (word i, b2n (s.1 % s.2 ≠ 0))

/-- FCVT.S.W and FCVT.S.WU. -/
def ffromInt (rm : Nat) (uns : Bool) (x : Nat) : Flt :=
  let i : Int := if uns then (x : Int) else signed 32 x
  fround rm (i < 0) i.natAbs 1 0

/-- FSGNJ 0, FSGNJN 1, FSGNJX 2. -/
def fsgnj (op a b : Nat) : Nat :=
  let s := match op with
    | 0 => fneg b
    | 1 => !fneg b
    | _ => fneg a != fneg b
  fmk s (a % 2147483648)

end Sys2Proof.Machine.Rv
end

