-- ==== Sys2Proof/Machine/Tab.lean ====
section
/-!
DEFINITION. Machine/Tab.lean: sparse tables in one canonical form, and the descriptors of register fields.

A table is a list of (key, value) pairs with rising keys in which no entry equals the value that an unlisted key reads
as. Every array of state (registers, facets, cells, flash bytes) is such a table, so that equal contents are equal data.
-/
namespace Sys2Proof.Machine

/-- A sparse table: key and value, keys rising, no entry equal to the default of its key. -/
abbrev Tab (α : Type) := List (Nat × α)

/-- The value at a key; `d` says what an unlisted key reads as. -/
def Tab.get {α : Type} (d : Nat → α) (t : Tab α) (k : Nat) : α :=
  match t with
  | [] => d k
  | (k', v) :: t => if k' = k then v else Tab.get d t k

/-- Puts an entry in its place by key. -/
def Tab.ins {α : Type} (k : Nat) (v : α) : Tab α → Tab α
  | [] => [(k, v)]
  | (k', v') :: t => if k < k' then (k, v) :: (k', v') :: t else (k', v') :: Tab.ins k v t

/-- Sets the value at a key and keeps the canonical form: a default value removes the entry. -/
def Tab.set {α : Type} [DecidableEq α] (d : Nat → α) (t : Tab α) (k : Nat) (v : α) : Tab α :=
  let t' := t.filter (fun e => e.1 ≠ k)
  if v = d k then t' else Tab.ins k v t'

/-- The canonical form: keys strictly rising, no entry equal to its default. -/
def Tab.wf {α : Type} [DecidableEq α] (d : Nat → α) : Tab α → Bool
  | [] => true
  | (k, v) :: t => decide (v ≠ d k) && (t.all fun e => decide (k < e.1)) && Tab.wf d t

/-- One field of a register map: its identity, its width, its reset value (element 0 of an array may differ), whether a
warm reset keeps it (R7), and whether a write goes to a shadow copy first (R235). -/
structure Fld where
  id     : Nat
  w      : Nat
  rst    : Nat
  rst0   : Nat
  keep   : Bool
  shadow : Bool
deriving DecidableEq, Repr

/-- The reset value of element `j` of a field. -/
def Fld.reset (f : Fld) (j : Nat) : Nat := if j = 0 then f.rst0 else f.rst

/-- The table key of element (i, j) of a field. -/
def Fld.key (f : Fld) (i j : Nat) : Nat := f.id * 1048576 + (i % 1024) * 1024 + j % 1024

/-- The access codes of R5, the LOCK bit that ignores a write of 0, and the Parameter code of R354. -/
inductive Acc where
  | ro | rw | wo | w1c | rwl | lock | prm
deriving DecidableEq, Repr

/-- Which half of a 64-bit quantity a register holds (R9). -/
inductive Half where
  | none | low | high
deriving DecidableEq, Repr

/-- One field as a register shows it: bits [lo + w - 1 : lo] of the register are bits [sh + w - 1 : sh] of the field;
`ok` lists the ranges of values the field accepts (empty: every value). -/
structure Part where
  lo  : Nat
  w   : Nat
  f   : Fld
  sh  : Nat
  acc : Acc
  ok  : List (Nat × Nat)
deriving DecidableEq, Repr

/-- The registers whose write has a rule of its own; `plain` has none. -/
inductive RegTag where
  | plain
  | acc | align | apcfg | apctl | armcfg | armctl | bootctl | cascfg | casctl | ccbootctl | cctest
  | compcfg | confirm | cqcfg | cqdb | crc | ctxcfg | ctxctl | errctl | eswreq | fire
  | irqmap | irqstat | item | itemctl | kick | lanecfg | lanectl | laneeq | lanetest | lctl | lenslink
  | ledgerctl | lenscfg | lensctl | logdata | logidx | mode | outforce | owctl | portlink | prismctl
  | protcfg | protctl | prottest | pwd | qpop | rate | refctl | resetctl | secctl | setpt
  | sqcfg | sqctl | sqdb | strcfg | strctl | strmap | supcfg | svctl | svfield | tickcfg
  | timecfg | timectl | timepar | tokcfg | tripctl | tsrccfg | tsrcoff | unlock | violinfo | voterctl
deriving DecidableEq, Repr

/-- One register of a map: its address, the counts and strides of its two indices, the rule its writes follow, the LOCK
field that locks its RWL fields, whether that LOCK has the same first index, its half under R9, and its fields. -/
structure Row where
  addr    : Nat
  n1      : Nat
  s1      : Nat
  n2      : Nat
  s2      : Nat
  tag     : RegTag
  lockF   : Option Fld
  lockIdx : Bool
  half    : Half
  parts   : List Part
deriving DecidableEq, Repr

/-- The indices with which a row holds address `a`, if it does. -/
def Row.at? (r : Row) (a : Nat) : Option (Nat × Nat) :=
  if a < r.addr then none else
    let d := a - r.addr
    let i := if r.n1 = 1 then 0 else d / r.s1
    let e := d - i * r.s1
    let j := if r.n2 = 1 then 0 else e / r.s2
    if i < r.n1 ∧ j < r.n2 ∧ e = j * r.s2 then some (i, j) else none

/-- The row of a map that holds an address, with its indices. -/
def findRow (rows : List Row) (a : Nat) : Option (Row × Nat × Nat) :=
  rows.findSome? fun r => (r.at? a).map fun ij => (r, ij.1, ij.2)

end Sys2Proof.Machine
end

