-- ==== Sys2Proof/Machine/StateCore.lean ====
section
/-!
DEFINITION. Machine/StateCore.lean: a RISC-V core as plain data (R154, R222), what an item leaves in a save frame (R161), and what a
control core sees of Lens and of the inputs of the tick (R155).
-/
namespace Sys2Proof.Machine

/-- The registers of a core: x1 to x31, f0 to f31, the program counter, fcsr, the machine-mode CSRs and the two counters. -/
structure Hart where
  x        : Tab Nat := []
  f        : Tab Nat := []
  pc       : Nat := 0
  fcsr     : Nat := 0
  /-- mstatus.MIE and MPIE -/
  mie      : Bool := false
  mpie     : Bool := false
  /-- the CSRs mie, mtvec, mscratch, mepc, mcause, mtval -/
  mieCsr   : Nat := 0
  mtvec    : Nat := 0
  mscratch : Nat := 0
  mepc     : Nat := 0
  mcause   : Nat := 0
  mtval    : Nat := 0
  /-- cycle and instret, of 64 bits (R154, R234) -/
  cycle    : Nat := 0
  instret  : Nat := 0
deriving DecidableEq, Repr

/-- A save frame (R161): the item it holds, its integer and floating-point registers, fcsr and the program counter. -/
structure Frame where
  item : Nat
  x    : Tab Nat
  f    : Tab Nat
  fcsr : Nat
  pc   : Nat
deriving DecidableEq, Repr

/-- What the read-only windows of a control core show of a tick (R155): the samples that are its inputs by 4 × lane + channel, their
validity, the elements of each subscription with their validity, of each context the outputs, states and integrators, the facet
table of the last facet commit, and the valve time of the tick instant (R154). -/
structure CoreView where
  samples : Tab Nat := []
  valid   : Nat := 0
  sv      : Tab Nat := []
  svValid : Tab Nat := []
  ctxs    : Tab (List Nat × List Nat × List Nat) := []
  facets  : Tab (List Nat) := []
  vt      : Option Nat := none
deriving DecidableEq, Repr

end Sys2Proof.Machine
end

