-- ==== Sys2Proof/Machine/Riscv.lean ====
section
/-!
DEFINITION. Machine/Riscv.lean: one instruction of a RISC-V core: RV32IMFC with Zicsr and Zifencei for the control cores (R154), RV32IMC
with Zicsr for the cell's core (R222), machine mode only. The spec names the RISC-V specifications and does not restate them: log
10 says what is taken from them (PRESUMED).
-/
namespace Sys2Proof.Machine

/-! ### Registers -/

def Hart.reg (h : Hart) (r : Nat) : Nat := Tab.get (fun _ => 0) h.x r
def Hart.setReg (h : Hart) (r v : Nat) : Hart :=
  if r = 0 then h else { h with x := Tab.set (fun _ => 0) h.x r (v % 4294967296) }
def Hart.freg (h : Hart) (r : Nat) : Nat := Tab.get (fun _ => 0) h.f r
def Hart.setFreg (h : Hart) (r v : Nat) : Hart := { h with f := Tab.set (fun _ => 0) h.f r (v % 4294967296) }

/-- Accrued exception flags (fcsr [4:0]). -/
def Hart.accrue (h : Hart) (fl : Nat) : Hart := { h with fcsr := Nat.lor h.fcsr (fl % 32) }

/-- An exception taken in machine mode: its cause and value saved, the handler entered. -/
def Hart.take (h : Hart) (cause tval : Nat) : Hart :=
  { h with mepc := h.pc, mcause := cause, mtval := tval, mpie := h.mie, mie := false, pc := h.mtvec - h.mtvec % 4 }

/-! ### CSRs -/

/-- What a core has beside the base ISA: the F extension and its time CSRs with the time they show, its number. -/
structure HartKind where
  fpu  : Bool
  time : Option Nat
  id   : Nat

/-- mstatus: MPP reads 3; with the F extension FS reads 3 and SD 1. -/
def Hart.mstatus (h : Hart) (k : HartKind) : Nat :=
  8 * b2n h.mie + 128 * b2n h.mpie + 6144 + (if k.fpu then 2147483648 + 24576 else 0)

/-- A CSR as it reads, or none where the core has no such CSR. -/
def Hart.csr (h : Hart) (k : HartKind) (n : Nat) : Option Nat :=
  let lo (v : Nat) : Nat := v % 4294967296
  let hi (v : Nat) : Nat := v / 4294967296 % 4294967296
  if k.fpu ∧ n = 0x001 then some (h.fcsr % 32)
  else if k.fpu ∧ n = 0x002 then some (bits h.fcsr 7 5)
  else if k.fpu ∧ n = 0x003 then some (h.fcsr % 256)
  else if n = 0x300 then some (h.mstatus k)
  else if n = 0x301 then some (1073741824 + 256 + 4096 + 4 + (if k.fpu then 32 else 0))
  else if n = 0x304 then some h.mieCsr
  else if n = 0x305 then some h.mtvec
  else if n = 0x340 then some h.mscratch
  else if n = 0x341 then some h.mepc
  else if n = 0x342 then some h.mcause
  else if n = 0x343 then some h.mtval
  else if n = 0xB00 ∨ n = 0xC00 then some (lo h.cycle)
  else if n = 0xB80 ∨ n = 0xC80 then some (hi h.cycle)
  else if n = 0xB02 ∨ n = 0xC02 then some (lo h.instret)
  else if n = 0xB82 ∨ n = 0xC82 then some (hi h.instret)
  else if n = 0xC01 then k.time.map lo
  else if n = 0xC81 then k.time.map hi
  else if n = 0xF14 then some k.id
  else if n = 0x310 ∨ n = 0x320 ∨ n = 0x344 ∨ n = 0xF11 ∨ n = 0xF12 ∨ n = 0xF13 ∨ n = 0xF15 then some 0
  else if (0x323 ≤ n ∧ n ≤ 0x33F) ∨ (0xB03 ≤ n ∧ n ≤ 0xB1F) ∨ (0xB83 ≤ n ∧ n ≤ 0xB9F) then some 0
  else none

/-- A CSR written; the read-only parts of one keep their values. A write of `minstret` stands in place of the increment of its own
instruction, which `retire` makes, so one less is put there. -/
def Hart.setCsr (h : Hart) (n v : Nat) : Hart :=
  let low (c : Nat) : Nat := c / 4294967296 * 4294967296 + v
  let high (c : Nat) : Nat := v * 4294967296 + c % 4294967296
  match n with
  | 0x001 => { h with fcsr := bits h.fcsr 7 5 * 32 + v % 32 }
  | 0x002 => { h with fcsr := v % 8 * 32 + h.fcsr % 32 }
  | 0x003 => { h with fcsr := v % 256 }
  | 0x300 => { h with mie := bit v 3, mpie := bit v 7 }
  | 0x304 => { h with mieCsr := v }
  | 0x305 => { h with mtvec := v - bits v 1 1 * 2 }
  | 0x340 => { h with mscratch := v }
  | 0x341 => { h with mepc := v - v % 2 }
  | 0x342 => { h with mcause := v }
  | 0x343 => { h with mtval := v }
  | 0xB00 => { h with cycle := low h.cycle }
  | 0xB80 => { h with cycle := high h.cycle }
  | 0xB02 => { h with instret := (low h.instret + 18446744073709551615) % 18446744073709551616 }
  | 0xB82 => { h with instret := (high h.instret + 18446744073709551615) % 18446744073709551616 }
  | _ => h

/-! ### The words of instructions -/

/-- The 32-bit formats, as the expansion of a compressed instruction writes them. -/
def rvR (f7 rs2 rs1 f3 rd op : Nat) : Nat := f7 * 33554432 + rs2 * 1048576 + rs1 * 32768 + f3 * 4096 + rd * 128 + op
def rvI (imm : Int) (rs1 f3 rd op : Nat) : Nat := unsigned 12 imm * 1048576 + rs1 * 32768 + f3 * 4096 + rd * 128 + op
def rvS (imm : Nat) (rs2 rs1 f3 op : Nat) : Nat := rvR (bits imm 11 5) rs2 rs1 f3 (bits imm 4 0) op
def rvB (imm : Int) (rs2 rs1 f3 : Nat) : Nat :=
  let i := unsigned 13 imm
  rvR (bits i 12 12 * 64 + bits i 10 5) rs2 rs1 f3 (bits i 4 1 * 2 + bits i 11 11) 0x63
def rvU (imm : Int) (rd op : Nat) : Nat := unsigned 20 imm * 4096 + rd * 128 + op
def rvJ (imm : Int) (rd : Nat) : Nat :=
  let i := unsigned 21 imm
  (bits i 20 20 * 524288 + bits i 10 1 * 512 + bits i 11 11 * 256 + bits i 19 12) * 4096 + rd * 128 + 0x6F

/-- The immediates of the 32-bit formats. -/
def immI (w : Nat) : Int := signed 12 (bits w 31 20)
def immS (w : Nat) : Int := signed 12 (bits w 31 25 * 32 + bits w 11 7)
def immB (w : Nat) : Int := signed 13 (bits w 31 31 * 4096 + bits w 7 7 * 2048 + bits w 30 25 * 32 + bits w 11 8 * 2)
def immJ (w : Nat) : Int := signed 21 (bits w 31 31 * 1048576 + bits w 19 12 * 4096 + bits w 20 20 * 2048 + bits w 30 21 * 2)

/-- The compressed instructions of quadrant 0, as the instructions they stand for. -/
def rvc0 (fpu : Bool) (c : Nat) : Option Nat :=
  let rd := 8 + bits c 4 2
  let rs := 8 + bits c 9 7
  let off := bits c 12 10 * 8 + bits c 6 6 * 4 + bits c 5 5 * 64
  let wide := bits c 12 11 * 16 + bits c 10 7 * 64 + bits c 6 6 * 4 + bits c 5 5 * 8
  match bits c 15 13 with
  | 0 => if wide = 0 then none else some (rvI wide 2 0 rd 0x13)
  | 2 => some (rvI off rs 2 rd 0x03)
  | 3 => if fpu then some (rvI off rs 2 rd 0x07) else none
  | 6 => some (rvS off rd rs 2 0x23)
  | 7 => if fpu then some (rvS off rd rs 2 0x27) else none
  | _ => none

/-- The compressed instructions of quadrant 1. -/
def rvc1 (c : Nat) : Option Nat :=
  let r := bits c 11 7
  let rs := 8 + bits c 9 7
  let imm : Int := signed 6 (bits c 12 12 * 32 + bits c 6 2)
  let j : Int := signed 12 (bits c 12 12 * 2048 + bits c 11 11 * 16 + bits c 10 9 * 256 + bits c 8 8 * 1024 + bits c 7 7 * 64 +
    bits c 6 6 * 128 + bits c 5 3 * 2 + bits c 2 2 * 32)
  let b : Int := signed 9 (bits c 12 12 * 256 + bits c 11 10 * 8 + bits c 6 5 * 64 + bits c 4 3 * 2 + bits c 2 2 * 32)
  let sp : Int := signed 10 (bits c 12 12 * 512 + bits c 6 6 * 16 + bits c 5 5 * 64 + bits c 4 3 * 128 + bits c 2 2 * 32)
  match bits c 15 13 with
  | 0 => some (rvI imm r 0 r 0x13)
  | 1 => some (rvJ j 1)
  | 2 => some (rvI imm 0 0 r 0x13)
  | 3 => if r = 2 then (if sp = 0 then none else some (rvI sp 2 0 2 0x13)) else if imm = 0 then none else some (rvU imm r 0x37)
  | 4 =>
    match bits c 11 10 with
    | 0 => if bit c 12 then none else some (rvI (bits c 6 2) rs 5 rs 0x13)
    | 1 => if bit c 12 then none else some (rvI (1024 + bits c 6 2) rs 5 rs 0x13)
    | 2 => some (rvI imm rs 7 rs 0x13)
    | _ =>
      let r2 := 8 + bits c 4 2
      if bit c 12 then none
      else match bits c 6 5 with
        | 0 => some (rvR 32 r2 rs 0 rs 0x33)
        | 1 => some (rvR 0 r2 rs 4 rs 0x33)
        | 2 => some (rvR 0 r2 rs 6 rs 0x33)
        | _ => some (rvR 0 r2 rs 7 rs 0x33)
  | 5 => some (rvJ j 0)
  | 6 => some (rvB b 0 rs 0)
  | _ => some (rvB b 0 rs 1)

/-- The compressed instructions of quadrant 2. -/
def rvc2 (fpu : Bool) (c : Nat) : Option Nat :=
  let r := bits c 11 7
  let r2 := bits c 6 2
  let lw := bits c 12 12 * 32 + bits c 6 4 * 4 + bits c 3 2 * 64
  let sw := bits c 12 9 * 4 + bits c 8 7 * 64
  match bits c 15 13 with
  | 0 => if bit c 12 then none else some (rvI r2 r 1 r 0x13)
  | 2 => if r = 0 then none else some (rvI lw 2 2 r 0x03)
  | 3 => if fpu then some (rvI lw 2 2 r 0x07) else none
  | 4 =>
    if bit c 12 then
      if r2 ≠ 0 then some (rvR 0 r2 r 0 r 0x33) else if r ≠ 0 then some (rvI 0 r 0 1 0x67) else some 0x00100073
    else if r2 ≠ 0 then some (rvR 0 r2 0 0 r 0x33)
    else if r ≠ 0 then some (rvI 0 r 0 0 0x67) else none
  | 6 => some (rvS sw r2 2 2 0x23)
  | 7 => if fpu then some (rvS sw r2 2 2 0x27) else none
  | _ => none

/-- A compressed instruction as the 32-bit instruction it stands for. -/
def rvExpand (fpu : Bool) (c : Nat) : Option Nat :=
  match c % 4 with
  | 0 => rvc0 fpu c
  | 1 => rvc1 c
  | 2 => rvc2 fpu c
  | _ => none

/-! ### What an instruction does -/

/-- What one instruction asks of its core: it is done; it loads (bytes, sign extended or not, to an integer or a floating-point
register); it stores; it raises an exception. -/
inductive HartAct where
  | done (h : Hart)
  | load (h : Hart) (addr size : Nat) (sext fp : Bool) (rd : Nat)
  | store (h : Hart) (addr size val : Nat)
  | trap (cause tval : Nat)
deriving DecidableEq, Repr

/-- A loaded value enters its register. -/
def Hart.loaded (h : Hart) (size : Nat) (sext fp : Bool) (rd v : Nat) : Hart :=
  if fp then h.setFreg rd v
  else h.setReg rd (if sext then unsigned 32 (signed (8 * size) v) else v)

/-- Integer operations of OP and OP-IMM: f3, and whether bit 30 selects the other one. -/
def rvAlu (f3 : Nat) (alt : Bool) (a b : Nat) : Nat :=
  match f3 with
  | 0 => if alt then (a + 4294967296 - b) % 4294967296 else (a + b) % 4294967296
  | 1 => a * 2 ^ (b % 32) % 4294967296
  | 2 => b2n (decide (signed 32 a < signed 32 b))
  | 3 => b2n (decide (a < b))
  | 4 => Nat.xor a b
  | 5 => if alt then unsigned 32 (signed 32 a / (2 ^ (b % 32) : Nat)) else a / 2 ^ (b % 32)
  | 6 => Nat.lor a b
  | _ => Nat.land a b

/-- The M extension. -/
def rvMul (f3 a b : Nat) : Nat :=
  let sa := signed 32 a
  let sb := signed 32 b
  match f3 with
  | 0 => a * b % 4294967296
  | 1 => unsigned 32 (sa * sb / 4294967296)
  | 2 => unsigned 32 (sa * (b : Int) / 4294967296)
  | 3 => a * b / 4294967296
  | 4 => if b = 0 then 4294967295 else unsigned 32 (sa.tdiv sb)
  | 5 => if b = 0 then 4294967295 else a / b
  | 6 => if b = 0 then a else unsigned 32 (sa.tmod sb)
  | _ => if b = 0 then a else a % b

/-- A branch is taken. -/
def rvBranch (f3 a b : Nat) : Option Bool :=
  match f3 with
  | 0 => some (a = b)
  | 1 => some (a ≠ b)
  | 4 => some (decide (signed 32 a < signed 32 b))
  | 5 => some (decide (signed 32 b ≤ signed 32 a))
  | 6 => some (decide (a < b))
  | 7 => some (decide (b ≤ a))
  | _ => none

/-- A result of the F extension for a floating-point register, or for an integer one. -/
def Hart.flt (h : Hart) (rd : Nat) (r : Rv.Flt) : HartAct := .done ((h.setFreg rd r.1).accrue r.2)
def Hart.fltInt (h : Hart) (rd : Nat) (r : Rv.Flt) : HartAct := .done ((h.setReg rd r.1).accrue r.2)

/-- The rounding mode an instruction names: its own, or that of fcsr; 5 to 7 are none. -/
def Hart.rm (h : Hart) (f3 : Nat) : Option Nat :=
  let m := if f3 = 7 then bits h.fcsr 7 5 else f3
  if m ≤ 4 then some m else none

/-- The OP-FP instructions of binary32; `h` has the next program counter. -/
def rvOpFp (h : Hart) (w : Nat) : HartAct :=
  let bad : HartAct := .trap 2 w
  let rd := bits w 11 7
  let f3 := bits w 14 12
  let r2 := bits w 24 20
  let a := h.freg (bits w 19 15)
  let b := h.freg r2
  let x := h.reg (bits w 19 15)
  let rounded (g : Nat → HartAct) : HartAct := match h.rm f3 with | some m => g m | none => bad
  match bits w 31 25 with
  | 0x00 => rounded fun m => h.flt rd (Rv.fadd m a b)
  | 0x04 => rounded fun m => h.flt rd (Rv.fadd m a (Rv.fflip b))
  | 0x08 => rounded fun m => h.flt rd (Rv.fmul m a b)
  | 0x0C => rounded fun m => h.flt rd (Rv.fdiv m a b)
  | 0x2C => if r2 = 0 then rounded fun m => h.flt rd (Rv.fsqrt m a) else bad
  | 0x10 => if f3 ≤ 2 then h.flt rd (Rv.fsgnj f3 a b, 0) else bad
  | 0x14 => if f3 ≤ 1 then h.flt rd (Rv.fminmax (f3 = 1) a b) else bad
  | 0x50 => if f3 ≤ 2 then h.fltInt rd (Rv.fcmp f3 a b) else bad
  | 0x60 => if r2 ≤ 1 then rounded fun m => h.fltInt rd (Rv.ftoInt m (r2 = 1) a) else bad
  | 0x68 => if r2 ≤ 1 then rounded fun m => h.flt rd (Rv.ffromInt m (r2 = 1) x) else bad
  | 0x70 => if r2 = 0 ∧ f3 = 0 then h.fltInt rd (a, 0) else if r2 = 0 ∧ f3 = 1 then h.fltInt rd (Rv.fclass a, 0) else bad
  | 0x78 => if r2 = 0 ∧ f3 = 0 then h.flt rd (x, 0) else bad
  | _ => bad

/-- The SYSTEM instructions: ECALL, EBREAK, MRET, WFI and the CSR accesses of Zicsr; `h` has the next program counter. -/
def rvSystem (h : Hart) (k : HartKind) (pc w : Nat) : HartAct :=
  let bad : HartAct := .trap 2 w
  let rd := bits w 11 7
  let f3 := bits w 14 12
  let r1 := bits w 19 15
  let n := bits w 31 20
  if f3 = 0 ∨ f3 = 4 then
    if w = 0x00000073 then .trap 11 0
    else if w = 0x00100073 then .trap 3 pc
    else if w = 0x30200073 then .done { h with pc := h.mepc, mie := h.mpie, mpie := true }
    else if w = 0x10500073 then .done h
    else bad
  else
    let v := if 5 ≤ f3 then r1 else h.reg r1
    let writes : Bool := f3 % 4 = 1 || r1 ≠ 0
    match h.csr k n with
    | none => bad
    | some old =>
      if writes && bits n 11 10 = 3 then bad
      else
        let new := match f3 % 4 with
          | 1 => v
          | 2 => Nat.lor old v
          | _ => old - Nat.land old v
        .done ((if writes then h.setCsr n new else h).setReg rd old)

/-- One 32-bit instruction at `pc`; `h` has the program counter of the next one. -/
def rvExec (h : Hart) (k : HartKind) (pc w : Nat) : HartAct :=
  let bad : HartAct := .trap 2 w
  let rd := bits w 11 7
  let f3 := bits w 14 12
  let r2 := bits w 24 20
  let a := h.reg (bits w 19 15)
  let b := h.reg r2
  let f7 := bits w 31 25
  let at_ (base : Nat) (i : Int) : Nat := unsigned 32 ((base : Int) + i)
  let load (size : Nat) (sext fp : Bool) : HartAct :=
    let ad := at_ a (immI w)
    if ad % size ≠ 0 then .trap 4 ad else .load h ad size sext fp rd
  let store (size v : Nat) : HartAct :=
    let ad := at_ a (immS w)
    if ad % size ≠ 0 then .trap 6 ad else .store h ad size (v % 2 ^ (8 * size))
  let fmadd (sa sc : Bool) : HartAct :=
    if k.fpu ∧ bits w 26 25 = 0 then
      match h.rm f3 with
      | some m =>
        let x := h.freg (bits w 19 15)
        let z := h.freg (bits w 31 27)
        h.flt rd (Rv.ffma m (if sa then Rv.fflip x else x) (h.freg r2) (if sc then Rv.fflip z else z))
      | none => bad
    else bad
  match bits w 6 0 with
  | 0x37 => .done (h.setReg rd (bits w 31 12 * 4096))
  | 0x17 => .done (h.setReg rd (pc + bits w 31 12 * 4096))
  | 0x6F => .done { h.setReg rd h.pc with pc := at_ pc (immJ w) }
  | 0x67 => if f3 = 0 then let t := at_ a (immI w); .done { h.setReg rd h.pc with pc := t - t % 2 } else bad
  | 0x63 =>
    match rvBranch f3 a b with
    | some t => .done (if t then { h with pc := at_ pc (immB w) } else h)
    | none => bad
  | 0x03 =>
    match f3 with
    | 0 => load 1 true false
    | 1 => load 2 true false
    | 2 => load 4 false false
    | 4 => load 1 false false
    | 5 => load 2 false false
    | _ => bad
  | 0x07 => if k.fpu ∧ f3 = 2 then load 4 false true else bad
  | 0x23 => if f3 ≤ 2 then store (2 ^ f3) b else bad
  | 0x27 => if k.fpu ∧ f3 = 2 then store 4 (h.freg r2) else bad
  | 0x13 =>
    if f3 = 1 then (if f7 = 0 then .done (h.setReg rd (rvAlu 1 false a r2)) else bad)
    else if f3 = 5 then (if f7 = 0 ∨ f7 = 32 then .done (h.setReg rd (rvAlu 5 (f7 = 32) a r2)) else bad)
    else .done (h.setReg rd (rvAlu f3 false a (unsigned 32 (immI w))))
  | 0x33 =>
    if f7 = 1 then .done (h.setReg rd (rvMul f3 a b))
    else if f7 = 0 ∨ (f7 = 32 ∧ (f3 = 0 ∨ f3 = 5)) then .done (h.setReg rd (rvAlu f3 (f7 = 32) a b))
    else bad
  | 0x0F => if f3 ≤ 1 then .done h else bad
  | 0x73 => rvSystem h k pc w
  | 0x43 => fmadd false false
  | 0x47 => fmadd false true
  | 0x4B => fmadd true false
  | 0x4F => fmadd true true
  | 0x53 => if k.fpu then rvOpFp h w else bad
  | _ => bad

/-- The instruction at the program counter, as its two half-words stand in memory: what it asks of the core. -/
def Hart.run (h : Hart) (k : HartKind) (w : Nat) : HartAct :=
  if w % 4 = 3 then rvExec { h with pc := (h.pc + 4) % 4294967296 } k h.pc w
  else
    match rvExpand k.fpu (w % 65536) with
    | some e =>
      match rvExec { h with pc := (h.pc + 2) % 4294967296 } k h.pc e with
      | .trap 2 _ => .trap 2 (w % 65536)
      | a => a
    | none => .trap 2 (w % 65536)

/-- The address of the half-word whose fetch faults: the second where the first could be read. -/
def fetchFaultAt (first : Bool) (pc : Nat) : Nat := if first then pc + 2 else pc

/-- An instruction has retired: `cycle` advances by the free number of cycles it took, `instret` by one (R154, log 10). -/
def Hart.retire (h : Hart) : Hart :=
  { h with
    cycle := (h.cycle + 1 + Config.freeNat h.instret) % 18446744073709551616
    instret := (h.instret + 1) % 18446744073709551616 }

end Sys2Proof.Machine
end

