-- ==== Sys2Proof/Machine/StateVc.lean ====
section
/-!
DEFINITION. Machine/StateVc.lean: the state of the valve controller's units that its register maps do not hold: the
facet table (R107), strings and lanes (R173 to R220), protection (R134 to R152), host queues (R287 to R304) and
recorders (R311 to R325).
-/
namespace Sys2Proof.Machine

/-! ### What the block sends -/

/-- What the parts sent during the last command. It is what a bench at the pins and on the links would see. -/
inductive Emit where
  /-- a block flash, sent twice on the lane ends of a string that are in use: bit 0 X, bit 1 Y (R142, R184) -/
  | flash (string ends payload : Nat)
  /-- the command slots of the current tick's sweeps not yet sent are replaced with BLOCK (R142 step 2) -/
  | unsentBlocked
  /-- a cascade block on both lanes of the UP pair (0) or the DN pair (1) (R144) -/
  | cascBlock (pair payload : Nat)
  /-- an MSI-X message: a write of its entry's data to its entry's address (R284, R291, R292) -/
  | msix (vector : Nat)
  /-- one 16-byte completion written to a completion queue entry (R290) -/
  | cqEntry (cq slot w0 w1 w2 w3 : Nat)
  /-- bytes written to host memory at a 64-bit address -/
  | hostWrite (addr : Nat) (bytes : List Byte)
  /-- bytes written to host memory whose contents the spec leaves undefined (R318) -/
  | hostWriteOpen (addr len : Nat)
  /-- the completion of a BAR0 read: 0 success, 1 Unsupported Request, 2 Completer Abort (R53) -/
  | readRsp (status data : Nat)
  /-- an access violation reported as Unsupported Request (false) or Completer Abort (true) through AER; whether ERR_NONFATAL is
  sent (R285) -/
  | aer (abort sent : Bool)
  /-- one sweep launched on a lane end: string, 0 X or 1 Y, the header, slot and trailer payloads in order (R173) -/
  | sweep (string dir : Nat) (blocks : List Nat)
  /-- a cell message sent on the lane ends of a string that are in use, bit 0 X and bit 1 Y: M0, payload, CHECK (R184, R191) -/
  | cellMsg (string ends m0 : Nat) (payload : List Nat) (check : Nat)
  /-- a message sent on the X end alone (ASSIGN, R196) -/
  | assign (string m0 check : Nat)
  /-- a response, or a forwarded message, leaving the cell of a string and position on its up or its down lane (R191) -/
  | ccMsg (string pos : Nat) (down : Bool) (m0 : Nat) (payload : List Nat) (check : Nat)
  /-- a LINK_FAULT block sent on a link end (R184) -/
  | linkFault (e : LinkEnd) (payload : Nat)
  /-- a PROBE or ECHO block sent on a link end (R198) -/
  | probe (e : LinkEnd) (payload : Nat)
  | echo (e : LinkEnd) (payload : Nat)
  /-- training frames of this content start on a link end, repeated back to back with SEQ + 1 each (R204, R205) -/
  | train (e : LinkEnd) (f : TrainFrame)
  /-- a link end sets its transmit taps and its receive CTLE (R209, R212); several in a row are those of slots of 40 µs -/
  | taps (e : LinkEnd) (pre main post ctle : Nat)
  /-- the test generator of a lane sends a pattern from now on, on its pins or into its own receiver (R218) -/
  | pattern (e : LinkEnd) (kind : Nat) (inv loop : Bool)
  /-- a sweep copy leaves a cell, onward or reflected: the cell's command and report blocks, then the two trailer blocks
  unless the trailer was discarded (R182, R186) -/
  | sweepOut (string pos : Nat) (reflected : Bool) (blocks : List Nat)
  /-- a flash forwarded by a cell (R143) -/
  | flashOut (string pos payload : Nat)
  /-- an edge at a gate output of a cell: output 0 GA_H, 1 GA_L, 2 GB_H, 3 GB_L, its new level, the 250 MHz cycle and the
  tap of the delay line (R245) -/
  | gate (string pos out : Nat) (level : Bool) (cycle tap : Nat)
  /-- every gate output of a cell goes low at once (R242); its edges of the same 250 MHz cycle do not appear (R253) -/
  | gatesLow (string pos : Nat)
  /-- what a read by a cell's core gives -/
  | ccRead (string pos value : Nat)
  /-- the BYP_FIRE pin of a cell (R230) -/
  | bypFire (string pos : Nat) (on : Bool)
  /-- a SYNC_OUT pulse of a cell: start and width (R233); and SYNC_OUT goes low, or stays low, whatever pulse was to come -/
  | syncOut (string pos start width : Nat)
  | syncLow (string pos : Nat)
  /-- the pulse that is high ends at a time of cell time, before the next one rises (R233) -/
  | syncCut (string pos at_ : Nat)
  /-- a cascade frame: kind, then its payload words -/
  | cascade (kind : Nat) (words : List Nat)
  /-- an Ethernet message sent: port, kind, sequence, then its time stamp (R272) -/
  | ptp (port kind seq stamp : Nat)
  /-- a request sent on a companion port, or an SC's response (R351) -/
  | companion (port : Nat) (bytes : List Byte)
  | scResponse (sc : Nat) (bytes : List Byte)
  /-- the switches of an SC's outputs that are closed (high-side, low-side) and its permit pins A and B at the permit level,
  after a change (R335, R342) -/
  | scOut (sc high low : Nat) (permitA permitB : Bool)
  /-- until VDDIO of a cell has reached its operating range, its gate outputs, BYP_FIRE and SYNC_OUT are at high impedance; what is
  told of them after this holds from that point on (R385) -/
  | ccHighZ (string pos : Nat)
  /-- TDO of a part's TAP while a data register is scanned, the first bit first, or at high impedance (R383, R395); the part by `tapKey` -/
  | tdo (part : Nat) (bits : Option (List Bool))
  /-- EXTEST drives the pins of the boundary-scan register of a part held in reset; HIGHZ takes them to high impedance (R395) -/
  | tapPins (part : Nat) (bits : List Bool)
  | tapHighZ (part : Nat)
  /-- a reset of the control dies, or of one; at a cold reset (5) every lane transmitter goes to electrical idle, XSPI_RESET_N low and
  TDO to high impedance, until its release (R383) -/
  | reset (what : Nat)
deriving DecidableEq, Repr

/-! ### Ledger (R311 to R318) -/

/-- One ledger record before it is numbered (R311): `op` is 1 for the structural ladder. -/
structure Rec where
  code   : Nat
  ladder : Nat
  level  : Nat
  cls    : Nat
  die    : Nat := 3
  region : Nat := 1
  index  : Nat := 0
  data   : Nat := 0
deriving DecidableEq, Repr

/-- A record in the RAM queue: `first` begins a new event number; `close` holds the repeat count and last VT when the
record has been closed before it was written (R313). -/
structure QRec where
  r     : Rec
  vt    : Nat
  first : Bool
  close : Option (Nat × Nat) := none
deriving DecidableEq, Repr

/-- The statistics of one facet (R317). -/
structure FacetStat where
  vext : Nat := 0x0000FFFF
  sw   : Nat := 0
  tj   : List Nat := []
deriving DecidableEq, Repr

/-- The ledger unit's RAM: the queue, the open event, closings still to be programmed, failures, the statistics. -/
structure LedgerSt where
  queue     : List QRec := []
  /-- records of the last event (R313), and whether they are open -/
  lastRecs  : List Rec := []
  isOpen    : Bool := false
  repeats   : Nat := 0
  lastVt    : Nat := 0
  /-- flash addresses of the open records already written, in order -/
  openAt    : List Nat := []
  /-- closings to program: address, REPEAT, LAST_VT -/
  closings  : List (Nat × Nat × Nat) := []
  lostPend  : Nat := 0
  /-- failures since the last UNIT_RST, and when the last was (R314) -/
  failures  : Nat := 0
  lastFail  : Option Nat := none
  /-- HOURS at the last write of the statistics -/
  statsAt   : Nat := 0
  stats     : Tab FacetStat := []
  fomMin    : Tab Nat := []
  /-- highest class queued since Aperture's last sampling point (R323) -/
  maxClass  : Option Nat := none
deriving DecidableEq, Repr

/-! ### Aperture (R319 to R325) -/

/-- An entry of R321. -/
inductive ApEnt where
  | time (vt : Nat)
  | fullset
  | trigger (name mask : Nat)
  | change (ch offset value : Nat)
deriving DecidableEq, Repr

/-- One Aperture area: the entries of its pre part still held, oldest first, with the slots they take and the slots written
since its FILLING began; its post part; and its header once complete. -/
structure ApArea where
  pre       : List ApEnt := []
  preSlots  : Nat := 0
  written   : Nat := 0
  post      : List ApEnt := []
  postSlots : Nat := 0
  postFull  : Bool := false
  complete  : Bool := false
  truncated : Bool := false
  /-- its pre part wrapped (R325) -/
  wrapped   : Bool := false
  trigMask  : Nat := 0
  name      : Nat := 0
  trigVt    : Nat := 0
  trigTick  : Nat := 0
  ignAt     : Nat := 0
  chTable   : List Nat := []
  /-- its number among completed areas, for the oldest -/
  order     : Nat := 0
deriving DecidableEq, Repr

/-- The Aperture recorder beside its registers. -/
structure ApSt where
  areas     : Tab ApArea := []
  /-- last stored value of each channel (R320); the newest value seen, with its tag -/
  stored    : Tab (Option Nat) := []
  seen      : Tab (Option (Nat × Nat)) := []
  /-- values read since the last sampling point: channel, tag, value -/
  pending   : List (Nat × Nat × Nat) := []
  chTable   : List Nat := []
  /-- VT of the TIME entry last written, and whether this tick has one -/
  timeVt    : Nat := 0
  /-- ticks counted at the trigger tick, and triggers ignored since (R322, R324) -/
  trigAt    : Nat := 0
  ignored   : Nat := 0
  /-- causes of flash events since the last sampling point (R323) -/
  flashMask : Nat := 0
  forced    : Bool := false
  stopReq   : Bool := false
  doneCount : Nat := 0
deriving DecidableEq, Repr

/-! ### Facet table (R107) -/

/-- One facet entry (R107), with what R108 needs beside it: the CSTATE and tick at entry, the recent effective ticks and
the states commanded for them, and whether the next accepted report sets VF. -/
structure Facet where
  vf       : Nat := 0
  rstate   : Nat := 0
  cstate   : Nat := 0
  vraw     : Nat := 0
  rflags   : Nat := 0
  dwell    : Nat := 0
  swcount  : Nat := 0
  tj       : Nat := 0
  xbad     : Bool := false
  ybad     : Bool := false
  noReport : Bool := false
  mismatch : Bool := false
  remote   : Bool := false
  pinned   : Bool := false
  inSvc    : Bool := false
  cause    : Nat := 0
  arm      : Nat := 0xF
  home     : Nat := 0xF
  trim     : Nat := 0
  missRun  : Nat := 0
  mismRun  : Nat := 0
  vt       : Nat := 0
  lastMode : Nat := 0
  lastEdge : Nat := 0
  bin      : Nat := 0
  /-- the next accepted report sets VF = VRAW << 8 (R108 step 1) -/
  fresh    : Bool := true
  entryC   : Nat := 0
  entryTick : Nat := 0
  /-- (effective VT, state commanded, tick of issue), newest first -/
  issued   : List (Nat × Nat × Nat) := []
  /-- a report was accepted at the last commit -/
  accepted : Bool := false
  /-- newest SEQ committed, if any (R183) -/
  seqDone  : Option Nat := none
  /-- TJ reported since the facet entered service (R317) -/
  tjSeen   : Bool := false
  /-- LPAR of the last accepted report (R195) -/
  lpar     : Bool := false
  /-- CLR waits for this facet's next slot without BYPASS_FIRE; the SEQ of the sweep launched at the effective tick of the command
  that carried it (R306) -/
  clrPend  : Bool := false
  clrSeq   : Option Nat := none
  /-- last accepted report came from a sweep of this tick of launch -/
  lastSeq  : Nat := 0
deriving DecidableEq, Repr

/-- The home VC's shadow entry of a remote facet (R127). -/
structure Remote where
  vf     : Nat := 0
  inSvc  : Bool := false
  cstate : Nat := 0
  dwell  : Nat := 0
  bin    : Nat := 0
deriving DecidableEq, Repr

/-- An arm formed on this VC: its strings in arm-index order (VC_ID × 48 + string, cells), fixed at FORM (R112), and the
reference of its last selection. -/
structure ArmSt where
  strs : List (Nat × Nat) := []
  vref : Nat := 0
  /-- AGG_AVAIL as formed at the last selection (R117) -/
  agg  : Nat := 0
  /-- released from FAILED and not formed again (R113) -/
  failed : Bool := false
deriving DecidableEq, Repr

/-! ### Cascade (R28 to R35, R81, R127) -/

/-- A CASC_OUT value received or produced (R81): value, period in 250 ps units, arrival, and whether a tick boundary has
passed since. -/
structure CascVal where
  val    : Nat := 0
  period : Nat := 0
  at_    : Nat := 0
  ok     : Bool := false
  next   : Option Nat := none
deriving DecidableEq, Repr

/-- An arm of another VC as its home told it: its state and its L_C (R113, log 99), its N_AVAIL and its N_MIN (R131). -/
structure HomeArm where
  state : Nat := 0
  lc    : Nat := 0
  avail : Nat := 0
  nMin  : Nat := 0
deriving DecidableEq, Repr

/-- The cascade logic beside its registers. -/
structure CascSt where
  /-- a member's tick grid as the alignment with its lead set it, modulo TQ (R29, R270) -/
  tickOfs  : Option Nat := none
  startAt  : Nat := 0
  remStrs  : List RemStr := []
  /-- members' conditions of R305 for a deblock: VC_ID and its failed conditions -/
  members  : List (Nat × Nat) := []
  vals     : Tab CascVal := []
  slices   : List (Nat × Nat) := []
  /-- arms of other VCs by home × 12 + arm, and what came of them since the last commit -/
  homeArms : Tab HomeArm := []
  notes    : List ArmNote := []
  aligned  : Bool := false
  /-- by pair, when the last cascade block copy came that was good, and that failed its CRC, of a frame whose other copies are still
  to be told (R36) -/
  blkGood  : Tab (Option Nat) := []
  blkBad   : Tab (Option Nat) := []
deriving DecidableEq, Repr

/-! ### Voter (R38 to R43) -/

/-- The voter beside its registers. -/
structure VoterSt where
  /-- consecutive ticks in which each die disagreed -/
  streak    : List Nat := [0, 0, 0]
  /-- the die last set aside in THREE mode, and the tick count then (R42, two dies in one tick) -/
  lastAside : Option (Nat × Nat) := none
  /-- copy ticks done of the realigning die; dies whose realignment is asked for, bit per die -/
  copy      : Nat := 0
  asked     : Nat := 0
  /-- replays on each channel since the last tick (R38) -/
  replays   : List Nat := [0, 0, 0]
  /-- command words of this tick that two dies agreed on and that differ from the computed ones: facet and word (R40) -/
  voted     : List (Nat × Nat) := []
deriving DecidableEq, Repr

/-! ### Strings (R173 to R199) -/

/-- What a queued cell message is for (R194, R195, R216, R227). -/
inductive MsgFor where
  | descriptor (id : Nat)
  | calRead (link : Nat)
  | wdog
  | image (block : Nat)
  | hold
deriving DecidableEq, Repr

/-- One cell message of a string's queue. -/
structure Msg where
  purpose : MsgFor
  op      : Nat
  dest    : Nat
  addr    : Nat
  len     : Nat
  payload : List Nat
  tries   : Nat := 0
deriving DecidableEq, Repr

/-- A message sent and not yet answered: the message, its TAG, and when it left. -/
structure MsgOut where
  msg  : Msg
  tag  : Nat
  sent : Nat
deriving DecidableEq, Repr

/-- A report received since the last commit: position, direction 0 X or 1 Y, SEQ, the 64-bit block, when it arrived. -/
structure RxRep where
  pos : Nat
  dir : Nat
  seq : Nat
  blk : Nat
  vt  : Nat
deriving DecidableEq, Repr

/-- What one returned copy showed: direction, lane end, whether its trailer checked, REFL, RPOS, when it came. -/
structure RxCopy where
  dir  : Nat
  endY : Bool
  seq  : Nat
  trOk : Bool
  refl : Bool
  rpos : Nat
  vt   : Nat
deriving DecidableEq, Repr

/-- A settings load in progress (R195): waiting for the WRITEs among so many queued messages, or sweeps sent with
LOAD_ALL. -/
structure LoadRun where
  waiting : Bool
  sweeps  : Nat
deriving DecidableEq, Repr

/-- One string beside its registers. -/
structure Str where
  /-- when the present state was entered -/
  since     : Nat := 0
  nextSeq   : Nat := 0
  /-- SYNC: consecutive clean ticks, and ticks in SYNC -/
  clean     : Nat := 0
  syncTicks : Nat := 0
  /-- ticks with no valid report in any slot (R196) -/
  deadTicks : Nat := 0
  /-- BLOCK sweeps still to send after STOP -/
  stopLeft  : Option Nat := none
  load      : Option LoadRun := none
  msgs      : List Msg := []
  msgOut    : Option MsgOut := none
  tag       : Nat := 0
  rx        : List RxRep := []
  copies    : List RxCopy := []
  /-- launch instants of recent sweeps: SEQ and time -/
  launched  : List (Nat × Nat) := []
  /-- links shown broken at the last commit and since when, and recent onset times (R216) -/
  broken    : List (Nat × Nat) := []
  onsets    : List (Nat × Nat) := []
  /-- links of the port now held -/
  held      : List Nat := []
  /-- the VC's measurement of link 0 (R198): number and RTT − TURN in picoseconds of each echo; a failed measurement -/
  calVals   : List (Nat × Int) := []
  calFail   : Bool := false
  /-- the cell image load (R225, R227): blocks still to send (0xFFFF the final message), rounds made, when the final
  message left -/
  img       : List Nat := []
  imgRound  : Nat := 0
  imgDone   : Option Nat := none
  assignAt  : Nat := 0
  /-- commands received from a home VC for the coming sweep: position and word (R128) -/
  remoteCmd : List (Nat × Nat) := []
  /-- the string restarted but may not rejoin its running arm (R26, R99) -/
  noRejoin  : Bool := false
  /-- the lane end whose loss in RUN took the last lane of the port (R46) -/
  portLoss  : Option Nat := none
deriving DecidableEq, Repr

/-! ### Lanes (R203 to R219) -/

/-- The synchronisation state machine of clause 36: LOSS_OF_SYNC, COMMA_DETECT_k, ACQUIRE_SYNC_k, and SYNC_ACQUIRED_k with its
good_cgs (R202). -/
inductive Sync36 where
  | loss
  | comma (k : Nat)
  | acquire (k : Nat)
  | acquired (k good : Nat)
deriving DecidableEq, Repr

/-- The receiver's coding at a link end (R202): block lock with its counts of sync headers and of invalid ones, hi_ber with its count
and the start of its window, the time up to which words were taken, the last 58 payload bits; synchronisation, whether the last
code group stood in an even place, and the running disparity, none while the groups before are not known. -/
structure Pcs where
  lock    : Bool := false
  shCnt   : Nat := 0
  shBad   : Nat := 0
  hiBer   : Bool := false
  berCnt  : Nat := 0
  berFrom : Nat := 0
  taken   : Nat := 0
  scr     : List Bool := []
  sync    : Sync36 := .loss
  even    : Bool := false
  rd      : Option Bool := none
deriving DecidableEq, Repr

/-- One end of a serial link beside its status register: the variables of its bring-up (R207, R209), whether the link is
declared lost (R184), and its test and alarm state. -/
structure LaneSt where
  lost      : Bool := false
  /-- since when the receiver has held lock with no LINK_FAULT -/
  okSince   : Nat := 0
  since     : Nat := 0
  target    : Nat := 0
  cur       : Nat := 0
  farNent   : Nat := 1
  foms      : List Nat := []
  lastPass  : Nat := 0
  jstar     : Nat := 0
  switched  : Bool := false
  txSeq     : Nat := 0
  /-- valid frames of the awaited type and rate received in a row (R205) -/
  rxRun     : Nat := 0
  /-- the third of them, once it has come while eight frames of this end's own have not yet been sent (R205) -/
  got       : Option TrainFrame := none
  pcs       : Pcs := {}
  /-- the table entry whose taps and CTLE are set, in a trial that of its last slot; none is the default entry (R209, R212) -/
  entry     : Option Nat := none
  /-- when the link last came into use or left it (R185) -/
  useAt     : Nat := 0
  /-- the FOM_LOW alarm is armed (R214) -/
  fomOff    : Bool := false
  /-- the test checker: correct bits in a row, and the errors of the last 64 bits, newest first (R218) -/
  chkRun    : Nat := 0
  chkWin    : List Bool := []
  /-- the last 31 bits of the pattern as the checker holds it, and those of the generator, newest first (R218) -/
  chkHist   : List Bool := []
  genHist   : List Bool := List.replicate 31 true
deriving DecidableEq, Repr

/-! ### Protection (R134 to R152) -/

/-- One measured channel: each comparator instance's run of over samples and of disagreements, whether its own CRC check
failed during that run (R136, R137); the newest valid sample; totals for means (R69). -/
structure Chan where
  run      : List Nat := [0, 0, 0]
  dis      : List Nat := [0, 0, 0]
  crcBad   : List Bool := [false, false, false]
  isOv    : Bool := false
  tripped  : Bool := false
  lastOk   : Nat := 0
  missed   : Bool := false
  value    : Option Nat := none
  /-- ticks run when the newest valid sample was taken (R69) -/
  inTick   : Option Nat := none
  total    : Int := 0
  num      : Nat := 0
deriving DecidableEq, Repr

/-- An arm token (R150). -/
structure Token where
  home   : Nat := 0
  count  : Nat := 0
  expire : Nat := 0
deriving DecidableEq, Repr

/-- A firing in progress (R151, R152): the facet, slots still to fill, the SEQ of the sweep launched at the effective tick
of the fourth, ticks until that tick, commits after it. -/
structure Firing where
  facet  : Nat
  left   : Nat
  effSeq : Nat := 0
  effIn  : Nat := 0
  after  : Nat := 0
deriving DecidableEq, Repr

/-- Protection beside its registers. -/
structure ProtSt where
  /-- the levels of BLKREQ_A and BLKREQ_B after their filters' input: true is the permit level (R140) -/
  pinA      : Bool := false
  pinB      : Bool := false
  /-- since when a filtered pin differs from the reports of the enabled companion ports (R352) -/
  differAt  : Option Nat := none
  fseq      : Nat := 0
  /-- end of the time in which an earlier flash's two copies are still leaving a lane (R145) -/
  flashEnd  : Nat := 0
  seenCasc  : List (Nat × Nat) := []
  /-- ticks run when a host block was set since the last tick boundary: a deblock at the boundary ends in BLOCK (R305) -/
  blkTick   : Option Nat := none
  chans     : Tab Chan := []
  /-- the values of the comparator instances' own copies that are not those of the registers, by (4 × instance + field) × 32 + channel;
  the instances whose check of their copies fails since the last tick, bit per instance (R137) -/
  copies    : Tab (Option Nat) := []
  crcFail   : Nat := 0
  fseqSeen  : Tab (Option Nat) := []
  lastFrame : Tab Nat := []
  tokens    : Tab Token := []
  fireReq   : List Nat := []
  firing    : Option Firing := none
deriving DecidableEq, Repr

/-! ### Host queues (R287 to R304) -/

/-- The stage of a descriptor in flight: fetched and held, started, or finished with its status and detail. -/
inductive DStage where
  | fetched
  | started
  | done (status detail tick : Nat)
deriving DecidableEq, Repr

/-- A descriptor in flight (R289). -/
structure Desc where
  id    : Nat
  sq    : Nat
  slot  : Nat
  words : List Nat
  stage : DStage := .fetched
  /-- started and still waiting for its effect (R304) -/
  waiting : Bool := false
  /-- a CELL_CLEAR's effective tick and end, a COEF_SWAP's marks, or another type's own number -/
  aux   : Nat := 0
  /-- its queue was reset: it runs to its end and no completion is written (R286) -/
  orphan : Bool := false
  /-- the number of the tick in which a CELL_CLEAR took effect (R290) -/
  eff   : Nat := 0
  /-- while it waits for the tick boundary at which it takes effect: its buffer as it was read (R300) -/
  bound : Option HostBuf := none
deriving DecidableEq, Repr

/-- A change of control-die state, or of the Aperture recorder's, that waits for the next tick boundary (R37, R164, R324). -/
inductive Held where
  /-- a host write: who sent it, its byte enables, its BAR0 offset and its word -/
  | host (req byteEn addr word : Nat)
  /-- item control by a core: OP and item -/
  | core (op item : Nat)
  /-- a core's write of the work-item table, by its BAR0 offset -/
  | table (addr word : Nat)
deriving DecidableEq, Repr

/-- One completion queue beside its registers: entries written and unread are between HEAD and TAIL. -/
structure CqSt where
  unread    : Nat := 0
  reserved  : Nat := 0
  coalCount : Nat := 0
  coalSince : Option Nat := none
deriving DecidableEq, Repr

/-- Who makes the present BAR0 access: the PCIe requester and byte enables, or the boot controller itself (R53). -/
structure Access where
  req      : Nat := 0
  byteEn   : Nat := 15
  internal : Bool := false
  /-- the access was a violation (R53) -/
  bad      : Bool := false
deriving DecidableEq, Repr

/-- The header of a TLP as AER logs it (R285): a write or a read, its Requester ID, its byte enables, its BAR0 offset. -/
structure TlpHdr where
  write  : Bool
  req    : Nat
  byteEn : Nat
  addr   : Nat
deriving DecidableEq, Repr

/-- The registers of the PCIe endpoint outside BAR0 that the model acts by (R284, R285, R291; log 102): of configuration space, and the
MSI-X table of BAR2. The Pending Bit Array is `Vc.pba`. -/
structure PcieSt where
  /-- Unsupported Request and Completer Abort of the AER Uncorrectable Error Status register -/
  ur  : Bool := false
  ca  : Bool := false
  /-- the header log: the TLP of the first error -/
  hdr : Option TlpHdr := none
  /-- Device Control, bits [14:0]; bit 1 is Non-Fatal Error Reporting Enable -/
  devCtl : BitVec 15 := 0
  /-- the Function Mask of MSI-X, and the Mask bit of each vector in the MSI-X table; the table's other words by 4 × vector + word: the
  message address (low, high) and the message data -/
  fmask : Bool := false
  mask : BitVec 32 := 0xFFFFFFFF
  vectors : Tab Nat := []
  /-- the power state is D3hot -/
  d3 : Bool := false
deriving DecidableEq, Repr

/-- The host queues beside their registers. -/
structure HostSt where
  tails    : Tab Nat := []
  cqs      : Tab CqSt := []
  descs    : List Desc := []
  nextId   : Nat := 0
  lastSq   : Nat := 15
  /-- Bus Master Enable (R286) -/
  bme      : Bool := false
  pcie     : PcieSt := {}
  /-- the tag and slot of the last descriptor fetched of each SQ -/
  lastDesc : Tab (Nat × Nat) := []
  /-- the last read of a low word latched this high word: address and value (R9) -/
  latch    : List (Nat × Nat) := []
  /-- the facet whose words 1 to 7 are latched (R109) -/
  facetLatch : Option (Nat × List Nat) := none
  access   : Access := {}
deriving DecidableEq, Repr

end Sys2Proof.Machine
end

