-- ==== Sys2Proof/Machine/StateBoot.lean ====
section
/-!
DEFINITION. Machine/StateBoot.lean: the boot controller and the xSPI unit beside their registers (R355 to R371).
-/
namespace Sys2Proof.Machine

/-- One operation of the flash device (R355): the erase of a 4 KiB sector, or the program of bytes within a page. -/
inductive FOp where
  | erase (a : Nat)
  | prog (a : Nat) (bs : List Nat)
deriving DecidableEq, Repr

/-- What a request of the xSPI unit is for. -/
inductive XKind where
  /-- the pointer write that clears STAGED before a FW_BLOCK WRITE, with what the WRITE is to do (R360) -/
  | fwUnstage (id slot off : Nat) (bytes : List Nat)
  /-- FW_BLOCK WRITE: descriptor, slot, offset, bytes (R360) -/
  | fwWrite (id slot off : Nat) (bytes : List Nat)
  /-- FW_BLOCK VERIFY: the copies of inherited components -/
  | fwVerify (id slot : Nat)
  /-- the pointer write of a VERIFY, with the image's version -/
  | fwStage (id version : Nat)
  /-- FW_BLOCK ACTIVATE: the pointer write -/
  | fwActivate (id : Nat)
  /-- CONFIG_WRITE: the settings copy and the SEQ given (R365) -/
  | config (id copy seq : Nat) (bytes : List Nat)
  /-- the pointer write of CONFIRM (R362) -/
  | confirm
  /-- a LEDGER_READ that waits behind flash programming (R318) -/
  | ledgerRead (id : Nat)
  /-- the ledger's next write (R312), which is not yet settled; closings, and a record with its EVENT_NO and RSEQ -/
  | ledgerWrite
  | ledgerRecord (cls : List (Nat × Nat × Nat)) (q : Option QRec) (ev rseq : Nat)
  /-- HOURS and PCYCLES, and one copy of the statistics, are kept (R315, R317) -/
  | ledgerHours
  | ledgerStats
  /-- formatting: 0 for a blank flash, 1 for CTRL.FORMAT (R316) -/
  | ledgerFormat (why : Nat)
  /-- a start-up record entry of CLR_HISTORY: its START_NO and word 1; a bit of a word of an entry (R369, R370) -/
  | ringEntry (no w1 : Nat)
  | mark (a w n : Nat)
deriving DecidableEq, Repr

/-- A request of the xSPI unit: whether it has begun, and its operations still to do, the first in progress. -/
structure XReq where
  kind  : XKind
  begun : Bool := false
  ops   : List FOp := []
deriving DecidableEq, Repr

/-- The descriptor of a request, if it has one. -/
def XReq.desc (x : XReq) : Option Nat :=
  match x.kind with
  | .fwUnstage id _ _ _ => some id
  | .fwWrite id _ _ _ => some id
  | .fwVerify id _ => some id
  | .fwStage id _ => some id
  | .fwActivate id => some id
  | .config id _ _ _ => some id
  | .ledgerRead id => some id
  | .confirm | .ledgerWrite | .ledgerRecord .. | .ledgerHours | .ledgerStats | .ledgerFormat _ | .ringEntry .. | .mark .. => none

/-- The boot controller beside its registers. -/
structure BootSt where
  /-- requests of the xSPI unit in arrival order, the first being served -/
  xspi      : List XReq := []
  /-- fuses burned (R362); they survive every reset -/
  fused     : Nat := 0
  /-- a start has begun and its steps run; when the present step began -/
  running   : Bool := false
  since     : Nat := 0
  /-- a failure of step FLASH, held over warm resets (R369), and the cause of the reset that ended the last start in the record -/
  flashFail : Bool := false
  endCause  : Option Nat := none
  /-- pointer writes of this start fail -/
  ptrBad    : Bool := false
  /-- flash address of this start's record entry, once step FLASH is done; START_NO of this start -/
  entry     : Option Nat := none
  /-- steps begun, done and marked FAILED in this start -/
  begun     : Nat := 0
  done      : Nat := 0
  failed    : Nat := 0
  /-- the first start since a cold reset: POWER_UP is to be written (R312) -/
  fresh     : Bool := true
  /-- HOURS and PCYCLES are to be taken from flash; the cold reset was a power-up (R315) -/
  cold      : Bool := true
  powerUp   : Bool := true
  /-- dies whose self-test has passed or failed since the last cold reset: bit per die (R370) -/
  passed    : Nat := 0
  tested    : Bool := false
  /-- the last start was a trial that found no settings in its image's range (R366) -/
  incompat  : Bool := false
deriving DecidableEq, Repr

end Sys2Proof.Machine
end

