-- ==== Sys2Proof/Machine/StateComp.lean ====
section
/-!
DEFINITION. Machine/StateComp.lean: a companion port of the VC beside its registers (R351 to R353).
-/
namespace Sys2Proof.Machine

/-- A companion port beside its registers: SEQ of its last request, the request without a valid response yet, requests
since the last valid response, when the last request left, and the access in progress with the requests made for it. -/
structure Comp where
  seq    : Nat := 0
  out    : Option Nat := none
  misses : Nat := 0
  sent   : Option Nat := none
  acc    : Option Nat := none
  tries  : Nat := 0
deriving DecidableEq, Repr

end Sys2Proof.Machine
end

