-- ==== Sys2Proof/Machine/StateLens.lean ====
section
/-!
DEFINITION. Machine/StateLens.lean: the state of the Lens engine that its register map does not hold: coefficient banks,
states and outputs, steps in progress, and the sampled-value subscriptions (R57 to R105).
-/
namespace Sys2Proof.Machine

/-- A step whose inputs have been taken: its results, the phases still to run, and when its inputs were ready. Nothing
of it shows before its Commit, so that a step abandoned or discarded leaves no trace (R65, R96, R102). -/
structure Job where
  /-- nanoseconds after the last facet commit at which the inputs were ready; none while the step has not begun -/
  ready   : Option Int
  /-- lengths in ns of the phases still to run, Commit last -/
  left    : List Nat
  u       : List Nat
  v       : List Nat
  xhat    : List Nat
  xi      : List Nat
  /-- every result is finite (R65) -/
  ok      : Bool
  /-- the bank the step ran under; the descriptor of the swap it applies, if any; whether BUMPLESS found a saturated output -/
  bank    : Nat
  swap    : Option Nat
  swapSat : Bool
  /-- the tick number of the sample and the inputs taken, y before r -/
  sample  : Nat
  ins     : List Nat
deriving DecidableEq, Repr

/-- One loop context beside its registers. -/
structure Ctx where
  /-- coefficients by ((bank × 16 + MATRIX) × 32 + row) × 32 + column; X0 and XI0 under bank 0 (R86) -/
  coef    : Tab Nat := []
  /-- outputs, states and integrators of the last completed step (at START: +0.0, X0, XI0) -/
  u       : List Nat := []
  xhat    : List Nat := []
  xi      : List Nat := []
  /-- last valid value of each element: y element j at j, r element j at 32 + j (R73) -/
  held    : Tab Nat := []
  /-- v of the parent, one and two parent periods back (R77) -/
  v1      : List Nat := []
  v2      : List Nat := []
  /-- the first due tick after START has passed; ticks counted since reset at START (R166) -/
  started : Bool := false
  startAt : Nat := 0
  /-- channel totals and counts at the last due tick, of the channels that had samples (R69) -/
  snap    : Tab (Int × Nat) := []
  /-- outputs that raised a saturation event and whose COUNT has not returned to 0 (R92) -/
  satUp   : Nat := 0
  job     : Option Job := none
deriving DecidableEq, Repr

/-- A sampled-value subscription beside its registers: the newest ASDU's elements as (value, validity good, test bit),
and when it came; whether a first smpCnt has been taken. -/
structure SvSt where
  vals : List (Nat × Bool × Bool) := []
  at_  : Option Nat := none
deriving DecidableEq, Repr

/-- Lens beside its registers: contexts, the steps not yet committed in the order they run, the time a phase
of one of them overran the last facet commit, the protective block requests not yet voted (context, ns after the facet
commit), the critical Lens time of the present tick. -/
structure LensSt where
  ctxs  : Tab Ctx := []
  queue : List Nat := []
  carry : Nat := 0
  reqs  : List (Nat × Nat) := []
  crit  : Nat := 0
  svs   : Tab SvSt := []
deriving DecidableEq, Repr

end Sys2Proof.Machine
end

