-- ==== Sys2Proof/Machine/StateSched.lean ====
section
/-!
DEFINITION. Machine/StateSched.lean: the work scheduler beside its registers (R154 to R170).
-/
namespace Sys2Proof.Machine

/-- A completion or trap noticed and not yet applied at a commit (R159): the item, its result, its trap cause and value, the dies
whose own notice came more than 40 ns after the second one, and the dies whose own result differs. -/
structure Notice where
  item   : Nat
  result : Nat
  trap   : Option (Nat × Nat)
  late   : BitVec 3 := 0
  odd    : BitVec 3 := 0
deriving DecidableEq, Repr

/-- A core's run of an item: the item, when the run started, in commands counted by valve time and order of dispatch, and the
longest time that saving or restoring takes before its first instruction, in 250 ps units (R160, R161). -/
structure Run where
  item  : Nat
  since : Nat
  swap  : Nat := 0
deriving DecidableEq, Repr

/-- What an item holds beside its registers: its fixed deadline, whether that has been checked (R163), and the tick at
which its completion was last applied (R166). -/
structure ItemSt where
  deadline : Option Nat := none
  checked  : Bool := false
  compTick : Option Nat := none
deriving DecidableEq, Repr

/-- The scheduler beside its registers. -/
structure SchedSt where
  /-- runs by core number -/
  runs     : Tab (Option Run) := []
  items    : Tab ItemSt := []
  notices  : List Notice := []
  /-- cancellations requested for the next commit: item, from the host (R164) -/
  cancels  : List (Nat × Bool) := []
  /-- items released by Lens steps, for the next commit (R167) -/
  releases : List Nat := []
  /-- buffered set-point writes: item, set-point, value, oldest first (R169) -/
  setBuf   : List (Nat × Nat × Nat) := []
  /-- items completed and their results of the last commit, as part of the digest (R159) -/
  results  : List (Nat × Nat) := []
  /-- the dies that disagree on the digest of this tick by their notices: late, or with another result (R159) -/
  lateDies : Nat := 0
  oddDies  : Nat := 0
  /-- the cores, the bytes written to their TCMs by 131,072 × core + offset, the save frames in use, and what the windows show of
  the tick (R154, R155, R161) -/
  harts    : Tab Hart := []
  tcm      : Tab (Option Nat) := []
  frames   : List Frame := []
  view     : CoreView := {}
deriving DecidableEq, Repr

end Sys2Proof.Machine
end

