-- ==== Sys2Proof/Machine/StateTime.lean ====
section
/-!
DEFINITION. Machine/StateTime.lean: the valve-time unit beside its registers (R269 to R278).
-/
namespace Sys2Proof.Machine

/-- A master heard of by Announce (R272): its port identity, what it announced, and when its last two Announces came. -/
structure Foreign where
  clock  : Nat
  portNo : Nat
  gm     : GmData
  last   : Nat
  prev   : Option Nat
  /-- its Announce interval in 250 ps units -/
  every  : Nat
deriving DecidableEq, Repr

/-- The valve-time unit beside its registers. Offsets, delays and master times are in 2^-18 ns, in which a VT unit is
65,536. -/
structure TimeSt where
  /-- VT of the last tick instant, if a tick has come since the last reset or step -/
  tickVt   : Option Nat := none
  foreign  : List Foreign := []
  /-- the selected master: its port identity and its grandmaster -/
  master   : Option (Nat × Nat × Nat) := none
  /-- the grandmaster selected last; when the selected master last announced itself, and its Announce interval: they stay while no master
  is selected (R276) -/
  gm       : Option Nat := none
  annAt    : Nat := 0
  annEvery : Nat := 0
  /-- when a Sync of the master last came, and its interval in 250 ps units -/
  lastSync : Nat := 0
  syncEvery : Nat := 0
  /-- a two-step Sync waiting for its Follow_Up: sequenceId, receipt, correction -/
  syncPend : Option (Nat × Nat × Int) := none
  /-- master time of the previous Sync used -/
  prevTime : Option Int := none
  /-- the integral I of R274, and consecutive Syncs within LOCK_NS -/
  integral : Int := 0
  lockRun  : Nat := 0
  /-- the offset a waiting step removes (R275) -/
  stepDue  : Int := 0
  /-- the outstanding Pdelay exchange: sequenceId, t1, when it was sent; then t2, t4 and the corrections of a two-step
  response -/
  pdSeq    : Nat := 0
  pdOut    : Option (Nat × Int × Nat) := none
  pdResp   : Option (Int × Int × Int) := none
  pdFails  : Nat := 0
  /-- meanLinkDelay of PORT[0] and of PORT[1] (R277) -/
  mld0     : Int := 0
  mld1     : Int := 0
  /-- a frame has come over the 1000BASE-X link of PORT[0], of PORT[1] (log 48) -/
  link0    : Bool := false
  link1    : Bool := false
  /-- the low word written to RATE that waits for its high word (log 48) -/
  rateLow  : Option Nat := none
deriving DecidableEq, Repr

/-- meanLinkDelay of a port. -/
def TimeSt.mld (t : TimeSt) (p : Nat) : Int := if p = 0 then t.mld0 else t.mld1

/-- meanLinkDelay of a port is measured anew. -/
def TimeSt.setMld (t : TimeSt) (p : Nat) (d : Int) : TimeSt := if p = 0 then { t with mld0 := d } else { t with mld1 := d }

/-- A frame came over the link of a port. -/
def TimeSt.heard (t : TimeSt) (p : Bool) : TimeSt := if p then { t with link1 := true } else { t with link0 := true }

/-- The link of a port is up (PSTAT.LINK). -/
def TimeSt.link (t : TimeSt) (p : Nat) : Bool := if p = 0 then t.link0 else t.link1

/-- What PTP knows of the masters and of an exchange on the port and in the domain it followed is given up (R272). -/
def TimeSt.forget (t : TimeSt) : TimeSt :=
  { t with foreign := [], master := none, syncPend := none, prevTime := none, pdOut := none, pdResp := none, pdFails := 0 }

end Sys2Proof.Machine
end

