-- ==== Sys2Proof/Machine/Vc.lean ====
section
/-!
DEFINITION. Machine/Vc.lean: the state of one valve controller as plain data (R18), with its flash, its safety companions'
ports, and what it sent during the last command.
-/
namespace Sys2Proof.Machine

/-- The state of one VC. Every field has its value at a cold reset as the default. -/
structure Vc where
  /-- what was sent during the last command -/
  out     : List Emit := []
  /-- valve time, a 64-bit count of 250 ps units, and the fraction below it in 2^-48 units (R269) -/
  vt      : Nat := 0
  frac    : Nat := 0
  /-- 250 ps units of valve time passed, without its steps: what durations are measured on (log 4) -/
  now     : Nat := 0
  /-- the release of the last cold reset: 1 ms after it began (R383) -/
  resetUntil : Nat := 0
  /-- ticks run since the last reset; what is an input of a tick is told by it (R23, R69) -/
  ticks   : Nat := 0
  /-- the model's own counter of free values used (log 20) -/
  free    : Nat := 0
  /-- fields of the VC's registers that differ from their reset values -/
  regs    : Tab Nat := []
  /-- changes that wait for the next tick boundary, oldest first (R37; log 7) -/
  held    : List Held := []
  facets  : Tab Facet := []
  remotes : Tab Remote := []
  arms    : Tab ArmSt := []
  strs    : Tab Str := []
  lanes   : Tab LaneSt := []
  prot    : ProtSt := {}
  host    : HostSt := {}
  ledger  : LedgerSt := {}
  ap      : ApSt := {}
  lens    : LensSt := {}
  sched   : SchedSt := {}
  time    : TimeSt := {}
  casc    : CascSt := {}
  voter   : VoterSt := {}
  boot    : BootSt := {}
  comps   : Tab Comp := []
  /-- the xSPI NOR flash (R355): bytes by address; an unlisted byte reads 0xFF, as erased -/
  flash   : List Host.Cell := []
deriving DecidableEq, Repr

end Sys2Proof.Machine
end

