-- ==== Sys2Proof/Machine/Flash.lean ====
section
/-!
DEFINITION. Machine/Flash.lean: the external NOR flash as bytes by address (R355, R356): reading, erasing, programming.
-/
namespace Sys2Proof.Machine

/-- What an unlisted byte reads as: erased flash. -/
def Memory.blank : Nat → BitVec 8 := fun _ => 0xFF#8

/-- The canonical form of the flash: addresses rising, no entry that reads as erased. -/
def Memory.wf (m : List Host.Cell) : Bool := Tab.wf Memory.blank m

/-- One byte. -/
def Memory.read (m : List Host.Cell) (a : Nat) : BitVec 8 := Tab.get Memory.blank m a

/-- Sets one byte. -/
def Memory.write (m : List Host.Cell) (a : Nat) (b : BitVec 8) : List Host.Cell := Tab.set Memory.blank m a b

/-- Erases `n` bytes from `a`: they read 0xFF. -/
def Memory.erase (m : List Host.Cell) (a n : Nat) : List Host.Cell := m.filter fun e => e.1 < a || decide (a + n ≤ e.1)

/-- Programs bytes from `a`: a bit goes from 1 to 0 only. -/
def Memory.program (m : List Host.Cell) (a : Nat) (bs : List Nat) : List Host.Cell :=
  (bs.foldl (fun (p : List Host.Cell × Nat) b =>
    (Memory.write p.1 p.2 (Memory.read p.1 p.2 &&& BitVec.ofNat 8 b), p.2 + 1)) (m, a)).1

/-- `n` bytes from `a`. -/
def Memory.bytes (m : List Host.Cell) (a n : Nat) : List Nat := (List.range n).map fun i => (Memory.read m (a + i)).toNat

/-- `n` little-endian words from `a`. -/
def Memory.words (m : List Host.Cell) (a n : Nat) : List Nat := wordsOf (Memory.bytes m a (4 * n))

/-- A range holds erased bytes only. -/
def Memory.blankAt (m : List Host.Cell) (a n : Nat) : Bool := m.all fun e => decide (e.1 < a) || decide (a + n ≤ e.1)

/-- Bytes of a write that was cut: each is free (R363, log 20). -/
def Memory.cut (m : List Host.Cell) (use a n : Nat) : List Host.Cell :=
  (List.range n).foldl (fun m i => Memory.write m (a + i) (Config.freeByte use i)) m

/-- A byte that a write which failed or was cut leaves: any but one. -/
def Memory.spoil (m : List Host.Cell) (use a : Nat) (good : BitVec 8) : List Host.Cell :=
  Memory.write m a (if Config.freeByte use a = good then ~~~good else Config.freeByte use a)

/-- Start addresses of the areas of R356. -/
def flashPointer (copy : Nat) : Nat := copy * 0x1000
def flashRing : Nat := 0x2000
def flashSettings (copy : Nat) : Nat := 0x10000 + copy * 0x10000
def flashPerm : Nat := 0x30000
def flashCirc : Nat := 0x34000
def flashHours (copy : Nat) : Nat := 0x45000 + copy * 0x1000
def flashStats (copy : Nat) : Nat := 0x80000 + copy * 0x80000
def flashSlot (slot : Nat) : Nat := 0x200000 + slot * 0x800000

/-! ### Operations of the device (R355) -/

/-- Where an operation acts. -/
def FOp.addr (o : FOp) : Nat :=
  match o with
  | .erase a => a
  | .prog a _ => a

/-- One flash operation that succeeds, and one that fails or is cut: its bytes are then free (R363). -/
def FOp.run (o : FOp) (m : List Host.Cell) : List Host.Cell :=
  match o with
  | .erase a => Memory.erase m a 4096
  | .prog a bs => Memory.program m a bs
def FOp.cut (o : FOp) (use : Nat) (m : List Host.Cell) : List Host.Cell :=
  match o with
  | .erase a => Memory.cut m use a 4096
  | .prog a bs => Memory.cut m use a bs.length

/-- Operations that succeed one after another. -/
def runOps (os : List FOp) (m : List Host.Cell) : List Host.Cell := os.foldl (fun m o => o.run m) m

/-- The erases and page programs that write bytes from an address of a sector. -/
def writeOps (a : Nat) (bs : List Nat) : List FOp :=
  ((List.range (ceilDiv bs.length 4096)).map fun k => FOp.erase (a + 4096 * k)) ++
    (List.range (ceilDiv bs.length 256)).map fun k => .prog (a + 256 * k) ((bs.drop (256 * k)).take 256)

/-! ### Copies of a few words, the newer valid one in force (R315, R359) -/

/-- A copy of four words at the start of its sector: SEQ, two words, CHECK; `none` where CHECK is wrong. -/
def copyAt (m : List Host.Cell) (a : Nat) : Option (Nat × Nat × Nat) :=
  let w := Memory.words m a 4
  if crc32c (bytesOfWords (w.take 3)) = w.getD 3 0 then some (w.getD 0 0, w.getD 1 0, w.getD 2 0) else none

/-- The words of a copy. -/
def copyWords (seq w1 w2 : Nat) : List Nat :=
  let w := [seq % 4294967296, w1, w2]
  w ++ [crc32c (bytesOfWords w)]

/-- The operations that write a copy. -/
def copyOps (a seq w1 w2 : Nat) : List FOp := [.erase a, .prog a (bytesOfWords (copyWords seq w1 w2))]

/-- The copy in force of two: its number, and what it holds. -/
def newerCopy (a b : Option (Nat × Nat × Nat)) : Option (Nat × Nat × Nat × Nat) :=
  match a, b with
  | some a, some b => if a.1 < b.1 then some (1, b) else some (0, a)
  | some a, none => some (0, a)
  | none, some b => some (1, b)
  | none, none => none

/-- The copy to write next, and its SEQ. -/
def nextCopy (c : Option (Nat × Nat × Nat × Nat)) : Nat × Nat :=
  match c with
  | some p => (1 - p.1, p.2.1 + 1)
  | none => (0, 1)

/-- A copy is left invalid by a write that failed or was cut: its CHECK is not that of its words. -/
def spoilCopy (m : List Host.Cell) (use a : Nat) : List Host.Cell :=
  Memory.spoil m use (a + 12) (BitVec.ofNat 8 (crc32c (bytesOfWords (Memory.words m a 3))))

/-- HOURS and PCYCLES as last kept (R315). The spec gives their area no layout: the model keeps two copies in its two sectors, as the
slot pointer is kept (DESIGN CHOICE, log 21). -/
def keptHours (m : List Host.Cell) : Option (Nat × Nat × Nat × Nat) :=
  newerCopy (copyAt m (flashHours 0)) (copyAt m (flashHours 1))

/-! ### The start-up record ring (R369) -/

/-- Entry `i` of the ring, as its words. -/
def ringEntry (m : List Host.Cell) (i : Nat) : List Nat := Memory.words m (flashRing + 32 * i) 8

/-- An entry's CHECK is right. -/
def ringValid (w : List Nat) : Bool := w.getD 7 0 = crc32c (bytesOfWords [w.getD 0 0, w.getD 1 0, w.getD 5 0])

/-- The valid entries with their places; only entries that hold something are read. -/
def ringEntries (m : List Host.Cell) : List (Nat × List Nat) :=
  let is := (m.filterMap fun e => if flashRing ≤ e.1 ∧ e.1 < flashRing + 0x2000 then some ((e.1 - flashRing) / 32) else none).eraseDups
  (is.map fun i => (i, ringEntry m i)).filter fun e => ringValid e.2

/-- Word `w` of the entry of the start `age` before start `no`, its marks inverted to active-high; 0 where there is none
(R372, log 45). -/
def histWord (m : List Host.Cell) (no age w : Nat) : Nat :=
  match (ringEntries m).find? fun e => !bit (e.2.getD 1 0) 26 && e.2.getD 0 0 + age = no with
  | some e => if 2 ≤ w ∧ w ≤ 4 then 0xFFFFFFFF - e.2.getD w 0 else e.2.getD w 0
  | none => 0

end Sys2Proof.Machine
end

