-- ==== Sys2Proof/Machine/Pcs.lean ====
section
/-!
DEFINITION. Machine/Pcs.lean: the coding of the serial lanes (R201 to R203): the 64b/66b scrambler, block lock and hi_ber of clause
49, the 8b/10b code groups, running disparity and synchronisation of clause 36.
-/
namespace Sys2Proof.Machine

/-! ### 64b/66b (clause 49) -/

/-- The self-synchronous scrambler x^58 + x^39 + 1 over payload bits, first sent first (R202): `h` is the last 58 bits sent, newest
first. -/
def scramble (h : List Bool) : List Bool → List Bool × List Bool
  | [] => ([], h)
  | b :: bs =>
    let o := (b != h.getD 38 false) != h.getD 57 false
    let r := scramble ((o :: h).take 58) bs
    (o :: r.1, r.2)

/-- The descrambler: `h` is the last 58 bits received, newest first. -/
def descramble (h : List Bool) : List Bool → List Bool × List Bool
  | [] => ([], h)
  | b :: bs =>
    let o := (b != h.getD 38 false) != h.getD 57 false
    let r := descramble ((b :: h).take 58) bs
    (o :: r.1, r.2)

/-- Bits, first received lowest, as a number. -/
def ofBits (bs : List Bool) : Nat := bs.foldr (fun b n => b2n b + 2 * n) 0

/-- The block lock state machine takes a sync header (clause 49, R203): 64 valid ones in a row lock it, 16 invalid ones within 64
end the lock. -/
def Pcs.header (p : Pcs) (valid : Bool) : Pcs :=
  let n := p.shCnt + 1
  if valid then
    if n = 64 then { p with lock := p.lock || p.shBad = 0, shCnt := 0, shBad := 0 } else { p with shCnt := n }
  else if p.shBad = 15 || !p.lock then { p with lock := false, shCnt := 0, shBad := 0 }
  else if n = 64 then { p with shCnt := 0, shBad := 0 }
  else { p with shCnt := n, shBad := p.shBad + 1 }

/-- The hi_ber monitor's windows up to a time (R202): hi_ber holds until a window ends with fewer than 16 invalid headers. -/
def Pcs.window (p : Pcs) (win now : Nat) : Pcs :=
  let e := (now - p.berFrom) / win
  if e = 0 then p
  else { p with berFrom := p.berFrom + e * win, berCnt := 0, hiBer := p.hiBer && e = 1 && decide (16 ≤ p.berCnt) }

/-- An invalid header within a window. -/
def Pcs.ber (p : Pcs) : Pcs :=
  { p with berCnt := min 16 (p.berCnt + 1), hiBer := p.hiBer || decide (15 ≤ p.berCnt) }

/-- The clause 49 block types other than idle: each is a line error (R172). -/
def lineTypes : List Nat := [0x2D, 0x33, 0x66, 0x55, 0x78, 0x4B, 0x87, 0x99, 0xAA, 0xB4, 0xCC, 0xD2, 0xE1, 0xFF]

/-- The receiver takes one 66-bit block: its state, and whether the block is an error. While fewer than 58 bits before it are known,
its payload is not judged. -/
def Pcs.block (p : Pcs) (w : BitVec 66) : Pcs × Bool :=
  let hd := w.toNat % 4
  let valid := hd = 1 || hd = 2
  let d := descramble p.scr (bitsUp w.toNat 2 64)
  let line := hd = 2 && decide (58 ≤ p.scr.length) && lineTypes.contains (ofBits (d.1.take 8))
  let q := { (if p.lock && !valid then p.ber else p).header valid with scr := d.2 }
  (if q.hiBer then { q with lock := false } else q, !valid || line)

/-- Blocks whose headers were valid have come since the last words taken. -/
def Pcs.quiet (p : Pcs) (n : Nat) : Pcs :=
  if n = 0 then p
  else { p with shCnt := (p.shCnt + n) % 64, shBad := if p.shCnt + n < 64 then p.shBad else 0, scr := [] }

/-! ### 8b/10b (clause 36) -/

/-- The six bits abcdei of D.x.y at negative running disparity, in binary as they are sent. -/
def sixBits : List Nat := [
  0b100111, 0b011101, 0b101101, 0b110001, 0b110101, 0b101001, 0b011001, 0b111000,
  0b111001, 0b100101, 0b010101, 0b110100, 0b001101, 0b101100, 0b011100, 0b010111,
  0b011011, 0b100011, 0b010011, 0b110010, 0b001011, 0b101010, 0b011010, 0b111010,
  0b110011, 0b100110, 0b010110, 0b110110, 0b001110, 0b101110, 0b011110, 0b101011]

/-- The four bits fghj of D.x.y at negative running disparity, the primary form of y = 7. -/
def fourBits : List Nat := [0b1011, 0b1001, 0b0101, 0b1100, 0b1101, 0b1010, 0b0110, 0b1110]

/-- The four bits of K28.y after 001111. -/
def kFour : List Nat := [0b0100, 0b1001, 0b0101, 0b0011, 0b0010, 0b1010, 0b0110, 0b1000]

/-- Ones among the lowest `w` bits. -/
def ones (w n : Nat) : Nat := ((List.range w).filter fun i => bit n i).length

/-- Running disparity after a sub-block of `w` bits. -/
def rdAfter (rd : Bool) (w n : Nat) : Bool := if ones w n * 2 = w then rd else decide (w < ones w n * 2)

/-- The sub-block of an entry at a running disparity: unbalanced ones, 111000 and 1100 are inverted at a positive one. -/
def codeSub (rd : Bool) (w n : Nat) : Nat :=
  if rd && (ones w n * 2 ≠ w || n = 0b111000 || (w = 4 && n = 0b1100)) then 2 ^ w - 1 - n else n

/-- The alternative form of y = 7 is the one that D.x takes (clause 36). -/
def altSeven (rd : Bool) (x : Nat) : Bool :=
  if rd then x = 11 || x = 13 || x = 14 else x = 17 || x = 18 || x = 20

/-- The code group of an octet at a running disparity, first bit highest; K28.y for `k` (R202). The running disparity after it. -/
def codeGroup (rd k : Bool) (octet : Nat) : Nat × Bool :=
  let x := octet % 32
  let y := octet / 32
  if k && x = 28 then
    let g := 0b001111 * 16 + kFour.getD y 0
    let g := if rd then 1023 - g else g
    (g, rdAfter (rdAfter rd 6 (g / 16)) 4 (g % 16))
  else
    let s := codeSub rd 6 (sixBits.getD x 0)
    let r := rdAfter rd 6 s
    let f := if y = 7 && (k || altSeven r x) then codeSub r 4 0b0111 else codeSub r 4 (fourBits.getD y 0)
    (s * 16 + f, rdAfter r 4 f)

/-- The octet of a code group at a running disparity, if it is valid there: whether it is a /K/. -/
def decodeGroup (rd : Bool) (g : Nat) : Option (Bool × Nat) :=
  let k28 := (List.range 8).map fun y => (true, 28 + 32 * y)
  let k7 := [23, 27, 29, 30].map fun x => (true, x + 224)
  let ds := (List.range 256).map fun o => (false, o)
  (k28 ++ k7 ++ ds).find? fun e => (codeGroup rd e.1 e.2).1 = g

/-- A code group holds a comma. -/
def isComma (g : Nat) : Bool := g / 8 = 0b0011111 || g / 8 = 0b1100000

/-- The synchronisation state machine takes a code group (clause 36): whether it is a comma, valid data, and bad: invalid, or a comma
in an odd place. -/
def Sync36.next (s : Sync36) (comma data bad : Bool) : Sync36 :=
  match s with
  | .loss => if comma then .comma 1 else .loss
  | .comma k => if data then (if k = 3 then .acquired 1 0 else .acquire k) else .loss
  | .acquire k => if bad then .loss else if comma then .comma (k + 1) else .acquire k
  | .acquired k n =>
    if bad then (if 4 ≤ k then .loss else .acquired (k + 1) 0)
    else if k = 1 then .acquired 1 0
    else if n = 3 then .acquired (k - 1) 0
    else .acquired k (n + 1)

def Sync36.ok : Sync36 → Bool
  | .acquired _ _ => true
  | _ => false

/-- The receiver takes one code group: its state, and whether the group is invalid. -/
def Pcs.group (p : Pcs) (w : BitVec 10) : Pcs × Bool :=
  let g := w.toNat
  let rd := p.rd.getD ((decodeGroup false g).isNone && (decodeGroup true g).isSome)
  let d := decodeGroup rd g
  let comma := isComma g
  let even := if p.sync = .loss && comma then true else !p.even
  let bad := d.isNone || (comma && !even)
  let data := match d with | some (k, _) => !k | none => false
  ({ p with sync := p.sync.next (comma && d.isSome) data bad, even := even, rd := some (rdAfter (rdAfter rd 6 (g / 16)) 4 (g % 16)) }, d.isNone)

/-- Groups that were good have come since the last words taken: every step of the way back to SYNC_ACQUIRED_1 takes four. -/
def Pcs.good (p : Pcs) (n : Nat) : Pcs :=
  if n = 0 then p
  else
    let sync := match p.sync with
      | .acquired k m => if k - 1 ≤ (m + n) / 4 then .acquired 1 0 else .acquired (k - (m + n) / 4) ((m + n) % 4)
      | x => x
    { p with sync := sync, even := p.even != (n % 2 = 1), rd := none }

/-! ### Words received with errors among them (R203) -/

/-- A run of received words: the receiver, the errors that count, and whether lock was lost. Errors count while the receiver holds
lock, but for the one that ends it; in test every error counts (R219). -/
def takeWords {α : Type} (take : Pcs → α → Pcs × Bool) (locked : Pcs → Bool) (test : Bool) : List α → Pcs → Nat → Pcs × Nat × Bool
  | [], p, n => (p, n, false)
  | w :: ws, p, n =>
    let r := take p w
    if test then takeWords take locked test ws r.1 (n + b2n r.2)
    else if locked p && !locked r.1 then (r.1, n, true)
    else takeWords take locked test ws r.1 (n + b2n (r.2 && locked p))

/-- The time of one 66-bit block at a rate code, and of a code group, in 50 ps units. -/
def wordTime (rate : Nat) : Nat := if rate = 2 then 128 else if rate = 1 then 256 else 160

/-- The receiver at a rate takes words that end now; the ones before them since the last were good. -/
def Pcs.receive (p : Pcs) (rate now : Nat) (test : Bool) (rx : RxWords) : Pcs × Nat × Bool :=
  match rx with
  | .blocks bs =>
    if rate = 0 then (p, 0, false)
    else
      let n := 5 * (now - p.taken) / wordTime rate - bs.length
      let p := { (p.quiet n).window (if rate = 2 then 500000 else 1000000) now with taken := now }
      takeWords Pcs.block (·.lock) test bs p 0
  | .groups gs =>
    if rate ≠ 0 then (p, 0, false)
    else
      let n := 5 * (now - p.taken) / wordTime rate - gs.length
      takeWords Pcs.group (·.sync.ok) test gs { p.good n with taken := now } 0

end Sys2Proof.Machine
end

