-- ==== Sys2Proof/Machine/Link.lean ====
section
/-!
DEFINITION. Machine/Link.lean: the bring-up of one end of a serial link (R204 to R209), the same at a VC lane and at a cell.
-/
namespace Sys2Proof.Machine

/-- One link end: its state and rates as its status register shows them, and its variables. `bst` is BSTATE of R220. -/
structure Lnk where
  bst   : Nat
  rate  : Nat
  best  : Nat
  eqSel : Nat
  st    : LaneSt
deriving DecidableEq, Repr

/-- What one end brings to its training: its NODE code, the highest rate it accepts, its entries, its FOM_MIN, and whether
it accepts any target rate (R206). -/
structure LnkCfg where
  node   : Nat
  max    : Nat
  nent   : Nat
  fomMin : Nat
  anyT   : Bool
deriving DecidableEq, Repr

/-- What a step of training sends and reports; `entries` are the table entries it sets one after another, none the default. -/
structure LnkOut where
  l        : Lnk
  frame    : Option TrainFrame := none
  entries  : List (Option Nat) := []
  rateFail : Bool := false
  mismatch : Bool := false
deriving DecidableEq, Repr

/-! ### Training frames (R204) -/

/-- The training frame of given words 0 to 2 and FOMMIN. -/
def trainFrame (w0 w1 w2 fomMin : Nat) : TrainFrame :=
  let n := w0 + w1 * 4294967296 + w2 * 18446744073709551616 + fomMin % 256 * 79228162514264337593543950336
  { w0 := BitVec.ofNat 32 w0, w1 := BitVec.ofNat 32 w1, w2 := BitVec.ofNat 32 w2
    w3 := BitVec.ofNat 32 (fomMin % 256 + check16 (bitsUp n 0 112) * 65536) }

end Sys2Proof.Machine
namespace Sys2Proof
open Machine

def TrainFrame.type (f : TrainFrame) : Nat := bits f.w0.toNat 7 0
def TrainFrame.maxRate (f : TrainFrame) : Nat := bits f.w0.toNat 17 16
def TrainFrame.rate (f : TrainFrame) : Nat := bits f.w0.toNat 19 18
def TrainFrame.nent (f : TrainFrame) : Nat := bits f.w0.toNat 23 20
def TrainFrame.chosen (f : TrainFrame) : Nat := bits f.w0.toNat 26 24
def TrainFrame.node (f : TrainFrame) : Nat := bits f.w0.toNat 31 28
def TrainFrame.fomMin (f : TrainFrame) : Nat := bits f.w3.toNat 7 0
def TrainFrame.foms (f : TrainFrame) : List Nat := bytesOf f.w1.toNat 4 ++ bytesOf f.w2.toNat 4

/-- A frame is valid when its CHECK is correct and its FTYPE and NODE are not reserved (R204). -/
def TrainFrame.valid (f : TrainFrame) : Bool :=
  let n := f.w0.toNat + f.w1.toNat * 4294967296 + f.w2.toNat * 18446744073709551616 +
    f.w3.toNat % 65536 * 79228162514264337593543950336
  decide (f.w3.toNat / 65536 = check16 (bitsUp n 0 112)) && decide (1 ≤ f.type) && decide (f.type ≤ 4) &&
    decide (1 ≤ f.node) && decide (f.node ≤ 3)

end Sys2Proof
namespace Sys2Proof.Machine

/-- A frame of this end: FTYPE, RATE, CHOSEN, and its FOM vector in a RESULT. -/
def Lnk.frame (l : Lnk) (c : LnkCfg) (type rate chosen : Nat) : TrainFrame :=
  let fv := if type = 3 then l.st.foms else []
  let byte (i : Nat) := fv.getD i 0 % 256
  trainFrame (type + l.st.txSeq % 256 * 256 + c.max * 65536 + rate * 262144 + c.nent * 1048576 + chosen * 16777216 +
      c.node * 268435456)
    (byte 0 + byte 1 * 256 + byte 2 * 65536 + byte 3 * 16777216)
    (byte 4 + byte 5 * 256 + byte 6 * 65536 + byte 7 * 16777216) c.fomMin

/-- The end sends training frames. -/
def Lnk.sends (l : Lnk) : Bool := l.bst = 2 || l.bst = 3 || l.bst = 5 || (l.bst = 6 && !l.st.switched)

/-- A training frame takes 136 ns: 17 code groups at 1.25 Gb/s (R201, R204), in 250 ps units. -/
def frameTime : Nat := 544

/-- The end goes to a state at a time; the frames that it sent until now, back to back, have taken their SEQ (R204, R205). -/
def Lnk.goto (l : Lnk) (now bst : Nat) : Lnk :=
  { l with
    bst := bst
    st := { l.st with
      since := now, rxRun := 0, got := none
      txSeq := if l.sends then (l.st.txSeq + (now - l.st.since) / frameTime + 1) % 256 else l.st.txSeq } }

/-- The end goes to a state at a time, sending a frame from now on. -/
def Lnk.goSend (l : Lnk) (c : LnkCfg) (now bst type rate chosen : Nat) : LnkOut :=
  let l := l.goto now bst
  { l := l, frame := some (l.frame c type rate chosen) }

/-- The coding starts anew at a change of rate (R202). -/
def Lnk.recode (l : Lnk) : Lnk := { l with st := { l.st with pcs := {} } }

/-- Valid frames are received only in synchronisation (R202, R207). -/
def Pcs.synced (p : Pcs) : Pcs := if p.sync.ok then p else { p with sync := .acquired 1 0, rd := none }

/-- A valid frame while frames of a type and rate are awaited (R205): the phase is over with the third of them in a row, once
eight frames of this end's own have been sent; until then that third frame is kept. -/
def Lnk.awaited (l : Lnk) (now type rate : Nat) (f : TrainFrame) : Lnk × Bool :=
  if f.type = type ∧ f.rate = rate then
    let n := l.st.rxRun + 1
    let sent := decide (l.st.since + 8 * frameTime ≤ now)
    ({ l with st := { l.st with
        rxRun := n, pcs := l.st.pcs.synced, got := if 3 ≤ n ∧ l.st.got = none then some f else l.st.got } }, decide (3 ≤ n) && sent)
  else ({ l with st := { l.st with rxRun := 0, pcs := l.st.pcs.synced } }, false)

/-- A frame that fails R204, or of another kind, ends a run of frames. -/
def Lnk.otherFrame (l : Lnk) : Lnk := { l with st := { l.st with rxRun := 0 } }

/-- The table entry is set. -/
def Lnk.setEntry (l : Lnk) (e : Option Nat) : Lnk := { l with st := { l.st with entry := e } }

/-! ### The states of R207 -/

/-- Bring-up starts: 1.25 Gb/s, the default entry, CAP frames. -/
def Lnk.start (l : Lnk) (c : LnkCfg) (now : Nat) : LnkOut :=
  let o := ({ l with rate := 0, st := { l.st with lastPass := 0, foms := [], pcs := {} } }).goSend c now 2 1 0 0
  { o with l := { o.l with st := { o.l.st with switched := false, entry := none } }, entries := [none] }

/-- BACKOFF: electrical idle for 1 ms. -/
def Lnk.backoff (l : Lnk) (now : Nat) : Lnk :=
  let l := (l.goto now 8).recode
  { l with rate := 0, st := { l.st with switched := false } }

/-- The link is dropped without a loss: OFF. -/
def Lnk.off (l : Lnk) (now : Nat) : Lnk :=
  let l := (l.goto now 0).recode
  { l with rate := 0, st := { l.st with lost := false, switched := false, useAt := now } }

/-- LOCK_1G is over: the target rate is formed (R206), and R = 5.15625 Gb/s. -/
def Lnk.capTaken (l : Lnk) (c : LnkCfg) (now : Nat) (f : TrainFrame) : LnkOut :=
  let t := min c.max f.maxRate
  if t ≠ c.max ∧ ¬ c.anyT then { l := l.backoff now, rateFail := true }
  else ({ l with st := { l.st with target := t, cur := 1, farNent := f.nent } }).goSend c now 3 2 1 0

/-- CAP received in LOCK_1G. -/
def Lnk.cap (l : Lnk) (c : LnkCfg) (now : Nat) (f : TrainFrame) : LnkOut :=
  if l.bst ≠ 2 then { l := l.otherFrame }
  else if !(l.awaited now 1 0 f).2 then { l := (l.awaited now 1 0 f).1 }
  else l.capTaken c now f

/-- E of R207. -/
def Lnk.slots (l : Lnk) (c : LnkCfg) : Nat := max c.nent l.st.farNent

/-- STEP is over: the end switches to R for the trial, in whose slot j it sets entry min(j, n − 1) (R209). -/
def Lnk.stepTaken (l : Lnk) (c : LnkCfg) (now : Nat) : LnkOut :=
  let es := (List.range (l.slots c)).map fun j => some (min j (c.nent - 1))
  { l := (({ l.goto now 4 with rate := l.st.cur }).setEntry (es.getLast?.getD none)).recode, entries := es }

/-- STEP(R) received in STEP. -/
def Lnk.step (l : Lnk) (c : LnkCfg) (now : Nat) (f : TrainFrame) : LnkOut :=
  if l.bst ≠ 3 then { l := l.otherFrame }
  else if !(l.awaited now 2 l.st.cur f).2 then { l := (l.awaited now 2 l.st.cur f).1 }
  else l.stepTaken c now

/-- The trial slots have run: the end returns to 1.25 Gb/s, with the default entry, and sends RESULT with its FOM vector; a slot
in which the receiver was not locked gives FOM 0 (R209). -/
def Lnk.trialDone (l : Lnk) (c : LnkCfg) (now : Nat) (foms : List (Option Nat)) : LnkOut :=
  if l.bst = 4 ∧ l.st.since + l.slots c * 160000 ≤ now then
    let o := ({ l with rate := 0, st := { l.st with foms := (foms.map fun (m : Option Nat) => m.getD 0 % 256).take (l.slots c) } }).goSend c now 5 3 l.st.cur 0
    { o with l := (o.l.setEntry none).recode, entries := [none] }
  else { l := l }

/-- j* of R209: the entry with the largest of the weaker figures, the lowest among equals; and that figure. -/
def chooseEntry (own far : List Nat) (e : Nat) : Nat × Nat :=
  (List.range e).foldl (fun (b : Nat × Nat) j =>
    let m := min (own.getD j 0) (far.getD j 0)
    if j = 0 ∨ b.2 < m then (j, m) else b) (0, 0)

/-- RESULT is over: the choice of R209. -/
def Lnk.resultTaken (l : Lnk) (c : LnkCfg) (now : Nat) (f : TrainFrame) : LnkOut :=
  let jm := chooseEntry l.st.foms f.foms (l.slots c)
  if jm.2 < max c.fomMin f.fomMin then
    { l := ({ l with best := l.st.lastPass }).backoff now, rateFail := true }
  else
    let l := { l with best := l.st.cur, st := { l.st with lastPass := l.st.cur, jstar := jm.1 } }
    if l.st.cur < l.st.target then
      ({ l with st := { l.st with cur := l.st.cur + 1 } }).goSend c now 3 2 (l.st.cur + 1) 0
    else l.goSend c now 6 4 l.st.target jm.1

/-- RESULT(R) received in RESULT. -/
def Lnk.result (l : Lnk) (c : LnkCfg) (now : Nat) (f : TrainFrame) : LnkOut :=
  if l.bst ≠ 5 then { l := l.otherFrame }
  else if !(l.awaited now 3 l.st.cur f).2 then { l := (l.awaited now 3 l.st.cur f).1 }
  else l.resultTaken c now f

/-- GO has been received: the end switches to T with j*, or records the mismatch. -/
def Lnk.goTaken (l : Lnk) (now : Nat) (f : TrainFrame) : LnkOut :=
  if f.chosen = l.st.jstar then
    let x := l.goto now 6
    { l := { x with rate := l.st.target, st := { x.st with switched := true, entry := some l.st.jstar, pcs := {} } }
      entries := [some l.st.jstar] }
  else { l := l.backoff now, mismatch := true }

/-- GO received in FINAL. -/
def Lnk.go (l : Lnk) (now : Nat) (f : TrainFrame) : LnkOut :=
  if l.bst ≠ 6 ∨ l.st.switched then { l := l.otherFrame }
  else if !(l.awaited now 4 l.st.target f).2 then { l := (l.awaited now 4 l.st.target f).1 }
  else l.goTaken now f

/-- An end that had its three frames first goes on once eight of its own are sent (R205); the step shows with what happens next at
the link (log 112). -/
def Lnk.settle (l : Lnk) (c : LnkCfg) (now : Nat) : LnkOut :=
  match l.st.got with
  | some f =>
    let t := l.st.since + 8 * frameTime
    if now < t then { l := l }
    else match l.bst with
      | 2 => l.capTaken c t f
      | 3 => l.stepTaken c t
      | 5 => l.resultTaken c t f
      | 6 => if l.st.switched then { l := l } else l.goTaken t f
      | _ => { l := l }
  | none => { l := l }

/-- Block lock within 20 µs of the switch: the end is UP. -/
def Lnk.blockLock (l : Lnk) (now : Nat) : Lnk :=
  if l.bst = 6 ∧ l.st.switched ∧ now ≤ l.st.since + 80000 then
    { l with bst := 7, eqSel := l.st.jstar, rate := l.st.target, st := { l.st with
        since := now, okSince := now, useAt := now, pcs := { lock := true, berFrom := now, taken := now } } }
  else l

/-- No block lock within 20 µs. -/
def Lnk.finalTimeout (l : Lnk) (now : Nat) : Lnk :=
  if l.bst = 6 ∧ l.st.switched ∧ l.st.since + 80000 ≤ now then l.backoff now else l

/-- Loss of sync, or no progress for 1 ms, in LOCK_1G to FINAL. -/
def Lnk.bringupTimeout (l : Lnk) (now : Nat) : Lnk := if 2 ≤ l.bst ∧ l.bst ≤ 6 then l.backoff now else l

/-- 2 µs in FAULT_TX, or 1 ms in BACKOFF, have passed. -/
def Lnk.again (l : Lnk) (c : LnkCfg) (now bst wait : Nat) : LnkOut :=
  if l.bst = bst ∧ l.st.since + wait ≤ now then l.start c now else { l := l }

/-- UP is left on a loss of lock or a LINK_FAULT (R184, R207). -/
def Lnk.lose (l : Lnk) (now : Nat) : Lnk :=
  { l with bst := 1, rate := 0, st := { l.st with since := now, lost := true, switched := false, rxRun := 0, useAt := now, pcs := {} } }

/-- The link returns to use: this receiver has held lock, with no LINK_FAULT, for 1 ms (R184). -/
def Lnk.back (l : Lnk) (now : Nat) : Lnk :=
  if l.bst = 7 ∧ l.st.lost ∧ l.st.okSince + 4000000 ≤ now then { l with st := { l.st with lost := false, useAt := now } } else l

/-- The link carries traffic. -/
def Lnk.inUse (l : Lnk) : Bool := l.bst = 7 && !l.st.lost

/-! ### The test patterns (R218) -/

/-- The taps of a PRBS pattern by its code; CODED is no PRBS. -/
def prbsTaps : Nat → Option (Nat × Nat)
  | 0 => some (7, 6)
  | 1 => some (15, 14)
  | 2 => some (31, 28)
  | _ => none

/-- The bit of a PRBS that follows the last bits, newest first. -/
def prbsNext (t : Nat × Nat) (h : List Bool) : Bool := h.getD (t.1 - 1) false != h.getD (t.2 - 1) false

/-- The generator's next bits. -/
def LaneSt.generate (x : LaneSt) (t : Nat × Nat) (n : Nat) : LaneSt × List Bool :=
  (List.range n).foldl (fun (a : LaneSt × List Bool) _ =>
    let b := prbsNext t a.1.genHist
    ({ a.1 with genHist := b :: a.1.genHist.take 30 }, a.2 ++ [b])) (x, [])

/-- The checker takes one bit of a PRBS as it stands without inversion (R218): whether it is locked after it, and, while it was
locked, whether the bit was an error. 64 correct bits in a row lock it, and more than 16 errors within 64 bits unlock it. Without
lock it goes by the bits received, locked by its own sequence. -/
def LaneSt.check (x : LaneSt) (locked : Bool) (t : Nat × Nat) (b : Bool) : LaneSt × Bool × Option Bool :=
  let want := prbsNext t x.chkHist
  if locked then
    let win := ((want != b) :: x.chkWin).take 64
    if 16 < (win.filter id).length then ({ x with chkRun := 0, chkWin := [], chkHist := [] }, false, some (want != b))
    else ({ x with chkWin := win, chkHist := want :: x.chkHist.take 30 }, true, some (want != b))
  else
    let run := if t.1 ≤ x.chkHist.length && want == b then x.chkRun + 1 else 0
    let x := { x with chkHist := b :: x.chkHist.take 30 }
    if 64 ≤ run then ({ x with chkRun := 0, chkWin := [] }, true, none) else ({ x with chkRun := run }, false, none)

/-- The bits that reach a checker in test: those received, less the inversion, or with LOOP the generator's own, none while it is
off. -/
def LaneSt.testInput (x : LaneSt) (t : Nat × Nat) (gen loop inv : Bool) (rx : List Bool) : LaneSt × List Bool :=
  if !loop then (x, rx.map fun b => b != inv)
  else if gen then x.generate t rx.length
  else (x, [])

/-- LINK_FAULT of R184 and R172: the sender's position, and the CRC-16. -/
def linkFaultBlock (pos : Nat) : Nat :=
  let low := 0x5C + 0xA3 * 256 + pos * 65536
  low + check16 (bitsUp low 0 48) * 281474976710656

/-- PROBE and ECHO blocks of R198 (R172); the bits the rule does not name are 0. -/
def probeBlock (num : Nat) : Nat := 0x6C + 0x93 * 256 + num * 65536
def echoBlock (num turn : Nat) : Nat := 0x71 + 0x8E * 256 + num * 65536 + turn % 65536 * 16777216

end Sys2Proof.Machine
end

