-- ==== Sys2Proof/Machine/RegMap.lean ====
section
/-!
DEFINITION. Machine/RegMap.lean: the registers of the VC's BAR0, one field and one row per entry of the register maps of spec/ (R36, R54 to R56, R89, R105, R132, R153, R170, R199, R220, R283, R309, R326, R327, R353, R372).
-/
namespace Sys2Proof.Machine

/-! ### GLOBAL (R54, spec/02_valve_controller_structure.md) -/

/-- GLOBAL.ID.PART [31:16] -/
def Reg.GLOBAL.ID.PART : Fld := ⟨0, 16, 17928, 17928, false, false⟩
/-- GLOBAL.ID.GRADE [15:12] -/
def Reg.GLOBAL.ID.GRADE : Fld := ⟨1, 4, 15, 15, false, false⟩
/-- GLOBAL.ID.LINK_REV [11:8] -/
def Reg.GLOBAL.ID.LINK_REV : Fld := ⟨2, 4, 1, 1, false, false⟩
/-- GLOBAL.ID.CTRL_REV [7:4] -/
def Reg.GLOBAL.ID.CTRL_REV : Fld := ⟨3, 4, 1, 1, false, false⟩
/-- GLOBAL.TICKCFG.LOCK [31:31] -/
def Reg.GLOBAL.TICKCFG.LOCK : Fld := ⟨4, 1, 0, 0, true, false⟩
/-- GLOBAL.TICKCFG.TP_NS [14:0] -/
def Reg.GLOBAL.TICKCFG.TP_NS : Fld := ⟨5, 15, 2000, 2000, false, false⟩
/-- GLOBAL.STATUS.TP_SHORT [1:1] -/
def Reg.GLOBAL.STATUS.TP_SHORT : Fld := ⟨6, 1, 0, 0, false, false⟩
/-- GLOBAL.STATUS.BLOCKED [0:0] -/
def Reg.GLOBAL.STATUS.BLOCKED : Fld := ⟨7, 1, 1, 1, false, false⟩
/-- GLOBAL.RESETCTL.KEY [31:16] -/
def Reg.GLOBAL.RESETCTL.KEY : Fld := ⟨8, 16, 0, 0, false, false⟩
/-- GLOBAL.RESETCTL.WARM [0:0] -/
def Reg.GLOBAL.RESETCTL.WARM : Fld := ⟨9, 1, 0, 0, false, false⟩
/-- GLOBAL.RESETCAUSE.CAUSE [2:0] -/
def Reg.GLOBAL.RESETCAUSE.CAUSE : Fld := ⟨10, 3, 0, 0, true, false⟩

def rowsVcGlobal0 : List Row := [
  ⟨0x0, 1, 0x0, 1, 0x0, .plain, none, false, .none, [⟨16, 16, Reg.GLOBAL.ID.PART, 0, .ro, []⟩, ⟨12, 4, Reg.GLOBAL.ID.GRADE, 0, .ro, []⟩, ⟨8, 4, Reg.GLOBAL.ID.LINK_REV, 0, .ro, []⟩, ⟨4, 4, Reg.GLOBAL.ID.CTRL_REV, 0, .ro, []⟩]⟩,
  ⟨0x4, 1, 0x0, 1, 0x0, .tickcfg, some Reg.GLOBAL.TICKCFG.LOCK, false, .none, [⟨31, 1, Reg.GLOBAL.TICKCFG.LOCK, 0, .lock, []⟩, ⟨0, 15, Reg.GLOBAL.TICKCFG.TP_NS, 0, .rwl, [(1000, 20000)]⟩]⟩,
  ⟨0x8, 1, 0x0, 1, 0x0, .plain, none, false, .none, [⟨1, 1, Reg.GLOBAL.STATUS.TP_SHORT, 0, .w1c, []⟩, ⟨0, 1, Reg.GLOBAL.STATUS.BLOCKED, 0, .ro, []⟩]⟩,
  ⟨0xc, 1, 0x0, 1, 0x0, .resetctl, none, false, .none, [⟨16, 16, Reg.GLOBAL.RESETCTL.KEY, 0, .wo, []⟩, ⟨0, 1, Reg.GLOBAL.RESETCTL.WARM, 0, .wo, []⟩]⟩,
  ⟨0x10, 1, 0x0, 1, 0x0, .plain, none, false, .none, [⟨0, 3, Reg.GLOBAL.RESETCAUSE.CAUSE, 0, .ro, []⟩]⟩]

/-! ### VOTER (R55, spec/02_valve_controller_structure.md) -/

/-- VOTER.CFG.LOCK [31:31] -/
def Reg.VOTER.CFG.LOCK : Fld := ⟨11, 1, 0, 0, true, false⟩
/-- VOTER.CFG.AUTO_REALIGN [8:8] -/
def Reg.VOTER.CFG.AUTO_REALIGN : Fld := ⟨12, 1, 1, 1, false, false⟩
/-- VOTER.CFG.DIS_TICKS [3:0] -/
def Reg.VOTER.CFG.DIS_TICKS : Fld := ⟨13, 4, 3, 3, false, false⟩
/-- VOTER.CTRL.KEY [31:16] -/
def Reg.VOTER.CTRL.KEY : Fld := ⟨14, 16, 0, 0, false, false⟩
/-- VOTER.CTRL.ASIDE [6:4] -/
def Reg.VOTER.CTRL.ASIDE : Fld := ⟨15, 3, 0, 0, false, false⟩
/-- VOTER.CTRL.REALIGN [2:0] -/
def Reg.VOTER.CTRL.REALIGN : Fld := ⟨16, 3, 0, 0, false, false⟩
/-- VOTER.STATUS.REALIGN_FAILS [21:20] -/
def Reg.VOTER.STATUS.REALIGN_FAILS : Fld := ⟨17, 2, 0, 0, true, false⟩
/-- VOTER.STATUS.REF_DIE [17:16] -/
def Reg.VOTER.STATUS.REF_DIE : Fld := ⟨18, 2, 0, 0, false, false⟩
/-- VOTER.STATUS.MODE [13:12] -/
def Reg.VOTER.STATUS.MODE : Fld := ⟨19, 2, 0, 0, false, false⟩
/-- VOTER.STATUS.STATE_C [11:9] -/
def Reg.VOTER.STATUS.STATE_C : Fld := ⟨20, 3, 0, 0, false, false⟩
/-- VOTER.STATUS.STATE_B [8:6] -/
def Reg.VOTER.STATUS.STATE_B : Fld := ⟨21, 3, 0, 0, false, false⟩
/-- VOTER.STATUS.STATE_A [5:3] -/
def Reg.VOTER.STATUS.STATE_A : Fld := ⟨22, 3, 0, 0, false, false⟩
/-- VOTER.ERRSTAT.DOUBLE_FAULT [7:7] -/
def Reg.VOTER.ERRSTAT.DOUBLE_FAULT : Fld := ⟨23, 1, 0, 0, false, false⟩
/-- VOTER.ERRSTAT.REALIGN_FAIL [6:6] -/
def Reg.VOTER.ERRSTAT.REALIGN_FAIL : Fld := ⟨24, 1, 0, 0, false, false⟩
/-- VOTER.ERRSTAT.DUAL_DISAGREE [5:5] -/
def Reg.VOTER.ERRSTAT.DUAL_DISAGREE : Fld := ⟨25, 1, 0, 0, false, false⟩
/-- VOTER.ERRSTAT.NO_MAJORITY [4:4] -/
def Reg.VOTER.ERRSTAT.NO_MAJORITY : Fld := ⟨26, 1, 0, 0, false, false⟩
/-- VOTER.ERRSTAT.CHANNEL_DOWN [3:3] -/
def Reg.VOTER.ERRSTAT.CHANNEL_DOWN : Fld := ⟨27, 1, 0, 0, false, false⟩
/-- VOTER.ERRSTAT.ASIDE [2:0] -/
def Reg.VOTER.ERRSTAT.ASIDE : Fld := ⟨28, 3, 0, 0, false, false⟩
/-- VOTER.DISCNT.COUNT [31:0] -/
def Reg.VOTER.DISCNT.COUNT : Fld := ⟨29, 32, 0, 0, true, false⟩

def rowsVcVoter0 : List Row := [
  ⟨0x20000, 1, 0x0, 1, 0x0, .plain, some Reg.VOTER.CFG.LOCK, false, .none, [⟨31, 1, Reg.VOTER.CFG.LOCK, 0, .lock, []⟩, ⟨8, 1, Reg.VOTER.CFG.AUTO_REALIGN, 0, .rwl, []⟩, ⟨0, 4, Reg.VOTER.CFG.DIS_TICKS, 0, .rwl, [(1, 15)]⟩]⟩,
  ⟨0x20004, 1, 0x0, 1, 0x0, .voterctl, none, false, .none, [⟨16, 16, Reg.VOTER.CTRL.KEY, 0, .wo, []⟩, ⟨4, 3, Reg.VOTER.CTRL.ASIDE, 0, .wo, []⟩, ⟨0, 3, Reg.VOTER.CTRL.REALIGN, 0, .wo, []⟩]⟩,
  ⟨0x20008, 1, 0x0, 1, 0x0, .plain, none, false, .none, [⟨20, 2, Reg.VOTER.STATUS.REALIGN_FAILS, 0, .ro, []⟩, ⟨16, 2, Reg.VOTER.STATUS.REF_DIE, 0, .ro, []⟩, ⟨12, 2, Reg.VOTER.STATUS.MODE, 0, .ro, []⟩, ⟨9, 3, Reg.VOTER.STATUS.STATE_C, 0, .ro, []⟩, ⟨6, 3, Reg.VOTER.STATUS.STATE_B, 0, .ro, []⟩, ⟨3, 3, Reg.VOTER.STATUS.STATE_A, 0, .ro, []⟩]⟩,
  ⟨0x2000c, 1, 0x0, 1, 0x0, .plain, none, false, .none, [⟨7, 1, Reg.VOTER.ERRSTAT.DOUBLE_FAULT, 0, .w1c, []⟩, ⟨6, 1, Reg.VOTER.ERRSTAT.REALIGN_FAIL, 0, .w1c, []⟩, ⟨5, 1, Reg.VOTER.ERRSTAT.DUAL_DISAGREE, 0, .w1c, []⟩, ⟨4, 1, Reg.VOTER.ERRSTAT.NO_MAJORITY, 0, .w1c, []⟩, ⟨3, 1, Reg.VOTER.ERRSTAT.CHANNEL_DOWN, 0, .w1c, []⟩, ⟨0, 3, Reg.VOTER.ERRSTAT.ASIDE, 0, .w1c, []⟩]⟩,
  ⟨0x20010, 3, 0x4, 1, 0x0, .plain, none, false, .none, [⟨0, 32, Reg.VOTER.DISCNT.COUNT, 0, .ro, []⟩]⟩]

/-! ### ERR (R56, spec/02_valve_controller_structure.md) -/

/-- ERR.VIOL_ADDR.ADDR [21:0] -/
def Reg.ERR.VIOL_ADDR.ADDR : Fld := ⟨30, 22, 0, 0, false, false⟩
/-- ERR.VIOL_INFO.REQ_ID [31:16] -/
def Reg.ERR.VIOL_INFO.REQ_ID : Fld := ⟨31, 16, 0, 0, false, false⟩
/-- ERR.VIOL_INFO.INTERNAL [12:12] -/
def Reg.ERR.VIOL_INFO.INTERNAL : Fld := ⟨32, 1, 0, 0, false, false⟩
/-- ERR.VIOL_INFO.BYTE_EN [11:8] -/
def Reg.ERR.VIOL_INFO.BYTE_EN : Fld := ⟨33, 4, 0, 0, false, false⟩
/-- ERR.VIOL_INFO.WRITE [7:7] -/
def Reg.ERR.VIOL_INFO.WRITE : Fld := ⟨34, 1, 0, 0, false, false⟩
/-- ERR.VIOL_INFO.CAUSE [3:2] -/
def Reg.ERR.VIOL_INFO.CAUSE : Fld := ⟨35, 2, 0, 0, false, false⟩
/-- ERR.VIOL_INFO.OVERFLOW [1:1] -/
def Reg.ERR.VIOL_INFO.OVERFLOW : Fld := ⟨36, 1, 0, 0, false, false⟩
/-- ERR.VIOL_INFO.VALID [0:0] -/
def Reg.ERR.VIOL_INFO.VALID : Fld := ⟨37, 1, 0, 0, false, false⟩
/-- ERR.VIOL_CNT.COUNT [31:0] -/
def Reg.ERR.VIOL_CNT.COUNT : Fld := ⟨38, 32, 0, 0, true, false⟩
/-- ERR.SUMMARY.SYSTEM [17:15] -/
def Reg.ERR.SUMMARY.SYSTEM : Fld := ⟨39, 3, 0, 0, false, false⟩
/-- ERR.SUMMARY.PACKAGE [14:12] -/
def Reg.ERR.SUMMARY.PACKAGE : Fld := ⟨40, 3, 0, 0, false, false⟩
/-- ERR.SUMMARY.DIE [11:9] -/
def Reg.ERR.SUMMARY.DIE : Fld := ⟨41, 3, 0, 0, false, false⟩
/-- ERR.SUMMARY.REGION [8:6] -/
def Reg.ERR.SUMMARY.REGION : Fld := ⟨42, 3, 0, 0, false, false⟩
/-- ERR.SUMMARY.CLUSTER [5:3] -/
def Reg.ERR.SUMMARY.CLUSTER : Fld := ⟨43, 3, 0, 0, false, false⟩
/-- ERR.SUMMARY.UNIT [2:0] -/
def Reg.ERR.SUMMARY.UNIT : Fld := ⟨44, 3, 0, 0, false, false⟩
/-- ERR.LAST.LEVEL [31:29] -/
def Reg.ERR.LAST.LEVEL : Fld := ⟨45, 3, 0, 0, false, false⟩
/-- ERR.LAST.CLASS [28:26] -/
def Reg.ERR.LAST.CLASS : Fld := ⟨46, 3, 0, 0, false, false⟩
/-- ERR.LAST.DIE [25:24] -/
def Reg.ERR.LAST.DIE : Fld := ⟨47, 2, 0, 0, false, false⟩
/-- ERR.LAST.REGION [23:22] -/
def Reg.ERR.LAST.REGION : Fld := ⟨48, 2, 0, 0, false, false⟩
/-- ERR.LAST.LADDER [21:21] -/
def Reg.ERR.LAST.LADDER : Fld := ⟨49, 1, 0, 0, false, false⟩
/-- ERR.LAST.CODE [15:0] -/
def Reg.ERR.LAST.CODE : Fld := ⟨50, 16, 0, 0, false, false⟩
/-- ERR.LAST_VT.VT [63:0] -/
def Reg.ERR.LAST_VT.VT : Fld := ⟨51, 64, 0, 0, false, false⟩
/-- ERR.CTRL.CLR_SUMMARY [0:0] -/
def Reg.ERR.CTRL.CLR_SUMMARY : Fld := ⟨52, 1, 0, 0, false, false⟩

def rowsVcErr0 : List Row := [
  ⟨0x160000, 1, 0x0, 1, 0x0, .plain, none, false, .none, [⟨0, 22, Reg.ERR.VIOL_ADDR.ADDR, 0, .ro, []⟩]⟩,
  ⟨0x160004, 1, 0x0, 1, 0x0, .violinfo, none, false, .none, [⟨16, 16, Reg.ERR.VIOL_INFO.REQ_ID, 0, .ro, []⟩, ⟨12, 1, Reg.ERR.VIOL_INFO.INTERNAL, 0, .ro, []⟩, ⟨8, 4, Reg.ERR.VIOL_INFO.BYTE_EN, 0, .ro, []⟩, ⟨7, 1, Reg.ERR.VIOL_INFO.WRITE, 0, .ro, []⟩, ⟨2, 2, Reg.ERR.VIOL_INFO.CAUSE, 0, .ro, []⟩, ⟨1, 1, Reg.ERR.VIOL_INFO.OVERFLOW, 0, .ro, []⟩, ⟨0, 1, Reg.ERR.VIOL_INFO.VALID, 0, .w1c, []⟩]⟩,
  ⟨0x160008, 1, 0x0, 1, 0x0, .plain, none, false, .none, [⟨0, 32, Reg.ERR.VIOL_CNT.COUNT, 0, .ro, []⟩]⟩,
  ⟨0x16000c, 1, 0x0, 1, 0x0, .plain, none, false, .none, [⟨15, 3, Reg.ERR.SUMMARY.SYSTEM, 0, .ro, []⟩, ⟨12, 3, Reg.ERR.SUMMARY.PACKAGE, 0, .ro, []⟩, ⟨9, 3, Reg.ERR.SUMMARY.DIE, 0, .ro, []⟩, ⟨6, 3, Reg.ERR.SUMMARY.REGION, 0, .ro, []⟩, ⟨3, 3, Reg.ERR.SUMMARY.CLUSTER, 0, .ro, []⟩, ⟨0, 3, Reg.ERR.SUMMARY.UNIT, 0, .ro, []⟩]⟩,
  ⟨0x160010, 1, 0x0, 1, 0x0, .plain, none, false, .none, [⟨29, 3, Reg.ERR.LAST.LEVEL, 0, .ro, []⟩, ⟨26, 3, Reg.ERR.LAST.CLASS, 0, .ro, []⟩, ⟨24, 2, Reg.ERR.LAST.DIE, 0, .ro, []⟩, ⟨22, 2, Reg.ERR.LAST.REGION, 0, .ro, []⟩, ⟨21, 1, Reg.ERR.LAST.LADDER, 0, .ro, []⟩, ⟨0, 16, Reg.ERR.LAST.CODE, 0, .ro, []⟩]⟩,
  ⟨0x160014, 1, 0x0, 1, 0x0, .plain, none, false, .low, [⟨0, 32, Reg.ERR.LAST_VT.VT, 0, .ro, []⟩]⟩,
  ⟨0x160018, 1, 0x0, 1, 0x0, .plain, none, false, .high, [⟨0, 32, Reg.ERR.LAST_VT.VT, 32, .ro, []⟩]⟩,
  ⟨0x16001c, 1, 0x0, 1, 0x0, .errctl, none, false, .none, [⟨0, 1, Reg.ERR.CTRL.CLR_SUMMARY, 0, .wo, []⟩]⟩]

/-! ### CASCADE (R36, spec/01_converter_architecture.md) -/

/-- CASCADE.CFG.LOCK [31:31] -/
def Reg.CASCADE.CFG.LOCK : Fld := ⟨53, 1, 0, 0, true, false⟩
/-- CASCADE.CFG.VC_COUNT [12:8] -/
def Reg.CASCADE.CFG.VC_COUNT : Fld := ⟨54, 5, 1, 1, false, false⟩
/-- CASCADE.CFG.VC_ID [7:4] -/
def Reg.CASCADE.CFG.VC_ID : Fld := ⟨55, 4, 0, 0, false, false⟩
/-- CASCADE.CFG.ROLE [1:0] -/
def Reg.CASCADE.CFG.ROLE : Fld := ⟨56, 2, 0, 0, false, false⟩
/-- CASCADE.CTRL.STOP [1:1] -/
def Reg.CASCADE.CTRL.STOP : Fld := ⟨57, 1, 0, 0, false, false⟩
/-- CASCADE.CTRL.START [0:0] -/
def Reg.CASCADE.CTRL.START : Fld := ⟨58, 1, 0, 0, false, false⟩
/-- CASCADE.STATUS.LANE_OK [19:16] -/
def Reg.CASCADE.STATUS.LANE_OK : Fld := ⟨59, 4, 0, 0, false, false⟩
/-- CASCADE.STATUS.DEPTH [11:8] -/
def Reg.CASCADE.STATUS.DEPTH : Fld := ⟨60, 4, 0, 0, false, false⟩
/-- CASCADE.STATUS.READY [3:3] -/
def Reg.CASCADE.STATUS.READY : Fld := ⟨61, 1, 0, 0, false, false⟩
/-- CASCADE.STATUS.STATE [2:0] -/
def Reg.CASCADE.STATUS.STATE : Fld := ⟨62, 3, 0, 0, false, false⟩
/-- CASCADE.ERRSTAT.ENUM_TIMEOUT [5:5] -/
def Reg.CASCADE.ERRSTAT.ENUM_TIMEOUT : Fld := ⟨63, 1, 0, 0, false, false⟩
/-- CASCADE.ERRSTAT.BUDGET_FAIL [4:4] -/
def Reg.CASCADE.ERRSTAT.BUDGET_FAIL : Fld := ⟨64, 1, 0, 0, false, false⟩
/-- CASCADE.ERRSTAT.ID_CONFLICT [3:3] -/
def Reg.CASCADE.ERRSTAT.ID_CONFLICT : Fld := ⟨65, 1, 0, 0, false, false⟩
/-- CASCADE.ERRSTAT.PAIR_LOST [2:2] -/
def Reg.CASCADE.ERRSTAT.PAIR_LOST : Fld := ⟨66, 1, 0, 0, false, false⟩
/-- CASCADE.ERRSTAT.LANE_LOST [1:1] -/
def Reg.CASCADE.ERRSTAT.LANE_LOST : Fld := ⟨67, 1, 0, 0, false, false⟩
/-- CASCADE.ERRSTAT.COPY_ERR [0:0] -/
def Reg.CASCADE.ERRSTAT.COPY_ERR : Fld := ⟨68, 1, 0, 0, false, false⟩
/-- CASCADE.HOPDLY.UP_DELAY [15:0] -/
def Reg.CASCADE.HOPDLY.UP_DELAY : Fld := ⟨69, 16, 0, 0, false, false⟩
/-- CASCADE.COPYCNT.COUNT [31:0] -/
def Reg.CASCADE.COPYCNT.COUNT : Fld := ⟨70, 32, 0, 0, true, false⟩

def rowsVcCascade0 : List Row := [
  ⟨0x130000, 1, 0x0, 1, 0x0, .cascfg, some Reg.CASCADE.CFG.LOCK, false, .none, [⟨31, 1, Reg.CASCADE.CFG.LOCK, 0, .lock, []⟩, ⟨8, 5, Reg.CASCADE.CFG.VC_COUNT, 0, .rwl, []⟩, ⟨4, 4, Reg.CASCADE.CFG.VC_ID, 0, .ro, []⟩, ⟨0, 2, Reg.CASCADE.CFG.ROLE, 0, .rwl, [(0, 2)]⟩]⟩,
  ⟨0x130004, 1, 0x0, 1, 0x0, .casctl, none, false, .none, [⟨1, 1, Reg.CASCADE.CTRL.STOP, 0, .wo, []⟩, ⟨0, 1, Reg.CASCADE.CTRL.START, 0, .wo, []⟩]⟩,
  ⟨0x130008, 1, 0x0, 1, 0x0, .plain, none, false, .none, [⟨16, 4, Reg.CASCADE.STATUS.LANE_OK, 0, .ro, []⟩, ⟨8, 4, Reg.CASCADE.STATUS.DEPTH, 0, .ro, []⟩, ⟨3, 1, Reg.CASCADE.STATUS.READY, 0, .ro, []⟩, ⟨0, 3, Reg.CASCADE.STATUS.STATE, 0, .ro, []⟩]⟩,
  ⟨0x13000c, 1, 0x0, 1, 0x0, .plain, none, false, .none, [⟨5, 1, Reg.CASCADE.ERRSTAT.ENUM_TIMEOUT, 0, .w1c, []⟩, ⟨4, 1, Reg.CASCADE.ERRSTAT.BUDGET_FAIL, 0, .w1c, []⟩, ⟨3, 1, Reg.CASCADE.ERRSTAT.ID_CONFLICT, 0, .w1c, []⟩, ⟨2, 1, Reg.CASCADE.ERRSTAT.PAIR_LOST, 0, .w1c, []⟩, ⟨1, 1, Reg.CASCADE.ERRSTAT.LANE_LOST, 0, .w1c, []⟩, ⟨0, 1, Reg.CASCADE.ERRSTAT.COPY_ERR, 0, .w1c, []⟩]⟩,
  ⟨0x130010, 1, 0x0, 1, 0x0, .plain, none, false, .none, [⟨0, 16, Reg.CASCADE.HOPDLY.UP_DELAY, 0, .ro, []⟩]⟩,
  ⟨0x130014, 1, 0x0, 1, 0x0, .plain, none, false, .none, [⟨0, 32, Reg.CASCADE.COPYCNT.COUNT, 0, .ro, []⟩]⟩]

/-! ### LENS (R89, spec/03_lens_control_engine.md) -/

/-- LENS.CFG.LOCK [31:31] -/
def Reg.LENS.CFG.LOCK : Fld := ⟨71, 1, 0, 0, true, false⟩
/-- LENS.CFG.TL_TICKS [6:0] -/
def Reg.LENS.CFG.TL_TICKS : Fld := ⟨72, 7, 1, 1, false, false⟩
/-- LENS.STATUS.FAULT [31:16] -/
def Reg.LENS.STATUS.FAULT : Fld := ⟨73, 16, 0, 0, false, false⟩
/-- LENS.STATUS.RUNNING [15:0] -/
def Reg.LENS.STATUS.RUNNING : Fld := ⟨74, 16, 0, 0, false, false⟩
/-- LENS.TICKNO.TICKNO [63:0] -/
def Reg.LENS.TICKNO.TICKNO : Fld := ⟨75, 64, 0, 0, false, false⟩
/-- LENS.CRITLOAD.MAX_NS [31:16] -/
def Reg.LENS.CRITLOAD.MAX_NS : Fld := ⟨76, 16, 0, 0, false, false⟩
/-- LENS.CRITLOAD.LAST_NS [15:0] -/
def Reg.LENS.CRITLOAD.LAST_NS : Fld := ⟨77, 16, 0, 0, false, false⟩
/-- LENS.CTRL.CLR_LOAD [0:0] -/
def Reg.LENS.CTRL.CLR_LOAD : Fld := ⟨78, 1, 0, 0, false, false⟩
/-- LENS.SETPT.VALUE [31:0] -/
def Reg.LENS.SETPT.VALUE : Fld := ⟨79, 32, 0, 0, false, false⟩
/-- SVSUB.CTL.ENABLE [31:31] -/
def Reg.SVSUB.CTL.ENABLE : Fld := ⟨80, 1, 0, 0, false, false⟩
/-- SVSUB.CTL.PORT [30:30] -/
def Reg.SVSUB.CTL.PORT : Fld := ⟨81, 1, 0, 0, false, false⟩
/-- SVSUB.CTL.TEST_OK [29:29] -/
def Reg.SVSUB.CTL.TEST_OK : Fld := ⟨82, 1, 0, 0, false, false⟩
/-- SVSUB.CTL.REQ_SYNC [28:28] -/
def Reg.SVSUB.CTL.REQ_SYNC : Fld := ⟨83, 1, 1, 1, false, false⟩
/-- SVSUB.CTL.RATE [18:16] -/
def Reg.SVSUB.CTL.RATE : Fld := ⟨84, 3, 0, 0, false, false⟩
/-- SVSUB.CTL.APPID [15:0] -/
def Reg.SVSUB.CTL.APPID : Fld := ⟨85, 16, 0, 0, false, false⟩
/-- SVSUB.DMAC_LO.DMAC_LO [31:0] -/
def Reg.SVSUB.DMAC_LO.DMAC_LO : Fld := ⟨86, 32, 0, 0, false, false⟩
/-- SVSUB.DMAC_HI.DMAC_HI [15:0] -/
def Reg.SVSUB.DMAC_HI.DMAC_HI : Fld := ⟨87, 16, 0, 0, false, false⟩
/-- SVSUB.SVID_CRC.SVID_CRC [31:0] -/
def Reg.SVSUB.SVID_CRC.SVID_CRC : Fld := ⟨88, 32, 0, 0, false, false⟩
/-- SVSUB.CONFREV.CONFREV [31:0] -/
def Reg.SVSUB.CONFREV.CONFREV : Fld := ⟨89, 32, 0, 0, false, false⟩
/-- SVSUB.SVSTAT.LOCKED [31:31] -/
def Reg.SVSUB.SVSTAT.LOCKED : Fld := ⟨90, 1, 0, 0, false, false⟩
/-- SVSUB.SVSTAT.SYNCH [30:30] -/
def Reg.SVSUB.SVSTAT.SYNCH : Fld := ⟨91, 1, 0, 0, false, false⟩
/-- SVSUB.SVSTAT.REJECTED [29:29] -/
def Reg.SVSUB.SVSTAT.REJECTED : Fld := ⟨92, 1, 0, 0, false, false⟩
/-- SVSUB.SVSTAT.LAST_SMPCNT [15:0] -/
def Reg.SVSUB.SVSTAT.LAST_SMPCNT : Fld := ⟨93, 16, 0, 0, false, false⟩
/-- SVSUB.SVGAPS.COUNT [31:0] -/
def Reg.SVSUB.SVGAPS.COUNT : Fld := ⟨94, 32, 0, 0, false, false⟩
/-- CTX.CFG0.NI [26:22] -/
def Reg.CTX.CFG0.NI : Fld := ⟨95, 5, 0, 0, false, false⟩
/-- CTX.CFG0.NR [21:17] -/
def Reg.CTX.CFG0.NR : Fld := ⟨96, 5, 0, 0, false, false⟩
/-- CTX.CFG0.NY [16:11] -/
def Reg.CTX.CFG0.NY : Fld := ⟨97, 6, 0, 0, false, false⟩
/-- CTX.CFG0.NU [10:6] -/
def Reg.CTX.CFG0.NU : Fld := ⟨98, 5, 1, 1, false, false⟩
/-- CTX.CFG0.NX [5:0] -/
def Reg.CTX.CFG0.NX : Fld := ⟨99, 6, 1, 1, false, false⟩
/-- CTX.CFG1.PARENT_EN [31:31] -/
def Reg.CTX.CFG1.PARENT_EN : Fld := ⟨100, 1, 0, 0, false, false⟩
/-- CTX.CFG1.PARENT [27:24] -/
def Reg.CTX.CFG1.PARENT : Fld := ⟨101, 4, 0, 0, false, false⟩
/-- CTX.CFG1.RATE_DIV [12:0] -/
def Reg.CTX.CFG1.RATE_DIV : Fld := ⟨102, 13, 1, 1, false, false⟩
/-- CTX.CFG2.HANDOVER [31:30] -/
def Reg.CTX.CFG2.HANDOVER : Fld := ⟨103, 2, 0, 0, false, false⟩
/-- CTX.CFG2.FREEZE_BLK [29:29] -/
def Reg.CTX.CFG2.FREEZE_BLK : Fld := ⟨104, 1, 0, 0, false, false⟩
/-- CTX.CFG2.START_BANK [28:28] -/
def Reg.CTX.CFG2.START_BANK : Fld := ⟨105, 1, 0, 0, false, false⟩
/-- CTX.CFG2.DELAY_TICKS [26:24] -/
def Reg.CTX.CFG2.DELAY_TICKS : Fld := ⟨106, 3, 0, 0, false, false⟩
/-- CTX.CFG2.INV_LIMIT [23:18] -/
def Reg.CTX.CFG2.INV_LIMIT : Fld := ⟨107, 6, 8, 8, false, false⟩
/-- CTX.CFG2.OFFSET [17:0] -/
def Reg.CTX.CFG2.OFFSET : Fld := ⟨108, 18, 0, 0, false, false⟩
/-- CTX.CTRL.STOP [1:1] -/
def Reg.CTX.CTRL.STOP : Fld := ⟨109, 1, 0, 0, false, false⟩
/-- CTX.CTRL.START [0:0] -/
def Reg.CTX.CTRL.START : Fld := ⟨110, 1, 0, 0, false, false⟩
/-- CTX.STATUS.CFG_CODE [31:28] -/
def Reg.CTX.STATUS.CFG_CODE : Fld := ⟨111, 4, 0, 0, false, false⟩
/-- CTX.STATUS.DEPTH [25:24] -/
def Reg.CTX.STATUS.DEPTH : Fld := ⟨112, 2, 0, 0, false, false⟩
/-- CTX.STATUS.BANK [20:20] -/
def Reg.CTX.STATUS.BANK : Fld := ⟨113, 1, 0, 0, false, false⟩
/-- CTX.STATUS.INV_RUN [13:8] -/
def Reg.CTX.STATUS.INV_RUN : Fld := ⟨114, 6, 0, 0, false, false⟩
/-- CTX.STATUS.STATE [1:0] -/
def Reg.CTX.STATUS.STATE : Fld := ⟨115, 2, 0, 0, false, false⟩
/-- CTX.ERR.PARENT_HELD [5:5] -/
def Reg.CTX.ERR.PARENT_HELD : Fld := ⟨116, 1, 0, 0, false, false⟩
/-- CTX.ERR.INV_FAULT [4:4] -/
def Reg.CTX.ERR.INV_FAULT : Fld := ⟨117, 1, 0, 0, false, false⟩
/-- CTX.ERR.NONFINITE [3:3] -/
def Reg.CTX.ERR.NONFINITE : Fld := ⟨118, 1, 0, 0, false, false⟩
/-- CTX.ERR.IN_INVALID [2:2] -/
def Reg.CTX.ERR.IN_INVALID : Fld := ⟨119, 1, 0, 0, false, false⟩
/-- CTX.ERR.START_REFUSED [1:1] -/
def Reg.CTX.ERR.START_REFUSED : Fld := ⟨120, 1, 0, 0, false, false⟩
/-- CTX.SAMPLES.COUNT [63:0] -/
def Reg.CTX.SAMPLES.COUNT : Fld := ⟨121, 64, 0, 0, false, false⟩
/-- CTX.STEPNS.MAX_NS [31:16] -/
def Reg.CTX.STEPNS.MAX_NS : Fld := ⟨122, 16, 0, 0, false, false⟩
/-- CTX.STEPNS.LAST_NS [15:0] -/
def Reg.CTX.STEPNS.LAST_NS : Fld := ⟨123, 16, 0, 0, false, false⟩
/-- CTX.YMAP.SRC [31:28] -/
def Reg.CTX.YMAP.SRC : Fld := ⟨124, 4, 0, 0, false, false⟩
/-- CTX.YMAP.MEAN [27:27] -/
def Reg.CTX.YMAP.MEAN : Fld := ⟨125, 1, 0, 0, false, false⟩
/-- CTX.YMAP.IDX_A [15:8] -/
def Reg.CTX.YMAP.IDX_A : Fld := ⟨126, 8, 0, 0, false, false⟩
/-- CTX.YMAP.IDX_B [7:0] -/
def Reg.CTX.YMAP.IDX_B : Fld := ⟨127, 8, 0, 0, false, false⟩
/-- CTX.YSCALE.SCALE [31:0] -/
def Reg.CTX.YSCALE.SCALE : Fld := ⟨128, 32, 1065353216, 1065353216, false, false⟩
/-- CTX.YOFFS.OFFSET [31:0] -/
def Reg.CTX.YOFFS.OFFSET : Fld := ⟨129, 32, 0, 0, false, false⟩
/-- CTX.RMAP.SRC [31:28] -/
def Reg.CTX.RMAP.SRC : Fld := ⟨130, 4, 0, 0, false, false⟩
/-- CTX.RMAP.MEAN [27:27] -/
def Reg.CTX.RMAP.MEAN : Fld := ⟨131, 1, 0, 0, false, false⟩
/-- CTX.RMAP.IDX_A [15:8] -/
def Reg.CTX.RMAP.IDX_A : Fld := ⟨132, 8, 0, 0, false, false⟩
/-- CTX.RMAP.IDX_B [7:0] -/
def Reg.CTX.RMAP.IDX_B : Fld := ⟨133, 8, 0, 0, false, false⟩
/-- CTX.RSCALE.SCALE [31:0] -/
def Reg.CTX.RSCALE.SCALE : Fld := ⟨134, 32, 1065353216, 1065353216, false, false⟩
/-- CTX.ROFFS.OFFSET [31:0] -/
def Reg.CTX.ROFFS.OFFSET : Fld := ⟨135, 32, 0, 0, false, false⟩
/-- CTX.OMAP.DEST [31:28] -/
def Reg.CTX.OMAP.DEST : Fld := ⟨136, 4, 0, 0, false, false⟩
/-- CTX.OMAP.IDX [7:0] -/
def Reg.CTX.OMAP.IDX : Fld := ⟨137, 8, 0, 0, false, false⟩
/-- CTX.IMAP.OU [13:10] -/
def Reg.CTX.IMAP.OU : Fld := ⟨138, 4, 0, 0, false, false⟩
/-- CTX.IMAP.YI [9:5] -/
def Reg.CTX.IMAP.YI : Fld := ⟨139, 5, 0, 0, false, false⟩
/-- CTX.IMAP.RI [3:0] -/
def Reg.CTX.IMAP.RI : Fld := ⟨140, 4, 0, 0, false, false⟩
/-- CTX.U.VALUE [31:0] -/
def Reg.CTX.U.VALUE : Fld := ⟨141, 32, 0, 0, false, false⟩
/-- CTX.XHAT.VALUE [31:0] -/
def Reg.CTX.XHAT.VALUE : Fld := ⟨142, 32, 0, 0, false, false⟩
/-- CTX.XI.VALUE [31:0] -/
def Reg.CTX.XI.VALUE : Fld := ⟨143, 32, 0, 0, false, false⟩
/-- SUP.CFG.OVR_LIMIT [15:12] -/
def Reg.SUP.CFG.OVR_LIMIT : Fld := ⟨144, 4, 3, 3, false, false⟩
/-- SUP.CFG.SAT_BLK [9:9] -/
def Reg.SUP.CFG.SAT_BLK : Fld := ⟨145, 1, 0, 0, false, false⟩
/-- SUP.CFG.SAT_MODE [8:8] -/
def Reg.SUP.CFG.SAT_MODE : Fld := ⟨146, 1, 0, 0, false, false⟩
/-- SUP.CFG.SAT_ACTION [5:4] -/
def Reg.SUP.CFG.SAT_ACTION : Fld := ⟨147, 2, 0, 0, false, false⟩
/-- SUP.CFG.FAULT_ACTION [1:0] -/
def Reg.SUP.CFG.FAULT_ACTION : Fld := ⟨148, 2, 2, 2, false, false⟩
/-- SUP.STAT.PEND_POLICY [9:8] -/
def Reg.SUP.STAT.PEND_POLICY : Fld := ⟨149, 2, 0, 0, false, false⟩
/-- SUP.STAT.PEND_BANK [7:7] -/
def Reg.SUP.STAT.PEND_BANK : Fld := ⟨150, 1, 0, 0, false, false⟩
/-- SUP.STAT.SWAP_PEND [6:6] -/
def Reg.SUP.STAT.SWAP_PEND : Fld := ⟨151, 1, 0, 0, false, false⟩
/-- SUP.STAT.OVR_CAUSE [5:5] -/
def Reg.SUP.STAT.OVR_CAUSE : Fld := ⟨152, 1, 0, 0, false, false⟩
/-- SUP.STAT.OVR_RUN [3:0] -/
def Reg.SUP.STAT.OVR_RUN : Fld := ⟨153, 4, 0, 0, false, false⟩
/-- SUP.ERR.BLOCK_REQ [4:4] -/
def Reg.SUP.ERR.BLOCK_REQ : Fld := ⟨154, 1, 0, 0, false, false⟩
/-- SUP.ERR.SWAP_SAT [3:3] -/
def Reg.SUP.ERR.SWAP_SAT : Fld := ⟨155, 1, 0, 0, false, false⟩
/-- SUP.ERR.SAT_EVENT [2:2] -/
def Reg.SUP.ERR.SAT_EVENT : Fld := ⟨156, 1, 0, 0, false, false⟩
/-- SUP.ERR.OVR_FAULT [1:1] -/
def Reg.SUP.ERR.OVR_FAULT : Fld := ⟨157, 1, 0, 0, false, false⟩
/-- SUP.ERR.OVR [0:0] -/
def Reg.SUP.ERR.OVR : Fld := ⟨158, 1, 0, 0, false, false⟩
/-- SUP.OVRCNT.COUNT [31:0] -/
def Reg.SUP.OVRCNT.COUNT : Fld := ⟨159, 32, 0, 0, true, false⟩
/-- SUP.SATNOW.HIGH [31:16] -/
def Reg.SUP.SATNOW.HIGH : Fld := ⟨160, 16, 0, 0, false, false⟩
/-- SUP.SATNOW.LOW [15:0] -/
def Reg.SUP.SATNOW.LOW : Fld := ⟨161, 16, 0, 0, false, false⟩
/-- SUP.SATEV.EVENT [15:0] -/
def Reg.SUP.SATEV.EVENT : Fld := ⟨162, 16, 0, 0, false, false⟩
/-- SUP.SATCFG.SAT_EN [15:0] -/
def Reg.SUP.SATCFG.SAT_EN : Fld := ⟨163, 16, 0, 0, false, false⟩
/-- SUP.SATLIM.LIMIT [23:0] -/
def Reg.SUP.SATLIM.LIMIT : Fld := ⟨164, 24, 0, 0, false, false⟩
/-- SUP.SATTIME.COUNT [23:0] -/
def Reg.SUP.SATTIME.COUNT : Fld := ⟨165, 24, 0, 0, false, false⟩
/-- LENS.LOADCHK.LIMIT_NS [31:16] -/
def Reg.LENS.LOADCHK.LIMIT_NS : Fld := ⟨166, 16, 128, 128, false, false⟩
/-- LENS.LOADCHK.WC_NS [15:0] -/
def Reg.LENS.LOADCHK.WC_NS : Fld := ⟨167, 16, 0, 0, false, false⟩
/-- LENS.BLKSRC.CTX [15:0] -/
def Reg.LENS.BLKSRC.CTX : Fld := ⟨168, 16, 0, 0, false, false⟩

def rowsVcLens0 : List Row := [
  ⟨0x30000, 1, 0x0, 1, 0x0, .lenscfg, some Reg.LENS.CFG.LOCK, false, .none, [⟨31, 1, Reg.LENS.CFG.LOCK, 0, .lock, []⟩, ⟨0, 7, Reg.LENS.CFG.TL_TICKS, 0, .rwl, [(1, 64)]⟩]⟩,
  ⟨0x30004, 1, 0x0, 1, 0x0, .plain, none, false, .none, [⟨16, 16, Reg.LENS.STATUS.FAULT, 0, .ro, []⟩, ⟨0, 16, Reg.LENS.STATUS.RUNNING, 0, .ro, []⟩]⟩,
  ⟨0x30008, 1, 0x0, 1, 0x0, .plain, none, false, .low, [⟨0, 32, Reg.LENS.TICKNO.TICKNO, 0, .ro, []⟩]⟩,
  ⟨0x3000c, 1, 0x0, 1, 0x0, .plain, none, false, .high, [⟨0, 32, Reg.LENS.TICKNO.TICKNO, 32, .ro, []⟩]⟩,
  ⟨0x30010, 1, 0x0, 1, 0x0, .plain, none, false, .none, [⟨16, 16, Reg.LENS.CRITLOAD.MAX_NS, 0, .ro, []⟩, ⟨0, 16, Reg.LENS.CRITLOAD.LAST_NS, 0, .ro, []⟩]⟩,
  ⟨0x30014, 1, 0x0, 1, 0x0, .lensctl, none, false, .none, [⟨0, 1, Reg.LENS.CTRL.CLR_LOAD, 0, .wo, []⟩]⟩,
  ⟨0x30100, 64, 0x4, 1, 0x0, .setpt, none, false, .none, [⟨0, 32, Reg.LENS.SETPT.VALUE, 0, .rw, []⟩]⟩,
  ⟨0x30200, 8, 0x20, 1, 0x0, .svctl, none, false, .none, [⟨31, 1, Reg.SVSUB.CTL.ENABLE, 0, .rw, []⟩, ⟨30, 1, Reg.SVSUB.CTL.PORT, 0, .rw, []⟩, ⟨29, 1, Reg.SVSUB.CTL.TEST_OK, 0, .rw, []⟩, ⟨28, 1, Reg.SVSUB.CTL.REQ_SYNC, 0, .rw, []⟩, ⟨16, 3, Reg.SVSUB.CTL.RATE, 0, .rw, []⟩, ⟨0, 16, Reg.SVSUB.CTL.APPID, 0, .rw, []⟩]⟩,
  ⟨0x30204, 8, 0x20, 1, 0x0, .svfield, none, false, .none, [⟨0, 32, Reg.SVSUB.DMAC_LO.DMAC_LO, 0, .rw, []⟩]⟩,
  ⟨0x30208, 8, 0x20, 1, 0x0, .svfield, none, false, .none, [⟨0, 16, Reg.SVSUB.DMAC_HI.DMAC_HI, 0, .rw, []⟩]⟩,
  ⟨0x3020c, 8, 0x20, 1, 0x0, .svfield, none, false, .none, [⟨0, 32, Reg.SVSUB.SVID_CRC.SVID_CRC, 0, .rw, []⟩]⟩,
  ⟨0x30210, 8, 0x20, 1, 0x0, .svfield, none, false, .none, [⟨0, 32, Reg.SVSUB.CONFREV.CONFREV, 0, .rw, []⟩]⟩]

/-- LENS, on from SVSTAT. A write to the read-only SVGAPS (0x30218) while ENABLE is 1 is ignored and no access violation
(DESIGN CHOICE, log 110). -/
def rowsVcLens1 : List Row := [
  ⟨0x30214, 8, 0x20, 1, 0x0, .svfield, none, false, .none, [⟨31, 1, Reg.SVSUB.SVSTAT.LOCKED, 0, .ro, []⟩, ⟨30, 1, Reg.SVSUB.SVSTAT.SYNCH, 0, .ro, []⟩, ⟨29, 1, Reg.SVSUB.SVSTAT.REJECTED, 0, .w1c, []⟩, ⟨0, 16, Reg.SVSUB.SVSTAT.LAST_SMPCNT, 0, .ro, []⟩]⟩,
  ⟨0x30218, 8, 0x20, 1, 0x0, .plain, none, false, .none, [⟨0, 32, Reg.SVSUB.SVGAPS.COUNT, 0, .ro, []⟩]⟩,
  ⟨0x3021c, 8, 0x20, 1, 0x0, .plain, none, false, .none, []⟩,
  ⟨0x31000, 16, 0x800, 1, 0x0, .ctxcfg, none, false, .none, [⟨22, 5, Reg.CTX.CFG0.NI, 0, .rw, []⟩, ⟨17, 5, Reg.CTX.CFG0.NR, 0, .rw, []⟩, ⟨11, 6, Reg.CTX.CFG0.NY, 0, .rw, []⟩, ⟨6, 5, Reg.CTX.CFG0.NU, 0, .rw, []⟩, ⟨0, 6, Reg.CTX.CFG0.NX, 0, .rw, []⟩]⟩,
  ⟨0x31004, 16, 0x800, 1, 0x0, .ctxcfg, none, false, .none, [⟨31, 1, Reg.CTX.CFG1.PARENT_EN, 0, .rw, []⟩, ⟨24, 4, Reg.CTX.CFG1.PARENT, 0, .rw, []⟩, ⟨0, 13, Reg.CTX.CFG1.RATE_DIV, 0, .rw, []⟩]⟩,
  ⟨0x31008, 16, 0x800, 1, 0x0, .ctxcfg, none, false, .none, [⟨30, 2, Reg.CTX.CFG2.HANDOVER, 0, .rw, []⟩, ⟨29, 1, Reg.CTX.CFG2.FREEZE_BLK, 0, .rw, []⟩, ⟨28, 1, Reg.CTX.CFG2.START_BANK, 0, .rw, []⟩, ⟨24, 3, Reg.CTX.CFG2.DELAY_TICKS, 0, .rw, []⟩, ⟨18, 6, Reg.CTX.CFG2.INV_LIMIT, 0, .rw, []⟩, ⟨0, 18, Reg.CTX.CFG2.OFFSET, 0, .rw, []⟩]⟩,
  ⟨0x3100c, 16, 0x800, 1, 0x0, .ctxctl, none, false, .none, [⟨1, 1, Reg.CTX.CTRL.STOP, 0, .wo, []⟩, ⟨0, 1, Reg.CTX.CTRL.START, 0, .wo, []⟩]⟩,
  ⟨0x31010, 16, 0x800, 1, 0x0, .plain, none, false, .none, [⟨28, 4, Reg.CTX.STATUS.CFG_CODE, 0, .ro, []⟩, ⟨24, 2, Reg.CTX.STATUS.DEPTH, 0, .ro, []⟩, ⟨20, 1, Reg.CTX.STATUS.BANK, 0, .ro, []⟩, ⟨8, 6, Reg.CTX.STATUS.INV_RUN, 0, .ro, []⟩, ⟨0, 2, Reg.CTX.STATUS.STATE, 0, .ro, []⟩]⟩,
  ⟨0x31014, 16, 0x800, 1, 0x0, .plain, none, false, .none, [⟨5, 1, Reg.CTX.ERR.PARENT_HELD, 0, .w1c, []⟩, ⟨4, 1, Reg.CTX.ERR.INV_FAULT, 0, .w1c, []⟩, ⟨3, 1, Reg.CTX.ERR.NONFINITE, 0, .w1c, []⟩, ⟨2, 1, Reg.CTX.ERR.IN_INVALID, 0, .w1c, []⟩, ⟨1, 1, Reg.CTX.ERR.START_REFUSED, 0, .w1c, []⟩]⟩,
  ⟨0x31018, 16, 0x800, 1, 0x0, .plain, none, false, .low, [⟨0, 32, Reg.CTX.SAMPLES.COUNT, 0, .ro, []⟩]⟩,
  ⟨0x3101c, 16, 0x800, 1, 0x0, .plain, none, false, .high, [⟨0, 32, Reg.CTX.SAMPLES.COUNT, 32, .ro, []⟩]⟩,
  ⟨0x31020, 16, 0x800, 1, 0x0, .plain, none, false, .none, [⟨16, 16, Reg.CTX.STEPNS.MAX_NS, 0, .ro, []⟩, ⟨0, 16, Reg.CTX.STEPNS.LAST_NS, 0, .ro, []⟩]⟩]

/-- LENS, on from YMAP. A write to the reserved word +0xC of a map entry (0x3110c, 0x3130c) is ignored and no access violation,
whatever the state of the context (DESIGN CHOICE, log 110). -/
def rowsVcLens2 : List Row := [
  ⟨0x31100, 16, 0x800, 32, 0x10, .ctxcfg, none, false, .none, [⟨28, 4, Reg.CTX.YMAP.SRC, 0, .rw, []⟩, ⟨27, 1, Reg.CTX.YMAP.MEAN, 0, .rw, []⟩, ⟨8, 8, Reg.CTX.YMAP.IDX_A, 0, .rw, []⟩, ⟨0, 8, Reg.CTX.YMAP.IDX_B, 0, .rw, []⟩]⟩,
  ⟨0x31104, 16, 0x800, 32, 0x10, .ctxcfg, none, false, .none, [⟨0, 32, Reg.CTX.YSCALE.SCALE, 0, .rw, []⟩]⟩,
  ⟨0x31108, 16, 0x800, 32, 0x10, .ctxcfg, none, false, .none, [⟨0, 32, Reg.CTX.YOFFS.OFFSET, 0, .rw, []⟩]⟩,
  ⟨0x3110c, 16, 0x800, 32, 0x10, .plain, none, false, .none, []⟩,
  ⟨0x31300, 16, 0x800, 16, 0x10, .ctxcfg, none, false, .none, [⟨28, 4, Reg.CTX.RMAP.SRC, 0, .rw, []⟩, ⟨27, 1, Reg.CTX.RMAP.MEAN, 0, .rw, []⟩, ⟨8, 8, Reg.CTX.RMAP.IDX_A, 0, .rw, []⟩, ⟨0, 8, Reg.CTX.RMAP.IDX_B, 0, .rw, []⟩]⟩,
  ⟨0x31304, 16, 0x800, 16, 0x10, .ctxcfg, none, false, .none, [⟨0, 32, Reg.CTX.RSCALE.SCALE, 0, .rw, []⟩]⟩,
  ⟨0x31308, 16, 0x800, 16, 0x10, .ctxcfg, none, false, .none, [⟨0, 32, Reg.CTX.ROFFS.OFFSET, 0, .rw, []⟩]⟩,
  ⟨0x3130c, 16, 0x800, 16, 0x10, .plain, none, false, .none, []⟩,
  ⟨0x31400, 16, 0x800, 16, 0x4, .ctxcfg, none, false, .none, [⟨28, 4, Reg.CTX.OMAP.DEST, 0, .rw, []⟩, ⟨0, 8, Reg.CTX.OMAP.IDX, 0, .rw, []⟩]⟩,
  ⟨0x31440, 16, 0x800, 16, 0x4, .ctxcfg, none, false, .none, [⟨10, 4, Reg.CTX.IMAP.OU, 0, .rw, []⟩, ⟨5, 5, Reg.CTX.IMAP.YI, 0, .rw, []⟩, ⟨0, 4, Reg.CTX.IMAP.RI, 0, .rw, []⟩]⟩,
  ⟨0x31480, 16, 0x800, 16, 0x4, .plain, none, false, .none, [⟨0, 32, Reg.CTX.U.VALUE, 0, .ro, []⟩]⟩,
  ⟨0x31500, 16, 0x800, 32, 0x4, .plain, none, false, .none, [⟨0, 32, Reg.CTX.XHAT.VALUE, 0, .ro, []⟩]⟩]

def rowsVcLens3 : List Row := [
  ⟨0x31580, 16, 0x800, 16, 0x4, .plain, none, false, .none, [⟨0, 32, Reg.CTX.XI.VALUE, 0, .ro, []⟩]⟩,
  ⟨0x39000, 16, 0x200, 1, 0x0, .supcfg, none, false, .none, [⟨12, 4, Reg.SUP.CFG.OVR_LIMIT, 0, .rw, [(1, 15)]⟩, ⟨9, 1, Reg.SUP.CFG.SAT_BLK, 0, .rw, []⟩, ⟨8, 1, Reg.SUP.CFG.SAT_MODE, 0, .rw, []⟩, ⟨4, 2, Reg.SUP.CFG.SAT_ACTION, 0, .rw, []⟩, ⟨0, 2, Reg.SUP.CFG.FAULT_ACTION, 0, .rw, []⟩]⟩,
  ⟨0x39004, 16, 0x200, 1, 0x0, .plain, none, false, .none, [⟨8, 2, Reg.SUP.STAT.PEND_POLICY, 0, .ro, []⟩, ⟨7, 1, Reg.SUP.STAT.PEND_BANK, 0, .ro, []⟩, ⟨6, 1, Reg.SUP.STAT.SWAP_PEND, 0, .ro, []⟩, ⟨5, 1, Reg.SUP.STAT.OVR_CAUSE, 0, .ro, []⟩, ⟨0, 4, Reg.SUP.STAT.OVR_RUN, 0, .ro, []⟩]⟩,
  ⟨0x39008, 16, 0x200, 1, 0x0, .plain, none, false, .none, [⟨4, 1, Reg.SUP.ERR.BLOCK_REQ, 0, .w1c, []⟩, ⟨3, 1, Reg.SUP.ERR.SWAP_SAT, 0, .w1c, []⟩, ⟨2, 1, Reg.SUP.ERR.SAT_EVENT, 0, .w1c, []⟩, ⟨1, 1, Reg.SUP.ERR.OVR_FAULT, 0, .w1c, []⟩, ⟨0, 1, Reg.SUP.ERR.OVR, 0, .w1c, []⟩]⟩,
  ⟨0x3900c, 16, 0x200, 1, 0x0, .plain, none, false, .none, [⟨0, 32, Reg.SUP.OVRCNT.COUNT, 0, .ro, []⟩]⟩,
  ⟨0x39010, 16, 0x200, 1, 0x0, .plain, none, false, .none, [⟨16, 16, Reg.SUP.SATNOW.HIGH, 0, .ro, []⟩, ⟨0, 16, Reg.SUP.SATNOW.LOW, 0, .ro, []⟩]⟩,
  ⟨0x39014, 16, 0x200, 1, 0x0, .plain, none, false, .none, [⟨0, 16, Reg.SUP.SATEV.EVENT, 0, .w1c, []⟩]⟩,
  ⟨0x39018, 16, 0x200, 1, 0x0, .plain, none, false, .none, [⟨0, 16, Reg.SUP.SATCFG.SAT_EN, 0, .rw, []⟩]⟩,
  ⟨0x39040, 16, 0x200, 16, 0x4, .plain, none, false, .none, [⟨0, 24, Reg.SUP.SATLIM.LIMIT, 0, .rw, [(0, 16777214)]⟩]⟩,
  ⟨0x39080, 16, 0x200, 16, 0x4, .plain, none, false, .none, [⟨0, 24, Reg.SUP.SATTIME.COUNT, 0, .ro, []⟩]⟩,
  ⟨0x3b000, 1, 0x0, 1, 0x0, .plain, none, false, .none, [⟨16, 16, Reg.LENS.LOADCHK.LIMIT_NS, 0, .ro, []⟩, ⟨0, 16, Reg.LENS.LOADCHK.WC_NS, 0, .ro, []⟩]⟩,
  ⟨0x3b004, 1, 0x0, 1, 0x0, .plain, none, false, .none, [⟨0, 16, Reg.LENS.BLKSRC.CTX, 0, .w1c, []⟩]⟩]

/-! ### PRISM (R132, spec/05_prism_cell_selection.md) -/

/-- PRISM.STATUS.FAILED [27:16] -/
def Reg.PRISM.STATUS.FAILED : Fld := ⟨169, 12, 0, 0, false, false⟩
/-- PRISM.STATUS.FORMED [11:0] -/
def Reg.PRISM.STATUS.FORMED : Fld := ⟨170, 12, 0, 0, false, false⟩
/-- PRISM.TIMING.MAX_END_NS [31:16] -/
def Reg.PRISM.TIMING.MAX_END_NS : Fld := ⟨171, 16, 0, 0, false, false⟩
/-- PRISM.TIMING.LAST_END_NS [15:0] -/
def Reg.PRISM.TIMING.LAST_END_NS : Fld := ⟨172, 16, 0, 0, false, false⟩
/-- PRISM.CTRL.CLR_TIMING [0:0] -/
def Reg.PRISM.CTRL.CLR_TIMING : Fld := ⟨173, 1, 0, 0, false, false⟩
/-- PRISM.STRMAP.EN [31:31] -/
def Reg.PRISM.STRMAP.EN : Fld := ⟨174, 1, 0, 0, false, false⟩
/-- PRISM.STRMAP.HOME_VC [11:8] -/
def Reg.PRISM.STRMAP.HOME_VC : Fld := ⟨175, 4, 0, 0, false, false⟩
/-- PRISM.STRMAP.ARM [3:0] -/
def Reg.PRISM.STRMAP.ARM : Fld := ⟨176, 4, 0, 0, false, false⟩
/-- ARM.CFG0.EDGE_MODE [31:30] -/
def Reg.ARM.CFG0.EDGE_MODE : Fld := ⟨177, 2, 0, 0, false, false⟩
/-- ARM.CFG0.BRIDGE [29:29] -/
def Reg.ARM.CFG0.BRIDGE : Fld := ⟨178, 1, 0, 0, false, false⟩
/-- ARM.CFG0.NORM [28:28] -/
def Reg.ARM.CFG0.NORM : Fld := ⟨179, 1, 0, 0, false, false⟩
/-- ARM.CFG0.SIGN [27:27] -/
def Reg.ARM.CFG0.SIGN : Fld := ⟨180, 1, 0, 0, false, false⟩
/-- ARM.CFG0.FILT [26:24] -/
def Reg.ARM.CFG0.FILT : Fld := ⟨181, 3, 2, 2, false, false⟩
/-- ARM.CFG0.BIN_SHIFT [23:21] -/
def Reg.ARM.CFG0.BIN_SHIFT : Fld := ⟨182, 3, 3, 3, false, false⟩
/-- ARM.CFG0.MISM_LIMIT [19:16] -/
def Reg.ARM.CFG0.MISM_LIMIT : Fld := ⟨183, 4, 3, 3, false, false⟩
/-- ARM.CFG0.HYST [15:8] -/
def Reg.ARM.CFG0.HYST : Fld := ⟨184, 8, 0, 0, false, false⟩
/-- ARM.CFG0.MIN_DWELL [7:0] -/
def Reg.ARM.CFG0.MIN_DWELL : Fld := ⟨185, 8, 0, 0, false, false⟩
/-- ARM.CFG1.LC_FLOOR [31:29] -/
def Reg.ARM.CFG1.LC_FLOOR : Fld := ⟨186, 3, 0, 0, false, false⟩
/-- ARM.CFG1.N_SPARE [26:16] -/
def Reg.ARM.CFG1.N_SPARE : Fld := ⟨187, 11, 0, 0, false, false⟩
/-- ARM.CFG1.N_ARM [10:0] -/
def Reg.ARM.CFG1.N_ARM : Fld := ⟨188, 11, 0, 0, false, false⟩
/-- ARM.CFG2.EDGE_BASE [31:24] -/
def Reg.ARM.CFG2.EDGE_BASE : Fld := ⟨189, 8, 0, 0, false, false⟩
/-- ARM.CFG2.FRAC_MIN [23:16] -/
def Reg.ARM.CFG2.FRAC_MIN : Fld := ⟨190, 8, 0, 0, false, false⟩
/-- ARM.CFG2.N_MIN [10:0] -/
def Reg.ARM.CFG2.N_MIN : Fld := ⟨191, 11, 0, 0, false, false⟩
/-- ARM.CFG3.BIN_BASE [31:16] -/
def Reg.ARM.CFG3.BIN_BASE : Fld := ⟨192, 16, 0, 0, false, false⟩
/-- ARM.CFG3.DEADBAND [15:0] -/
def Reg.ARM.CFG3.DEADBAND : Fld := ⟨193, 16, 0, 0, false, false⟩
/-- ARM.CFG4.TIE_STRIDE [31:16] -/
def Reg.ARM.CFG4.TIE_STRIDE : Fld := ⟨194, 16, 1, 1, false, false⟩
/-- ARM.CFG4.ILANE [6:4] -/
def Reg.ARM.CFG4.ILANE : Fld := ⟨195, 3, 0, 0, false, false⟩
/-- ARM.CFG4.ICH [1:0] -/
def Reg.ARM.CFG4.ICH : Fld := ⟨196, 2, 0, 0, false, false⟩
/-- ARM.VNOM.VNOM [31:0] -/
def Reg.ARM.VNOM.VNOM : Fld := ⟨197, 32, 0, 0, false, false⟩
/-- ARM.CCELL.CCELL [31:0] -/
def Reg.ARM.CCELL.CCELL : Fld := ⟨198, 32, 0, 0, false, false⟩
/-- ARM.CTL.RELEASE [1:1] -/
def Reg.ARM.CTL.RELEASE : Fld := ⟨199, 1, 0, 0, false, false⟩
/-- ARM.CTL.FORM [0:0] -/
def Reg.ARM.CTL.FORM : Fld := ⟨200, 1, 0, 0, false, false⟩
/-- ARM.STAT.STATE [31:30] -/
def Reg.ARM.STAT.STATE : Fld := ⟨201, 2, 0, 0, false, false⟩
/-- ARM.STAT.LC [29:27] -/
def Reg.ARM.STAT.LC : Fld := ⟨202, 3, 0, 0, false, false⟩
/-- ARM.STAT.DIR [26:26] -/
def Reg.ARM.STAT.DIR : Fld := ⟨203, 1, 0, 0, false, false⟩
/-- ARM.STAT.POL [25:25] -/
def Reg.ARM.STAT.POL : Fld := ⟨204, 1, 0, 0, false, false⟩
/-- ARM.STAT.N_AVAIL [21:11] -/
def Reg.ARM.STAT.N_AVAIL : Fld := ⟨205, 11, 0, 0, false, false⟩
/-- ARM.STAT.N_LAST [10:0] -/
def Reg.ARM.STAT.N_LAST : Fld := ⟨206, 11, 0, 0, false, false⟩
/-- ARM.TICK.F16 [31:16] -/
def Reg.ARM.TICK.F16 : Fld := ⟨207, 16, 0, 0, false, false⟩
/-- ARM.TICK.E_IN [13:0] -/
def Reg.ARM.TICK.E_IN : Fld := ⟨208, 14, 0, 0, false, false⟩
/-- ARM.ERR.FORM_CODE [31:28] -/
def Reg.ARM.ERR.FORM_CODE : Fld := ⟨209, 4, 0, 0, false, false⟩
/-- ARM.ERR.BELOW_MIN [7:7] -/
def Reg.ARM.ERR.BELOW_MIN : Fld := ⟨210, 1, 0, 0, false, false⟩
/-- ARM.ERR.SPARES_USED [6:6] -/
def Reg.ARM.ERR.SPARES_USED : Fld := ⟨211, 1, 0, 0, false, false⟩
/-- ARM.ERR.FORM_REFUSED [5:5] -/
def Reg.ARM.ERR.FORM_REFUSED : Fld := ⟨212, 1, 0, 0, false, false⟩
/-- ARM.ERR.DIR_HELD [4:4] -/
def Reg.ARM.ERR.DIR_HELD : Fld := ⟨213, 1, 0, 0, false, false⟩
/-- ARM.ERR.DWELL_LIMIT [3:3] -/
def Reg.ARM.ERR.DWELL_LIMIT : Fld := ⟨214, 1, 0, 0, false, false⟩
/-- ARM.ERR.REF_CLAMP [2:2] -/
def Reg.ARM.ERR.REF_CLAMP : Fld := ⟨215, 1, 0, 0, false, false⟩
/-- ARM.ERR.FRAC_NONE [1:1] -/
def Reg.ARM.ERR.FRAC_NONE : Fld := ⟨216, 1, 0, 0, false, false⟩
/-- ARM.ERR.MISMATCH [0:0] -/
def Reg.ARM.ERR.MISMATCH : Fld := ⟨217, 1, 0, 0, false, false⟩
/-- ARM.AGG_ENERGY.ENERGY [31:0] -/
def Reg.ARM.AGG_ENERGY.ENERGY : Fld := ⟨218, 32, 0, 0, false, false⟩
/-- ARM.AGG_VMEAN.VMEAN [31:0] -/
def Reg.ARM.AGG_VMEAN.VMEAN : Fld := ⟨219, 32, 0, 0, false, false⟩
/-- ARM.LOSSCNT.COUNT [31:0] -/
def Reg.ARM.LOSSCNT.COUNT : Fld := ⟨220, 32, 0, 0, false, false⟩

def rowsVcPrism0 : List Row := [
  ⟨0x40000, 1, 0x0, 1, 0x0, .plain, none, false, .none, [⟨16, 12, Reg.PRISM.STATUS.FAILED, 0, .ro, []⟩, ⟨0, 12, Reg.PRISM.STATUS.FORMED, 0, .ro, []⟩]⟩,
  ⟨0x40004, 1, 0x0, 1, 0x0, .plain, none, false, .none, [⟨16, 16, Reg.PRISM.TIMING.MAX_END_NS, 0, .ro, []⟩, ⟨0, 16, Reg.PRISM.TIMING.LAST_END_NS, 0, .ro, []⟩]⟩,
  ⟨0x40008, 1, 0x0, 1, 0x0, .prismctl, none, false, .none, [⟨0, 1, Reg.PRISM.CTRL.CLR_TIMING, 0, .wo, []⟩]⟩,
  ⟨0x40100, 48, 0x4, 1, 0x0, .strmap, none, false, .none, [⟨31, 1, Reg.PRISM.STRMAP.EN, 0, .rw, []⟩, ⟨8, 4, Reg.PRISM.STRMAP.HOME_VC, 0, .rw, []⟩, ⟨0, 4, Reg.PRISM.STRMAP.ARM, 0, .rw, []⟩]⟩,
  ⟨0x41000, 12, 0x100, 1, 0x0, .armcfg, none, false, .none, [⟨30, 2, Reg.ARM.CFG0.EDGE_MODE, 0, .rw, []⟩, ⟨29, 1, Reg.ARM.CFG0.BRIDGE, 0, .rw, []⟩, ⟨28, 1, Reg.ARM.CFG0.NORM, 0, .rw, []⟩, ⟨27, 1, Reg.ARM.CFG0.SIGN, 0, .rw, []⟩, ⟨24, 3, Reg.ARM.CFG0.FILT, 0, .rw, []⟩, ⟨21, 3, Reg.ARM.CFG0.BIN_SHIFT, 0, .rw, []⟩, ⟨16, 4, Reg.ARM.CFG0.MISM_LIMIT, 0, .rw, []⟩, ⟨8, 8, Reg.ARM.CFG0.HYST, 0, .rw, []⟩, ⟨0, 8, Reg.ARM.CFG0.MIN_DWELL, 0, .rw, []⟩]⟩,
  ⟨0x41004, 12, 0x100, 1, 0x0, .armcfg, none, false, .none, [⟨29, 3, Reg.ARM.CFG1.LC_FLOOR, 0, .rw, []⟩, ⟨16, 11, Reg.ARM.CFG1.N_SPARE, 0, .rw, []⟩, ⟨0, 11, Reg.ARM.CFG1.N_ARM, 0, .rw, []⟩]⟩,
  ⟨0x41008, 12, 0x100, 1, 0x0, .armcfg, none, false, .none, [⟨24, 8, Reg.ARM.CFG2.EDGE_BASE, 0, .rw, []⟩, ⟨16, 8, Reg.ARM.CFG2.FRAC_MIN, 0, .rw, []⟩, ⟨0, 11, Reg.ARM.CFG2.N_MIN, 0, .rw, []⟩]⟩,
  ⟨0x4100c, 12, 0x100, 1, 0x0, .armcfg, none, false, .none, [⟨16, 16, Reg.ARM.CFG3.BIN_BASE, 0, .rw, []⟩, ⟨0, 16, Reg.ARM.CFG3.DEADBAND, 0, .rw, []⟩]⟩,
  ⟨0x41010, 12, 0x100, 1, 0x0, .armcfg, none, false, .none, [⟨16, 16, Reg.ARM.CFG4.TIE_STRIDE, 0, .rw, []⟩, ⟨4, 3, Reg.ARM.CFG4.ILANE, 0, .rw, []⟩, ⟨0, 2, Reg.ARM.CFG4.ICH, 0, .rw, []⟩]⟩,
  ⟨0x41014, 12, 0x100, 1, 0x0, .armcfg, none, false, .none, [⟨0, 32, Reg.ARM.VNOM.VNOM, 0, .rw, []⟩]⟩,
  ⟨0x41018, 12, 0x100, 1, 0x0, .armcfg, none, false, .none, [⟨0, 32, Reg.ARM.CCELL.CCELL, 0, .rw, []⟩]⟩,
  ⟨0x4101c, 12, 0x100, 1, 0x0, .armctl, none, false, .none, [⟨1, 1, Reg.ARM.CTL.RELEASE, 0, .wo, []⟩, ⟨0, 1, Reg.ARM.CTL.FORM, 0, .wo, []⟩]⟩]

def rowsVcPrism1 : List Row := [
  ⟨0x41020, 12, 0x100, 1, 0x0, .plain, none, false, .none, [⟨30, 2, Reg.ARM.STAT.STATE, 0, .ro, []⟩, ⟨27, 3, Reg.ARM.STAT.LC, 0, .ro, []⟩, ⟨26, 1, Reg.ARM.STAT.DIR, 0, .ro, []⟩, ⟨25, 1, Reg.ARM.STAT.POL, 0, .ro, []⟩, ⟨11, 11, Reg.ARM.STAT.N_AVAIL, 0, .ro, []⟩, ⟨0, 11, Reg.ARM.STAT.N_LAST, 0, .ro, []⟩]⟩,
  ⟨0x41024, 12, 0x100, 1, 0x0, .plain, none, false, .none, [⟨16, 16, Reg.ARM.TICK.F16, 0, .ro, []⟩, ⟨0, 14, Reg.ARM.TICK.E_IN, 0, .ro, []⟩]⟩,
  ⟨0x41028, 12, 0x100, 1, 0x0, .plain, none, false, .none, [⟨28, 4, Reg.ARM.ERR.FORM_CODE, 0, .ro, []⟩, ⟨7, 1, Reg.ARM.ERR.BELOW_MIN, 0, .w1c, []⟩, ⟨6, 1, Reg.ARM.ERR.SPARES_USED, 0, .w1c, []⟩, ⟨5, 1, Reg.ARM.ERR.FORM_REFUSED, 0, .w1c, []⟩, ⟨4, 1, Reg.ARM.ERR.DIR_HELD, 0, .w1c, []⟩, ⟨3, 1, Reg.ARM.ERR.DWELL_LIMIT, 0, .w1c, []⟩, ⟨2, 1, Reg.ARM.ERR.REF_CLAMP, 0, .w1c, []⟩, ⟨1, 1, Reg.ARM.ERR.FRAC_NONE, 0, .w1c, []⟩, ⟨0, 1, Reg.ARM.ERR.MISMATCH, 0, .w1c, []⟩]⟩,
  ⟨0x4102c, 12, 0x100, 1, 0x0, .plain, none, false, .none, [⟨0, 32, Reg.ARM.AGG_ENERGY.ENERGY, 0, .ro, []⟩]⟩,
  ⟨0x41030, 12, 0x100, 1, 0x0, .plain, none, false, .none, [⟨0, 32, Reg.ARM.AGG_VMEAN.VMEAN, 0, .ro, []⟩]⟩,
  ⟨0x41034, 12, 0x100, 1, 0x0, .plain, none, false, .none, [⟨0, 32, Reg.ARM.LOSSCNT.COUNT, 0, .ro, []⟩]⟩]

/-! ### PROT (R153, spec/06_fast_protection.md) -/

/-- PROT.CFG.LOCK [31:31] -/
def Reg.PROT.CFG.LOCK : Fld := ⟨221, 1, 0, 0, true, false⟩
/-- PROT.CFG.MLANE_EN [7:0] -/
def Reg.PROT.CFG.MLANE_EN : Fld := ⟨222, 8, 0, 0, false, false⟩
/-- PROT.STATUS.LATCHED [31:31] -/
def Reg.PROT.STATUS.LATCHED : Fld := ⟨223, 1, 0, 0, false, false⟩
/-- PROT.STATUS.HOST_BLK [30:30] -/
def Reg.PROT.STATUS.HOST_BLK : Fld := ⟨224, 1, 0, 0, false, false⟩
/-- PROT.STATUS.CMP_MODE [29:28] -/
def Reg.PROT.STATUS.CMP_MODE : Fld := ⟨225, 2, 0, 0, false, false⟩
/-- PROT.STATUS.HELD [27:25] -/
def Reg.PROT.STATUS.HELD : Fld := ⟨226, 3, 0, 0, false, false⟩
/-- PROT.STATUS.PERMIT_B [9:9] -/
def Reg.PROT.STATUS.PERMIT_B : Fld := ⟨227, 1, 0, 0, false, false⟩
/-- PROT.STATUS.PERMIT_A [8:8] -/
def Reg.PROT.STATUS.PERMIT_A : Fld := ⟨228, 1, 0, 0, false, false⟩
/-- PROT.STATUS.MLANE_OK [7:0] -/
def Reg.PROT.STATUS.MLANE_OK : Fld := ⟨229, 8, 0, 0, false, false⟩
/-- PROT.LATCH.CAUSE [9:1] -/
def Reg.PROT.LATCH.CAUSE : Fld := ⟨230, 9, 0, 0, false, false⟩
/-- PROT.CTRL.KEY [31:16] -/
def Reg.PROT.CTRL.KEY : Fld := ⟨231, 16, 0, 0, false, false⟩
/-- PROT.CTRL.CLEAR [1:1] -/
def Reg.PROT.CTRL.CLEAR : Fld := ⟨232, 1, 0, 0, false, false⟩
/-- PROT.CTRL.BLOCK [0:0] -/
def Reg.PROT.CTRL.BLOCK : Fld := ⟨233, 1, 0, 0, false, false⟩
/-- PROT.FIRSTCAUSE.CAUSE [31:24] -/
def Reg.PROT.FIRSTCAUSE.CAUSE : Fld := ⟨234, 8, 0, 0, true, false⟩
/-- PROT.FIRSTCAUSE.LANE [23:21] -/
def Reg.PROT.FIRSTCAUSE.LANE : Fld := ⟨235, 3, 0, 0, true, false⟩
/-- PROT.FIRSTCAUSE.CH [20:19] -/
def Reg.PROT.FIRSTCAUSE.CH : Fld := ⟨236, 2, 0, 0, true, false⟩
/-- PROT.FIRSTCAUSE.VALUE [15:0] -/
def Reg.PROT.FIRSTCAUSE.VALUE : Fld := ⟨237, 16, 0, 0, true, false⟩
/-- PROT.FIRST_VT.VT [63:0] -/
def Reg.PROT.FIRST_VT.VT : Fld := ⟨238, 64, 0, 0, true, false⟩
/-- PROT.CMPDIS.COUNT [31:0] -/
def Reg.PROT.CMPDIS.COUNT : Fld := ⟨239, 32, 0, 0, false, false⟩
/-- PROT.FLASHCNT.COUNT [31:0] -/
def Reg.PROT.FLASHCNT.COUNT : Fld := ⟨240, 32, 0, 0, true, false⟩
/-- PROT.TEST.VALUE [31:16] -/
def Reg.PROT.TEST.VALUE : Fld := ⟨241, 16, 0, 0, false, false⟩
/-- PROT.TEST.GO [15:15] -/
def Reg.PROT.TEST.GO : Fld := ⟨242, 1, 0, 0, false, false⟩
/-- PROT.TEST.LANE [14:12] -/
def Reg.PROT.TEST.LANE : Fld := ⟨243, 3, 0, 0, false, false⟩
/-- PROT.TEST.CH [11:10] -/
def Reg.PROT.TEST.CH : Fld := ⟨244, 2, 0, 0, false, false⟩
/-- PROT.ERRSTAT.TEST_TRIP [6:6] -/
def Reg.PROT.ERRSTAT.TEST_TRIP : Fld := ⟨245, 1, 0, 0, false, false⟩
/-- PROT.ERRSTAT.CLEAR_REFUSED [5:5] -/
def Reg.PROT.ERRSTAT.CLEAR_REFUSED : Fld := ⟨246, 1, 0, 0, false, false⟩
/-- PROT.ERRSTAT.CMP_HELDOUT [4:4] -/
def Reg.PROT.ERRSTAT.CMP_HELDOUT : Fld := ⟨247, 1, 0, 0, false, false⟩
/-- PROT.ERRSTAT.CMP_DISAGREE [3:3] -/
def Reg.PROT.ERRSTAT.CMP_DISAGREE : Fld := ⟨248, 1, 0, 0, false, false⟩
/-- PROT.ERRSTAT.MEAS_MISS [2:2] -/
def Reg.PROT.ERRSTAT.MEAS_MISS : Fld := ⟨249, 1, 0, 0, false, false⟩
/-- PROT.ERRSTAT.SEQ_GAP [1:1] -/
def Reg.PROT.ERRSTAT.SEQ_GAP : Fld := ⟨250, 1, 0, 0, false, false⟩
/-- PROT.ERRSTAT.FRAME_ERR [0:0] -/
def Reg.PROT.ERRSTAT.FRAME_ERR : Fld := ⟨251, 1, 0, 0, false, false⟩
/-- MLANE.MCFG.UNIT_ID [31:16] -/
def Reg.MLANE.MCFG.UNIT_ID : Fld := ⟨252, 16, 0, 0, false, false⟩
/-- MLANE.MCFG.MISS [15:8] -/
def Reg.MLANE.MCFG.MISS : Fld := ⟨253, 8, 10, 10, false, false⟩
/-- MLANE.MCFG.MISS_ACT [7:7] -/
def Reg.MLANE.MCFG.MISS_ACT : Fld := ⟨254, 1, 1, 1, false, false⟩
/-- MLANE.MCFG.NCH [2:0] -/
def Reg.MLANE.MCFG.NCH : Fld := ⟨255, 3, 4, 4, false, false⟩
/-- MLANE.MSTAT.LOCKED [31:31] -/
def Reg.MLANE.MSTAT.LOCKED : Fld := ⟨256, 1, 0, 0, false, false⟩
/-- MLANE.MSTAT.LAST_FSEQ [15:0] -/
def Reg.MLANE.MSTAT.LAST_FSEQ : Fld := ⟨257, 16, 0, 0, false, false⟩
/-- MLANE.CRCERR.CRCERR [31:0] -/
def Reg.MLANE.CRCERR.CRCERR : Fld := ⟨258, 32, 0, 0, false, false⟩
/-- MLANE.SEQGAP.SEQGAP [31:0] -/
def Reg.MLANE.SEQGAP.SEQGAP : Fld := ⟨259, 32, 0, 0, false, false⟩
/-- MLANE.THRESH.HI [31:16] -/
def Reg.MLANE.THRESH.HI : Fld := ⟨260, 16, 32767, 32767, false, false⟩
/-- MLANE.THRESH.LO [15:0] -/
def Reg.MLANE.THRESH.LO : Fld := ⟨261, 16, 32768, 32768, false, false⟩
/-- MLANE.CHCFG.CONSEC [2:1] -/
def Reg.MLANE.CHCFG.CONSEC : Fld := ⟨262, 2, 0, 0, false, false⟩
/-- MLANE.CHCFG.EN [0:0] -/
def Reg.MLANE.CHCFG.EN : Fld := ⟨263, 1, 0, 0, false, false⟩
/-- TOKEN.TOKCFG.KEY [31:16] -/
def Reg.TOKEN.TOKCFG.KEY : Fld := ⟨264, 16, 0, 0, false, false⟩
/-- TOKEN.TOKCFG.COUNT [15:12] -/
def Reg.TOKEN.TOKCFG.COUNT : Fld := ⟨265, 4, 0, 0, false, false⟩
/-- TOKEN.TOKCFG.HOME_VC [11:8] -/
def Reg.TOKEN.TOKCFG.HOME_VC : Fld := ⟨266, 4, 0, 0, false, false⟩
/-- TOKEN.TOKCFG.EXPIRE [7:0] -/
def Reg.TOKEN.TOKCFG.EXPIRE : Fld := ⟨267, 8, 0, 0, false, false⟩
/-- TOKEN.TOKSTAT.HOME_VC [27:24] -/
def Reg.TOKEN.TOKSTAT.HOME_VC : Fld := ⟨268, 4, 0, 0, false, false⟩
/-- TOKEN.TOKSTAT.COUNT [23:20] -/
def Reg.TOKEN.TOKSTAT.COUNT : Fld := ⟨269, 4, 0, 0, false, false⟩
/-- TOKEN.TOKSTAT.MS_LEFT [7:0] -/
def Reg.TOKEN.TOKSTAT.MS_LEFT : Fld := ⟨270, 8, 0, 0, false, false⟩
/-- PROT.FIRE.KEY [31:16] -/
def Reg.PROT.FIRE.KEY : Fld := ⟨271, 16, 0, 0, false, false⟩
/-- PROT.FIRE.FACET [12:0] -/
def Reg.PROT.FIRE.FACET : Fld := ⟨272, 13, 0, 0, false, false⟩
/-- PROT.FIRESTAT.RESULT [31:28] -/
def Reg.PROT.FIRESTAT.RESULT : Fld := ⟨273, 4, 0, 0, false, false⟩
/-- PROT.FIRESTAT.NO_EFFECT [27:27] -/
def Reg.PROT.FIRESTAT.NO_EFFECT : Fld := ⟨274, 1, 0, 0, false, false⟩
/-- PROT.FIRESTAT.ACTIVE [26:26] -/
def Reg.PROT.FIRESTAT.ACTIVE : Fld := ⟨275, 1, 0, 0, false, false⟩
/-- PROT.FIRESTAT.FACET [12:0] -/
def Reg.PROT.FIRESTAT.FACET : Fld := ⟨276, 13, 0, 0, false, false⟩

def rowsVcProt0 : List Row := [
  ⟨0x50000, 1, 0x0, 1, 0x0, .protcfg, some Reg.PROT.CFG.LOCK, false, .none, [⟨31, 1, Reg.PROT.CFG.LOCK, 0, .lock, []⟩, ⟨0, 8, Reg.PROT.CFG.MLANE_EN, 0, .rwl, []⟩]⟩,
  ⟨0x50004, 1, 0x0, 1, 0x0, .plain, none, false, .none, [⟨31, 1, Reg.PROT.STATUS.LATCHED, 0, .ro, []⟩, ⟨30, 1, Reg.PROT.STATUS.HOST_BLK, 0, .ro, []⟩, ⟨28, 2, Reg.PROT.STATUS.CMP_MODE, 0, .ro, []⟩, ⟨25, 3, Reg.PROT.STATUS.HELD, 0, .ro, []⟩, ⟨9, 1, Reg.PROT.STATUS.PERMIT_B, 0, .ro, []⟩, ⟨8, 1, Reg.PROT.STATUS.PERMIT_A, 0, .ro, []⟩, ⟨0, 8, Reg.PROT.STATUS.MLANE_OK, 0, .ro, []⟩]⟩,
  ⟨0x50008, 1, 0x0, 1, 0x0, .plain, none, false, .none, [⟨1, 9, Reg.PROT.LATCH.CAUSE, 0, .ro, []⟩]⟩,
  ⟨0x5000c, 1, 0x0, 1, 0x0, .protctl, none, false, .none, [⟨16, 16, Reg.PROT.CTRL.KEY, 0, .wo, []⟩, ⟨1, 1, Reg.PROT.CTRL.CLEAR, 0, .wo, []⟩, ⟨0, 1, Reg.PROT.CTRL.BLOCK, 0, .wo, []⟩]⟩,
  ⟨0x50010, 1, 0x0, 1, 0x0, .plain, none, false, .none, [⟨24, 8, Reg.PROT.FIRSTCAUSE.CAUSE, 0, .rw, []⟩, ⟨21, 3, Reg.PROT.FIRSTCAUSE.LANE, 0, .rw, []⟩, ⟨19, 2, Reg.PROT.FIRSTCAUSE.CH, 0, .rw, []⟩, ⟨0, 16, Reg.PROT.FIRSTCAUSE.VALUE, 0, .rw, []⟩]⟩,
  ⟨0x50014, 1, 0x0, 1, 0x0, .plain, none, false, .low, [⟨0, 32, Reg.PROT.FIRST_VT.VT, 0, .rw, []⟩]⟩,
  ⟨0x50018, 1, 0x0, 1, 0x0, .plain, none, false, .high, [⟨0, 32, Reg.PROT.FIRST_VT.VT, 32, .rw, []⟩]⟩,
  ⟨0x5001c, 3, 0x4, 1, 0x0, .plain, none, false, .none, [⟨0, 32, Reg.PROT.CMPDIS.COUNT, 0, .ro, []⟩]⟩,
  ⟨0x50028, 1, 0x0, 1, 0x0, .plain, none, false, .none, [⟨0, 32, Reg.PROT.FLASHCNT.COUNT, 0, .ro, []⟩]⟩,
  ⟨0x5002c, 1, 0x0, 1, 0x0, .prottest, none, false, .none, [⟨16, 16, Reg.PROT.TEST.VALUE, 0, .wo, []⟩, ⟨15, 1, Reg.PROT.TEST.GO, 0, .wo, []⟩, ⟨12, 3, Reg.PROT.TEST.LANE, 0, .wo, []⟩, ⟨10, 2, Reg.PROT.TEST.CH, 0, .wo, []⟩]⟩,
  ⟨0x50030, 1, 0x0, 1, 0x0, .plain, none, false, .none, [⟨6, 1, Reg.PROT.ERRSTAT.TEST_TRIP, 0, .w1c, []⟩, ⟨5, 1, Reg.PROT.ERRSTAT.CLEAR_REFUSED, 0, .w1c, []⟩, ⟨4, 1, Reg.PROT.ERRSTAT.CMP_HELDOUT, 0, .w1c, []⟩, ⟨3, 1, Reg.PROT.ERRSTAT.CMP_DISAGREE, 0, .w1c, []⟩, ⟨2, 1, Reg.PROT.ERRSTAT.MEAS_MISS, 0, .w1c, []⟩, ⟨1, 1, Reg.PROT.ERRSTAT.SEQ_GAP, 0, .w1c, []⟩, ⟨0, 1, Reg.PROT.ERRSTAT.FRAME_ERR, 0, .w1c, []⟩]⟩,
  ⟨0x50100, 8, 0x40, 1, 0x0, .protcfg, some Reg.PROT.CFG.LOCK, false, .none, [⟨16, 16, Reg.MLANE.MCFG.UNIT_ID, 0, .rwl, []⟩, ⟨8, 8, Reg.MLANE.MCFG.MISS, 0, .rwl, [(1, 255)]⟩, ⟨7, 1, Reg.MLANE.MCFG.MISS_ACT, 0, .rwl, []⟩, ⟨0, 3, Reg.MLANE.MCFG.NCH, 0, .rwl, [(1, 4)]⟩]⟩]

def rowsVcProt1 : List Row := [
  ⟨0x50104, 8, 0x40, 1, 0x0, .plain, none, false, .none, [⟨31, 1, Reg.MLANE.MSTAT.LOCKED, 0, .ro, []⟩, ⟨0, 16, Reg.MLANE.MSTAT.LAST_FSEQ, 0, .ro, []⟩]⟩,
  ⟨0x50108, 8, 0x40, 1, 0x0, .plain, none, false, .none, [⟨0, 32, Reg.MLANE.CRCERR.CRCERR, 0, .ro, []⟩]⟩,
  ⟨0x5010c, 8, 0x40, 1, 0x0, .plain, none, false, .none, [⟨0, 32, Reg.MLANE.SEQGAP.SEQGAP, 0, .ro, []⟩]⟩,
  ⟨0x50110, 8, 0x40, 4, 0x8, .protcfg, some Reg.PROT.CFG.LOCK, false, .none, [⟨16, 16, Reg.MLANE.THRESH.HI, 0, .rwl, []⟩, ⟨0, 16, Reg.MLANE.THRESH.LO, 0, .rwl, []⟩]⟩,
  ⟨0x50114, 8, 0x40, 4, 0x8, .protcfg, some Reg.PROT.CFG.LOCK, false, .none, [⟨1, 2, Reg.MLANE.CHCFG.CONSEC, 0, .rwl, []⟩, ⟨0, 1, Reg.MLANE.CHCFG.EN, 0, .rwl, []⟩]⟩,
  ⟨0x50400, 12, 0x10, 1, 0x0, .tokcfg, none, false, .none, [⟨16, 16, Reg.TOKEN.TOKCFG.KEY, 0, .wo, []⟩, ⟨12, 4, Reg.TOKEN.TOKCFG.COUNT, 0, .wo, []⟩, ⟨8, 4, Reg.TOKEN.TOKCFG.HOME_VC, 0, .wo, []⟩, ⟨0, 8, Reg.TOKEN.TOKCFG.EXPIRE, 0, .wo, []⟩]⟩,
  ⟨0x50404, 12, 0x10, 1, 0x0, .plain, none, false, .none, [⟨24, 4, Reg.TOKEN.TOKSTAT.HOME_VC, 0, .ro, []⟩, ⟨20, 4, Reg.TOKEN.TOKSTAT.COUNT, 0, .ro, []⟩, ⟨0, 8, Reg.TOKEN.TOKSTAT.MS_LEFT, 0, .ro, []⟩]⟩,
  ⟨0x50500, 1, 0x0, 1, 0x0, .fire, none, false, .none, [⟨16, 16, Reg.PROT.FIRE.KEY, 0, .wo, []⟩, ⟨0, 13, Reg.PROT.FIRE.FACET, 0, .wo, []⟩]⟩,
  ⟨0x50504, 1, 0x0, 1, 0x0, .plain, none, false, .none, [⟨28, 4, Reg.PROT.FIRESTAT.RESULT, 0, .ro, []⟩, ⟨27, 1, Reg.PROT.FIRESTAT.NO_EFFECT, 0, .w1c, []⟩, ⟨26, 1, Reg.PROT.FIRESTAT.ACTIVE, 0, .ro, []⟩, ⟨0, 13, Reg.PROT.FIRESTAT.FACET, 0, .ro, []⟩]⟩]

/-! ### SCHED (R170, spec/07_work_scheduler.md) -/

/-- SCHED.CFG.LOCK [31:31] -/
def Reg.SCHED.CFG.LOCK : Fld := ⟨277, 1, 0, 0, true, false⟩
/-- SCHED.CFG.PREEMPT_MARGIN [3:0] -/
def Reg.SCHED.CFG.PREEMPT_MARGIN : Fld := ⟨278, 4, 4, 4, false, false⟩
/-- SCHED.STATUS.READY [23:16] -/
def Reg.SCHED.STATUS.READY : Fld := ⟨279, 8, 0, 0, false, false⟩
/-- SCHED.STATUS.FRAMES [12:8] -/
def Reg.SCHED.STATUS.FRAMES : Fld := ⟨280, 5, 0, 0, false, false⟩
/-- SCHED.STATUS.IDLE [7:0] -/
def Reg.SCHED.STATUS.IDLE : Fld := ⟨281, 8, 255, 255, false, false⟩
/-- SCHED.ITEMCTL.OP [31:28] -/
def Reg.SCHED.ITEMCTL.OP : Fld := ⟨282, 4, 0, 0, false, false⟩
/-- SCHED.ITEMCTL.ITEM [7:0] -/
def Reg.SCHED.ITEMCTL.ITEM : Fld := ⟨283, 8, 0, 0, false, false⟩
/-- SCHED.CTLSTAT.RESULT [31:28] -/
def Reg.SCHED.CTLSTAT.RESULT : Fld := ⟨284, 4, 0, 0, false, false⟩
/-- SCHED.CTLSTAT.ITEM [7:0] -/
def Reg.SCHED.CTLSTAT.ITEM : Fld := ⟨285, 8, 0, 0, false, false⟩
/-- SCHED.ERRSTAT.SETPT_CONFLICT [5:5] -/
def Reg.SCHED.ERRSTAT.SETPT_CONFLICT : Fld := ⟨286, 1, 0, 0, false, false⟩
/-- SCHED.ERRSTAT.DEFER [4:4] -/
def Reg.SCHED.ERRSTAT.DEFER : Fld := ⟨287, 1, 0, 0, false, false⟩
/-- SCHED.ERRSTAT.NO_FRAME [3:3] -/
def Reg.SCHED.ERRSTAT.NO_FRAME : Fld := ⟨288, 1, 0, 0, false, false⟩
/-- SCHED.ERRSTAT.STRAY_DEC [2:2] -/
def Reg.SCHED.ERRSTAT.STRAY_DEC : Fld := ⟨289, 1, 0, 0, false, false⟩
/-- SCHED.ERRSTAT.DL_MISS [1:1] -/
def Reg.SCHED.ERRSTAT.DL_MISS : Fld := ⟨290, 1, 0, 0, false, false⟩
/-- SCHED.ERRSTAT.ITEM_TRAP [0:0] -/
def Reg.SCHED.ERRSTAT.ITEM_TRAP : Fld := ⟨291, 1, 0, 0, false, false⟩
/-- SCHED.DLMISSCNT.COUNT [31:0] -/
def Reg.SCHED.DLMISSCNT.COUNT : Fld := ⟨292, 32, 0, 0, true, false⟩
/-- SCHED.TRAPCNT.COUNT [31:0] -/
def Reg.SCHED.TRAPCNT.COUNT : Fld := ⟨293, 32, 0, 0, true, false⟩
/-- SCHED.PREEMPTCNT.COUNT [31:0] -/
def Reg.SCHED.PREEMPTCNT.COUNT : Fld := ⟨294, 32, 0, 0, true, false⟩
/-- SCHED.LASTTRAP.ITEM [31:24] -/
def Reg.SCHED.LASTTRAP.ITEM : Fld := ⟨295, 8, 0, 0, false, false⟩
/-- SCHED.LASTTRAP.MCAUSE [4:0] -/
def Reg.SCHED.LASTTRAP.MCAUSE : Fld := ⟨296, 5, 0, 0, false, false⟩
/-- SCHED.LASTTVAL.MTVAL [31:0] -/
def Reg.SCHED.LASTTVAL.MTVAL : Fld := ⟨297, 32, 0, 0, false, false⟩
/-- SCHED.SETPT_OWN.OWN [31:0] -/
def Reg.SCHED.SETPT_OWN.OWN : Fld := ⟨298, 32, 0, 0, false, false⟩
/-- SCHED.TSRC_CFG.EN [31:31] -/
def Reg.SCHED.TSRC_CFG.EN : Fld := ⟨299, 1, 0, 0, false, false⟩
/-- SCHED.TSRC_CFG.PERIOD [28:16] -/
def Reg.SCHED.TSRC_CFG.PERIOD : Fld := ⟨300, 13, 1, 1, false, false⟩
/-- SCHED.TSRC_CFG.ITEM [7:0] -/
def Reg.SCHED.TSRC_CFG.ITEM : Fld := ⟨301, 8, 0, 0, false, false⟩
/-- SCHED.TSRC_OFFSET.OFFSET [12:0] -/
def Reg.SCHED.TSRC_OFFSET.OFFSET : Fld := ⟨302, 13, 0, 0, false, false⟩
/-- SCHED.LENSLINK.WAIT_EN [31:31] -/
def Reg.SCHED.LENSLINK.WAIT_EN : Fld := ⟨303, 1, 0, 0, false, false⟩
/-- SCHED.LENSLINK.REL_EN [30:30] -/
def Reg.SCHED.LENSLINK.REL_EN : Fld := ⟨304, 1, 0, 0, false, false⟩
/-- SCHED.LENSLINK.WAIT_ITEM [15:8] -/
def Reg.SCHED.LENSLINK.WAIT_ITEM : Fld := ⟨305, 8, 0, 0, false, false⟩
/-- SCHED.LENSLINK.REL_ITEM [7:0] -/
def Reg.SCHED.LENSLINK.REL_ITEM : Fld := ⟨306, 8, 0, 0, false, false⟩
/-- SCHED.CORE.STATE [31:30] -/
def Reg.SCHED.CORE.STATE : Fld := ⟨307, 2, 0, 0, false, false⟩
/-- SCHED.CORE.ITEM [7:0] -/
def Reg.SCHED.CORE.ITEM : Fld := ⟨308, 8, 0, 0, false, false⟩
/-- ITEM.ENTRY.ENTRY [31:0] -/
def Reg.ITEM.ENTRY.ENTRY : Fld := ⟨309, 32, 0, 0, false, false⟩
/-- ITEM.ARG.ARG [31:0] -/
def Reg.ITEM.ARG.ARG : Fld := ⟨310, 32, 0, 0, false, false⟩
/-- ITEM.STACK.STACK [31:0] -/
def Reg.ITEM.STACK.STACK : Fld := ⟨311, 32, 0, 0, false, false⟩
/-- ITEM.DEADLINE.DEADLINE [63:0] -/
def Reg.ITEM.DEADLINE.DEADLINE : Fld := ⟨312, 64, 0, 0, false, false⟩
/-- ITEM.W5.URGENCY [31:28] -/
def Reg.ITEM.W5.URGENCY : Fld := ⟨313, 4, 0, 0, false, false⟩
/-- ITEM.W5.DL_ACT [27:26] -/
def Reg.ITEM.W5.DL_ACT : Fld := ⟨314, 2, 0, 0, false, false⟩
/-- ITEM.W5.DL_REL [25:25] -/
def Reg.ITEM.W5.DL_REL : Fld := ⟨315, 1, 0, 0, false, false⟩
/-- ITEM.W5.RELOAD [24:24] -/
def Reg.ITEM.W5.RELOAD : Fld := ⟨316, 1, 0, 0, false, false⟩
/-- ITEM.W5.NOPREEMPT [23:23] -/
def Reg.ITEM.W5.NOPREEMPT : Fld := ⟨317, 1, 0, 0, false, false⟩
/-- ITEM.W5.INIT_COUNT [15:8] -/
def Reg.ITEM.W5.INIT_COUNT : Fld := ⟨318, 8, 0, 0, false, false⟩
/-- ITEM.W5.COUNT [7:0] -/
def Reg.ITEM.W5.COUNT : Fld := ⟨319, 8, 0, 0, false, false⟩
/-- ITEM.SUCC.SUCC [31:0] -/
def Reg.ITEM.SUCC.SUCC : Fld := ⟨320, 32, 0, 0, false, false⟩
/-- ITEM.W7.STATE [31:28] -/
def Reg.ITEM.W7.STATE : Fld := ⟨321, 4, 0, 0, false, false⟩
/-- ITEM.W7.SVALID [27:24] -/
def Reg.ITEM.W7.SVALID : Fld := ⟨322, 4, 0, 0, false, false⟩
/-- ITEM.W7.SPOL [7:0] -/
def Reg.ITEM.W7.SPOL : Fld := ⟨323, 8, 0, 0, false, false⟩

def rowsVcSched0 : List Row := [
  ⟨0x60000, 1, 0x0, 1, 0x0, .plain, some Reg.SCHED.CFG.LOCK, false, .none, [⟨31, 1, Reg.SCHED.CFG.LOCK, 0, .lock, []⟩, ⟨0, 4, Reg.SCHED.CFG.PREEMPT_MARGIN, 0, .rwl, []⟩]⟩,
  ⟨0x60004, 1, 0x0, 1, 0x0, .plain, none, false, .none, [⟨16, 8, Reg.SCHED.STATUS.READY, 0, .ro, []⟩, ⟨8, 5, Reg.SCHED.STATUS.FRAMES, 0, .ro, []⟩, ⟨0, 8, Reg.SCHED.STATUS.IDLE, 0, .ro, []⟩]⟩,
  ⟨0x60008, 1, 0x0, 1, 0x0, .itemctl, none, false, .none, [⟨28, 4, Reg.SCHED.ITEMCTL.OP, 0, .wo, []⟩, ⟨0, 8, Reg.SCHED.ITEMCTL.ITEM, 0, .wo, []⟩]⟩,
  ⟨0x6000c, 1, 0x0, 1, 0x0, .plain, none, false, .none, [⟨28, 4, Reg.SCHED.CTLSTAT.RESULT, 0, .ro, []⟩, ⟨0, 8, Reg.SCHED.CTLSTAT.ITEM, 0, .ro, []⟩]⟩,
  ⟨0x60010, 1, 0x0, 1, 0x0, .plain, none, false, .none, [⟨5, 1, Reg.SCHED.ERRSTAT.SETPT_CONFLICT, 0, .w1c, []⟩, ⟨4, 1, Reg.SCHED.ERRSTAT.DEFER, 0, .w1c, []⟩, ⟨3, 1, Reg.SCHED.ERRSTAT.NO_FRAME, 0, .w1c, []⟩, ⟨2, 1, Reg.SCHED.ERRSTAT.STRAY_DEC, 0, .w1c, []⟩, ⟨1, 1, Reg.SCHED.ERRSTAT.DL_MISS, 0, .w1c, []⟩, ⟨0, 1, Reg.SCHED.ERRSTAT.ITEM_TRAP, 0, .w1c, []⟩]⟩,
  ⟨0x60014, 1, 0x0, 1, 0x0, .plain, none, false, .none, [⟨0, 32, Reg.SCHED.DLMISSCNT.COUNT, 0, .ro, []⟩]⟩,
  ⟨0x60018, 1, 0x0, 1, 0x0, .plain, none, false, .none, [⟨0, 32, Reg.SCHED.TRAPCNT.COUNT, 0, .ro, []⟩]⟩,
  ⟨0x6001c, 1, 0x0, 1, 0x0, .plain, none, false, .none, [⟨0, 32, Reg.SCHED.PREEMPTCNT.COUNT, 0, .ro, []⟩]⟩,
  ⟨0x60020, 1, 0x0, 1, 0x0, .plain, none, false, .none, [⟨24, 8, Reg.SCHED.LASTTRAP.ITEM, 0, .ro, []⟩, ⟨0, 5, Reg.SCHED.LASTTRAP.MCAUSE, 0, .ro, []⟩]⟩,
  ⟨0x60024, 1, 0x0, 1, 0x0, .plain, none, false, .none, [⟨0, 32, Reg.SCHED.LASTTVAL.MTVAL, 0, .ro, []⟩]⟩,
  ⟨0x60028, 2, 0x4, 1, 0x0, .plain, some Reg.SCHED.CFG.LOCK, false, .none, [⟨0, 32, Reg.SCHED.SETPT_OWN.OWN, 0, .rwl, []⟩]⟩,
  ⟨0x60040, 4, 0x8, 1, 0x0, .tsrccfg, none, false, .none, [⟨31, 1, Reg.SCHED.TSRC_CFG.EN, 0, .rw, []⟩, ⟨16, 13, Reg.SCHED.TSRC_CFG.PERIOD, 0, .rw, [(1, 4096)]⟩, ⟨0, 8, Reg.SCHED.TSRC_CFG.ITEM, 0, .rw, []⟩]⟩]

def rowsVcSched1 : List Row := [
  ⟨0x60044, 4, 0x8, 1, 0x0, .tsrcoff, none, false, .none, [⟨0, 13, Reg.SCHED.TSRC_OFFSET.OFFSET, 0, .rw, []⟩]⟩,
  ⟨0x60080, 16, 0x4, 1, 0x0, .lenslink, none, false, .none, [⟨31, 1, Reg.SCHED.LENSLINK.WAIT_EN, 0, .rw, []⟩, ⟨30, 1, Reg.SCHED.LENSLINK.REL_EN, 0, .rw, []⟩, ⟨8, 8, Reg.SCHED.LENSLINK.WAIT_ITEM, 0, .rw, []⟩, ⟨0, 8, Reg.SCHED.LENSLINK.REL_ITEM, 0, .rw, []⟩]⟩,
  ⟨0x60100, 8, 0x4, 1, 0x0, .plain, none, false, .none, [⟨30, 2, Reg.SCHED.CORE.STATE, 0, .ro, []⟩, ⟨0, 8, Reg.SCHED.CORE.ITEM, 0, .ro, []⟩]⟩,
  ⟨0x61000, 256, 0x20, 1, 0x0, .item, none, false, .none, [⟨0, 32, Reg.ITEM.ENTRY.ENTRY, 0, .rw, []⟩]⟩,
  ⟨0x61004, 256, 0x20, 1, 0x0, .item, none, false, .none, [⟨0, 32, Reg.ITEM.ARG.ARG, 0, .rw, []⟩]⟩,
  ⟨0x61008, 256, 0x20, 1, 0x0, .item, none, false, .none, [⟨0, 32, Reg.ITEM.STACK.STACK, 0, .rw, []⟩]⟩,
  ⟨0x6100c, 256, 0x20, 1, 0x0, .item, none, false, .low, [⟨0, 32, Reg.ITEM.DEADLINE.DEADLINE, 0, .rw, []⟩]⟩,
  ⟨0x61010, 256, 0x20, 1, 0x0, .item, none, false, .high, [⟨0, 32, Reg.ITEM.DEADLINE.DEADLINE, 32, .rw, []⟩]⟩,
  ⟨0x61014, 256, 0x20, 1, 0x0, .item, none, false, .none, [⟨28, 4, Reg.ITEM.W5.URGENCY, 0, .rw, []⟩, ⟨26, 2, Reg.ITEM.W5.DL_ACT, 0, .rw, []⟩, ⟨25, 1, Reg.ITEM.W5.DL_REL, 0, .rw, []⟩, ⟨24, 1, Reg.ITEM.W5.RELOAD, 0, .rw, []⟩, ⟨23, 1, Reg.ITEM.W5.NOPREEMPT, 0, .rw, []⟩, ⟨8, 8, Reg.ITEM.W5.INIT_COUNT, 0, .rw, []⟩, ⟨0, 8, Reg.ITEM.W5.COUNT, 0, .ro, []⟩]⟩,
  ⟨0x61018, 256, 0x20, 1, 0x0, .item, none, false, .none, [⟨0, 32, Reg.ITEM.SUCC.SUCC, 0, .rw, []⟩]⟩,
  ⟨0x6101c, 256, 0x20, 1, 0x0, .item, none, false, .none, [⟨28, 4, Reg.ITEM.W7.STATE, 0, .ro, []⟩, ⟨24, 4, Reg.ITEM.W7.SVALID, 0, .rw, []⟩, ⟨0, 8, Reg.ITEM.W7.SPOL, 0, .rw, []⟩]⟩]

/-! ### STRINGS (R199, spec/08_string_protocol.md) -/

/-- STRING.CFG.EN [31:31] -/
def Reg.STRING.CFG.EN : Fld := ⟨324, 1, 0, 0, false, false⟩
/-- STRING.CFG.RATE [17:16] -/
def Reg.STRING.CFG.RATE : Fld := ⟨325, 2, 2, 2, false, false⟩
/-- STRING.CFG.WDOG_TICKS [14:8] -/
def Reg.STRING.CFG.WDOG_TICKS : Fld := ⟨326, 7, 4, 4, false, false⟩
/-- STRING.CFG.CELLS [6:0] -/
def Reg.STRING.CFG.CELLS : Fld := ⟨327, 7, 0, 0, false, false⟩
/-- STRING.CTRL.LOAD [2:2] -/
def Reg.STRING.CTRL.LOAD : Fld := ⟨328, 1, 0, 0, false, false⟩
/-- STRING.CTRL.STOP [1:1] -/
def Reg.STRING.CTRL.STOP : Fld := ⟨329, 1, 0, 0, false, false⟩
/-- STRING.CTRL.START [0:0] -/
def Reg.STRING.CTRL.START : Fld := ⟨330, 1, 0, 0, false, false⟩
/-- STRING.STATUS.FGEN [31:24] -/
def Reg.STRING.STATUS.FGEN : Fld := ⟨331, 8, 0, 0, false, false⟩
/-- STRING.STATUS.LGEN [23:22] -/
def Reg.STRING.STATUS.LGEN : Fld := ⟨332, 2, 0, 0, false, false⟩
/-- STRING.STATUS.LOAD_BUSY [21:21] -/
def Reg.STRING.STATUS.LOAD_BUSY : Fld := ⟨333, 1, 0, 0, false, false⟩
/-- STRING.STATUS.RING [19:18] -/
def Reg.STRING.STATUS.RING : Fld := ⟨334, 2, 0, 0, false, false⟩
/-- STRING.STATUS.STARTCODE [15:12] -/
def Reg.STRING.STATUS.STARTCODE : Fld := ⟨335, 4, 0, 0, false, false⟩
/-- STRING.STATUS.LC [10:8] -/
def Reg.STRING.STATUS.LC : Fld := ⟨336, 3, 0, 0, false, false⟩
/-- STRING.STATUS.STATE [2:0] -/
def Reg.STRING.STATUS.STATE : Fld := ⟨337, 3, 0, 0, false, false⟩
/-- STRING.ERRSTAT.LOAD_FAIL [10:10] -/
def Reg.STRING.ERRSTAT.LOAD_FAIL : Fld := ⟨338, 1, 0, 0, false, false⟩
/-- STRING.ERRSTAT.TWO_BREAKS [9:9] -/
def Reg.STRING.ERRSTAT.TWO_BREAKS : Fld := ⟨339, 1, 0, 0, false, false⟩
/-- STRING.ERRSTAT.REFLECT [8:8] -/
def Reg.STRING.ERRSTAT.REFLECT : Fld := ⟨340, 1, 0, 0, false, false⟩
/-- STRING.ERRSTAT.HDR_ERR [7:7] -/
def Reg.STRING.ERRSTAT.HDR_ERR : Fld := ⟨341, 1, 0, 0, false, false⟩
/-- STRING.ERRSTAT.COPY_ERR [6:6] -/
def Reg.STRING.ERRSTAT.COPY_ERR : Fld := ⟨342, 1, 0, 0, false, false⟩
/-- STRING.ERRSTAT.MSG_TIMEOUT [5:5] -/
def Reg.STRING.ERRSTAT.MSG_TIMEOUT : Fld := ⟨343, 1, 0, 0, false, false⟩
/-- STRING.ERRSTAT.MSG_NACK [4:4] -/
def Reg.STRING.ERRSTAT.MSG_NACK : Fld := ⟨344, 1, 0, 0, false, false⟩
/-- STRING.ERRSTAT.START_FAIL [3:3] -/
def Reg.STRING.ERRSTAT.START_FAIL : Fld := ⟨345, 1, 0, 0, false, false⟩
/-- STRING.ERRSTAT.STRING_DOWN [2:2] -/
def Reg.STRING.ERRSTAT.STRING_DOWN : Fld := ⟨346, 1, 0, 0, false, false⟩
/-- STRING.ERRSTAT.CMD_FAULT_SEEN [1:1] -/
def Reg.STRING.ERRSTAT.CMD_FAULT_SEEN : Fld := ⟨347, 1, 0, 0, false, false⟩
/-- STRING.ERRSTAT.WDOG_SEEN [0:0] -/
def Reg.STRING.ERRSTAT.WDOG_SEEN : Fld := ⟨348, 1, 0, 0, false, false⟩
/-- STRING.BREAK.VALID_Y [31:31] -/
def Reg.STRING.BREAK.VALID_Y : Fld := ⟨349, 1, 0, 0, false, false⟩
/-- STRING.BREAK.RPOS_Y [30:24] -/
def Reg.STRING.BREAK.RPOS_Y : Fld := ⟨350, 7, 0, 0, false, false⟩
/-- STRING.BREAK.VALID_X [23:23] -/
def Reg.STRING.BREAK.VALID_X : Fld := ⟨351, 1, 0, 0, false, false⟩
/-- STRING.BREAK.RPOS_X [22:16] -/
def Reg.STRING.BREAK.RPOS_X : Fld := ⟨352, 7, 0, 0, false, false⟩
/-- STRING.BREAK.NCUT [6:0] -/
def Reg.STRING.BREAK.NCUT : Fld := ⟨353, 7, 0, 0, false, false⟩
/-- STRING.CALRES.TX_NS [31:16] -/
def Reg.STRING.CALRES.TX_NS : Fld := ⟨354, 16, 0, 0, false, false⟩
/-- STRING.CALRES.TY_NS [15:0] -/
def Reg.STRING.CALRES.TY_NS : Fld := ⟨355, 16, 0, 0, false, false⟩
/-- STRING.RETTIME.RET_X_NS [31:16] -/
def Reg.STRING.RETTIME.RET_X_NS : Fld := ⟨356, 16, 65535, 65535, false, false⟩
/-- STRING.RETTIME.RET_Y_NS [15:0] -/
def Reg.STRING.RETTIME.RET_Y_NS : Fld := ⟨357, 16, 65535, 65535, false, false⟩
/-- STRING.MSGSTAT.RESULT [31:28] -/
def Reg.STRING.MSGSTAT.RESULT : Fld := ⟨358, 4, 0, 0, false, false⟩
/-- STRING.MSGSTAT.REASON [27:24] -/
def Reg.STRING.MSGSTAT.REASON : Fld := ⟨359, 4, 0, 0, false, false⟩
/-- STRING.MSGSTAT.TAG [15:8] -/
def Reg.STRING.MSGSTAT.TAG : Fld := ⟨360, 8, 0, 0, false, false⟩
/-- STRING.MSGSTAT.QUEUED [4:0] -/
def Reg.STRING.MSGSTAT.QUEUED : Fld := ⟨361, 5, 0, 0, false, false⟩
/-- STRING.COPYERR_CNT.COUNT [31:0] -/
def Reg.STRING.COPYERR_CNT.COUNT : Fld := ⟨362, 32, 0, 0, false, false⟩
/-- STRING.NOREP_CNT.COUNT [31:0] -/
def Reg.STRING.NOREP_CNT.COUNT : Fld := ⟨363, 32, 0, 0, false, false⟩
/-- STRING.REFL_CNT.COUNT [31:0] -/
def Reg.STRING.REFL_CNT.COUNT : Fld := ⟨364, 32, 0, 0, false, false⟩
/-- STRING.HDRERR_CNT.COUNT [31:0] -/
def Reg.STRING.HDRERR_CNT.COUNT : Fld := ⟨365, 32, 0, 0, false, false⟩
/-- STRING.HOPDLY.DELAY [15:0] -/
def Reg.STRING.HOPDLY.DELAY : Fld := ⟨366, 16, 0, 0, false, false⟩

def rowsVcStrings0 : List Row := [
  ⟨0x80000, 48, 0x400, 1, 0x0, .strcfg, none, false, .none, [⟨31, 1, Reg.STRING.CFG.EN, 0, .rw, []⟩, ⟨16, 2, Reg.STRING.CFG.RATE, 0, .rw, [(1, 2)]⟩, ⟨8, 7, Reg.STRING.CFG.WDOG_TICKS, 0, .rw, [(2, 64)]⟩, ⟨0, 7, Reg.STRING.CFG.CELLS, 0, .rw, [(0, 96)]⟩]⟩,
  ⟨0x80004, 48, 0x400, 1, 0x0, .strctl, none, false, .none, [⟨2, 1, Reg.STRING.CTRL.LOAD, 0, .wo, []⟩, ⟨1, 1, Reg.STRING.CTRL.STOP, 0, .wo, []⟩, ⟨0, 1, Reg.STRING.CTRL.START, 0, .wo, []⟩]⟩,
  ⟨0x80008, 48, 0x400, 1, 0x0, .plain, none, false, .none, [⟨24, 8, Reg.STRING.STATUS.FGEN, 0, .ro, []⟩, ⟨22, 2, Reg.STRING.STATUS.LGEN, 0, .ro, []⟩, ⟨21, 1, Reg.STRING.STATUS.LOAD_BUSY, 0, .ro, []⟩, ⟨18, 2, Reg.STRING.STATUS.RING, 0, .ro, []⟩, ⟨12, 4, Reg.STRING.STATUS.STARTCODE, 0, .ro, []⟩, ⟨8, 3, Reg.STRING.STATUS.LC, 0, .ro, []⟩, ⟨0, 3, Reg.STRING.STATUS.STATE, 0, .ro, []⟩]⟩,
  ⟨0x8000c, 48, 0x400, 1, 0x0, .plain, none, false, .none, [⟨10, 1, Reg.STRING.ERRSTAT.LOAD_FAIL, 0, .w1c, []⟩, ⟨9, 1, Reg.STRING.ERRSTAT.TWO_BREAKS, 0, .w1c, []⟩, ⟨8, 1, Reg.STRING.ERRSTAT.REFLECT, 0, .w1c, []⟩, ⟨7, 1, Reg.STRING.ERRSTAT.HDR_ERR, 0, .w1c, []⟩, ⟨6, 1, Reg.STRING.ERRSTAT.COPY_ERR, 0, .w1c, []⟩, ⟨5, 1, Reg.STRING.ERRSTAT.MSG_TIMEOUT, 0, .w1c, []⟩, ⟨4, 1, Reg.STRING.ERRSTAT.MSG_NACK, 0, .w1c, []⟩, ⟨3, 1, Reg.STRING.ERRSTAT.START_FAIL, 0, .w1c, []⟩, ⟨2, 1, Reg.STRING.ERRSTAT.STRING_DOWN, 0, .w1c, []⟩, ⟨1, 1, Reg.STRING.ERRSTAT.CMD_FAULT_SEEN, 0, .w1c, []⟩, ⟨0, 1, Reg.STRING.ERRSTAT.WDOG_SEEN, 0, .w1c, []⟩]⟩,
  ⟨0x80010, 48, 0x400, 1, 0x0, .plain, none, false, .none, [⟨31, 1, Reg.STRING.BREAK.VALID_Y, 0, .ro, []⟩, ⟨24, 7, Reg.STRING.BREAK.RPOS_Y, 0, .ro, []⟩, ⟨23, 1, Reg.STRING.BREAK.VALID_X, 0, .ro, []⟩, ⟨16, 7, Reg.STRING.BREAK.RPOS_X, 0, .ro, []⟩, ⟨0, 7, Reg.STRING.BREAK.NCUT, 0, .ro, []⟩]⟩,
  ⟨0x80014, 48, 0x400, 1, 0x0, .plain, none, false, .none, [⟨16, 16, Reg.STRING.CALRES.TX_NS, 0, .ro, []⟩, ⟨0, 16, Reg.STRING.CALRES.TY_NS, 0, .ro, []⟩]⟩,
  ⟨0x80018, 48, 0x400, 1, 0x0, .plain, none, false, .none, [⟨16, 16, Reg.STRING.RETTIME.RET_X_NS, 0, .ro, []⟩, ⟨0, 16, Reg.STRING.RETTIME.RET_Y_NS, 0, .ro, []⟩]⟩,
  ⟨0x8001c, 48, 0x400, 1, 0x0, .plain, none, false, .none, [⟨28, 4, Reg.STRING.MSGSTAT.RESULT, 0, .ro, []⟩, ⟨24, 4, Reg.STRING.MSGSTAT.REASON, 0, .ro, []⟩, ⟨8, 8, Reg.STRING.MSGSTAT.TAG, 0, .ro, []⟩, ⟨0, 5, Reg.STRING.MSGSTAT.QUEUED, 0, .ro, []⟩]⟩,
  ⟨0x80020, 48, 0x400, 1, 0x0, .plain, none, false, .none, [⟨0, 32, Reg.STRING.COPYERR_CNT.COUNT, 0, .ro, []⟩]⟩,
  ⟨0x80024, 48, 0x400, 1, 0x0, .plain, none, false, .none, [⟨0, 32, Reg.STRING.NOREP_CNT.COUNT, 0, .ro, []⟩]⟩,
  ⟨0x80028, 48, 0x400, 1, 0x0, .plain, none, false, .none, [⟨0, 32, Reg.STRING.REFL_CNT.COUNT, 0, .ro, []⟩]⟩,
  ⟨0x8002c, 48, 0x400, 1, 0x0, .plain, none, false, .none, [⟨0, 32, Reg.STRING.HDRERR_CNT.COUNT, 0, .ro, []⟩]⟩]

def rowsVcStrings1 : List Row := [
  ⟨0x80100, 48, 0x400, 97, 0x4, .plain, none, false, .none, [⟨0, 16, Reg.STRING.HOPDLY.DELAY, 0, .ro, []⟩]⟩]

/-! ### LANES (R220, spec/09_serial_lanes.md) -/

/-- LANE.CFG.LOCK [31:31] -/
def Reg.LANE.CFG.LOCK : Fld := ⟨367, 1, 0, 0, true, false⟩
/-- LANE.CFG.FOM_MIN [23:16] -/
def Reg.LANE.CFG.FOM_MIN : Fld := ⟨368, 8, 32, 32, false, false⟩
/-- LANE.CFG.FOM_ALARM [15:8] -/
def Reg.LANE.CFG.FOM_ALARM : Fld := ⟨369, 8, 48, 48, false, false⟩
/-- LANE.CFG.USE_DEFAULT [6:6] -/
def Reg.LANE.CFG.USE_DEFAULT : Fld := ⟨370, 1, 0, 0, false, false⟩
/-- LANE.CFG.MRATE [5:4] -/
def Reg.LANE.CFG.MRATE : Fld := ⟨371, 2, 2, 2, false, false⟩
/-- LANE.CFG.NENT [3:0] -/
def Reg.LANE.CFG.NENT : Fld := ⟨372, 4, 1, 1, false, false⟩
/-- LANE.CTRL.CLR_FOMMIN [2:2] -/
def Reg.LANE.CTRL.CLR_FOMMIN : Fld := ⟨373, 1, 0, 0, false, false⟩
/-- LANE.CTRL.RELEASE [1:1] -/
def Reg.LANE.CTRL.RELEASE : Fld := ⟨374, 1, 0, 0, false, false⟩
/-- LANE.CTRL.RETRAIN [0:0] -/
def Reg.LANE.CTRL.RETRAIN : Fld := ⟨375, 1, 0, 0, false, false⟩
/-- LANE.STATUS.PSTATE [31:30] -/
def Reg.LANE.STATUS.PSTATE : Fld := ⟨376, 2, 2, 2, false, false⟩
/-- LANE.STATUS.HELD [29:29] -/
def Reg.LANE.STATUS.HELD : Fld := ⟨377, 1, 0, 0, false, false⟩
/-- LANE.STATUS.BSTATE [27:24] -/
def Reg.LANE.STATUS.BSTATE : Fld := ⟨378, 4, 0, 0, false, false⟩
/-- LANE.STATUS.RATE [23:22] -/
def Reg.LANE.STATUS.RATE : Fld := ⟨379, 2, 0, 0, false, false⟩
/-- LANE.STATUS.BEST_RATE [21:20] -/
def Reg.LANE.STATUS.BEST_RATE : Fld := ⟨380, 2, 0, 0, false, false⟩
/-- LANE.STATUS.EQ_SEL [18:16] -/
def Reg.LANE.STATUS.EQ_SEL : Fld := ⟨381, 3, 0, 0, false, false⟩
/-- LANE.STATUS.ONSETS [9:8] -/
def Reg.LANE.STATUS.ONSETS : Fld := ⟨382, 2, 0, 0, false, false⟩
/-- LANE.STATUS.FOM [7:0] -/
def Reg.LANE.STATUS.FOM : Fld := ⟨383, 8, 0, 0, false, false⟩
/-- LANE.FOMMIN.MIN [7:0] -/
def Reg.LANE.FOMMIN.MIN : Fld := ⟨384, 8, 255, 255, false, false⟩
/-- LANE.TRIALFOM_LO.FOM [31:0] -/
def Reg.LANE.TRIALFOM_LO.FOM : Fld := ⟨385, 32, 0, 0, false, false⟩
/-- LANE.TRIALFOM_HI.FOM [31:0] -/
def Reg.LANE.TRIALFOM_HI.FOM : Fld := ⟨386, 32, 0, 0, false, false⟩
/-- LANE.ERRSTAT.HELD_OUT [6:6] -/
def Reg.LANE.ERRSTAT.HELD_OUT : Fld := ⟨387, 1, 0, 0, false, false⟩
/-- LANE.ERRSTAT.RATE_FAIL [5:5] -/
def Reg.LANE.ERRSTAT.RATE_FAIL : Fld := ⟨388, 1, 0, 0, false, false⟩
/-- LANE.ERRSTAT.CHOICE_MISMATCH [4:4] -/
def Reg.LANE.ERRSTAT.CHOICE_MISMATCH : Fld := ⟨389, 1, 0, 0, false, false⟩
/-- LANE.ERRSTAT.FOM_LOW [3:3] -/
def Reg.LANE.ERRSTAT.FOM_LOW : Fld := ⟨390, 1, 0, 0, false, false⟩
/-- LANE.ERRSTAT.LOSS [2:2] -/
def Reg.LANE.ERRSTAT.LOSS : Fld := ⟨391, 1, 0, 0, false, false⟩
/-- LANE.ERRSTAT.CODE_ERR [1:1] -/
def Reg.LANE.ERRSTAT.CODE_ERR : Fld := ⟨392, 1, 0, 0, false, false⟩
/-- LANE.ERRSTAT.TRAIN_ERR [0:0] -/
def Reg.LANE.ERRSTAT.TRAIN_ERR : Fld := ⟨393, 1, 0, 0, false, false⟩
/-- LANE.LOSSCNT.LOSSCNT [31:0] -/
def Reg.LANE.LOSSCNT.LOSSCNT : Fld := ⟨394, 32, 0, 0, true, false⟩
/-- LANE.CODEERR.CODEERR [31:0] -/
def Reg.LANE.CODEERR.CODEERR : Fld := ⟨395, 32, 0, 0, true, false⟩
/-- LANE.LOSS_VT.VT [63:0] -/
def Reg.LANE.LOSS_VT.VT : Fld := ⟨396, 64, 0, 0, false, false⟩
/-- LANE.EQ.TX_PRE [27:24] -/
def Reg.LANE.EQ.TX_PRE : Fld := ⟨397, 4, 0, 0, false, false⟩
/-- LANE.EQ.TX_MAIN [21:16] -/
def Reg.LANE.EQ.TX_MAIN : Fld := ⟨398, 6, 0, 56, false, false⟩
/-- LANE.EQ.TX_POST [12:8] -/
def Reg.LANE.EQ.TX_POST : Fld := ⟨399, 5, 0, 4, false, false⟩
/-- LANE.EQ.RX_CTLE [3:0] -/
def Reg.LANE.EQ.RX_CTLE : Fld := ⟨400, 4, 0, 3, false, false⟩
/-- LANE.ALIGN.ALIGN_OFF [31:31] -/
def Reg.LANE.ALIGN.ALIGN_OFF : Fld := ⟨401, 1, 0, 0, false, false⟩
/-- LANE.ALIGN.SLIP_POS [14:8] -/
def Reg.LANE.ALIGN.SLIP_POS : Fld := ⟨402, 7, 0, 0, false, false⟩
/-- LANE.ALIGN.SLIP [0:0] -/
def Reg.LANE.ALIGN.SLIP : Fld := ⟨403, 1, 0, 0, false, false⟩
/-- LANE.TEST.EN [31:31] -/
def Reg.LANE.TEST.EN : Fld := ⟨404, 1, 0, 0, false, false⟩
/-- LANE.TEST.PATTERN [25:24] -/
def Reg.LANE.TEST.PATTERN : Fld := ⟨405, 2, 2, 2, false, false⟩
/-- LANE.TEST.RATE [21:20] -/
def Reg.LANE.TEST.RATE : Fld := ⟨406, 2, 2, 2, false, false⟩
/-- LANE.TEST.GEN [19:19] -/
def Reg.LANE.TEST.GEN : Fld := ⟨407, 1, 0, 0, false, false⟩
/-- LANE.TEST.CHK [18:18] -/
def Reg.LANE.TEST.CHK : Fld := ⟨408, 1, 0, 0, false, false⟩
/-- LANE.TEST.LOOP [17:17] -/
def Reg.LANE.TEST.LOOP : Fld := ⟨409, 1, 0, 0, false, false⟩
/-- LANE.TEST.INV [16:16] -/
def Reg.LANE.TEST.INV : Fld := ⟨410, 1, 0, 0, false, false⟩
/-- LANE.TEST.EQ_SEL [2:0] -/
def Reg.LANE.TEST.EQ_SEL : Fld := ⟨411, 3, 0, 0, false, false⟩
/-- LANE.TESTSTAT.CHK_LOCK [31:31] -/
def Reg.LANE.TESTSTAT.CHK_LOCK : Fld := ⟨412, 1, 0, 0, false, false⟩
/-- LANE.PRBSERR.PRBSERR [31:0] -/
def Reg.LANE.PRBSERR.PRBSERR : Fld := ⟨413, 32, 0, 0, false, false⟩
/-- LANE.PRBSBITS.PRBSBITS [63:0] -/
def Reg.LANE.PRBSBITS.PRBSBITS : Fld := ⟨414, 64, 0, 0, false, false⟩
/-- LANE.PORTLINK.LAST_LINK [30:24] -/
def Reg.LANE.PORTLINK.LAST_LINK : Fld := ⟨415, 7, 0, 0, false, false⟩
/-- LANE.PORTLINK.NHELD [14:8] -/
def Reg.LANE.PORTLINK.NHELD : Fld := ⟨416, 7, 0, 0, false, false⟩

def rowsVcLanes0 : List Row := [
  ⟨0xc0000, 108, 0x200, 1, 0x0, .lanecfg, some Reg.LANE.CFG.LOCK, true, .none, [⟨31, 1, Reg.LANE.CFG.LOCK, 0, .lock, []⟩, ⟨16, 8, Reg.LANE.CFG.FOM_MIN, 0, .rwl, []⟩, ⟨8, 8, Reg.LANE.CFG.FOM_ALARM, 0, .rwl, []⟩, ⟨6, 1, Reg.LANE.CFG.USE_DEFAULT, 0, .rwl, []⟩, ⟨4, 2, Reg.LANE.CFG.MRATE, 0, .rwl, [(1, 2)]⟩, ⟨0, 4, Reg.LANE.CFG.NENT, 0, .rwl, [(1, 8)]⟩]⟩,
  ⟨0xc0004, 108, 0x200, 1, 0x0, .lanectl, none, true, .none, [⟨2, 1, Reg.LANE.CTRL.CLR_FOMMIN, 0, .wo, []⟩, ⟨1, 1, Reg.LANE.CTRL.RELEASE, 0, .wo, []⟩, ⟨0, 1, Reg.LANE.CTRL.RETRAIN, 0, .wo, []⟩]⟩,
  ⟨0xc0008, 108, 0x200, 1, 0x0, .plain, none, true, .none, [⟨30, 2, Reg.LANE.STATUS.PSTATE, 0, .ro, []⟩, ⟨29, 1, Reg.LANE.STATUS.HELD, 0, .ro, []⟩, ⟨24, 4, Reg.LANE.STATUS.BSTATE, 0, .ro, []⟩, ⟨22, 2, Reg.LANE.STATUS.RATE, 0, .ro, []⟩, ⟨20, 2, Reg.LANE.STATUS.BEST_RATE, 0, .ro, []⟩, ⟨16, 3, Reg.LANE.STATUS.EQ_SEL, 0, .ro, []⟩, ⟨8, 2, Reg.LANE.STATUS.ONSETS, 0, .ro, []⟩, ⟨0, 8, Reg.LANE.STATUS.FOM, 0, .ro, []⟩]⟩,
  ⟨0xc000c, 108, 0x200, 1, 0x0, .plain, none, true, .none, [⟨0, 8, Reg.LANE.FOMMIN.MIN, 0, .ro, []⟩]⟩,
  ⟨0xc0010, 108, 0x200, 1, 0x0, .plain, none, true, .none, [⟨0, 32, Reg.LANE.TRIALFOM_LO.FOM, 0, .ro, []⟩]⟩,
  ⟨0xc0014, 108, 0x200, 1, 0x0, .plain, none, true, .none, [⟨0, 32, Reg.LANE.TRIALFOM_HI.FOM, 0, .ro, []⟩]⟩,
  ⟨0xc0018, 108, 0x200, 1, 0x0, .plain, none, true, .none, [⟨6, 1, Reg.LANE.ERRSTAT.HELD_OUT, 0, .w1c, []⟩, ⟨5, 1, Reg.LANE.ERRSTAT.RATE_FAIL, 0, .w1c, []⟩, ⟨4, 1, Reg.LANE.ERRSTAT.CHOICE_MISMATCH, 0, .w1c, []⟩, ⟨3, 1, Reg.LANE.ERRSTAT.FOM_LOW, 0, .w1c, []⟩, ⟨2, 1, Reg.LANE.ERRSTAT.LOSS, 0, .w1c, []⟩, ⟨1, 1, Reg.LANE.ERRSTAT.CODE_ERR, 0, .w1c, []⟩, ⟨0, 1, Reg.LANE.ERRSTAT.TRAIN_ERR, 0, .w1c, []⟩]⟩,
  ⟨0xc001c, 108, 0x200, 1, 0x0, .plain, none, true, .none, [⟨0, 32, Reg.LANE.LOSSCNT.LOSSCNT, 0, .ro, []⟩]⟩,
  ⟨0xc0020, 108, 0x200, 1, 0x0, .plain, none, true, .none, [⟨0, 32, Reg.LANE.CODEERR.CODEERR, 0, .ro, []⟩]⟩,
  ⟨0xc0024, 108, 0x200, 1, 0x0, .plain, none, true, .low, [⟨0, 32, Reg.LANE.LOSS_VT.VT, 0, .ro, []⟩]⟩,
  ⟨0xc0028, 108, 0x200, 1, 0x0, .plain, none, true, .high, [⟨0, 32, Reg.LANE.LOSS_VT.VT, 32, .ro, []⟩]⟩,
  ⟨0xc0040, 108, 0x200, 8, 0x4, .laneeq, some Reg.LANE.CFG.LOCK, true, .none, [⟨24, 4, Reg.LANE.EQ.TX_PRE, 0, .rwl, []⟩, ⟨16, 6, Reg.LANE.EQ.TX_MAIN, 0, .rwl, []⟩, ⟨8, 5, Reg.LANE.EQ.TX_POST, 0, .rwl, []⟩, ⟨0, 4, Reg.LANE.EQ.RX_CTLE, 0, .rwl, []⟩]⟩]

def rowsVcLanes1 : List Row := [
  ⟨0xc0060, 108, 0x200, 1, 0x0, .align, none, true, .none, [⟨31, 1, Reg.LANE.ALIGN.ALIGN_OFF, 0, .rw, []⟩, ⟨8, 7, Reg.LANE.ALIGN.SLIP_POS, 0, .ro, []⟩, ⟨0, 1, Reg.LANE.ALIGN.SLIP, 0, .wo, []⟩]⟩,
  ⟨0xc0080, 108, 0x200, 1, 0x0, .lanetest, none, true, .none, [⟨31, 1, Reg.LANE.TEST.EN, 0, .rw, []⟩, ⟨24, 2, Reg.LANE.TEST.PATTERN, 0, .rw, []⟩, ⟨20, 2, Reg.LANE.TEST.RATE, 0, .rw, [(0, 2)]⟩, ⟨19, 1, Reg.LANE.TEST.GEN, 0, .rw, []⟩, ⟨18, 1, Reg.LANE.TEST.CHK, 0, .rw, []⟩, ⟨17, 1, Reg.LANE.TEST.LOOP, 0, .rw, []⟩, ⟨16, 1, Reg.LANE.TEST.INV, 0, .rw, []⟩, ⟨0, 3, Reg.LANE.TEST.EQ_SEL, 0, .rw, []⟩]⟩,
  ⟨0xc0084, 108, 0x200, 1, 0x0, .plain, none, true, .none, [⟨31, 1, Reg.LANE.TESTSTAT.CHK_LOCK, 0, .ro, []⟩]⟩,
  ⟨0xc0088, 108, 0x200, 1, 0x0, .plain, none, true, .none, [⟨0, 32, Reg.LANE.PRBSERR.PRBSERR, 0, .ro, []⟩]⟩,
  ⟨0xc008c, 108, 0x200, 1, 0x0, .plain, none, true, .low, [⟨0, 32, Reg.LANE.PRBSBITS.PRBSBITS, 0, .ro, []⟩]⟩,
  ⟨0xc0090, 108, 0x200, 1, 0x0, .plain, none, true, .high, [⟨0, 32, Reg.LANE.PRBSBITS.PRBSBITS, 32, .ro, []⟩]⟩,
  ⟨0xc00a0, 108, 0x200, 1, 0x0, .portlink, none, true, .none, [⟨24, 7, Reg.LANE.PORTLINK.LAST_LINK, 0, .ro, []⟩, ⟨8, 7, Reg.LANE.PORTLINK.NHELD, 0, .ro, []⟩]⟩]

/-! ### TIME (R283, spec/13_valve_time.md) -/

/-- TIME.CFG.LOCK [31:31] -/
def Reg.TIME.CFG.LOCK : Fld := ⟨417, 1, 0, 0, true, false⟩
/-- TIME.CFG.PTP_EN [30:30] -/
def Reg.TIME.CFG.PTP_EN : Fld := ⟨418, 1, 0, 0, false, false⟩
/-- TIME.CFG.PORT [29:29] -/
def Reg.TIME.CFG.PORT : Fld := ⟨419, 1, 0, 0, false, false⟩
/-- TIME.CFG.DOMAIN [23:16] -/
def Reg.TIME.CFG.DOMAIN : Fld := ⟨420, 8, 0, 0, false, false⟩
/-- TIME.CFG.ANN_TO [15:12] -/
def Reg.TIME.CFG.ANN_TO : Fld := ⟨421, 4, 3, 3, false, false⟩
/-- TIME.CFG.KI [11:8] -/
def Reg.TIME.CFG.KI : Fld := ⟨422, 4, 7, 7, false, false⟩
/-- TIME.CFG.KP [7:4] -/
def Reg.TIME.CFG.KP : Fld := ⟨423, 4, 3, 3, false, false⟩
/-- TIME.STEPGUARD.NS [31:0] -/
def Reg.TIME.STEPGUARD.NS : Fld := ⟨424, 32, 1000, 1000, false, false⟩
/-- TIME.LOCKCFG.LOCK_NS [15:0] -/
def Reg.TIME.LOCKCFG.LOCK_NS : Fld := ⟨425, 16, 100, 100, false, false⟩
/-- TIME.TICKOFS.OFS [16:0] -/
def Reg.TIME.TICKOFS.OFS : Fld := ⟨426, 17, 0, 0, false, false⟩
/-- TIME.CTRL.KEY [31:16] -/
def Reg.TIME.CTRL.KEY : Fld := ⟨427, 16, 0, 0, false, false⟩
/-- TIME.CTRL.REARM [1:1] -/
def Reg.TIME.CTRL.REARM : Fld := ⟨428, 1, 0, 0, false, false⟩
/-- TIME.CTRL.LOADVT [0:0] -/
def Reg.TIME.CTRL.LOADVT : Fld := ⟨429, 1, 0, 0, false, false⟩
/-- TIME.STATUS.STATE [31:29] -/
def Reg.TIME.STATUS.STATE : Fld := ⟨430, 3, 0, 0, false, false⟩
/-- TIME.STATUS.LOCKED [28:28] -/
def Reg.TIME.STATUS.LOCKED : Fld := ⟨431, 1, 0, 0, false, false⟩
/-- TIME.STATUS.STEP_ARM [27:27] -/
def Reg.TIME.STATUS.STEP_ARM : Fld := ⟨432, 1, 1, 1, true, false⟩
/-- TIME.STATUS.UTC_VALID [26:26] -/
def Reg.TIME.STATUS.UTC_VALID : Fld := ⟨433, 1, 0, 0, false, false⟩
/-- TIME.STATUS.UTC_OFS [15:0] -/
def Reg.TIME.STATUS.UTC_OFS : Fld := ⟨434, 16, 0, 0, false, false⟩
/-- TIME.ERRSTAT.RATE_LIMIT [7:7] -/
def Reg.TIME.ERRSTAT.RATE_LIMIT : Fld := ⟨435, 1, 0, 0, false, false⟩
/-- TIME.ERRSTAT.PDELAY_FAIL [6:6] -/
def Reg.TIME.ERRSTAT.PDELAY_FAIL : Fld := ⟨436, 1, 0, 0, false, false⟩
/-- TIME.ERRSTAT.SYNC_LOSS [5:5] -/
def Reg.TIME.ERRSTAT.SYNC_LOSS : Fld := ⟨437, 1, 0, 0, false, false⟩
/-- TIME.ERRSTAT.MASTER_CHANGE [4:4] -/
def Reg.TIME.ERRSTAT.MASTER_CHANGE : Fld := ⟨438, 1, 0, 0, false, false⟩
/-- TIME.ERRSTAT.HOLDOVER [3:3] -/
def Reg.TIME.ERRSTAT.HOLDOVER : Fld := ⟨439, 1, 0, 0, false, false⟩
/-- TIME.ERRSTAT.JUMP_REFUSED [2:2] -/
def Reg.TIME.ERRSTAT.JUMP_REFUSED : Fld := ⟨440, 1, 0, 0, false, false⟩
/-- TIME.ERRSTAT.STEP_HELD [1:1] -/
def Reg.TIME.ERRSTAT.STEP_HELD : Fld := ⟨441, 1, 0, 0, false, false⟩
/-- TIME.ERRSTAT.STEP_DONE [0:0] -/
def Reg.TIME.ERRSTAT.STEP_DONE : Fld := ⟨442, 1, 0, 0, false, false⟩
/-- TIME.NOW.VT [63:0] -/
def Reg.TIME.NOW.VT : Fld := ⟨443, 64, 0, 0, true, false⟩
/-- TIME.SETVT.SETVT [63:0] -/
def Reg.TIME.SETVT.SETVT : Fld := ⟨444, 64, 0, 0, false, false⟩
/-- TIME.RATE.RATE [63:0] -/
def Reg.TIME.RATE.RATE : Fld := ⟨445, 64, 0, 0, true, false⟩
/-- TIME.OFFSET.OFFSET [31:0] -/
def Reg.TIME.OFFSET.OFFSET : Fld := ⟨446, 32, 0, 0, false, false⟩
/-- TIME.REFUSED_NS.REFUSED_NS [31:0] -/
def Reg.TIME.REFUSED_NS.REFUSED_NS : Fld := ⟨447, 32, 0, 0, false, false⟩
/-- TIME.GMID.ID [63:0] -/
def Reg.TIME.GMID.ID : Fld := ⟨448, 64, 0, 0, false, false⟩
/-- TPORT.ING_PS.ING_PS [31:0] -/
def Reg.TPORT.ING_PS.ING_PS : Fld := ⟨449, 32, 0, 0, false, false⟩
/-- TPORT.EG_PS.EG_PS [31:0] -/
def Reg.TPORT.EG_PS.EG_PS : Fld := ⟨450, 32, 0, 0, false, false⟩
/-- TPORT.PSTAT.LINK [31:31] -/
def Reg.TPORT.PSTAT.LINK : Fld := ⟨451, 1, 0, 0, false, false⟩
/-- TPORT.PSTAT.PDV [30:30] -/
def Reg.TPORT.PSTAT.PDV : Fld := ⟨452, 1, 0, 0, false, false⟩
/-- TPORT.PDELAY.PDELAY [31:0] -/
def Reg.TPORT.PDELAY.PDELAY : Fld := ⟨453, 32, 0, 0, false, false⟩
/-- TPORT.SYNCCNT.SYNCCNT [31:0] -/
def Reg.TPORT.SYNCCNT.SYNCCNT : Fld := ⟨454, 32, 0, 0, true, false⟩

def rowsVcTime0 : List Row := [
  ⟨0x100000, 1, 0x0, 1, 0x0, .timecfg, some Reg.TIME.CFG.LOCK, false, .none, [⟨31, 1, Reg.TIME.CFG.LOCK, 0, .lock, []⟩, ⟨30, 1, Reg.TIME.CFG.PTP_EN, 0, .rwl, []⟩, ⟨29, 1, Reg.TIME.CFG.PORT, 0, .rwl, []⟩, ⟨16, 8, Reg.TIME.CFG.DOMAIN, 0, .rwl, []⟩, ⟨12, 4, Reg.TIME.CFG.ANN_TO, 0, .rwl, [(2, 10)]⟩, ⟨8, 4, Reg.TIME.CFG.KI, 0, .rwl, []⟩, ⟨4, 4, Reg.TIME.CFG.KP, 0, .rwl, []⟩]⟩,
  ⟨0x100004, 1, 0x0, 1, 0x0, .timepar, some Reg.TIME.CFG.LOCK, false, .none, [⟨0, 32, Reg.TIME.STEPGUARD.NS, 0, .rwl, [(100, 1000000)]⟩]⟩,
  ⟨0x100008, 1, 0x0, 1, 0x0, .timepar, some Reg.TIME.CFG.LOCK, false, .none, [⟨0, 16, Reg.TIME.LOCKCFG.LOCK_NS, 0, .rwl, []⟩]⟩,
  ⟨0x10000c, 1, 0x0, 1, 0x0, .timepar, some Reg.TIME.CFG.LOCK, false, .none, [⟨0, 17, Reg.TIME.TICKOFS.OFS, 0, .rwl, []⟩]⟩,
  ⟨0x100010, 1, 0x0, 1, 0x0, .timectl, none, false, .none, [⟨16, 16, Reg.TIME.CTRL.KEY, 0, .wo, []⟩, ⟨1, 1, Reg.TIME.CTRL.REARM, 0, .wo, []⟩, ⟨0, 1, Reg.TIME.CTRL.LOADVT, 0, .wo, []⟩]⟩,
  ⟨0x100014, 1, 0x0, 1, 0x0, .plain, none, false, .none, [⟨29, 3, Reg.TIME.STATUS.STATE, 0, .ro, []⟩, ⟨28, 1, Reg.TIME.STATUS.LOCKED, 0, .ro, []⟩, ⟨27, 1, Reg.TIME.STATUS.STEP_ARM, 0, .ro, []⟩, ⟨26, 1, Reg.TIME.STATUS.UTC_VALID, 0, .ro, []⟩, ⟨0, 16, Reg.TIME.STATUS.UTC_OFS, 0, .ro, []⟩]⟩,
  ⟨0x100018, 1, 0x0, 1, 0x0, .plain, none, false, .none, [⟨7, 1, Reg.TIME.ERRSTAT.RATE_LIMIT, 0, .w1c, []⟩, ⟨6, 1, Reg.TIME.ERRSTAT.PDELAY_FAIL, 0, .w1c, []⟩, ⟨5, 1, Reg.TIME.ERRSTAT.SYNC_LOSS, 0, .w1c, []⟩, ⟨4, 1, Reg.TIME.ERRSTAT.MASTER_CHANGE, 0, .w1c, []⟩, ⟨3, 1, Reg.TIME.ERRSTAT.HOLDOVER, 0, .w1c, []⟩, ⟨2, 1, Reg.TIME.ERRSTAT.JUMP_REFUSED, 0, .w1c, []⟩, ⟨1, 1, Reg.TIME.ERRSTAT.STEP_HELD, 0, .w1c, []⟩, ⟨0, 1, Reg.TIME.ERRSTAT.STEP_DONE, 0, .w1c, []⟩]⟩,
  ⟨0x100020, 1, 0x0, 1, 0x0, .plain, none, false, .low, [⟨0, 32, Reg.TIME.NOW.VT, 0, .ro, []⟩]⟩,
  ⟨0x100024, 1, 0x0, 1, 0x0, .plain, none, false, .high, [⟨0, 32, Reg.TIME.NOW.VT, 32, .ro, []⟩]⟩,
  ⟨0x100028, 1, 0x0, 1, 0x0, .plain, none, false, .low, [⟨0, 32, Reg.TIME.SETVT.SETVT, 0, .rw, []⟩]⟩,
  ⟨0x10002c, 1, 0x0, 1, 0x0, .plain, none, false, .high, [⟨0, 32, Reg.TIME.SETVT.SETVT, 32, .rw, []⟩]⟩,
  ⟨0x100030, 1, 0x0, 1, 0x0, .rate, none, false, .low, [⟨0, 32, Reg.TIME.RATE.RATE, 0, .rw, []⟩]⟩]

def rowsVcTime1 : List Row := [
  ⟨0x100034, 1, 0x0, 1, 0x0, .rate, none, false, .high, [⟨0, 32, Reg.TIME.RATE.RATE, 32, .rw, []⟩]⟩,
  ⟨0x100038, 1, 0x0, 1, 0x0, .plain, none, false, .none, [⟨0, 32, Reg.TIME.OFFSET.OFFSET, 0, .ro, []⟩]⟩,
  ⟨0x10003c, 1, 0x0, 1, 0x0, .plain, none, false, .none, [⟨0, 32, Reg.TIME.REFUSED_NS.REFUSED_NS, 0, .ro, []⟩]⟩,
  ⟨0x100040, 1, 0x0, 1, 0x0, .plain, none, false, .low, [⟨0, 32, Reg.TIME.GMID.ID, 0, .ro, []⟩]⟩,
  ⟨0x100044, 1, 0x0, 1, 0x0, .plain, none, false, .high, [⟨0, 32, Reg.TIME.GMID.ID, 32, .ro, []⟩]⟩,
  ⟨0x100100, 2, 0x40, 1, 0x0, .plain, some Reg.TIME.CFG.LOCK, false, .none, [⟨0, 32, Reg.TPORT.ING_PS.ING_PS, 0, .rwl, []⟩]⟩,
  ⟨0x100104, 2, 0x40, 1, 0x0, .plain, some Reg.TIME.CFG.LOCK, false, .none, [⟨0, 32, Reg.TPORT.EG_PS.EG_PS, 0, .rwl, []⟩]⟩,
  ⟨0x100108, 2, 0x40, 1, 0x0, .plain, none, false, .none, [⟨31, 1, Reg.TPORT.PSTAT.LINK, 0, .ro, []⟩, ⟨30, 1, Reg.TPORT.PSTAT.PDV, 0, .ro, []⟩]⟩,
  ⟨0x10010c, 2, 0x40, 1, 0x0, .plain, none, false, .none, [⟨0, 32, Reg.TPORT.PDELAY.PDELAY, 0, .ro, []⟩]⟩,
  ⟨0x100110, 2, 0x40, 1, 0x0, .plain, none, false, .none, [⟨0, 32, Reg.TPORT.SYNCCNT.SYNCCNT, 0, .ro, []⟩]⟩]

/-! ### HOSTQ (R309, spec/14_host_queues.md) -/

/-- HOSTQ.STATUS.INFLIGHT [24:16] -/
def Reg.HOSTQ.STATUS.INFLIGHT : Fld := ⟨455, 9, 0, 0, false, false⟩
/-- HOSTQ.STATUS.HALTED [15:0] -/
def Reg.HOSTQ.STATUS.HALTED : Fld := ⟨456, 16, 0, 0, false, false⟩
/-- HOSTQ.IRQSTAT.PEND [13:0] -/
def Reg.HOSTQ.IRQSTAT.PEND : Fld := ⟨457, 14, 0, 0, false, false⟩
/-- HOSTQ.IRQMAP.EN [31:31] -/
def Reg.HOSTQ.IRQMAP.EN : Fld := ⟨458, 1, 0, 0, false, false⟩
/-- HOSTQ.IRQMAP.VECTOR [4:0] -/
def Reg.HOSTQ.IRQMAP.VECTOR : Fld := ⟨459, 5, 0, 0, false, false⟩
/-- SQ.BASE_LO.ADDR [31:12] -/
def Reg.SQ.BASE_LO.ADDR : Fld := ⟨460, 20, 0, 0, false, false⟩
/-- SQ.BASE_HI.ADDR_HI [31:0] -/
def Reg.SQ.BASE_HI.ADDR_HI : Fld := ⟨461, 32, 0, 0, false, false⟩
/-- SQ.CFG.EN [31:31] -/
def Reg.SQ.CFG.EN : Fld := ⟨462, 1, 0, 0, false, false⟩
/-- SQ.CFG.LOG2SIZE [27:24] -/
def Reg.SQ.CFG.LOG2SIZE : Fld := ⟨463, 4, 4, 4, false, false⟩
/-- SQ.CFG.CQ [19:16] -/
def Reg.SQ.CFG.CQ : Fld := ⟨464, 4, 0, 0, false, false⟩
/-- SQ.CFG.INFLIGHT_MAX [8:0] -/
def Reg.SQ.CFG.INFLIGHT_MAX : Fld := ⟨465, 9, 256, 256, false, false⟩
/-- SQ.CTRL.RESUME [31:31] -/
def Reg.SQ.CTRL.RESUME : Fld := ⟨466, 1, 0, 0, false, false⟩
/-- SQ.CTRL.ABORT [30:30] -/
def Reg.SQ.CTRL.ABORT : Fld := ⟨467, 1, 0, 0, false, false⟩
/-- SQ.CTRL.SETHEAD [29:29] -/
def Reg.SQ.CTRL.SETHEAD : Fld := ⟨468, 1, 0, 0, false, false⟩
/-- SQ.CTRL.HEAD [11:0] -/
def Reg.SQ.CTRL.HEAD : Fld := ⟨469, 12, 0, 0, false, false⟩
/-- SQ.STATUS.STATE [31:29] -/
def Reg.SQ.STATUS.STATE : Fld := ⟨470, 3, 0, 0, false, false⟩
/-- SQ.STATUS.HALT_CAUSE [27:24] -/
def Reg.SQ.STATUS.HALT_CAUSE : Fld := ⟨471, 4, 0, 0, false, false⟩
/-- SQ.STATUS.INFLIGHT [20:12] -/
def Reg.SQ.STATUS.INFLIGHT : Fld := ⟨472, 9, 0, 0, false, false⟩
/-- SQ.STATUS.HEAD [11:0] -/
def Reg.SQ.STATUS.HEAD : Fld := ⟨473, 12, 0, 0, false, false⟩
/-- SQ.HALTINFO.TAG [31:16] -/
def Reg.SQ.HALTINFO.TAG : Fld := ⟨474, 16, 0, 0, false, false⟩
/-- SQ.HALTINFO.SLOT [11:0] -/
def Reg.SQ.HALTINFO.SLOT : Fld := ⟨475, 12, 0, 0, false, false⟩
/-- CQ.BASE_LO.ADDR [31:12] -/
def Reg.CQ.BASE_LO.ADDR : Fld := ⟨476, 20, 0, 0, false, false⟩
/-- CQ.BASE_HI.ADDR_HI [31:0] -/
def Reg.CQ.BASE_HI.ADDR_HI : Fld := ⟨477, 32, 0, 0, false, false⟩
/-- CQ.CFG.EN [31:31] -/
def Reg.CQ.CFG.EN : Fld := ⟨478, 1, 0, 0, false, false⟩
/-- CQ.CFG.LOG2SIZE [27:24] -/
def Reg.CQ.CFG.LOG2SIZE : Fld := ⟨479, 4, 4, 4, false, false⟩
/-- CQ.CFG.VECTOR [20:16] -/
def Reg.CQ.CFG.VECTOR : Fld := ⟨480, 5, 0, 0, false, false⟩
/-- CQ.CFG.COAL_COUNT [15:8] -/
def Reg.CQ.CFG.COAL_COUNT : Fld := ⟨481, 8, 0, 0, false, false⟩
/-- CQ.COAL.COAL_US [15:0] -/
def Reg.CQ.COAL.COAL_US : Fld := ⟨482, 16, 0, 0, false, false⟩
/-- CQ.STATUS.PHASE [31:31] -/
def Reg.CQ.STATUS.PHASE : Fld := ⟨483, 1, 0, 0, false, false⟩
/-- CQ.STATUS.HEAD [27:16] -/
def Reg.CQ.STATUS.HEAD : Fld := ⟨484, 12, 0, 0, false, false⟩
/-- CQ.STATUS.TAIL [11:0] -/
def Reg.CQ.STATUS.TAIL : Fld := ⟨485, 12, 0, 0, false, false⟩
/-- HOSTQ.SQDB.TAIL [11:0] -/
def Reg.HOSTQ.SQDB.TAIL : Fld := ⟨486, 12, 0, 0, false, false⟩
/-- HOSTQ.CQDB.HEAD [11:0] -/
def Reg.HOSTQ.CQDB.HEAD : Fld := ⟨487, 12, 0, 0, false, false⟩

def rowsVcHostq0 : List Row := [
  ⟨0x10000, 1, 0x0, 1, 0x0, .plain, none, false, .none, [⟨16, 9, Reg.HOSTQ.STATUS.INFLIGHT, 0, .ro, []⟩, ⟨0, 16, Reg.HOSTQ.STATUS.HALTED, 0, .ro, []⟩]⟩,
  ⟨0x10004, 1, 0x0, 1, 0x0, .irqstat, none, false, .none, [⟨0, 14, Reg.HOSTQ.IRQSTAT.PEND, 0, .w1c, []⟩]⟩,
  ⟨0x10040, 14, 0x4, 1, 0x0, .irqmap, none, false, .none, [⟨31, 1, Reg.HOSTQ.IRQMAP.EN, 0, .rw, []⟩, ⟨0, 5, Reg.HOSTQ.IRQMAP.VECTOR, 0, .rw, []⟩]⟩,
  ⟨0x11000, 16, 0x40, 1, 0x0, .plain, none, false, .low, [⟨12, 20, Reg.SQ.BASE_LO.ADDR, 0, .rw, []⟩]⟩,
  ⟨0x11004, 16, 0x40, 1, 0x0, .plain, none, false, .high, [⟨0, 32, Reg.SQ.BASE_HI.ADDR_HI, 0, .rw, []⟩]⟩,
  ⟨0x11008, 16, 0x40, 1, 0x0, .sqcfg, none, false, .none, [⟨31, 1, Reg.SQ.CFG.EN, 0, .rw, []⟩, ⟨24, 4, Reg.SQ.CFG.LOG2SIZE, 0, .rw, [(4, 12)]⟩, ⟨16, 4, Reg.SQ.CFG.CQ, 0, .rw, []⟩, ⟨0, 9, Reg.SQ.CFG.INFLIGHT_MAX, 0, .rw, [(1, 256)]⟩]⟩,
  ⟨0x1100c, 16, 0x40, 1, 0x0, .sqctl, none, false, .none, [⟨31, 1, Reg.SQ.CTRL.RESUME, 0, .wo, []⟩, ⟨30, 1, Reg.SQ.CTRL.ABORT, 0, .wo, []⟩, ⟨29, 1, Reg.SQ.CTRL.SETHEAD, 0, .wo, []⟩, ⟨0, 12, Reg.SQ.CTRL.HEAD, 0, .wo, []⟩]⟩,
  ⟨0x11010, 16, 0x40, 1, 0x0, .plain, none, false, .none, [⟨29, 3, Reg.SQ.STATUS.STATE, 0, .ro, []⟩, ⟨24, 4, Reg.SQ.STATUS.HALT_CAUSE, 0, .ro, []⟩, ⟨12, 9, Reg.SQ.STATUS.INFLIGHT, 0, .ro, []⟩, ⟨0, 12, Reg.SQ.STATUS.HEAD, 0, .ro, []⟩]⟩,
  ⟨0x11014, 16, 0x40, 1, 0x0, .plain, none, false, .none, [⟨16, 16, Reg.SQ.HALTINFO.TAG, 0, .ro, []⟩, ⟨0, 12, Reg.SQ.HALTINFO.SLOT, 0, .ro, []⟩]⟩,
  ⟨0x12000, 16, 0x40, 1, 0x0, .plain, none, false, .low, [⟨12, 20, Reg.CQ.BASE_LO.ADDR, 0, .rw, []⟩]⟩,
  ⟨0x12004, 16, 0x40, 1, 0x0, .plain, none, false, .high, [⟨0, 32, Reg.CQ.BASE_HI.ADDR_HI, 0, .rw, []⟩]⟩,
  ⟨0x12008, 16, 0x40, 1, 0x0, .cqcfg, none, false, .none, [⟨31, 1, Reg.CQ.CFG.EN, 0, .rw, []⟩, ⟨24, 4, Reg.CQ.CFG.LOG2SIZE, 0, .rw, [(4, 12)]⟩, ⟨16, 5, Reg.CQ.CFG.VECTOR, 0, .rw, []⟩, ⟨8, 8, Reg.CQ.CFG.COAL_COUNT, 0, .rw, []⟩]⟩]

def rowsVcHostq1 : List Row := [
  ⟨0x1200c, 16, 0x40, 1, 0x0, .plain, none, false, .none, [⟨0, 16, Reg.CQ.COAL.COAL_US, 0, .rw, []⟩]⟩,
  ⟨0x12010, 16, 0x40, 1, 0x0, .plain, none, false, .none, [⟨31, 1, Reg.CQ.STATUS.PHASE, 0, .ro, []⟩, ⟨16, 12, Reg.CQ.STATUS.HEAD, 0, .ro, []⟩, ⟨0, 12, Reg.CQ.STATUS.TAIL, 0, .ro, []⟩]⟩,
  ⟨0x18000, 16, 0x8, 1, 0x0, .sqdb, none, false, .none, [⟨0, 12, Reg.HOSTQ.SQDB.TAIL, 0, .wo, []⟩]⟩,
  ⟨0x18004, 16, 0x8, 1, 0x0, .cqdb, none, false, .none, [⟨0, 12, Reg.HOSTQ.CQDB.HEAD, 0, .wo, []⟩]⟩]

/-! ### LEDGER (R326, spec/15_recorders.md) -/

/-- LEDGER.CFG.LOCK [31:31] -/
def Reg.LEDGER.CFG.LOCK : Fld := ⟨488, 1, 0, 0, true, false⟩
/-- LEDGER.CFG.IRQ_CLASS [10:8] -/
def Reg.LEDGER.CFG.IRQ_CLASS : Fld := ⟨489, 3, 3, 3, false, false⟩
/-- LEDGER.CFG.STATS_MIN [7:0] -/
def Reg.LEDGER.CFG.STATS_MIN : Fld := ⟨490, 8, 10, 10, false, false⟩
/-- LEDGER.CTRL.KEY [31:16] -/
def Reg.LEDGER.CTRL.KEY : Fld := ⟨491, 16, 0, 0, false, false⟩
/-- LEDGER.CTRL.FORMAT [3:3] -/
def Reg.LEDGER.CTRL.FORMAT : Fld := ⟨492, 1, 0, 0, false, false⟩
/-- LEDGER.CTRL.UNIT_RST [2:2] -/
def Reg.LEDGER.CTRL.UNIT_RST : Fld := ⟨493, 1, 0, 0, false, false⟩
/-- LEDGER.CTRL.FLUSH [1:1] -/
def Reg.LEDGER.CTRL.FLUSH : Fld := ⟨494, 1, 0, 0, false, false⟩
/-- LEDGER.CTRL.CLR_STATS [0:0] -/
def Reg.LEDGER.CTRL.CLR_STATS : Fld := ⟨495, 1, 0, 0, false, false⟩
/-- LEDGER.STATUS.STATE [31:30] -/
def Reg.LEDGER.STATUS.STATE : Fld := ⟨496, 2, 0, 0, false, false⟩
/-- LEDGER.STATUS.PERM_FULL [29:29] -/
def Reg.LEDGER.STATUS.PERM_FULL : Fld := ⟨497, 1, 0, 0, false, false⟩
/-- LEDGER.STATUS.OPEN [28:28] -/
def Reg.LEDGER.STATUS.OPEN : Fld := ⟨498, 1, 0, 0, false, false⟩
/-- LEDGER.STATUS.QUEUED [6:0] -/
def Reg.LEDGER.STATUS.QUEUED : Fld := ⟨499, 7, 0, 0, false, false⟩
/-- LEDGER.ERRSTAT.LOST [3:3] -/
def Reg.LEDGER.ERRSTAT.LOST : Fld := ⟨500, 1, 0, 0, false, false⟩
/-- LEDGER.ERRSTAT.FLASH_FAIL [2:2] -/
def Reg.LEDGER.ERRSTAT.FLASH_FAIL : Fld := ⟨501, 1, 0, 0, false, false⟩
/-- LEDGER.ERRSTAT.STATS_BAD [1:1] -/
def Reg.LEDGER.ERRSTAT.STATS_BAD : Fld := ⟨502, 1, 0, 0, false, false⟩
/-- LEDGER.ERRSTAT.IRQ_REC [0:0] -/
def Reg.LEDGER.ERRSTAT.IRQ_REC : Fld := ⟨503, 1, 0, 0, false, false⟩
/-- LEDGER.HOURS.VALUE [31:0] -/
def Reg.LEDGER.HOURS.VALUE : Fld := ⟨504, 32, 0, 0, true, false⟩
/-- LEDGER.PCYCLES.VALUE [31:0] -/
def Reg.LEDGER.PCYCLES.VALUE : Fld := ⟨505, 32, 0, 0, true, false⟩
/-- LEDGER.NEXT_RSEQ.VALUE [31:0] -/
def Reg.LEDGER.NEXT_RSEQ.VALUE : Fld := ⟨506, 32, 0, 0, true, false⟩
/-- LEDGER.NEXT_EVENT.VALUE [31:0] -/
def Reg.LEDGER.NEXT_EVENT.VALUE : Fld := ⟨507, 32, 0, 0, true, false⟩
/-- LEDGER.LASTREP.VALUE [31:0] -/
def Reg.LEDGER.LASTREP.VALUE : Fld := ⟨508, 32, 0, 0, false, false⟩
/-- LEDGER.LOSTCNT.VALUE [31:0] -/
def Reg.LEDGER.LOSTCNT.VALUE : Fld := ⟨509, 32, 0, 0, true, false⟩

def rowsVcLedger0 : List Row := [
  ⟨0x110000, 1, 0x0, 1, 0x0, .plain, some Reg.LEDGER.CFG.LOCK, false, .none, [⟨31, 1, Reg.LEDGER.CFG.LOCK, 0, .lock, []⟩, ⟨8, 3, Reg.LEDGER.CFG.IRQ_CLASS, 0, .rwl, [(0, 4)]⟩, ⟨0, 8, Reg.LEDGER.CFG.STATS_MIN, 0, .rwl, [(1, 255)]⟩]⟩,
  ⟨0x110004, 1, 0x0, 1, 0x0, .ledgerctl, none, false, .none, [⟨16, 16, Reg.LEDGER.CTRL.KEY, 0, .wo, []⟩, ⟨3, 1, Reg.LEDGER.CTRL.FORMAT, 0, .wo, []⟩, ⟨2, 1, Reg.LEDGER.CTRL.UNIT_RST, 0, .wo, []⟩, ⟨1, 1, Reg.LEDGER.CTRL.FLUSH, 0, .wo, []⟩, ⟨0, 1, Reg.LEDGER.CTRL.CLR_STATS, 0, .wo, []⟩]⟩,
  ⟨0x110008, 1, 0x0, 1, 0x0, .plain, none, false, .none, [⟨30, 2, Reg.LEDGER.STATUS.STATE, 0, .ro, []⟩, ⟨29, 1, Reg.LEDGER.STATUS.PERM_FULL, 0, .ro, []⟩, ⟨28, 1, Reg.LEDGER.STATUS.OPEN, 0, .ro, []⟩, ⟨0, 7, Reg.LEDGER.STATUS.QUEUED, 0, .ro, []⟩]⟩,
  ⟨0x11000c, 1, 0x0, 1, 0x0, .plain, none, false, .none, [⟨3, 1, Reg.LEDGER.ERRSTAT.LOST, 0, .w1c, []⟩, ⟨2, 1, Reg.LEDGER.ERRSTAT.FLASH_FAIL, 0, .w1c, []⟩, ⟨1, 1, Reg.LEDGER.ERRSTAT.STATS_BAD, 0, .w1c, []⟩, ⟨0, 1, Reg.LEDGER.ERRSTAT.IRQ_REC, 0, .w1c, []⟩]⟩,
  ⟨0x110010, 1, 0x0, 1, 0x0, .plain, none, false, .none, [⟨0, 32, Reg.LEDGER.HOURS.VALUE, 0, .ro, []⟩]⟩,
  ⟨0x110014, 1, 0x0, 1, 0x0, .plain, none, false, .none, [⟨0, 32, Reg.LEDGER.PCYCLES.VALUE, 0, .ro, []⟩]⟩,
  ⟨0x110018, 1, 0x0, 1, 0x0, .plain, none, false, .none, [⟨0, 32, Reg.LEDGER.NEXT_RSEQ.VALUE, 0, .ro, []⟩]⟩,
  ⟨0x11001c, 1, 0x0, 1, 0x0, .plain, none, false, .none, [⟨0, 32, Reg.LEDGER.NEXT_EVENT.VALUE, 0, .ro, []⟩]⟩,
  ⟨0x110020, 1, 0x0, 1, 0x0, .plain, none, false, .none, [⟨0, 32, Reg.LEDGER.LASTREP.VALUE, 0, .ro, []⟩]⟩,
  ⟨0x110024, 1, 0x0, 1, 0x0, .plain, none, false, .none, [⟨0, 32, Reg.LEDGER.LOSTCNT.VALUE, 0, .ro, []⟩]⟩]

/-! ### APERTURE (R327, spec/15_recorders.md) -/

/-- APERTURE.CFG.NAREA [30:29] -/
def Reg.APERTURE.CFG.NAREA : Fld := ⟨510, 2, 0, 0, false, false⟩
/-- APERTURE.CFG.WRAP [28:28] -/
def Reg.APERTURE.CFG.WRAP : Fld := ⟨511, 1, 0, 0, false, false⟩
/-- APERTURE.CFG.PRE_EIGHTHS [27:25] -/
def Reg.APERTURE.CFG.PRE_EIGHTHS : Fld := ⟨512, 3, 4, 4, false, false⟩
/-- APERTURE.POSTMAX.VALUE [23:0] -/
def Reg.APERTURE.POSTMAX.VALUE : Fld := ⟨513, 24, 10000, 10000, false, false⟩
/-- APERTURE.HOLDOFF.MODE [31:31] -/
def Reg.APERTURE.HOLDOFF.MODE : Fld := ⟨514, 1, 0, 0, false, false⟩
/-- APERTURE.HOLDOFF.VALUE [23:0] -/
def Reg.APERTURE.HOLDOFF.VALUE : Fld := ⟨515, 24, 10000, 10000, false, false⟩
/-- APERTURE.CTRL.FORCE [2:2] -/
def Reg.APERTURE.CTRL.FORCE : Fld := ⟨516, 1, 0, 0, false, false⟩
/-- APERTURE.CTRL.STOP [1:1] -/
def Reg.APERTURE.CTRL.STOP : Fld := ⟨517, 1, 0, 0, false, false⟩
/-- APERTURE.CTRL.START [0:0] -/
def Reg.APERTURE.CTRL.START : Fld := ⟨518, 1, 0, 0, false, false⟩
/-- APERTURE.STATUS.STATE [31:29] -/
def Reg.APERTURE.STATUS.STATE : Fld := ⟨519, 3, 0, 0, false, false⟩
/-- APERTURE.STATUS.AREA [28:26] -/
def Reg.APERTURE.STATUS.AREA : Fld := ⟨520, 3, 0, 0, false, false⟩
/-- APERTURE.STATUS.UNREAD [15:8] -/
def Reg.APERTURE.STATUS.UNREAD : Fld := ⟨521, 8, 0, 0, true, false⟩
/-- APERTURE.ERRSTAT.FULL [2:2] -/
def Reg.APERTURE.ERRSTAT.FULL : Fld := ⟨522, 1, 0, 0, false, false⟩
/-- APERTURE.ERRSTAT.DONE [1:1] -/
def Reg.APERTURE.ERRSTAT.DONE : Fld := ⟨523, 1, 0, 0, false, false⟩
/-- APERTURE.ERRSTAT.IGNORED [0:0] -/
def Reg.APERTURE.ERRSTAT.IGNORED : Fld := ⟨524, 1, 0, 0, false, false⟩
/-- APERTURE.IGNCNT.IGNCNT [31:0] -/
def Reg.APERTURE.IGNCNT.IGNCNT : Fld := ⟨525, 32, 0, 0, false, false⟩
/-- APERTURE.CHSEL.EN [31:31] -/
def Reg.APERTURE.CHSEL.EN : Fld := ⟨526, 1, 0, 0, false, false⟩
/-- APERTURE.CHSEL.SRC [27:24] -/
def Reg.APERTURE.CHSEL.SRC : Fld := ⟨527, 4, 0, 0, false, false⟩
/-- APERTURE.CHSEL.IDX_A [23:16] -/
def Reg.APERTURE.CHSEL.IDX_A : Fld := ⟨528, 8, 0, 0, false, false⟩
/-- APERTURE.CHSEL.IDX_B [12:0] -/
def Reg.APERTURE.CHSEL.IDX_B : Fld := ⟨529, 13, 0, 0, false, false⟩
/-- APERTURE.CHDELTA.DELTA [31:0] -/
def Reg.APERTURE.CHDELTA.DELTA : Fld := ⟨530, 32, 0, 0, false, false⟩
/-- APERTURE.TRIG.EN [31:31] -/
def Reg.APERTURE.TRIG.EN : Fld := ⟨531, 1, 0, 0, false, false⟩
/-- APERTURE.TRIG.KIND [30:28] -/
def Reg.APERTURE.TRIG.KIND : Fld := ⟨532, 3, 0, 0, false, false⟩
/-- APERTURE.TRIG.CH [21:16] -/
def Reg.APERTURE.TRIG.CH : Fld := ⟨533, 6, 0, 0, false, false⟩
/-- APERTURE.TLEVEL.LEVEL [31:0] -/
def Reg.APERTURE.TLEVEL.LEVEL : Fld := ⟨534, 32, 0, 0, false, false⟩

def rowsVcAperture0 : List Row := [
  ⟨0x120000, 1, 0x0, 1, 0x0, .apcfg, none, false, .none, [⟨29, 2, Reg.APERTURE.CFG.NAREA, 0, .rw, []⟩, ⟨28, 1, Reg.APERTURE.CFG.WRAP, 0, .rw, []⟩, ⟨25, 3, Reg.APERTURE.CFG.PRE_EIGHTHS, 0, .rw, [(1, 7)]⟩]⟩,
  ⟨0x120004, 1, 0x0, 1, 0x0, .apcfg, none, false, .none, [⟨0, 24, Reg.APERTURE.POSTMAX.VALUE, 0, .rw, [(1, 16777214)]⟩]⟩,
  ⟨0x120008, 1, 0x0, 1, 0x0, .apcfg, none, false, .none, [⟨31, 1, Reg.APERTURE.HOLDOFF.MODE, 0, .rw, []⟩, ⟨0, 24, Reg.APERTURE.HOLDOFF.VALUE, 0, .rw, [(0, 16777214)]⟩]⟩,
  ⟨0x12000c, 1, 0x0, 1, 0x0, .apctl, none, false, .none, [⟨2, 1, Reg.APERTURE.CTRL.FORCE, 0, .wo, []⟩, ⟨1, 1, Reg.APERTURE.CTRL.STOP, 0, .wo, []⟩, ⟨0, 1, Reg.APERTURE.CTRL.START, 0, .wo, []⟩]⟩,
  ⟨0x120010, 1, 0x0, 1, 0x0, .plain, none, false, .none, [⟨29, 3, Reg.APERTURE.STATUS.STATE, 0, .ro, []⟩, ⟨26, 3, Reg.APERTURE.STATUS.AREA, 0, .ro, []⟩, ⟨8, 8, Reg.APERTURE.STATUS.UNREAD, 0, .ro, []⟩]⟩,
  ⟨0x120014, 1, 0x0, 1, 0x0, .plain, none, false, .none, [⟨2, 1, Reg.APERTURE.ERRSTAT.FULL, 0, .w1c, []⟩, ⟨1, 1, Reg.APERTURE.ERRSTAT.DONE, 0, .w1c, []⟩, ⟨0, 1, Reg.APERTURE.ERRSTAT.IGNORED, 0, .w1c, []⟩]⟩,
  ⟨0x120018, 1, 0x0, 1, 0x0, .plain, none, false, .none, [⟨0, 32, Reg.APERTURE.IGNCNT.IGNCNT, 0, .ro, []⟩]⟩,
  ⟨0x120100, 64, 0x4, 1, 0x0, .apcfg, none, false, .none, [⟨31, 1, Reg.APERTURE.CHSEL.EN, 0, .rw, []⟩, ⟨24, 4, Reg.APERTURE.CHSEL.SRC, 0, .rw, []⟩, ⟨16, 8, Reg.APERTURE.CHSEL.IDX_A, 0, .rw, []⟩, ⟨0, 13, Reg.APERTURE.CHSEL.IDX_B, 0, .rw, []⟩]⟩,
  ⟨0x120200, 64, 0x4, 1, 0x0, .apcfg, none, false, .none, [⟨0, 32, Reg.APERTURE.CHDELTA.DELTA, 0, .rw, []⟩]⟩,
  ⟨0x120300, 16, 0x8, 1, 0x0, .apcfg, none, false, .none, [⟨31, 1, Reg.APERTURE.TRIG.EN, 0, .rw, []⟩, ⟨28, 3, Reg.APERTURE.TRIG.KIND, 0, .rw, []⟩, ⟨16, 6, Reg.APERTURE.TRIG.CH, 0, .rw, []⟩]⟩,
  ⟨0x120304, 16, 0x8, 1, 0x0, .apcfg, none, false, .none, [⟨0, 32, Reg.APERTURE.TLEVEL.LEVEL, 0, .rw, []⟩]⟩]

/-! ### COMPANION (R353, spec/16_safety_companion.md) -/

/-- COMPANION.CFG.EN [1:0] -/
def Reg.COMPANION.CFG.EN : Fld := ⟨535, 2, 0, 0, false, false⟩
/-- COMPANION.ERRSTAT.PERMIT_MISMATCH [0:0] -/
def Reg.COMPANION.ERRSTAT.PERMIT_MISMATCH : Fld := ⟨536, 1, 0, 0, false, false⟩
/-- CPORT.STATUS.OUTSTATE [31:24] -/
def Reg.CPORT.STATUS.OUTSTATE : Fld := ⟨537, 8, 0, 0, false, false⟩
/-- CPORT.STATUS.LOCKOUT [23:16] -/
def Reg.CPORT.STATUS.LOCKOUT : Fld := ⟨538, 8, 0, 0, false, false⟩
/-- CPORT.STATUS.SC_STATUS [15:8] -/
def Reg.CPORT.STATUS.SC_STATUS : Fld := ⟨539, 8, 0, 0, false, false⟩
/-- CPORT.STATUS.FSV [7:0] -/
def Reg.CPORT.STATUS.FSV : Fld := ⟨540, 8, 0, 0, false, false⟩
/-- CPORT.INSTATE.INSTATE [31:0] -/
def Reg.CPORT.INSTATE.INSTATE : Fld := ⟨541, 32, 0, 0, false, false⟩
/-- CPORT.LINK.UP [31:31] -/
def Reg.CPORT.LINK.UP : Fld := ⟨542, 1, 0, 0, false, false⟩
/-- CPORT.ACC.GO [31:31] -/
def Reg.CPORT.ACC.GO : Fld := ⟨543, 1, 0, 0, false, false⟩
/-- CPORT.ACC.WRITE [30:30] -/
def Reg.CPORT.ACC.WRITE : Fld := ⟨544, 1, 0, 0, false, false⟩
/-- CPORT.ACC.ADDR [15:8] -/
def Reg.CPORT.ACC.ADDR : Fld := ⟨545, 8, 0, 0, false, false⟩
/-- CPORT.ACC.DATA [7:0] -/
def Reg.CPORT.ACC.DATA : Fld := ⟨546, 8, 0, 0, false, false⟩
/-- CPORT.ACCSTAT.BUSY [31:31] -/
def Reg.CPORT.ACCSTAT.BUSY : Fld := ⟨547, 1, 0, 0, false, false⟩
/-- CPORT.ACCSTAT.RESULT [30:28] -/
def Reg.CPORT.ACCSTAT.RESULT : Fld := ⟨548, 3, 0, 0, false, false⟩
/-- CPORT.ACCSTAT.ADDR [15:8] -/
def Reg.CPORT.ACCSTAT.ADDR : Fld := ⟨549, 8, 0, 0, false, false⟩
/-- CPORT.ACCSTAT.DATA [7:0] -/
def Reg.CPORT.ACCSTAT.DATA : Fld := ⟨550, 8, 0, 0, false, false⟩
/-- CPORT.ERRSTAT.LINK_LOST [4:4] -/
def Reg.CPORT.ERRSTAT.LINK_LOST : Fld := ⟨551, 1, 0, 0, false, false⟩
/-- CPORT.ERRSTAT.LOCKOUT [3:3] -/
def Reg.CPORT.ERRSTAT.LOCKOUT : Fld := ⟨552, 1, 0, 0, false, false⟩
/-- CPORT.ERRSTAT.PERMIT_LOST [2:2] -/
def Reg.CPORT.ERRSTAT.PERMIT_LOST : Fld := ⟨553, 1, 0, 0, false, false⟩
/-- CPORT.ERRSTAT.ACC_REFUSED [1:1] -/
def Reg.CPORT.ERRSTAT.ACC_REFUSED : Fld := ⟨554, 1, 0, 0, false, false⟩
/-- CPORT.ERRSTAT.CRC_ERR [0:0] -/
def Reg.CPORT.ERRSTAT.CRC_ERR : Fld := ⟨555, 1, 0, 0, false, false⟩
/-- CPORT.CRCCNT.CRCCNT [31:0] -/
def Reg.CPORT.CRCCNT.CRCCNT : Fld := ⟨556, 32, 0, 0, true, false⟩

def rowsVcCompanion0 : List Row := [
  ⟨0x140000, 1, 0x0, 1, 0x0, .compcfg, none, false, .none, [⟨0, 2, Reg.COMPANION.CFG.EN, 0, .rw, []⟩]⟩,
  ⟨0x140004, 1, 0x0, 1, 0x0, .plain, none, false, .none, [⟨0, 1, Reg.COMPANION.ERRSTAT.PERMIT_MISMATCH, 0, .w1c, []⟩]⟩,
  ⟨0x140100, 2, 0x40, 1, 0x0, .plain, none, false, .none, [⟨24, 8, Reg.CPORT.STATUS.OUTSTATE, 0, .ro, []⟩, ⟨16, 8, Reg.CPORT.STATUS.LOCKOUT, 0, .ro, []⟩, ⟨8, 8, Reg.CPORT.STATUS.SC_STATUS, 0, .ro, []⟩, ⟨0, 8, Reg.CPORT.STATUS.FSV, 0, .ro, []⟩]⟩,
  ⟨0x140104, 2, 0x40, 1, 0x0, .plain, none, false, .none, [⟨0, 32, Reg.CPORT.INSTATE.INSTATE, 0, .ro, []⟩]⟩,
  ⟨0x140108, 2, 0x40, 1, 0x0, .plain, none, false, .none, [⟨31, 1, Reg.CPORT.LINK.UP, 0, .ro, []⟩]⟩,
  ⟨0x14010c, 2, 0x40, 1, 0x0, .acc, none, false, .none, [⟨31, 1, Reg.CPORT.ACC.GO, 0, .wo, []⟩, ⟨30, 1, Reg.CPORT.ACC.WRITE, 0, .wo, []⟩, ⟨8, 8, Reg.CPORT.ACC.ADDR, 0, .wo, []⟩, ⟨0, 8, Reg.CPORT.ACC.DATA, 0, .wo, []⟩]⟩,
  ⟨0x140110, 2, 0x40, 1, 0x0, .plain, none, false, .none, [⟨31, 1, Reg.CPORT.ACCSTAT.BUSY, 0, .ro, []⟩, ⟨28, 3, Reg.CPORT.ACCSTAT.RESULT, 0, .ro, []⟩, ⟨8, 8, Reg.CPORT.ACCSTAT.ADDR, 0, .ro, []⟩, ⟨0, 8, Reg.CPORT.ACCSTAT.DATA, 0, .ro, []⟩]⟩,
  ⟨0x140114, 2, 0x40, 1, 0x0, .plain, none, false, .none, [⟨4, 1, Reg.CPORT.ERRSTAT.LINK_LOST, 0, .w1c, []⟩, ⟨3, 1, Reg.CPORT.ERRSTAT.LOCKOUT, 0, .w1c, []⟩, ⟨2, 1, Reg.CPORT.ERRSTAT.PERMIT_LOST, 0, .w1c, []⟩, ⟨1, 1, Reg.CPORT.ERRSTAT.ACC_REFUSED, 0, .w1c, []⟩, ⟨0, 1, Reg.CPORT.ERRSTAT.CRC_ERR, 0, .w1c, []⟩]⟩,
  ⟨0x140118, 2, 0x40, 1, 0x0, .plain, none, false, .none, [⟨0, 32, Reg.CPORT.CRCCNT.CRCCNT, 0, .ro, []⟩]⟩]

/-! ### BOOT (R372, spec/17_firmware_and_settings.md) -/

/-- BOOT.STATUS.STATE [31:30] -/
def Reg.BOOT.STATUS.STATE : Fld := ⟨557, 2, 0, 0, false, false⟩
/-- BOOT.STATUS.STEP [29:26] -/
def Reg.BOOT.STATUS.STEP : Fld := ⟨558, 4, 0, 0, false, false⟩
/-- BOOT.STATUS.RUN_SLOT [25:25] -/
def Reg.BOOT.STATUS.RUN_SLOT : Fld := ⟨559, 1, 0, 0, false, false⟩
/-- BOOT.STATUS.TRIAL [24:24] -/
def Reg.BOOT.STATUS.TRIAL : Fld := ⟨560, 1, 0, 0, false, false⟩
/-- BOOT.STATUS.TRIALS [23:22] -/
def Reg.BOOT.STATUS.TRIALS : Fld := ⟨561, 2, 0, 0, false, false⟩
/-- BOOT.STATUS.STAGED [21:21] -/
def Reg.BOOT.STATUS.STAGED : Fld := ⟨562, 1, 0, 0, false, false⟩
/-- BOOT.STATUS.FALLBACK [20:20] -/
def Reg.BOOT.STATUS.FALLBACK : Fld := ⟨563, 1, 0, 0, false, false⟩
/-- BOOT.STATUS.CONFIRM_BUSY [19:19] -/
def Reg.BOOT.STATUS.CONFIRM_BUSY : Fld := ⟨564, 1, 0, 0, false, false⟩
/-- BOOT.CTRL.KEY [31:16] -/
def Reg.BOOT.CTRL.KEY : Fld := ⟨565, 16, 0, 0, false, false⟩
/-- BOOT.CTRL.START_DONE [2:2] -/
def Reg.BOOT.CTRL.START_DONE : Fld := ⟨566, 1, 0, 0, false, false⟩
/-- BOOT.CTRL.CLR_HISTORY [1:1] -/
def Reg.BOOT.CTRL.CLR_HISTORY : Fld := ⟨567, 1, 0, 0, false, false⟩
/-- BOOT.CTRL.CONFIRM [0:0] -/
def Reg.BOOT.CTRL.CONFIRM : Fld := ⟨568, 1, 0, 0, false, false⟩
/-- BOOT.ALT.LOW_RATE [9:9] -/
def Reg.BOOT.ALT.LOW_RATE : Fld := ⟨569, 1, 0, 0, false, false⟩
/-- BOOT.ALT.DEFAULT_EQ [8:8] -/
def Reg.BOOT.ALT.DEFAULT_EQ : Fld := ⟨570, 1, 0, 0, false, false⟩
/-- BOOT.ALT.NO_COMPANION [7:7] -/
def Reg.BOOT.ALT.NO_COMPANION : Fld := ⟨571, 1, 0, 0, false, false⟩
/-- BOOT.ALT.NO_PTP [6:6] -/
def Reg.BOOT.ALT.NO_PTP : Fld := ⟨572, 1, 0, 0, false, false⟩
/-- BOOT.ALT.NO_LEDGER [5:5] -/
def Reg.BOOT.ALT.NO_LEDGER : Fld := ⟨573, 1, 0, 0, false, false⟩
/-- BOOT.ALT.SETTINGS_DEFAULT [4:4] -/
def Reg.BOOT.ALT.SETTINGS_DEFAULT : Fld := ⟨574, 1, 0, 0, false, false⟩
/-- BOOT.ALT.DIE_HELD [3:3] -/
def Reg.BOOT.ALT.DIE_HELD : Fld := ⟨575, 1, 0, 0, false, false⟩
/-- BOOT.ALT.PREV_IMAGE [2:2] -/
def Reg.BOOT.ALT.PREV_IMAGE : Fld := ⟨576, 1, 0, 0, false, false⟩
/-- BOOT.ALT.FLASH_SDR [1:1] -/
def Reg.BOOT.ALT.FLASH_SDR : Fld := ⟨577, 1, 0, 0, false, false⟩
/-- BOOT.STEPFAIL.COUNT [29:0] -/
def Reg.BOOT.STEPFAIL.COUNT : Fld := ⟨578, 30, 0, 0, false, false⟩
/-- BOOT.ERRSTAT.HALT [10:10] -/
def Reg.BOOT.ERRSTAT.HALT : Fld := ⟨579, 1, 0, 0, false, false⟩
/-- BOOT.ERRSTAT.SVN_RAISED [9:9] -/
def Reg.BOOT.ERRSTAT.SVN_RAISED : Fld := ⟨580, 1, 0, 0, false, false⟩
/-- BOOT.ERRSTAT.FLASH_ERR [8:8] -/
def Reg.BOOT.ERRSTAT.FLASH_ERR : Fld := ⟨581, 1, 0, 0, false, false⟩
/-- BOOT.ERRSTAT.POINTER_REPAIR [7:7] -/
def Reg.BOOT.ERRSTAT.POINTER_REPAIR : Fld := ⟨582, 1, 0, 0, false, false⟩
/-- BOOT.ERRSTAT.SETTINGS_DEFAULT [6:6] -/
def Reg.BOOT.ERRSTAT.SETTINGS_DEFAULT : Fld := ⟨583, 1, 0, 0, false, false⟩
/-- BOOT.ERRSTAT.SETTINGS_INCOMPATIBLE [5:5] -/
def Reg.BOOT.ERRSTAT.SETTINGS_INCOMPATIBLE : Fld := ⟨584, 1, 0, 0, false, false⟩
/-- BOOT.ERRSTAT.TRIAL_REVERT [4:4] -/
def Reg.BOOT.ERRSTAT.TRIAL_REVERT : Fld := ⟨585, 1, 0, 0, false, false⟩
/-- BOOT.ERRSTAT.COMPAT_FAIL [3:3] -/
def Reg.BOOT.ERRSTAT.COMPAT_FAIL : Fld := ⟨586, 1, 0, 0, false, false⟩
/-- BOOT.ERRSTAT.ROLLBACK [2:2] -/
def Reg.BOOT.ERRSTAT.ROLLBACK : Fld := ⟨587, 1, 0, 0, false, false⟩
/-- BOOT.ERRSTAT.VERIFY_FAIL [1:1] -/
def Reg.BOOT.ERRSTAT.VERIFY_FAIL : Fld := ⟨588, 1, 0, 0, false, false⟩
/-- BOOT.ERRSTAT.STEP_FAIL [0:0] -/
def Reg.BOOT.ERRSTAT.STEP_FAIL : Fld := ⟨589, 1, 0, 0, false, false⟩
/-- BOOT.SLOT_VERSION.VERSION [31:0] -/
def Reg.BOOT.SLOT_VERSION.VERSION : Fld := ⟨590, 32, 0, 0, false, false⟩
/-- BOOT.SLOT_STATE.STATE [31:28] -/
def Reg.BOOT.SLOT_STATE.STATE : Fld := ⟨591, 4, 0, 0, false, false⟩
/-- BOOT.SLOT_STATE.SVN [6:0] -/
def Reg.BOOT.SLOT_STATE.SVN : Fld := ⟨592, 7, 0, 0, false, false⟩
/-- BOOT.SLOT_FMT.FMT_MAX [31:16] -/
def Reg.BOOT.SLOT_FMT.FMT_MAX : Fld := ⟨593, 16, 0, 0, false, false⟩
/-- BOOT.SLOT_FMT.FMT_MIN [15:0] -/
def Reg.BOOT.SLOT_FMT.FMT_MIN : Fld := ⟨594, 16, 0, 0, false, false⟩
/-- BOOT.SVN.FUSED [6:0] -/
def Reg.BOOT.SVN.FUSED : Fld := ⟨595, 7, 0, 0, true, false⟩
/-- BOOT.KEYHASH.HASH [31:0] -/
def Reg.BOOT.KEYHASH.HASH : Fld := ⟨596, 32, 0, 0, false, false⟩
/-- BOOT.SETSTAT.FORMAT [31:16] -/
def Reg.BOOT.SETSTAT.FORMAT : Fld := ⟨597, 16, 0, 0, false, false⟩
/-- BOOT.SETSTAT.COPY [15:15] -/
def Reg.BOOT.SETSTAT.COPY : Fld := ⟨598, 1, 0, 0, false, false⟩
/-- BOOT.SETSTAT.OTHER_VALID [14:14] -/
def Reg.BOOT.SETSTAT.OTHER_VALID : Fld := ⟨599, 1, 0, 0, false, false⟩
/-- BOOT.SETSTAT.REC_ERR [13:0] -/
def Reg.BOOT.SETSTAT.REC_ERR : Fld := ⟨600, 14, 0, 0, false, false⟩
/-- BOOT.SETSEQ.SEQ [31:0] -/
def Reg.BOOT.SETSEQ.SEQ : Fld := ⟨601, 32, 0, 0, false, false⟩
/-- BOOT.HISTSEL.AGE [7:0] -/
def Reg.BOOT.HISTSEL.AGE : Fld := ⟨602, 8, 0, 0, false, false⟩
/-- BOOT.HIST.WORD [31:0] -/
def Reg.BOOT.HIST.WORD : Fld := ⟨603, 32, 0, 0, false, false⟩
/-- BOOT.STARTNO.START_NO [31:0] -/
def Reg.BOOT.STARTNO.START_NO : Fld := ⟨604, 32, 0, 0, false, false⟩

def rowsVcBoot0 : List Row := [
  ⟨0x150000, 1, 0x0, 1, 0x0, .plain, none, false, .none, [⟨30, 2, Reg.BOOT.STATUS.STATE, 0, .ro, []⟩, ⟨26, 4, Reg.BOOT.STATUS.STEP, 0, .ro, []⟩, ⟨25, 1, Reg.BOOT.STATUS.RUN_SLOT, 0, .ro, []⟩, ⟨24, 1, Reg.BOOT.STATUS.TRIAL, 0, .ro, []⟩, ⟨22, 2, Reg.BOOT.STATUS.TRIALS, 0, .ro, []⟩, ⟨21, 1, Reg.BOOT.STATUS.STAGED, 0, .ro, []⟩, ⟨20, 1, Reg.BOOT.STATUS.FALLBACK, 0, .ro, []⟩, ⟨19, 1, Reg.BOOT.STATUS.CONFIRM_BUSY, 0, .ro, []⟩]⟩,
  ⟨0x150004, 1, 0x0, 1, 0x0, .bootctl, none, false, .none, [⟨16, 16, Reg.BOOT.CTRL.KEY, 0, .wo, []⟩, ⟨2, 1, Reg.BOOT.CTRL.START_DONE, 0, .wo, []⟩, ⟨1, 1, Reg.BOOT.CTRL.CLR_HISTORY, 0, .wo, []⟩, ⟨0, 1, Reg.BOOT.CTRL.CONFIRM, 0, .wo, []⟩]⟩,
  ⟨0x150008, 1, 0x0, 1, 0x0, .plain, none, false, .none, [⟨9, 1, Reg.BOOT.ALT.LOW_RATE, 0, .ro, []⟩, ⟨8, 1, Reg.BOOT.ALT.DEFAULT_EQ, 0, .ro, []⟩, ⟨7, 1, Reg.BOOT.ALT.NO_COMPANION, 0, .ro, []⟩, ⟨6, 1, Reg.BOOT.ALT.NO_PTP, 0, .ro, []⟩, ⟨5, 1, Reg.BOOT.ALT.NO_LEDGER, 0, .ro, []⟩, ⟨4, 1, Reg.BOOT.ALT.SETTINGS_DEFAULT, 0, .ro, []⟩, ⟨3, 1, Reg.BOOT.ALT.DIE_HELD, 0, .ro, []⟩, ⟨2, 1, Reg.BOOT.ALT.PREV_IMAGE, 0, .ro, []⟩, ⟨1, 1, Reg.BOOT.ALT.FLASH_SDR, 0, .ro, []⟩]⟩,
  ⟨0x15000c, 1, 0x0, 1, 0x0, .plain, none, false, .none, [⟨0, 30, Reg.BOOT.STEPFAIL.COUNT, 0, .ro, []⟩]⟩,
  ⟨0x150010, 1, 0x0, 1, 0x0, .plain, none, false, .none, [⟨10, 1, Reg.BOOT.ERRSTAT.HALT, 0, .w1c, []⟩, ⟨9, 1, Reg.BOOT.ERRSTAT.SVN_RAISED, 0, .w1c, []⟩, ⟨8, 1, Reg.BOOT.ERRSTAT.FLASH_ERR, 0, .w1c, []⟩, ⟨7, 1, Reg.BOOT.ERRSTAT.POINTER_REPAIR, 0, .w1c, []⟩, ⟨6, 1, Reg.BOOT.ERRSTAT.SETTINGS_DEFAULT, 0, .w1c, []⟩, ⟨5, 1, Reg.BOOT.ERRSTAT.SETTINGS_INCOMPATIBLE, 0, .w1c, []⟩, ⟨4, 1, Reg.BOOT.ERRSTAT.TRIAL_REVERT, 0, .w1c, []⟩, ⟨3, 1, Reg.BOOT.ERRSTAT.COMPAT_FAIL, 0, .w1c, []⟩, ⟨2, 1, Reg.BOOT.ERRSTAT.ROLLBACK, 0, .w1c, []⟩, ⟨1, 1, Reg.BOOT.ERRSTAT.VERIFY_FAIL, 0, .w1c, []⟩, ⟨0, 1, Reg.BOOT.ERRSTAT.STEP_FAIL, 0, .w1c, []⟩]⟩,
  ⟨0x150020, 2, 0x10, 1, 0x0, .plain, none, false, .none, [⟨0, 32, Reg.BOOT.SLOT_VERSION.VERSION, 0, .ro, []⟩]⟩,
  ⟨0x150024, 2, 0x10, 1, 0x0, .plain, none, false, .none, [⟨28, 4, Reg.BOOT.SLOT_STATE.STATE, 0, .ro, []⟩, ⟨0, 7, Reg.BOOT.SLOT_STATE.SVN, 0, .ro, []⟩]⟩,
  ⟨0x150028, 2, 0x10, 1, 0x0, .plain, none, false, .none, [⟨16, 16, Reg.BOOT.SLOT_FMT.FMT_MAX, 0, .ro, []⟩, ⟨0, 16, Reg.BOOT.SLOT_FMT.FMT_MIN, 0, .ro, []⟩]⟩,
  ⟨0x15002c, 2, 0x10, 1, 0x0, .plain, none, false, .none, []⟩,
  ⟨0x150040, 1, 0x0, 1, 0x0, .plain, none, false, .none, [⟨0, 7, Reg.BOOT.SVN.FUSED, 0, .ro, []⟩]⟩,
  ⟨0x150044, 8, 0x4, 1, 0x0, .plain, none, false, .none, [⟨0, 32, Reg.BOOT.KEYHASH.HASH, 0, .ro, []⟩]⟩,
  ⟨0x150070, 1, 0x0, 1, 0x0, .plain, none, false, .none, [⟨16, 16, Reg.BOOT.SETSTAT.FORMAT, 0, .ro, []⟩, ⟨15, 1, Reg.BOOT.SETSTAT.COPY, 0, .ro, []⟩, ⟨14, 1, Reg.BOOT.SETSTAT.OTHER_VALID, 0, .ro, []⟩, ⟨0, 14, Reg.BOOT.SETSTAT.REC_ERR, 0, .ro, []⟩]⟩]

def rowsVcBoot1 : List Row := [
  ⟨0x150074, 1, 0x0, 1, 0x0, .plain, none, false, .none, [⟨0, 32, Reg.BOOT.SETSEQ.SEQ, 0, .ro, []⟩]⟩,
  ⟨0x150080, 1, 0x0, 1, 0x0, .plain, none, false, .none, [⟨0, 8, Reg.BOOT.HISTSEL.AGE, 0, .rw, []⟩]⟩,
  ⟨0x150084, 8, 0x4, 1, 0x0, .plain, none, false, .none, [⟨0, 32, Reg.BOOT.HIST.WORD, 0, .ro, []⟩]⟩,
  ⟨0x1500a4, 1, 0x0, 1, 0x0, .plain, none, false, .none, [⟨0, 32, Reg.BOOT.STARTNO.START_NO, 0, .ro, []⟩]⟩]

/-- The rows of the 64 KiB BAR0 page that holds an address (R51). -/
def vcRows (page : Nat) : List Row :=
  match page with
  | 0 => rowsVcGlobal0
  | 2 => rowsVcVoter0
  | 22 => rowsVcErr0
  | 19 => rowsVcCascade0
  | 3 => rowsVcLens0 ++ rowsVcLens1 ++ rowsVcLens2 ++ rowsVcLens3
  | 4 => rowsVcPrism0 ++ rowsVcPrism1
  | 5 => rowsVcProt0 ++ rowsVcProt1
  | 6 => rowsVcSched0 ++ rowsVcSched1
  | 8 => rowsVcStrings0 ++ rowsVcStrings1
  | 12 => rowsVcLanes0 ++ rowsVcLanes1
  | 16 => rowsVcTime0 ++ rowsVcTime1
  | 1 => rowsVcHostq0 ++ rowsVcHostq1
  | 17 => rowsVcLedger0
  | 18 => rowsVcAperture0
  | 20 => rowsVcCompanion0
  | 21 => rowsVcBoot0 ++ rowsVcBoot1
  | _ => []

end Sys2Proof.Machine
end

