-- ==== Sys2Proof/Machine/Ops.lean ====
section
/-!
DEFINITION. Machine/Ops.lean: reading and writing registers and tables, what is sent, register words as the host sees
them, interrupts, error records, and the protection latch with its block flash.
-/
namespace Sys2Proof.Machine
open Reg

/-! ### Registers and tables -/

/-- The value of element (i, j) of a register field: its reset value unless something else was written. -/
def Vc.rd (s : Vc) (f : Fld) (i : Nat := 0) (j : Nat := 0) : Nat := Tab.get (fun _ => f.reset j) s.regs (f.key i j)

/-- Sets element (i, j) of a register field to a value, cut to the field's width. -/
def Vc.wr (s : Vc) (f : Fld) (v : Nat) (i : Nat := 0) (j : Nat := 0) : Vc :=
  { s with regs := Tab.set (fun _ => f.reset j) s.regs (f.key i j) (v % 2 ^ f.w) }

/-- A field as a flag. -/
def Vc.on (s : Vc) (f : Fld) (i : Nat := 0) (j : Nat := 0) : Bool := s.rd f i j ≠ 0

/-- Sets a one-bit field. -/
def Vc.set1 (s : Vc) (f : Fld) (i : Nat := 0) (j : Nat := 0) : Vc := s.wr f 1 i j

/-- Adds to a counter field that saturates at all ones. -/
def Vc.count (s : Vc) (f : Fld) (i : Nat := 0) (j : Nat := 0) (n : Nat := 1) : Vc :=
  s.wr f (sat f.w (s.rd f i j + n)) i j

/-- Sets bit `b` of a field of flags. -/
def Vc.setBit (s : Vc) (f : Fld) (b : Nat) (i : Nat := 0) : Vc := s.wr f (withBit (s.rd f i) b) i

def Vc.facet (s : Vc) (n : Nat) : Facet := Tab.get (fun _ => {}) s.facets n
def Vc.setFacet (s : Vc) (n : Nat) (f : Facet) : Vc := { s with facets := Tab.set (fun _ => {}) s.facets n f }
def Vc.str (s : Vc) (n : Nat) : Str := Tab.get (fun _ => {}) s.strs n
def Vc.setStr (s : Vc) (n : Nat) (x : Str) : Vc := { s with strs := Tab.set (fun _ => {}) s.strs n x }
def Vc.lane (s : Vc) (n : Nat) : LaneSt := Tab.get (fun _ => {}) s.lanes n
def Vc.setLane (s : Vc) (n : Nat) (x : LaneSt) : Vc := { s with lanes := Tab.set (fun _ => {}) s.lanes n x }
def Vc.chan (s : Vc) (n : Nat) : Chan := Tab.get (fun _ => {}) s.prot.chans n
def Vc.setChan (s : Vc) (n : Nat) (x : Chan) : Vc :=
  { s with prot := { s.prot with chans := Tab.set (fun _ => {}) s.prot.chans n x } }
def Vc.token (s : Vc) (n : Nat) : Token := Tab.get (fun _ => {}) s.prot.tokens n
def Vc.setToken (s : Vc) (n : Nat) (x : Token) : Vc :=
  { s with prot := { s.prot with tokens := Tab.set (fun _ => {}) s.prot.tokens n x } }
def Vc.cq (s : Vc) (n : Nat) : CqSt := Tab.get (fun _ => {}) s.host.cqs n
def Vc.setCq (s : Vc) (n : Nat) (x : CqSt) : Vc :=
  { s with host := { s.host with cqs := Tab.set (fun _ => {}) s.host.cqs n x } }
def Vc.sqTail (s : Vc) (n : Nat) : Nat := Tab.get (fun _ => 0) s.host.tails n
def Vc.setSqTail (s : Vc) (n v : Nat) : Vc :=
  { s with host := { s.host with tails := Tab.set (fun _ => 0) s.host.tails n v } }
def Vc.stat (s : Vc) (n : Nat) : FacetStat := Tab.get (fun _ => {}) s.ledger.stats n
def Vc.setStat (s : Vc) (n : Nat) (x : FacetStat) : Vc :=
  { s with ledger := { s.ledger with stats := Tab.set (fun _ => {}) s.ledger.stats n x } }

/-- Something leaves the block. -/
def Vc.emit (s : Vc) (e : Emit) : Vc := { s with out := s.out ++ [e] }

/-- Folds a step over the numbers below `n`, in ascending order. -/
def forN (n : Nat) (s : Vc) (f : Vc → Nat → Vc) : Vc := (List.range n).foldl f s

/-! ### Time (R10, R269) -/

/-- `dt` units of 250 ps pass by the device's own clock: VT advances at its corrected rate (R269), and what the last
command sent is over. VT starts at the release of a cold reset (R383). -/
def Vc.elapse (s : Vc) (dt : Nat) : Vc :=
  let rate := signed 64 (s.rd TIME.RATE.RATE)
  let total := (dt * ((281474976710656 : Int) + rate) + s.frac).toNat
  let adv := total / 281474976710656
  { s with vt := (s.vt + (adv - (s.resetUntil - s.now))) % 18446744073709551616, frac := total % 281474976710656, now := s.now + adv, out := [] }

/-- The VC is held in cold reset (R383). -/
def Vc.inReset (s : Vc) : Bool := decide (s.now < s.resetUntil)

/-- The VC as its cold reset, if one holds it, releases it: until then nothing happens in it (R383). -/
def Vc.toRelease (s : Vc) : Vc := if s.inReset then s.elapse (s.resetUntil - s.now) else s

/-! ### The VC's blocked state -/

/-- The valve is blocked (GLOBAL.STATUS.BLOCKED). -/
def Vc.blocked (s : Vc) : Bool := s.on GLOBAL.STATUS.BLOCKED

/-- Any LATCH bit is 1 (R139). -/
def Vc.latched (s : Vc) : Bool := s.on PROT.LATCH.CAUSE

/-- T_P in 250 ps units (R118). -/
def Vc.tq (s : Vc) : Nat := 4 * s.rd GLOBAL.TICKCFG.TP_NS

/-- The tick number (R60). -/
def Vc.tickNo (s : Vc) : Nat := s.rd LENS.TICKNO.TICKNO

/-- The number that the next tick will have (R60). -/
def Vc.nextTickNo (s : Vc) : Nat := if s.ticks = 0 then s.tickNo else (s.tickNo + 1) % 18446744073709551616

/-- The reference die (R42): the in-service die with the lowest letter. With none in service the spec names no die, and the model
shows C (DESIGN CHOICE, log 104). -/
def Vc.refDie (s : Vc) : Nat :=
  if s.rd VOTER.STATUS.STATE_A = 0 then 0 else if s.rd VOTER.STATUS.STATE_B = 0 then 1 else 2

/-- A string is running when its STATE is SYNC or RUN: sweeps are sent (R173, R196). -/
def Vc.strRuns (s : Vc) (n : Nat) : Bool := s.rd STRING.STATUS.STATE n = 5 || s.rd STRING.STATUS.STATE n = 6

/-- A token is valid while firings remain and its time has not run out (R150). -/
def Vc.tokenValid (s : Vc) (a : Nat) : Bool := 0 < (s.token a).count && decide (s.vt < (s.token a).expire)

/-! ### Fields that show other state -/

/-- The bits of the units of a list that satisfy a test. -/
def maskOf (n : Nat) (p : Nat → Bool) : Nat := (List.range n).foldl (fun a i => if p i then a + 2 ^ i else a) 0

/-- The value of a read-only field that shows state held elsewhere, `none` for a field that is stored. -/
def Vc.live (s : Vc) (f : Fld) (i : Nat) : Option Nat :=
  if f = PROT.STATUS.LATCHED then some (b2n s.latched)
  else if f = VOTER.STATUS.REF_DIE then some s.refDie
  else if f = TIME.NOW.VT then some s.vt
  else if f = LENS.STATUS.FAULT then some (maskOf 16 fun c => s.rd CTX.STATUS.STATE c = 2)
  else if f = LENS.STATUS.RUNNING then some (maskOf 16 fun c => s.rd CTX.STATUS.STATE c = 1)
  else if f = PRISM.STATUS.FAILED then some (maskOf 12 fun a => s.rd ARM.STAT.STATE a = 2)
  else if f = PRISM.STATUS.FORMED then some (maskOf 12 fun a => s.rd ARM.STAT.STATE a = 1)
  else if f = HOSTQ.STATUS.INFLIGHT then some (s.host.descs.filter fun d => !d.orphan).length
  else if f = HOSTQ.STATUS.HALTED then some (maskOf 16 fun q => s.rd SQ.STATUS.STATE q = 2 || s.rd SQ.STATUS.STATE q = 3)
  else if f = SQ.STATUS.INFLIGHT then some (s.host.descs.filter fun d => d.sq = i && !d.orphan).length
  else if f = TOKEN.TOKSTAT.HOME_VC then some (if s.tokenValid i then (s.token i).home else 0)
  else if f = TOKEN.TOKSTAT.COUNT then some (if s.tokenValid i then (s.token i).count else 0)
  else if f = TOKEN.TOKSTAT.MS_LEFT then some (if s.tokenValid i then ((s.token i).expire - s.vt) / 4000000 else 0)
  else if f = TPORT.PSTAT.LINK then some (b2n (s.time.link i))
  else if f = PROT.FIRESTAT.ACTIVE then some (b2n s.prot.firing.isSome)
  else if f = STRING.MSGSTAT.QUEUED then some ((s.str i).msgs.filter fun m => match m.purpose with | .descriptor _ => true | _ => false).length
  else if f = LEDGER.STATUS.QUEUED then some s.ledger.queue.length
  else if f = LEDGER.STATUS.OPEN then some (b2n s.ledger.isOpen)
  else if f = LEDGER.LASTREP.VALUE then some (if s.ledger.isOpen then s.ledger.repeats else 0)
  else if f = CASCADE.STATUS.LANE_OK then some (maskOf 4 fun k => s.rd LANE.STATUS.BSTATE (104 + k) = 7)
  else if f = LANE.STATUS.ONSETS then
    some (if i < 96 then
      let link := if i % 2 = 0 then 0 else s.rd STRING.CFG.CELLS (i / 2)
      min 2 ((s.str (i / 2)).onsets.filter fun o => o.1 = link && decide (s.now < o.2 + 40000000000)).length
    else 0)
  else if f = LANE.PORTLINK.NHELD then some (s.str (i / 2)).held.length
  else if f = PROT.STATUS.MLANE_OK then
    some (maskOf 8 fun l => s.rd LANE.STATUS.BSTATE (96 + l) = 7 &&
      decide (s.now ≤ Tab.get (fun _ => 0) s.prot.lastFrame l + 400 * s.rd MLANE.MCFG.MISS l) &&
      decide (0 < Tab.get (fun _ => 0) s.prot.lastFrame l))
  else if f = MLANE.MSTAT.LOCKED then some (b2n (s.rd LANE.STATUS.BSTATE (96 + i) = 7))
  else if f = SVSUB.SVSTAT.LOCKED then
    let rate := match s.rd SVSUB.CTL.RATE i with | 0 => 4800 | 1 => 14400 | _ => 96000
    some (match (Tab.get (fun _ => ({} : SvSt)) s.lens.svs i).at_ with
      | some t => b2n (decide ((s.now - t) * rate ≤ 12000000000))
      | none => 0)
  else if f = SCHED.STATUS.IDLE then some (maskOf 8 fun n => (Tab.get (fun _ => none) s.sched.runs n).isNone)
  else if f = SCHED.STATUS.FRAMES then some ((List.range 256).filter fun j => s.rd ITEM.W7.STATE j = 4).length
  else if f = SCHED.CORE.STATE then
    some (match Tab.get (fun _ => none) s.sched.runs i with
      | some r => if s.now < r.since + Config.freeNat r.since % (r.swap + 1) then 2 else 1
      | none => 0)
  else if f = SCHED.CORE.ITEM then
    some (match Tab.get (fun _ => none) s.sched.runs i with | some r => r.item | none => 0)
  else if f = GLOBAL.ID.GRADE then some (if Config.devGrade 0 then 0xD else 0xF)
  else if f = BOOT.KEYHASH.HASH then some (Config.keyHash i).toNat
  else if f = BOOT.SVN.FUSED then some s.boot.fused
  else if f = BOOT.SLOT_VERSION.VERSION then
    let w := Memory.words s.flash (flashSlot i) 4
    some (if w.getD 0 0 = 0x4F4E5531 then w.getD 3 0 else 0)
  else if f = BOOT.SLOT_STATE.SVN then some (bits ((Memory.words s.flash (flashSlot i) 5).getD 4 0) 6 0)
  else if f = BOOT.SLOT_FMT.FMT_MAX then some (bits ((Memory.words s.flash (flashSlot i) 6).getD 5 0) 31 16)
  else if f = BOOT.SLOT_FMT.FMT_MIN then some (bits ((Memory.words s.flash (flashSlot i) 6).getD 5 0) 15 0)
  else if f = BOOT.HIST.WORD then some (histWord s.flash (s.rd BOOT.STARTNO.START_NO) (s.rd BOOT.HISTSEL.AGE) i)
  else none

/-- A field as a register read shows it; write-only fields read 0 (R5). -/
def Vc.shown (s : Vc) (p : Part) (i j : Nat) : Nat :=
  match p.acc with
  | .wo => 0
  | _ => bits ((s.live p.f i).getD (s.rd p.f i j)) (p.sh + p.w - 1) p.sh

/-- The value of a register row; bits of no field read 0 (R6). -/
def Vc.rowWord (s : Vc) (r : Row) (i j : Nat) : Nat :=
  r.parts.foldl (fun a p => a + s.shown p i j * 2 ^ p.lo) 0

/-- The value of the register at a BAR0 offset, 0 where none is mapped. -/
def Vc.word (s : Vc) (a : Nat) : Nat :=
  match findRow (vcRows (a / 65536)) a with
  | some (r, i, j) => s.rowWord r i j
  | none => 0

/-- BOOT.STATUS.STATE HALTED. -/
def Vc.bootHalted (s : Vc) : Bool := s.rd BOOT.STATUS.STATE = 2

/-- The row that holds a BAR0 offset, if it is mapped now (R51, R220, R371). -/
def Vc.mapped (s : Vc) (addr : Nat) : Option (Row × Nat × Nat) :=
  let page := addr / 65536
  if s.bootHalted && page ≠ 0 && page ≠ 1 && page ≠ 0x15 && page ≠ 0x16 then none
  else
    match findRow (vcRows page) addr with
    | some (r, i, j) =>
      if r.tag = .portlink && (decide (96 ≤ i) || i % 2 = 1) then none else some (r, i, j)
    | none => none

/-! ### Interrupts (R291, R292) -/

/-- The Pending Bit Array of BAR2, one bit for each of the 32 vectors (R284). It stands beside IRQSTAT under the same identity, as an
element that no BAR0 register shows: both hold what an interrupt leaves pending. -/
def pbaFld : Fld := { HOSTQ.IRQSTAT.PEND with w := 32 }

/-- The Pending Bit Array (R284, R291). -/
def Vc.pba (s : Vc) : Nat := s.rd pbaFld 1

/-- A vector is masked by its own bit or by the function's (R291). -/
def PcieSt.masked (p : PcieSt) (v : Nat) : Bool := p.fmask || p.mask.getLsbD v

/-- ERR_NONFATAL is enabled (R285). -/
def PcieSt.nonFatalEn (p : PcieSt) : Bool := p.devCtl.getLsbD 1

/-- One MSI-X message, unless Bus Master Enable is 0 (R286); of a masked vector it is held in the PBA (R291). -/
def Vc.msix (s : Vc) (v : Nat) : Vc :=
  if !s.host.bme then s
  else if s.host.pcie.masked v then s.setBit pbaFld v 1
  else s.emit (.msix v)

/-- The pending messages of vectors that are masked no longer are sent, and their PBA bits cleared (R291). -/
def Vc.msixPending (s : Vc) : Vc :=
  forN 32 s fun s v =>
    if s.host.bme && bit s.pba v && !s.host.pcie.masked v then (s.wr pbaFld (withoutBit s.pba v) 1).emit (.msix v) else s

/-- An event source raises its interrupt (R292). -/
def Vc.irq (s : Vc) (src : Nat) : Vc :=
  if bit (s.rd HOSTQ.IRQSTAT.PEND) src then s
  else
    let s := s.setBit HOSTQ.IRQSTAT.PEND src
    if s.on HOSTQ.IRQMAP.EN src then s.msix (s.rd HOSTQ.IRQMAP.VECTOR src) else s

/-! ### Error records (R45, R46, R311 to R314) -/

/-- The ERR.SUMMARY field of a structural level. -/
def summaryFld (level : Nat) : Fld :=
  match level with
  | 0 => ERR.SUMMARY.UNIT
  | 1 => ERR.SUMMARY.CLUSTER
  | 2 => ERR.SUMMARY.REGION
  | 3 => ERR.SUMMARY.DIE
  | 4 => ERR.SUMMARY.PACKAGE
  | _ => ERR.SUMMARY.SYSTEM

/-- A structural level is reached with a class: ERR.SUMMARY holds the highest since its last clear (R56). -/
def Vc.summary (s : Vc) (level cls : Nat) : Vc :=
  s.wr (summaryFld level) (max (s.rd (summaryFld level)) cls)

/-- A CORRECTED event at a structural level: a counter and the summary, no record (R45). -/
def Vc.corrected (s : Vc) (level : Nat) : Vc := s.summary level 1

/-- A record in ERR: the summary for the structural ladder, ERR.LAST for a class above CORRECTED (R45, R56). -/
def Vc.errRec (s : Vc) (r : Rec) : Vc :=
  let s := if r.ladder = 1 && decide (0 < r.cls) then s.summary r.level r.cls else s
  if r.cls < 2 then s else
    let op := r.ladder = 0
    let s := s.wr ERR.LAST.LEVEL r.level
    let s := s.wr ERR.LAST.CLASS r.cls
    let s := s.wr ERR.LAST.DIE (if op then 0 else r.die)
    let s := s.wr ERR.LAST.REGION (if op then 0 else r.region)
    let s := s.wr ERR.LAST.LADDER r.ladder
    let s := s.wr ERR.LAST.CODE r.code
    s.wr ERR.LAST_VT.VT s.vt

/-- A record enters the RAM queue, or is lost (R314). -/
def Vc.queueRec (s : Vc) (q : QRec) : Vc :=
  if s.ledger.queue.length < 64 then
    let c := s.rd LEDGER.CFG.IRQ_CLASS
    let l := s.ledger
    let s := { s with ledger := { l with queue := l.queue ++ [q], maxClass := some (max (l.maxClass.getD 0) q.r.cls) } }
    if 0 < c ∧ c ≤ q.r.cls then (s.set1 LEDGER.ERRSTAT.IRQ_REC).irq 8 else s
  else
    let s := s.count LEDGER.LOSTCNT.VALUE
    let s := (s.set1 LEDGER.ERRSTAT.LOST).irq 8
    { s with ledger := { s.ledger with lostPend := s.ledger.lostPend + 1 } }

/-- The open records close with their live repeat count (R313): those in flash are programmed later, those still queued
(the only ones without a closing) carry theirs with them. -/
def Vc.closeRecs (s : Vc) : Vc :=
  let l := s.ledger
  if l.isOpen then
    { s with ledger := { l with
        isOpen := false
        openAt := []
        closings := l.closings ++ l.openAt.map fun a => (a, l.repeats, l.lastVt)
        queue := l.queue.map fun q => { q with close := some (q.close.getD (l.repeats, l.lastVt)) } } }
  else s

/-- The records of one event, in the order its levels are reached (R45, R46): one event number, and the repeat rule. A repeated
identical event writes no record, and still renews ERR.LAST and LAST_VT (DESIGN CHOICE, log 95). -/
def Vc.event (s : Vc) (rs : List Rec) : Vc :=
  match rs with
  | [] => s
  | _ =>
    let s := rs.foldl Vc.errRec s
    let l := s.ledger
    if l.isOpen ∧ l.lastRecs = rs ∧ l.repeats < 0xFFFFFFFE then
      let s := { s with ledger := { l with repeats := l.repeats + 1, lastVt := s.vt } }
      if l.repeats + 1 = 0xFFFFFFFE then s.closeRecs else s
    else
      let s := s.closeRecs
      let s := { s with ledger := { s.ledger with lastRecs := rs, isOpen := true, repeats := 0, lastVt := s.vt, openAt := [] } }
      (rs.foldl (fun (p : Vc × Bool) r => (p.1.queueRec ⟨r, p.1.vt, p.2, none⟩, false)) (s, true)).1

/-- A record on the operational ladder (R311): level 0 facet, 1 string, 2 arm, 3 valve. -/
def opRec (code level cls index data : Nat) (die : Nat := 3) (region : Nat := 1) : Rec :=
  ⟨code, 0, level, cls, die, region, index, data⟩

/-- A record on the structural ladder: level 0 unit, 1 cluster, 2 region, 3 die, 4 package, 5 system. -/
def stRec (code level cls index data : Nat) (die : Nat := 3) (region : Nat := 1) : Rec :=
  ⟨code, 1, level, cls, die, region, index, data⟩

/-- What the package cannot contain is FATAL there, and at the system, to which it passes (R17, R44). -/
def fatalRecs (code index data : Nat) : List Rec := [stRec code 4 4 index data, stRec code 5 4 index data]

/-! ### The block flash and the protection latch (R138 to R145) -/

/-- The block flash of R141. -/
def flashBlock (origin fseq cause : Nat) : Nat :=
  let low := 0xC3 + 0x3C * 256 + cause % 256 * 65536 + fseq % 256 * 16777216 + origin % 16 * 68719476736
  low + check16 (bitsUp low 0 48) * 281474976710656

/-- A cascade pair is in service (R31, R144): 0 UP, 1 DN, while either lane of it is UP, whatever the state of the
cascade (DESIGN CHOICE, log 104). -/
def Vc.pairUp (s : Vc) (pair : Nat) : Bool :=
  s.rd LANE.STATUS.BSTATE (104 + 2 * pair) = 7 || s.rd LANE.STATUS.BSTATE (105 + 2 * pair) = 7

/-- A cascade block goes out on the pairs of a list that are in service. -/
def Vc.cascBlocks (s : Vc) (pairs : List Nat) (payload : Nat) : Vc :=
  pairs.foldl (fun s p => if s.pairUp p then s.emit (.cascBlock p payload) else s) s

/-- The ORIGIN and FSEQ of a flash have been handled: a cascade block that carries them is ignored from now on (R144). -/
def Vc.markSeen (s : Vc) (id : Nat × Nat) : Vc :=
  if s.prot.seenCasc.contains id then s else { s with prot := { s.prot with seenCasc := id :: s.prot.seenCasc } }

/-- The next flash event of this VC's own: its FSEQ (R141). -/
def Vc.nextFlash (s : Vc) : Vc := { s with prot := { s.prot with fseq := (s.prot.fseq + 1) % 256 } }

/-- A VC lane carries traffic (R184). -/
def Vc.laneUse (s : Vc) (l : Nat) : Bool := s.rd LANE.STATUS.BSTATE l = 7 && !(s.lane l).lost

/-- The lane ends of a string that carry traffic: bit 0 X, bit 1 Y. -/
def Vc.strEnds (s : Vc) (n : Nat) : Nat := b2n (s.laneUse (2 * n)) + 2 * b2n (s.laneUse (2 * n + 1))

/-- The time in which the two copies of a flash leave the lanes, in 250 ps units: the wait for a block boundary and two blocks,
on the slowest lane of a string in service that is in use and so carries a copy (R142, R145, log 94). -/
def Vc.flashTime (s : Vc) : Nat :=
  (List.range 96).foldl (fun m l =>
    if 2 ≤ s.rd STRING.STATUS.STATE (l / 2) ∧ s.rd STRING.STATUS.STATE (l / 2) ≤ 6 ∧ s.laneUse l then
      max m (if s.rd LANE.STATUS.RATE l = 2 then 77 else 154) else m) 0

/-- The block flash to one string: its FGEN advances, and it leaves the ends in use of a string in SYNC to DEGRADED. -/
def Vc.flashString (s : Vc) (blk n : Nat) : Vc :=
  let s := s.wr STRING.STATUS.FGEN (s.rd STRING.STATUS.FGEN n + 1) n
  if 2 ≤ s.rd STRING.STATUS.STATE n ∧ s.rd STRING.STATUS.STATE n ≤ 6 ∧ s.strEnds n ≠ 0 then s.emit (.flash n (s.strEnds n) blk)
  else s

/-- A flash event of R142 with its cause; `from?` is the ORIGIN and FSEQ of the cascade block that called for it, and without
one it is this VC's own, with the next FSEQ. An event while an earlier flash's copies are still leaving is merged into it and
takes no FSEQ (R145); the cascade block it calls for goes out on the pairs either way (R31, R144, log 94). -/
def Vc.flashEvent (s : Vc) (cause : Nat) (from? : Option (Nat × Nat)) (pairs : List Nat) : Vc :=
  if s.now < s.prot.flashEnd then
    s.cascBlocks pairs (flashBlock (s.rd CASCADE.CFG.VC_ID) s.prot.fseq cause)
  else
    let s := if from?.isSome then s else s.nextFlash
    let id := from?.getD (s.rd CASCADE.CFG.VC_ID, s.prot.fseq)
    let blk := flashBlock id.1 id.2 cause
    let s := s.markSeen id
    let s := forN 48 s fun s n => s.flashString blk n
    let s := s.emit .unsentBlocked
    let s := s.count PROT.FLASHCNT.COUNT
    let s := { s with
      prot := { s.prot with flashEnd := s.now + s.flashTime }
      ap := { s.ap with flashMask := withBit s.ap.flashMask cause } }
    s.cascBlocks pairs blk

/-- A protection cause is latched (R139): its bit, and at the first cause FIRSTCAUSE, FIRST_VT, the interrupt, the block
and the flash event; `from?` holds the ORIGIN and FSEQ of a cascade block received, which are kept (R144). The error reaches
the valve whether or not its cause was latched before, and writes its FATAL record there (R17, R20, R21); records of the levels
reached before the valve come first (R46). -/
def Vc.latchCause (s : Vc) (cause : Nat) (pre : List Rec := []) (lane ch value index : Nat := 0)
    (from? : Option (Nat × Nat) := none) (pairs : List Nat := [0, 1]) : Vc :=
  let was := s.latched
  let s := s.setBit PROT.LATCH.CAUSE (cause - 1)
  let s :=
    if was then s
    else
      let s := s.wr PROT.FIRSTCAUSE.CAUSE cause
      let s := s.wr PROT.FIRSTCAUSE.LANE lane
      let s := s.wr PROT.FIRSTCAUSE.CH ch
      let s := s.wr PROT.FIRSTCAUSE.VALUE value
      let s := s.wr PROT.FIRST_VT.VT s.vt
      let s := s.set1 GLOBAL.STATUS.BLOCKED
      (s.irq 3).flashEvent cause from? pairs
  s.event (pre ++ [opRec (0x0400 + cause) 3 4 index (s.word 0x50010)])

/-- A cause is latched already (R139). -/
def Vc.hasCause (s : Vc) (cause : Nat) : Bool := bit (s.rd PROT.LATCH.CAUSE) (cause - 1)

/-- A host block (R139, R305): HOST_BLK, BLOCKED, and a flash event when it rises while LATCHED is 0. It is marked until the tick
boundary is over, at which a deblock then ends in BLOCK. R31 calls for no cascade
block of a VC that only its host blocks, and the model sends none (DESIGN CHOICE, log 94). -/
def Vc.hostBlock (s : Vc) : Vc :=
  let rises := !s.on PROT.STATUS.HOST_BLK && !s.latched
  let s := (s.set1 PROT.STATUS.HOST_BLK).set1 GLOBAL.STATUS.BLOCKED
  let s := { s with prot := { s.prot with blkTick := some s.ticks } }
  if rises then s.flashEvent 0x0B none [] else s

/-! ### Access violations (R53) -/

/-- An access violation: the first one logged, with the interrupt and CONTAINED at package level; while one is logged, a later
one only sets OVERFLOW and is counted. `internal` is a settings record applied by the boot controller. Cause: 0 unmapped, 1
locked, 2 width or alignment, 3 rejected. -/
def Vc.violation (s : Vc) (cause addr : Nat) (write : Bool) (reqId byteEn : Nat) (internal : Bool := false) : Vc :=
  let s := { s with host := { s.host with access := { s.host.access with bad := true } } }
  let s := s.count ERR.VIOL_CNT.COUNT
  if s.on ERR.VIOL_INFO.VALID then s.set1 ERR.VIOL_INFO.OVERFLOW
  else
    let s := s.wr ERR.VIOL_ADDR.ADDR addr
    let s := s.wr ERR.VIOL_INFO.REQ_ID (if internal then 0 else reqId)
    let s := s.wr ERR.VIOL_INFO.INTERNAL (b2n internal)
    let s := s.wr ERR.VIOL_INFO.BYTE_EN (if internal then 15 else byteEn)
    let s := s.wr ERR.VIOL_INFO.WRITE (b2n write)
    let s := s.wr ERR.VIOL_INFO.CAUSE cause
    let s := s.wr ERR.VIOL_INFO.OVERFLOW 0
    let s := s.set1 ERR.VIOL_INFO.VALID
    let s := s.irq 0
    s.event [stRec (0x0A00 + cause) 4 2 0 (s.word 0x160004)]

/-- The endpoint's own report of a violation (R285): Unsupported Request or Completer Abort in the AER status, the header of the
first one logged, and ERR_NONFATAL when Device Control enables it. -/
def PcieSt.error (p : PcieSt) (abort : Bool) (h : TlpHdr) : PcieSt :=
  { p with ur := p.ur || !abort, ca := p.ca || abort, hdr := if p.ur || p.ca then p.hdr else some h }

/-- AER reports a violation of an access from PCIe (R285). -/
def Vc.aer (s : Vc) (cause : Nat) (h : TlpHdr) : Vc :=
  let abort : Bool := cause = 1 || cause = 3
  let s := { s with host := { s.host with pcie := s.host.pcie.error abort h } }
  s.emit (.aer abort s.host.pcie.nonFatalEn)

/-- A posted write that is a violation is dropped, logged with who sent it, and reported through AER (R53, R285). -/
def Vc.badWrite (s : Vc) (cause addr : Nat) : Vc :=
  let a := s.host.access
  let s := s.violation cause addr true a.req a.byteEn a.internal
  if a.internal then s else s.aer cause ⟨true, a.req, a.byteEn, addr⟩

/-- The state with a host write by a requester in progress. -/
def Vc.asHost (s : Vc) (req : Nat) : Vc := { s with host := { s.host with access := { req := req } } }

/-! ### What waits for the tick boundary (R37) -/

/-- A change waits for the next tick boundary. -/
def Vc.hold (s : Vc) (h : Held) : Vc := { s with held := s.held ++ [h] }

/-- A BAR0 offset whose host writes take effect at a tick boundary: LENS, PRISM and SCHED (R37, R52), and APERTURE.CTRL (R324). -/
def atBoundary (addr : Nat) : Bool := addr / 65536 = 3 || addr / 65536 = 4 || addr / 65536 = 6 || addr = 0x12000C

end Sys2Proof.Machine
end

