-- ==== Sys2Proof/Machine/Lanes.lean ====
section
/-!
DEFINITION. Machine/Lanes.lean: the 108 serial lanes of the VC (R200 to R220).
-/
namespace Sys2Proof.Machine
open Reg

/-- Whether lane `l` is a string lane end, a measurement lane, a cascade lane (R200). -/
def isStrLane (l : Nat) : Bool := decide (l < 96)
def isMeasLane (l : Nat) : Bool := decide (96 ≤ l) && decide (l < 104)

/-- The rate of a string, which the LOW_RATE alternative holds at 5.15625 Gb/s (R370). -/
def Vc.strRate (s : Vc) (n : Nat) : Nat := if s.on BOOT.ALT.LOW_RATE then 1 else s.rd STRING.CFG.RATE n

/-- The link end of a lane as its registers and variables hold it. -/
def Vc.lnk (s : Vc) (l : Nat) : Lnk :=
  ⟨s.rd LANE.STATUS.BSTATE l, s.rd LANE.STATUS.RATE l, s.rd LANE.STATUS.BEST_RATE l, s.rd LANE.STATUS.EQ_SEL l, s.lane l⟩

/-- Puts a link end back; an end that has come UP shows its trial FOMs (R207, R220). -/
def Vc.putLnk (s : Vc) (l : Nat) (x : Lnk) : Vc :=
  let was := s.rd LANE.STATUS.BSTATE l
  let s := s.wr LANE.STATUS.BSTATE x.bst l
  let s := s.wr LANE.STATUS.RATE x.rate l
  let s := s.wr LANE.STATUS.BEST_RATE x.best l
  let s := s.wr LANE.STATUS.EQ_SEL x.eqSel l
  let s := s.setLane l x.st
  if x.bst = 7 ∧ was ≠ 7 then
    let v (k : Nat) := ofBytes ((List.range 4).map fun i => x.st.foms.getD (k + i) 0)
    (s.wr LANE.TRIALFOM_LO.FOM (v 0) l).wr LANE.TRIALFOM_HI.FOM (v 4) l
  else s

/-- What a lane brings to its training (R206, R212). -/
def Vc.lnkCfg (s : Vc) (l : Nat) : LnkCfg :=
  { node := if l < 96 then 1 else 2
    max := if l < 96 then s.strRate (l / 2) else 2
    nent := if s.on LANE.CFG.USE_DEFAULT l || s.on BOOT.ALT.DEFAULT_EQ then 1 else s.rd LANE.CFG.NENT l
    fomMin := s.rd LANE.CFG.FOM_MIN l, anyT := false }

/-- The VC lane as a link end, when it has a number. -/
def Vc.emitLane (s : Vc) (l : Nat) (e : LinkEnd → Emit) : Vc :=
  if h : l < 108 then s.emit (e (.vc ⟨l, h⟩)) else s

/-- A table entry of a lane (R212): TX_PRE, TX_MAIN, TX_POST, RX_CTLE; the default one at 1.25 Gb/s, and where it is used alone.
A measurement lane has no transmitter that is on (R211). -/
def Vc.eqEntry (s : Vc) (l : Nat) (e : Option Nat) : Nat × Nat × Nat × Nat :=
  let t := match e with
    | some j =>
      if s.on LANE.CFG.USE_DEFAULT l || s.on BOOT.ALT.DEFAULT_EQ then (0, 56, 4, 3)
      else (s.rd LANE.EQ.TX_PRE l j, s.rd LANE.EQ.TX_MAIN l j, s.rd LANE.EQ.TX_POST l j, s.rd LANE.EQ.RX_CTLE l j)
    | none => (0, 56, 4, 3)
  if isMeasLane l then (0, 0, 0, t.2.2.2) else t

/-- A lane sets taps and CTLE of an entry (R209, R212). -/
def Vc.useEntry (s : Vc) (l : Nat) (e : Option Nat) : Vc :=
  let t := s.eqEntry l e
  s.emitLane l fun x => .taps x t.1 t.2.1 t.2.2.1 t.2.2.2

/-- A step of training at a lane: the end, the entries it sets, the frame it starts to send, its errors. -/
def Vc.train (s : Vc) (l : Nat) (o : LnkOut) : Vc :=
  let s := s.putLnk l o.l
  let s := o.entries.foldl (fun s e => s.useEntry l e) s
  let s := if o.rateFail then s.set1 LANE.ERRSTAT.RATE_FAIL l else s
  let s := if o.mismatch then s.set1 LANE.ERRSTAT.CHOICE_MISMATCH l else s
  match o.frame with
  | some f => s.emitLane l fun e => .train e f
  | none => s

/-- What has become due at a lane in bring-up since its last event (R205). -/
def Vc.settle (s : Vc) (l : Nat) : Vc :=
  if (s.lane l).got = none then s else s.train l ((s.lnk l).settle (s.lnkCfg l) s.now)

/-! ### Power states (R217) -/

/-- A lane is in test (R218). -/
def Vc.inTest (s : Vc) (l : Nat) : Bool := s.on LANE.TEST.EN l

/-- The power state that a lane's owner sets (R217): 0 L0, 1 L1, 2 L2. -/
def Vc.lanePower (s : Vc) (l : Nat) : Nat :=
  if s.rd BOOT.STATUS.STATE = 2 then 2
  else if s.inTest l then 0
  else if isStrLane l then
    let n := l / 2
    let st := s.rd STRING.STATUS.STATE n
    if !s.on STRING.CFG.EN n || st = 7 || s.on LANE.STATUS.HELD l then 2 else if st = 0 then 1 else 0
  else if isMeasLane l then (if bit (s.rd PROT.CFG.MLANE_EN) (l - 96) then 0 else 2)
  else
    let role := s.rd CASCADE.CFG.ROLE
    let up := decide (l < 106)
    let last := decide (s.rd CASCADE.CFG.VC_ID + 1 = s.rd CASCADE.CFG.VC_COUNT) && decide (2 ≤ s.rd CASCADE.STATUS.STATE)
    if role = 0 || (role = 1 && up) || (role = 2 && !up && last) then 2 else 0

/-- A lane that enters L0 starts its bring-up; a measurement lane runs its slots, each with its entry's CTLE (R207, R211). -/
def Vc.bringUp (s : Vc) (l : Nat) : Vc :=
  if isMeasLane l then
    let n := (s.lnkCfg l).nent
    let s := s.putLnk l { s.lnk l with bst := 4, rate := s.rd LANE.CFG.MRATE l, st := { s.lane l with since := s.now, entry := some (n - 1), pcs := {} } }
    forN n s fun s j => s.useEntry l (some j)
  else s.train l ((s.lnk l).start (s.lnkCfg l) s.now)

/-- Sets a lane to its owner's power state: leaving L0 drops the link, entering L0 starts bring-up (R207, R217). -/
def Vc.refreshLane (s : Vc) (l : Nat) : Vc :=
  let was := s.rd LANE.STATUS.PSTATE l
  let p := s.lanePower l
  if p = was then s
  else
    let s := s.wr LANE.STATUS.PSTATE p l
    if p ≠ 0 then s.putLnk l ((s.lnk l).off s.now)
    else if s.inTest l then s
    else s.bringUp l

def Vc.refreshPort (s : Vc) (n : Nat) : Vc := (s.refreshLane (2 * n)).refreshLane (2 * n + 1)

/-! ### Loss of lock and returns (R184, R203, R207, R211) -/

/-- UP is left: counted, shown, LINK_FAULT sent. The records are the caller's. -/
def Vc.loseLane (s : Vc) (l : Nat) : Vc :=
  let s := s.set1 LANE.ERRSTAT.LOSS l
  let s := s.count LANE.LOSSCNT.LOSSCNT l
  let s := s.wr LANE.LOSS_VT.VT s.vt l
  if isMeasLane l then s.bringUp l
  else
    let s := s.putLnk l ((s.lnk l).lose s.now)
    s.emitLane l fun e => .linkFault e (linkFaultBlock 0x7F)

/-- The unit-level record of a loss (R44, R215). -/
def Vc.lossRec (s : Vc) (l : Nat) : Rec := stRec 0x0702 0 2 l (s.word (0x0C0000 + 0x200 * l + 0x18)) 3 0

/-- A code or line error without loss of lock (R203): CODEERR, CODE_ERR, CORRECTED. -/
def Vc.codeError (s : Vc) (l : Nat) : Vc :=
  ((s.count LANE.CODEERR.CODEERR l).set1 LANE.ERRSTAT.CODE_ERR l).corrected 0

/-- A training frame that fails is ignored and shown (R204). -/
def Vc.trainError (s : Vc) (l : Nat) : Vc := (s.set1 LANE.ERRSTAT.TRAIN_ERR l).setLane l (s.lnk l).otherFrame.st

/-- A training frame taken under R205, by a step of the bring-up. -/
def Vc.trainRx (s : Vc) (l : Nat) (f : TrainFrame) (k : Lnk → LnkCfg → Nat → TrainFrame → LnkOut) : Vc :=
  if s.rd LANE.STATUS.PSTATE l ≠ 0 ∨ s.inTest l ∨ isMeasLane l then s
  else
    let s := s.settle l
    if !f.valid then s.trainError l else s.train l (k (s.lnk l) (s.lnkCfg l) s.now f)

/-- A measurement lane's CTLE slots have run (R211): UP with the best entry, or RATE_FAIL and the slots again after 1 ms. A slot
without lock gives FOM 0 (R209). -/
def Vc.mlaneSlots (s : Vc) (l : Nat) (foms : List (Option Nat)) : Vc :=
  let c := s.lnkCfg l
  let x := s.lnk l
  if !isMeasLane l ∨ x.bst ≠ 4 ∨ s.now < x.st.since + c.nent * 160000 then s
  else
    let foms := (foms.map fun (m : Option Nat) => m.getD 0 % 256).take c.nent
    let jm := chooseEntry foms foms c.nent
    if jm.2 < c.fomMin then
      forN c.nent ((s.putLnk l { x with st := { x.st with since := s.now + 4000000 } }).set1 LANE.ERRSTAT.RATE_FAIL l) fun s j =>
        s.useEntry l (some j)
    else
      (s.putLnk l { x with bst := 7, eqSel := jm.1, rate := s.rd LANE.CFG.MRATE l
                           st := { x.st with
                             since := s.now, okSince := s.now, useAt := s.now, foms := foms, entry := some jm.1
                             pcs := { lock := true, berFrom := s.now, taken := s.now } } }).useEntry
        l (some jm.1)

/-! ### The eye monitor (R214) -/

/-- One FOM measurement of a lane that is UP. -/
def Vc.fomMeasure (s : Vc) (l fom : Nat) : Vc :=
  if s.rd LANE.STATUS.BSTATE l ≠ 7 then s
  else
    let s := s.wr LANE.STATUS.FOM fom l
    let s := s.wr LANE.FOMMIN.MIN (min fom (s.rd LANE.FOMMIN.MIN l)) l
    let s := { s with ledger := { s.ledger with
      fomMin := Tab.set (fun _ => 0xFF) s.ledger.fomMin l (min (Tab.get (fun _ => 0xFF) s.ledger.fomMin l) (s.rd LANE.FOMMIN.MIN l)) } }
    let al := s.rd LANE.CFG.FOM_ALARM l
    if fom < al ∧ ¬ (s.lane l).fomOff then
      let s := s.setLane l { s.lane l with fomOff := true }
      let s := ((s.set1 LANE.ERRSTAT.FOM_LOW l).irq 5).corrected 0
      s.event [stRec 0x0703 0 0 l (s.word (0x0C0000 + 0x200 * l + 0x18)) 3 0]
    else if al + 8 ≤ fom then s.setLane l { s.lane l with fomOff := false }
    else s

/-! ### Host writes to a LANE page (R218 to R220) -/

/-- The BAR0 address of a lane's register. -/
def laneAddr (l off : Nat) : Nat := 0x0C0000 + 0x200 * l + off

/-- CTRL.RETRAIN (R220). -/
def Vc.retrain (s : Vc) (l : Nat) : Vc :=
  if s.rd LANE.STATUS.PSTATE l ≠ 0 ∨ s.inTest l then s
  else (s.setLane l { s.lane l with lost := (s.lane l).lost || s.rd LANE.STATUS.BSTATE l = 7 }).bringUp l

/-- CTRL.CLR_FOMMIN (R220). -/
def Vc.clrFommin (s : Vc) (l : Nat) : Vc := s.wr LANE.FOMMIN.MIN 0xFF l

/-- The owner of a lane is idle (R218). -/
def Vc.ownerIdle (s : Vc) (l : Nat) : Bool :=
  if isStrLane l then s.rd STRING.STATUS.STATE (l / 2) = 0 || s.rd STRING.STATUS.STATE (l / 2) = 7
  else if isMeasLane l then !bit (s.rd PROT.CFG.MLANE_EN) (l - 96)
  else s.rd CASCADE.STATUS.STATE = 0

/-- The generator of a lane in test is on; a measurement lane has none, its transmitter being off (R211, R220). -/
def Vc.generates (s : Vc) (l : Nat) : Bool := s.on LANE.TEST.GEN l && !isMeasLane l

/-- A lane in test sets its entry, and its generator sends its pattern while GEN is 1 (R218). -/
def Vc.testSends (s : Vc) (l : Nat) : Vc :=
  let s := s.useEntry l (some (s.rd LANE.TEST.EQ_SEL l))
  if s.generates l then
    s.emitLane l fun e => .pattern e (s.rd LANE.TEST.PATTERN l) (s.on LANE.TEST.INV l) (s.on LANE.TEST.LOOP l)
  else s

/-- A write of LANE.TEST (R218): EN enters or leaves test. -/
def Vc.laneTest (s : Vc) (l w : Nat) : Vc :=
  let en := bit w 31
  let was := s.inTest l
  let sel := bits w 2 0
  if (en && !was && !s.ownerIdle l) || bits w 21 20 = 3 || decide (s.rd LANE.CFG.NENT l ≤ sel) then s.badWrite 3 (laneAddr l 0x80)
  else
    let s := s.wr LANE.TEST.PATTERN (bits w 25 24) l
    let s := s.wr LANE.TEST.RATE (bits w 21 20) l
    let s := s.wr LANE.TEST.GEN (bits w 19 19) l
    let s := s.wr LANE.TEST.CHK (bits w 18 18) l
    let s := s.wr LANE.TEST.LOOP (bits w 17 17) l
    let s := s.wr LANE.TEST.INV (bits w 16 16) l
    let s := s.wr LANE.TEST.EQ_SEL sel l
    let s := s.wr LANE.TEST.EN (b2n en) l
    if en && !was then
      let s := s.wr LANE.PRBSERR.PRBSERR 0 l
      let s := s.wr LANE.PRBSBITS.PRBSBITS 0 l
      let s := (s.wr LANE.TESTSTAT.CHK_LOCK 0 l).setLane l { s.lane l with chkRun := 0, chkWin := [], chkHist := [] }
      let s := s.wr LANE.STATUS.PSTATE 0 l
      (s.putLnk l ({ (s.lnk l).off s.now with bst := 10, rate := bits w 21 20, eqSel := sel }.setEntry (some sel))).testSends l
    else if en then (s.putLnk l ({ s.lnk l with rate := bits w 21 20, eqSel := sel }.setEntry (some sel))).testSends l
    else if was then
      let s := s.wr LANE.ALIGN.ALIGN_OFF 0 l
      let s := s.wr LANE.TESTSTAT.CHK_LOCK 0 l
      let s := s.wr LANE.STATUS.PSTATE 2 l
      (s.putLnk l ((s.lnk l).off s.now)).refreshLane l
    else s

/-- The checker of a lane in test takes one bit of its pattern (R218): it compares and counts while locked. -/
def Vc.testBit (s : Vc) (l : Nat) (t : Nat × Nat) (b : Bool) : Vc :=
  let r := (s.lane l).check (s.on LANE.TESTSTAT.CHK_LOCK l) t b
  let s := (s.setLane l r.1).wr LANE.TESTSTAT.CHK_LOCK (b2n r.2.1) l
  match r.2.2 with
  | none => s
  | some err =>
    let s := s.wr LANE.PRBSBITS.PRBSBITS (s.rd LANE.PRBSBITS.PRBSBITS l + 1) l
    if err then s.count LANE.PRBSERR.PRBSERR l else s

/-- Bits reach the receiver of a lane in test with CHK set (R218). CODED is no PRBS: its errors are code errors (R203, log 101). -/
def Vc.testBits (s : Vc) (l : Nat) (rx : List Bool) : Vc :=
  match prbsTaps (s.rd LANE.TEST.PATTERN l) with
  | some t =>
    if s.inTest l && s.on LANE.TEST.CHK l then
      let g := (s.lane l).testInput t (s.generates l) (s.on LANE.TEST.LOOP l) (s.on LANE.TEST.INV l) rx
      g.2.foldl (fun s b => s.testBit l t b) (s.setLane l g.1)
    else s
  | none => s

/-- A write of LANE.ALIGN (R219): ALIGN_OFF only in test, SLIP only with ALIGN_OFF. -/
def Vc.alignWrite (s : Vc) (l w : Nat) : Vc :=
  let off := bit w 31
  if (off && !s.inTest l) || (bit w 0 && !s.on LANE.ALIGN.ALIGN_OFF l) then s.badWrite 3 (laneAddr l 0x60)
  else
    let s := s.wr LANE.ALIGN.ALIGN_OFF (b2n off) l
    if bit w 0 then
      let width := if s.rd LANE.STATUS.RATE l = 0 then 10 else 66
      s.wr LANE.ALIGN.SLIP_POS ((s.rd LANE.ALIGN.SLIP_POS l + 1) % width) l
    else s

/-- The cascade lanes follow their owner (R217). -/
def Vc.refreshCasc (s : Vc) : Vc := [104, 105, 106, 107].foldl Vc.refreshLane s

/-- An equalisation entry is valid (R212). -/
def eqValid (w : Nat) : Bool := decide (32 ≤ bits w 21 16) && decide (bits w 27 24 + bits w 21 16 + bits w 12 8 ≤ 63)

end Sys2Proof.Machine
end

