-- ==== Sys2Proof/Machine/Float.lean ====
section
/-!
DEFINITION. Machine/Float.lean: binary32 as Lens and Prism compute it (R62, R63): exact values, one rounding to nearest
with ties to even, subnormals read and written as zero, tininess judged after rounding.
-/
namespace Sys2Proof.Machine

/-- The bits of a binary32 value. -/
abbrev F32 := Nat

namespace F32

def neg (f : F32) : Bool := bit f 31
def expo (f : F32) : Nat := bits f 30 23
def frac (f : F32) : Nat := bits f 22 0
def isNaN (f : F32) : Bool := f.expo = 255 && f.frac ≠ 0
def isInf (f : F32) : Bool := f.expo = 255 && f.frac = 0
def isFinite (f : F32) : Bool := f.expo ≠ 255
/-- A zero, or a subnormal, which is read as one (R63). -/
def isZero (f : F32) : Bool := f.expo = 0
def mk (n : Bool) (e fr : Nat) : F32 := b2n n * 2147483648 + e * 8388608 + fr
def zero (n : Bool) : F32 := mk n 0 0
def inf (n : Bool) : F32 := mk n 255 0
def one : F32 := 0x3F800000
/-- A NaN: the spec states no sign or payload, so both are free (log 20). -/
def nan : F32 := mk (Config.freeBit 0) 255 (4194304 + Config.freeNat 0 % 4194304)
/-- Negation is exact (R63). -/
def negate (f : F32) : F32 := if f.neg then f - 2147483648 else f + 2147483648
/-- The magnitude. -/
def abs (f : F32) : F32 := f % 2147483648

/-- A finite value as (mantissa, exponent): mantissa × 2^exponent; subnormals are 0. -/
def dyadic (f : F32) : Int × Int :=
  if f.isZero then (0, 0)
  else
    let m : Int := 8388608 + f.frac
    (if f.neg then -m else m, (f.expo : Int) - 150)

/-- num/den × 2^e, not zero, rounded once to nearest even, with the given sign (R63). -/
def roundRat (n : Bool) (num den : Nat) (e : Int) : F32 :=
  if num = 0 then zero n
  else
    let k : Int := 27 + (Nat.log2 den : Int) - (Nat.log2 num : Int)
    let a := if 0 ≤ k then num * 2 ^ k.toNat else num
    let b := if 0 ≤ k then den else den * 2 ^ (-k).toNat
    let q := a / b
    let sticky := a % b ≠ 0
    let drop := Nat.log2 q - 23
    let m := q / 2 ^ drop
    let r := q % 2 ^ drop
    let half := 2 ^ (drop - 1)
    let up := decide (half < r) || (r = half && (sticky || m % 2 = 1))
    let m := if up then m + 1 else m
    let ex := e - k + drop
    let (m, ex) := if m = 16777216 then (8388608, ex + 1) else (m, ex)
    let be := ex + 150
    if 255 ≤ be then inf n
    else if be ≤ 0 then zero n
    else mk n be.toNat (m - 8388608)

/-- An exact dyadic value m × 2^e rounded once; an exact zero is +0. -/
def round (m e : Int) : F32 :=
  if m = 0 then zero false else roundRat (m < 0) m.natAbs 1 e

/-- Exact sum of two dyadic values. -/
def dadd (a b : Int × Int) : Int × Int :=
  let e := min a.2 b.2
  (a.1 * 2 ^ (a.2 - e).toNat + b.1 * 2 ^ (b.2 - e).toNat, e)

/-- Fused multiply-add, rounded once (R63). -/
def fma (a b c : F32) : F32 :=
  let sp := a.neg != b.neg
  if a.isNaN || b.isNaN || c.isNaN then nan
  else if a.isInf || b.isInf then
    if a.isZero || b.isZero || (c.isInf && c.neg != sp) then nan else inf sp
  else if c.isInf then c
  else if (a.isZero || b.isZero) && c.isZero then zero (sp && c.neg)
  else
    let (ma, ea) := a.dyadic
    let (mb, eb) := b.dyadic
    let (m, e) := dadd (ma * mb, ea + eb) c.dyadic
    round m e

def add (a b : F32) : F32 := fma a one b
def sub (a b : F32) : F32 := fma a one b.negate
def mul (a b : F32) : F32 := fma a b (zero true)

/-- The quotient of two finite positive values, rounded once (R118). -/
def div (a b : F32) : F32 :=
  let (ma, ea) := a.dyadic
  let (mb, eb) := b.dyadic
  if mb = 0 then inf false else roundRat false ma.natAbs mb.natAbs (ea - eb)

/-- The quotient of any two values by a divisor that is not zero, rounded once (R104). -/
def divS (a b : F32) : F32 :=
  let sg := a.neg != b.neg
  if a.isNaN || b.isNaN || (a.isInf && b.isInf) || (a.isZero && b.isZero) then nan
  else if a.isInf || b.isZero then inf sg
  else if b.isInf || a.isZero then zero sg
  else
    let (ma, ea) := a.dyadic
    let (mb, eb) := b.dyadic
    roundRat sg ma.natAbs mb.natAbs (ea - eb)

/-- An integer, rounded once. -/
def ofInt (i : Int) : F32 := round i 0

/-- The operand with a subnormal read as zero. -/
def flush (f : F32) : F32 := if f.isZero then zero f.neg else f

/-- Numeric order with −0 below +0 (R61). -/
def key (f : F32) : Int := if f.neg then -((f.abs : Nat) : Int) - 1 else (f.abs : Nat)

def fmin (a b : F32) : F32 :=
  if a.isNaN || b.isNaN then nan else if key a.flush ≤ key b.flush then a.flush else b.flush
def fmax (a b : F32) : F32 :=
  if a.isNaN || b.isNaN then nan else if key b.flush ≤ key a.flush then a.flush else b.flush

/-- Numeric equality: zeros of either sign are equal (R61). -/
def eqv (a b : F32) : Bool := !a.isNaN && !b.isNaN && (a.flush = b.flush || (a.isZero && b.isZero))

/-- Numeric a < b. -/
def lt (a b : F32) : Bool :=
  !a.isNaN && !b.isNaN && !(a.isZero && b.isZero) && decide (key a.flush < key b.flush)

/-- The partial sums of a dot product (R62): index and four accumulators. -/
def dotStep (p : Nat × F32 × F32 × F32 × F32) (ab : F32 × F32) : Nat × F32 × F32 × F32 × F32 :=
  match p with
  | (k, p0, p1, p2, p3) =>
    match k % 4 with
    | 0 => (k + 1, fma ab.1 ab.2 p0, p1, p2, p3)
    | 1 => (k + 1, p0, fma ab.1 ab.2 p1, p2, p3)
    | 2 => (k + 1, p0, p1, fma ab.1 ab.2 p2, p3)
    | _ => (k + 1, p0, p1, p2, fma ab.1 ab.2 p3)

/-- A dot product in the order of R62. -/
def dot (as bs : List F32) : F32 :=
  match (as.zip bs).foldl dotStep (0, 0, 0, 0, 0) with
  | (_, p0, p1, p2, p3) => add (add p0 p1) (add p2 p3)

/-- The integer part of a non-negative finite value. -/
def floorNat (f : F32) : Nat :=
  let (m, e) := f.dyadic
  if 0 ≤ e then m.natAbs * 2 ^ e.toNat else m.natAbs / 2 ^ (-e).toNat

/-- 65,536 times a non-negative finite value, rounded down. -/
def floor16 (f : F32) : Nat :=
  let (m, e) := f.dyadic
  if 0 ≤ e + 16 then m.natAbs * 2 ^ (e + 16).toNat else m.natAbs / 2 ^ (-(e + 16)).toNat

/-- The nearest integer of a non-negative finite value, ties to even. -/
def nearestNat (f : F32) : Nat :=
  let n := f.floorNat
  let r := f.floor16 - n * 65536
  let (m, e) := f.dyadic
  let exactHalf := e < 0 && decide (m.natAbs * 2 = (2 * n + 1) * 2 ^ (-e).toNat)
  if exactHalf then (if n % 2 = 0 then n else n + 1) else if 32768 ≤ r then n + 1 else n

end F32
end Sys2Proof.Machine
end

