-- ==== Sys2Proof/Machine/HostQ.lean ====
section
/-!
DEFINITION. Machine/HostQ.lean: submission and completion queues, descriptors in flight, ordering, halting and completions
(R286 to R304, R309).
-/
namespace Sys2Proof.Machine
open Reg

/-! ### The words of a descriptor (R293, R295) -/

/-- Word `n` of a descriptor. -/
def Desc.word (d : Desc) (n : Nat) : Nat := d.words.getD n 0
def Desc.type (d : Desc) : Nat := bits (d.word 0) 31 24
def Desc.order (d : Desc) : Nat := bits (d.word 0) 23 22
def Desc.irq (d : Desc) : Bool := bit (d.word 0) 21
def Desc.haltOnErr (d : Desc) : Bool := bit (d.word 0) 20
def Desc.tag (d : Desc) : Nat := bits (d.word 0) 15 0

/-- A header fault of R293: a reserved TYPE or ORDER, or a reserved bit that is not 0. -/
def Desc.badHeader (d : Desc) : Bool :=
  decide (0x0B < d.type) || decide (d.order = 3) || decide (bits (d.word 0) 19 16 ≠ 0) ||
    decide (bits (d.word 1) 30 4 ≠ 0) || decide (d.word 2 ≠ 0) || decide (d.word 3 ≠ 0)

/-- The target of R295 within which one SQ's descriptors are serialised (R299). -/
def Desc.target (d : Desc) : Option Nat :=
  match d.type with
  | 1 => some 0
  | 2 => some (16 + bits (d.word 4) 3 0)
  | 3 => some (16 + bits (d.word 4) 3 0)
  | 4 => some 1
  | 5 => some (2 + bits (d.word 4) 0 0)
  | 6 => some (64 + bits (d.word 4) 25 20)
  | 10 => some 4
  | 11 => some 0
  | _ => none

/-- A descriptor is finished. -/
def Desc.isDone (d : Desc) : Bool := match d.stage with | .done .. => true | _ => false

/-- A descriptor has started and is not finished. -/
def Desc.isStarted (d : Desc) : Bool := decide (d.stage = .started)

/-! ### Queues -/

/-- Entries of an SQ, and of a CQ (R287). -/
def Vc.sqSize (s : Vc) (q : Nat) : Nat := 2 ^ s.rd SQ.CFG.LOG2SIZE q
def Vc.cqSize (s : Vc) (q : Nat) : Nat := 2 ^ s.rd CQ.CFG.LOG2SIZE q

/-- The descriptor of an identity, in flight. -/
def Vc.desc? (s : Vc) (id : Nat) : Option Desc := s.host.descs.find? fun d => d.id = id

/-- Changes one descriptor in flight. -/
def Vc.modDesc (s : Vc) (id : Nat) (f : Desc → Desc) : Vc :=
  { s with host := { s.host with descs := s.host.descs.map fun d => if d.id = id then f d else d } }

/-- An MSI-X message of a CQ covers every completion before it (R291). -/
def Vc.cqMessage (s : Vc) (c : Nat) : Vc :=
  (s.setCq c { s.cq c with coalCount := 0, coalSince := none }).msix (s.rd CQ.CFG.VECTOR c)

/-- A completion is written to its CQ (R290), and the message R291 calls for is sent. -/
def Vc.post (s : Vc) (d : Desc) (status detail tick : Nat) : Vc :=
  let c := s.rd SQ.CFG.CQ d.sq
  let t := s.rd CQ.STATUS.TAIL c
  let ph := s.rd CQ.STATUS.PHASE c
  let s := s.emit (.cqEntry c t (d.tag * 65536 + status * 256 + d.sq) (d.slot * 65536 + ph) detail (tick % 4294967296))
  let t' := (t + 1) % s.cqSize c
  let s := s.wr CQ.STATUS.TAIL t' c
  let s := if t' = 0 then s.wr CQ.STATUS.PHASE (1 - ph) c else s
  let q := s.cq c
  let s := s.setCq c { q with
    unread := q.unread + 1, reserved := q.reserved - 1, coalCount := q.coalCount + 1
    coalSince := some (q.coalSince.getD s.now) }
  let n := s.rd CQ.CFG.COAL_COUNT c
  if d.irq ∨ (n ≠ 0 ∧ n ≤ (s.cq c).coalCount) then s.cqMessage c else s

/-- A halting SQ with nothing in flight enters HALTED (R302). -/
def Vc.checkHalted (s : Vc) (q : Nat) : Vc :=
  if s.rd SQ.STATUS.STATE q = 2 ∧ (s.host.descs.all fun d => d.sq ≠ q || d.orphan) then
    (s.wr SQ.STATUS.STATE 3 q).irq 12
  else s

/-- Whether a finished descriptor's completion may be posted now: the QUEUE rule of R298. -/
def Vc.mayPost (s : Vc) (d : Desc) : Bool :=
  d.order ≠ 1 || (s.host.descs.takeWhile fun e => e.id ≠ d.id).all fun e => e.sq ≠ d.sq || e.order ≠ 1 || e.orphan

/-- Posts one finished descriptor, if its order allows, and takes it out of flight. -/
def Vc.postOne (s : Vc) (id : Nat) : Vc :=
  match s.desc? id with
  | some d =>
    match d.stage with
    | .done st de tk =>
      let drop (s : Vc) : Vc := { s with host := { s.host with descs := s.host.descs.filter fun e => e.id ≠ id } }
      if d.orphan then drop s
      else if s.host.bme && s.mayPost d then (drop (s.post d st de tk)).checkHalted d.sq
      else s
    | _ => s
  | none => s

/-- The place of a CELL_MSG in its string's queue of 16 is free (R194). -/
def Vc.msgRoom (s : Vc) (n : Nat) : Bool := decide (((s.live STRING.MSGSTAT.QUEUED n).getD 0) < 16)

/-- Whether a fetched descriptor may start: FENCE (R298), and the serialisation on its target (R299); a CELL_MSG waits
only for the entry of the one before it into the string's queue, and for a place in it. -/
def Vc.mayStart (s : Vc) (d : Desc) : Bool :=
  (d.type ≠ 6 || s.msgRoom (bits (d.word 4) 25 20)) &&
  let before := (s.host.descs.takeWhile fun e => e.id ≠ d.id).filter fun e => e.sq = d.sq && !e.orphan
  s.rd SQ.STATUS.STATE d.sq = 1 && (d.order ≠ 2 || before.isEmpty) &&
    before.all fun e => d.target = none || e.target ≠ d.target || (d.type = 6 && (e.isDone || e.aux ≠ 0))

/-- An SQ halts (R301, R302): its cause and the descriptor concerned, and SKIPPED for what has not started. -/
def Vc.haltSq (s : Vc) (q cause tag slot : Nat) : Vc :=
  let s := s.wr SQ.STATUS.STATE 2 q
  let s := s.wr SQ.STATUS.HALT_CAUSE cause q
  let s := s.wr SQ.HALTINFO.TAG tag q
  let s := s.wr SQ.HALTINFO.SLOT slot q
  let tk := s.tickNo
  { s with host := { s.host with descs := s.host.descs.map fun d =>
      if d.sq = q && d.stage = .fetched && !d.orphan then { d with stage := .done 7 0 tk } else d } }

/-- A descriptor ends with a status, a detail and a tick number; its queue halts when R301 says so. -/
def Vc.endDesc (s : Vc) (d : Desc) (status detail tick : Nat) : Vc :=
  let s := s.modDesc d.id fun e => { e with stage := .done status detail tick, waiting := false, bound := none }
  let active := s.rd SQ.STATUS.STATE d.sq = 1 && !d.orphan
  if active && status = 8 then s.haltSq d.sq 3 d.tag d.slot
  else if active && status = 9 then s.haltSq d.sq 2 d.tag d.slot
  else if active && status ≠ 0 && d.haltOnErr then s.haltSq d.sq 4 d.tag d.slot
  else s

/-- A descriptor asks for another VC (R293). -/
def Vc.wrongVc (s : Vc) (d : Desc) : Bool := bit (d.word 1) 31 && bits (d.word 1) 3 0 ≠ s.rd CASCADE.CFG.VC_ID

/-- Starts a fetched descriptor if it may start; one for another VC, held as a FENCE, ends there with WRONG_VC. -/
def Vc.startOne (s : Vc) (id : Nat) : Vc :=
  match s.desc? id with
  | some d =>
    if d.stage = .fetched && s.mayStart d then
      if s.wrongVc d then s.endDesc d 0xA 0 s.tickNo else s.modDesc id fun e => { e with stage := .started }
    else s
  | none => s

/-- Posts every completion that may be posted, starts every descriptor that may start (R298, R299), and posts what ended there. -/
def Vc.pump (s : Vc) : Vc :=
  let ids := s.host.descs.map (·.id)
  let s := ids.foldl Vc.postOne s
  let s := ids.foldl Vc.startOne s
  ids.foldl Vc.postOne s

/-- A descriptor that has not ended ends with a status, a detail and the number of the tick in which it took effect (R290). -/
def Vc.finishAt (s : Vc) (id status detail tick : Nat) : Vc :=
  match s.desc? id with
  | none => s
  | some d => if d.isDone then s else ((s.endDesc d status detail tick).pump).checkHalted d.sq

/-- A descriptor ends in the present tick. -/
def Vc.finish (s : Vc) (id status : Nat) (detail : Nat := 0) : Vc := s.finishAt id status detail s.tickNo

/-- Runs an operation on a descriptor that has started, is of a type, and has not finished; with the boot controller
HALTED, types other than NOP, FW_BLOCK and CONFIG_WRITE end with BAD_STATE (R371). -/
def Vc.withDesc (s : Vc) (id type : Nat) (f : Vc → Desc → Vc) : Vc :=
  match s.desc? id with
  | some d =>
    if !(d.isStarted && d.type = type && !d.waiting) then s
    else if s.rd BOOT.STATUS.STATE = 2 && type ≠ 0 && type ≠ 4 && type ≠ 5 then s.finish id 4
    else f s d
  | none => s

/-- A started descriptor that waits for its effect (R304). -/
def Vc.wait (s : Vc) (id : Nat) (aux : Nat := 0) : Vc :=
  s.modDesc id fun e => { e with waiting := true, aux := aux }

/-- A started descriptor waits for the tick boundary at which it takes effect (R37, R300), with the buffer as it was read now: none
while Bus Master Enable is 0 (R286). -/
def Vc.holdDesc (s : Vc) (id : Nat) (buf : HostBuf) : Vc :=
  s.modDesc id fun e => { e with waiting := true, bound := some (if s.host.bme then buf else .failed) }

/-- The descriptors that wait for the tick boundary, in the order in which they are applied: in fetch order within one SQ, SQs in
ascending number (R300). -/
def Vc.heldDescs (s : Vc) : List Nat :=
  (List.range 16).flatMap fun q => (s.host.descs.filter fun d => d.sq = q && d.bound.isSome && d.isStarted).map (·.id)

/-! ### Buffers (R297) -/

/-- The 64-bit address of a buffer named by two words. -/
def bufAddr (lo hi : Nat) : Nat := lo + hi * 4294967296

/-- R297: the buffer's address and length are acceptable; 1 BAD_PARAM, 2 BOUNDS, 0 acceptable. -/
def bufFault (lo hi len : Nat) : Nat :=
  if lo % 4 ≠ 0 ∨ 18446744073709551616 < bufAddr lo hi + len ∨ len = 0xFFFFFFFF then 1
  else if 0x01000000 < len then 2 else 0

/-- The bytes of a buffer of a length as it was read, `none` when the read failed (R296). -/
def bufBytes (b : HostBuf) (len : Nat) : Option (List Nat) :=
  match b with
  | .bytes bs => if bs.length = len then some (bs.map BitVec.toNat) else none
  | .failed => none

/-- The bytes of a buffer read now, `none` when the read fails or Bus Master Enable is 0 (R286, R296). -/
def Vc.readBuf (s : Vc) (b : HostBuf) (len : Nat) : Option (List Nat) := if s.host.bme then bufBytes b len else none

/-- Writes a buffer, or ends the descriptor with DMA_ERR while Bus Master Enable is 0. -/
def Vc.writeBuf (s : Vc) (d : Desc) (addr : Nat) (bs : List Nat) (detail : Nat) : Vc :=
  if s.host.bme then (s.emit (.hostWrite addr (bs.map (BitVec.ofNat 8)))).finish d.id 0 detail
  else s.finish d.id 8

/-! ### Doorbells, enabling, halting and resuming -/

/-- A write of SQDB[q] (R288). -/
def Vc.sqDoorbell (s : Vc) (q w : Nat) : Vc :=
  let v := bits w 11 0
  if s.rd SQ.STATUS.STATE q = 0 ∨ s.sqSize q ≤ v then s.badWrite 3 (0x18000 + 8 * q)
  else s.setSqTail q v

/-- A write of CQDB[q] (R288). -/
def Vc.cqDoorbell (s : Vc) (q w : Nat) : Vc :=
  let v := bits w 11 0
  let adv := (v + s.cqSize q - s.rd CQ.STATUS.HEAD q) % s.cqSize q
  if !s.on CQ.CFG.EN q ∨ s.cqSize q ≤ v ∨ (s.cq q).unread < adv then s.badWrite 3 (0x18004 + 8 * q)
  else
    let s := s.wr CQ.STATUS.HEAD v q
    s.setCq q { s.cq q with unread := (s.cq q).unread - adv }

/-- A write of SQ[q].CFG (R303, R309). -/
def Vc.sqCfg (s : Vc) (q w : Nat) : Vc :=
  let en := bit w 31
  let was := s.on SQ.CFG.EN q
  let lg := bits w 27 24
  let mx := bits w 8 0
  let cq := bits w 19 16
  let bad := lg < 4 ∨ 12 < lg ∨ mx < 1 ∨ 256 < mx ∨ (was ∧ en) ∨ (was ∧ ¬ en ∧ s.rd SQ.STATUS.STATE q ≠ 3) ∨
    (¬ was ∧ en ∧ ¬ s.on CQ.CFG.EN cq)
  if bad then s.badWrite 3 (0x11008 + 0x40 * q)
  else
    let s := s.wr SQ.CFG.EN (b2n en) q
    let s := s.wr SQ.CFG.LOG2SIZE lg q
    let s := s.wr SQ.CFG.CQ cq q
    let s := s.wr SQ.CFG.INFLIGHT_MAX mx q
    if !was && en then ((s.wr SQ.STATUS.HEAD 0 q).setSqTail q 0).wr SQ.STATUS.STATE 1 q
    else if was && !en then s.wr SQ.STATUS.STATE 0 q
    else s

/-- A write of CQ[q].CFG (R309). -/
def Vc.cqCfg (s : Vc) (q w : Nat) : Vc :=
  let en := bit w 31
  let was := s.on CQ.CFG.EN q
  let lg := bits w 27 24
  let used := (List.range 16).any fun k => s.on SQ.CFG.EN k && s.rd SQ.CFG.CQ k = q
  if lg < 4 ∨ 12 < lg ∨ (was ∧ en) ∨ (was ∧ ¬ en ∧ used) then s.badWrite 3 (0x12008 + 0x40 * q)
  else
    let s := s.wr CQ.CFG.EN (b2n en) q
    let s := s.wr CQ.CFG.LOG2SIZE lg q
    let s := s.wr CQ.CFG.VECTOR (bits w 20 16) q
    let s := s.wr CQ.CFG.COAL_COUNT (bits w 15 8) q
    if !was && en then
      ((s.wr CQ.STATUS.TAIL 0 q).wr CQ.STATUS.HEAD 0 q).wr CQ.STATUS.PHASE 1 q |>.setCq q {}
    else s

/-- The facets of a CELL_CLEAR (R306). -/
def clearFacets (d : Desc) : List Nat := (List.range (bits (d.word 5) 12 0)).map (· + bits (d.word 4) 12 0)

/-- A started descriptor that ABORT cancels (R304): a VALVE_CTL, a COEF_SWAP, a CELL_MSG or a CELL_CLEAR that has not yet acted, be it
that it waits for the tick boundary, or one that waits after it; a CELL_CLEAR waits for its effect only while no command of its range has carried CLR. -/
def Vc.withdrawable (s : Vc) (d : Desc) : Bool :=
  if d.waiting && d.bound.isNone then d.type ≠ 11 || (clearFacets d).all fun n => (s.facet n).clrPend
  else d.type = 3 || d.type = 10 || d.type = 11 || (d.type = 6 && d.aux = 0)

/-- ABORT withdraws a descriptor: its pending swap, its queued cell message, or another type's own waiting state, ends with it
(R304). -/
def Vc.withdraw (s : Vc) (d : Desc) : Vc :=
  let s :=
    if !d.waiting || d.bound.isSome then s
    else if d.type = 3 then s.wr SUP.STAT.SWAP_PEND 0 (bits (d.word 4) 3 0)
    else if d.type = 6 then
      let n := bits (d.word 4) 25 20
      let x := s.str n
      s.setStr n { x with msgs := x.msgs.filter fun m => m.purpose ≠ .descriptor d.id }
    else if d.type = 11 then (clearFacets d).foldl (fun (s : Vc) n => s.setFacet n { s.facet n with clrPend := false }) s
    else { s with boot := { s.boot with xspi := s.boot.xspi.filter fun x => x.desc ≠ some d.id } }
  s.finish d.id 6

/-- CTRL.ABORT (R304). -/
def Vc.abortSq (s : Vc) (q : Nat) : Vc :=
  let st := s.rd SQ.STATUS.STATE q
  if st = 1 ∨ st = 2 then
    let ld := Tab.get (fun _ => (0, 0)) s.host.lastDesc q
    let s := s.haltSq q 5 ld.1 ld.2
    let s := ((s.host.descs.filter fun d => d.sq = q && !d.orphan && d.isStarted && s.withdrawable d).foldl Vc.withdraw s)
    (s.pump).checkHalted q
  else s

/-- CTRL.RESUME (R303): fetching resumes from HEAD, or from the head given. -/
def Vc.resumeSq (s : Vc) (q : Nat) (setHead : Bool) (head : Nat) : Vc :=
  let s := if setHead then s.wr SQ.STATUS.HEAD head q else s
  s.wr SQ.STATUS.STATE 1 q

/-- A write of SQ[q].CTRL (R303, R304). -/
def Vc.sqCtrl (s : Vc) (q w : Nat) : Vc :=
  let resume := bit w 31
  let abort := bit w 30
  let setHead := bit w 29
  let head := bits w 11 0
  if ((resume ∨ setHead) ∧ s.rd SQ.STATUS.STATE q ≠ 3) ∨ (setHead ∧ s.sqSize q ≤ head) then
    s.badWrite 3 (0x1100C + 0x40 * q)
  else
    let s := if resume then s.resumeSq q setHead head else s
    if abort then s.abortSq q else s

/-- An SQ can fetch (R289): ACTIVE, posted entries, room in flight, a free CQ entry, no FENCE held. -/
def Vc.canFetch (s : Vc) (q : Nat) : Bool :=
  let mine := s.host.descs.filter fun d => d.sq = q && !d.orphan
  let c := s.rd SQ.CFG.CQ q
  s.host.bme && s.rd SQ.STATUS.STATE q = 1 && decide (s.rd SQ.STATUS.HEAD q ≠ s.sqTail q) &&
    decide ((s.host.descs.filter fun d => !d.orphan).length < 256) && decide (mine.length < s.rd SQ.CFG.INFLIGHT_MAX q) &&
    decide ((s.cq c).unread + (s.cq c).reserved < s.cqSize c) &&
    mine.all fun d => d.order ≠ 2 || d.stage ≠ .fetched

/-- The SQ whose turn it is (R289): the next after the last one served that can fetch. -/
def Vc.nextSq (s : Vc) : Option Nat :=
  ((List.range 16).map fun k => (s.host.lastSq + 1 + k) % 16).find? s.canFetch

/-- The next descriptor is fetched (R289, R293, R301): its 16 words as the host's memory gave them, or a failed read. -/
def Vc.fetchDesc (s : Vc) (ws : Option (List Nat)) : Vc :=
  match s.nextSq with
  | none => s
  | some q =>
    let s := { s with host := { s.host with lastSq := q } }
    let h := s.rd SQ.STATUS.HEAD q
    match ws with
    | none =>
      let s := s.haltSq q 1 0 h
      (s.pump).checkHalted q
    | some ws =>
      let id := s.host.nextId
      let d : Desc := { id := id, sq := q, slot := h, words := ws }
      let c := s.rd SQ.CFG.CQ q
      let s := s.wr SQ.STATUS.HEAD ((h + 1) % s.sqSize q) q
      let s := s.setCq c { s.cq c with reserved := (s.cq c).reserved + 1 }
      let s := { s with host := { s.host with
        descs := s.host.descs ++ [d], nextId := id + 1
        lastDesc := Tab.set (fun _ => (0, 0)) s.host.lastDesc q (d.tag, h) } }
      if d.badHeader then s.finish id 9
      else if s.wrongVc d ∧ d.order ≠ 2 then s.finish id 0xA
      else s.pump

/-- The coalescing time of a CQ has passed since its first completion without a message (R291); while Bus Master Enable is 0 the
message stays due (R286). -/
def Vc.coalesce (s : Vc) (c : Nat) : Vc :=
  match (s.cq c).coalSince with
  | some t => if s.host.bme ∧ s.rd CQ.COAL.COAL_US c ≠ 0 ∧ t + 4000 * s.rd CQ.COAL.COAL_US c ≤ s.now then s.cqMessage c else s
  | none => s

/-! ### The endpoint's own resets (R286) -/

/-- HOSTQ returns to its reset values: queues DISABLED, started descriptors run on without a completion, the others are
discarded (R286, R303). -/
def Vc.hostqReset (s : Vc) : Vc :=
  let isHostq (id : Nat) : Bool := decide (HOSTQ.STATUS.INFLIGHT.id ≤ id) && decide (id ≤ HOSTQ.CQDB.HEAD.id)
  { s with
    regs := s.regs.filter fun e => !isHostq (e.1 / 1048576)
    host := { s.host with
      tails := [], cqs := [], lastSq := 15, lastDesc := []
      descs := (s.host.descs.filter fun d => d.isStarted).map fun d => { d with orphan := true } } }

/-- Bus Master Enable is cleared (R286): every ACTIVE queue halts, completions are held. -/
def Vc.bmeClear (s : Vc) : Vc :=
  let s := { s with host := { s.host with bme := false } }
  forN 16 s fun s q =>
    if s.rd SQ.STATUS.STATE q = 1 then
      let ld := Tab.get (fun _ => (0, 0)) s.host.lastDesc q
      (s.haltSq q 6 ld.1 ld.2).checkHalted q
    else s

/-- Bus Master Enable is set again (R286): the held completions are written and their messages sent. -/
def Vc.bmeSet (s : Vc) : Vc :=
  let s := { s with host := { s.host with bme := true } }
  let s := s.pump
  let s := forN 16 s Vc.checkHalted
  (forN 16 s Vc.coalesce).msixPending

/-! ### Configuration space and BAR2 (R284, R285, R291) -/

/-- The value of a configuration register; the vendor's own bits are free. -/
def Vc.cfgWord (s : Vc) (r : CfgReg) : Nat :=
  match r with
  | .id => 0x46080000 + (Config.vendorId 0).toNat
  | .classCode => 0x11800000 + (Config.vendorId 1).toNat % 256
  | .command => 4 * b2n s.host.bme
  | .devControl => s.host.pcie.devCtl.toNat
  | .msixControl => 0x801F0000 + 1073741824 * b2n s.host.pcie.fmask
  | .power => 3 * b2n s.host.pcie.d3
  | .aerStatus => 32768 * b2n s.host.pcie.ca + 1048576 * b2n s.host.pcie.ur

/-- A register of the endpoint changes. -/
def Vc.setPcie (s : Vc) (p : PcieSt) : Vc := { s with host := { s.host with pcie := p } }

/-- A configuration write of a whole register: Bus Master Enable, a Function Level Reset, the function mask, D0 or D3hot, and the errors
that a 1 clears (R284 to R286, R291). -/
def Vc.cfgPut (s : Vc) (r : CfgReg) (w : Nat) : Vc :=
  let p := s.host.pcie
  match r with
  | .id | .classCode => s
  | .command => if bit w 2 = s.host.bme then s else if bit w 2 then s.bmeSet else s.bmeClear
  | .devControl =>
    let s := s.setPcie { p with devCtl := BitVec.ofNat 15 w }
    if bit w 15 then s.hostqReset else s
  | .msixControl => (s.setPcie { p with fmask := bit w 30 }).msixPending
  | .power =>
    if w % 4 = 3 then (s.setPcie { p with d3 := true }).hostqReset
    else if w % 4 = 0 then s.setPcie { p with d3 := false }
    else s
  | .aerStatus =>
    let ur := p.ur && !bit w 20
    let ca := p.ca && !bit w 15
    s.setPcie { p with ur := ur, ca := ca, hdr := if ur || ca then p.hdr else none }

/-- The bytes of a word that a write enables replace the old ones. -/
def mergeBytes (old w byteEn : Nat) : Nat :=
  (List.range 4).foldl (fun a k => a + bits (if bit byteEn k then w else old) (8 * k + 7) (8 * k) * 256 ^ k) 0

/-- A configuration write with its byte enables; errors are cleared by the bytes written alone. -/
def Vc.cfgWrite (s : Vc) (r : CfgReg) (byteEn w : Nat) : Vc :=
  s.cfgPut r (mergeBytes (if r = .aerStatus then 0 else s.cfgWord r) w byteEn)

/-- The word at an offset of BAR2: the MSI-X table at 0, the PBA at 0x1000; the rest reads 0. -/
def Vc.bar2Word (s : Vc) (a : Nat) : Nat :=
  if a < 512 then
    if a / 4 % 4 = 3 then b2n (s.host.pcie.mask.getLsbD (a / 16)) else Tab.get (fun _ => 0) s.host.pcie.vectors (a / 4)
  else if a / 4 = 1024 then s.pba
  else 0

/-- A write of BAR2: an entry of the table; an unmask sends what is pending. A part of a word, for which the specification of PCIe
defines no result, writes a free value (log 102). -/
def Vc.bar2Write (s : Vc) (a byteEn w : Nat) : Vc :=
  let whole : Bool := a % 4 = 0 && byteEn = 15
  let w := if whole then w else (Config.freeNat s.free) % 4294967296
  let s := if whole then s else { s with free := s.free + 1 }
  let p := s.host.pcie
  if 512 ≤ a then s
  else if a / 4 % 4 = 3 then
    let m := if bit w 0 then withBit p.mask.toNat (a / 16) else withoutBit p.mask.toNat (a / 16)
    (s.setPcie { p with mask := BitVec.ofNat 32 m }).msixPending
  else s.setPcie { p with vectors := Tab.set (fun _ => 0) p.vectors (a / 4) w }

end Sys2Proof.Machine
end

