-- ==== Sys2Proof/Machine/Prism.lean ====
section
/-!
DEFINITION. Machine/Prism.lean: the facet table, service, spare accounting, arms, and the selection of a tick (R106 to R132).
-/
namespace Sys2Proof.Machine
open Reg

def Vc.arm (s : Vc) (a : Nat) : ArmSt := Tab.get (fun _ => {}) s.arms a
def Vc.setArm (s : Vc) (a : Nat) (x : ArmSt) : Vc := { s with arms := Tab.set (fun _ => {}) s.arms a x }
def Vc.remote (s : Vc) (g : Nat) : Remote := Tab.get (fun _ => {}) s.remotes g
def Vc.setRemote (s : Vc) (g : Nat) (x : Remote) : Vc := { s with remotes := Tab.set (fun _ => {}) s.remotes g x }
def Vc.ctx (s : Vc) (c : Nat) : Ctx := Tab.get (fun _ => {}) s.lens.ctxs c
def Vc.setCtx (s : Vc) (c : Nat) (x : Ctx) : Vc :=
  { s with lens := { s.lens with ctxs := Tab.set (fun _ => {}) s.lens.ctxs c x } }

/-- This VC's identity in the cascade. -/
def Vc.vcId (s : Vc) : Nat := s.rd CASCADE.CFG.VC_ID

/-- An arm by its home VC: an arm homed here by its registers, another as its home told it (log 99). -/
def Vc.armOf (s : Vc) (home a : Nat) : HomeArm :=
  if 12 ≤ a then {}
  else if home = s.vcId then ⟨s.rd ARM.STAT.STATE a, s.rd ARM.STAT.LC a, s.rd ARM.STAT.N_AVAIL a, s.rd ARM.CFG2.N_MIN a⟩
  else Tab.get (fun _ => {}) s.casc.homeArms (home * 12 + a)

/-- The arm that a string is mapped to; UNFORMED for a string that is not mapped. -/
def Vc.strArm (s : Vc) (n : Nat) : HomeArm :=
  if s.on PRISM.STRMAP.EN n then s.armOf (s.rd PRISM.STRMAP.HOME_VC n) (s.rd PRISM.STRMAP.ARM n) else {}

/-! ### The facet entry as eight words (R107) -/

def Facet.word (f : Facet) (w : Nat) : Nat :=
  match w with
  | 0 => f.vf * 256 + f.rstate * 16 + f.cstate
  | 1 => f.vraw * 65536 + f.rflags * 256 + f.dwell
  | 2 => f.swcount
  | 3 => f.tj * 65536 + b2n f.xbad + 2 * b2n f.ybad + 4 * b2n f.noReport + 8 * b2n f.mismatch + 16 * b2n f.remote +
      32 * b2n f.pinned
  | 4 => b2n f.inSvc * 2147483648 + f.cause * 134217728 + f.arm * 8388608 + f.home * 524288 + f.trim % 256 * 2048 +
      f.missRun * 16 + f.mismRun
  | 5 => f.vt % 4294967296
  | 6 => f.vt / 4294967296
  | _ => f.lastMode * 268435456 + f.lastEdge * 16384 + f.bin

/-- The eight words of an entry. -/
def Facet.entry (f : Facet) : List Nat := (List.range 8).map f.word

/-! ### Leaving service (R110, R115) -/

/-- The string and position of a local facet. -/
def facetStr (n : Nat) : Nat := n / 96
def facetPos (n : Nat) : Nat := n % 96

/-- N_AVAIL of an arm homed here: its in-service facets, remote ones included. -/
def Vc.availOf (s : Vc) (a : Nat) : Nat :=
  (s.arm a).strs.foldl (fun acc gn =>
    let vc := gn.1 / 48
    acc + ((List.range gn.2).filter fun p =>
      if vc = s.vcId then (s.facet (gn.1 % 48 * 96 + p)).inSvc
      else (s.remote (vc * 4608 + gn.1 % 48 * 96 + p)).inSvc).length) 0

/-- Spare accounting of one departure from an arm homed here (R115); `pre` holds the records of the levels below. A departure that
comes when another of the same commit, or an earlier one, has made the arm FAILED is classified too, by the same table (R17, R20,
R21), and LOSSCNT counts the departures of a FORMED arm alone (DESIGN CHOICE, log 105). -/
def Vc.spare (s : Vc) (a code data : Nat) (pre : List Rec) : Vc :=
  let nav := s.availOf a
  let s := s.wr ARM.STAT.N_AVAIL nav a
  let s := if s.rd ARM.STAT.STATE a = 1 then s.count ARM.LOSSCNT.COUNT a else s
  let lost := s.rd ARM.CFG1.N_ARM a - nav
  let armRec (c : Nat) : Rec := opRec code 2 c a data s.refDie 1
  if nav < s.rd ARM.CFG2.N_MIN a then
    let s := (s.set1 ARM.ERR.BELOW_MIN a).irq 13
    let s := s.wr ARM.STAT.STATE 2 a
    s.latchCause 6 (pre ++ [armRec 3]) (index := a)
  else if s.rd ARM.CFG1.N_SPARE a < lost then
    let s := (s.set1 ARM.ERR.SPARES_USED a).irq 13
    s.event (pre ++ [armRec 3, opRec code 3 2 s.vcId data s.refDie 1])
  else s.event (pre ++ [armRec 2])

/-- ARMERR.MISMATCH at the arm of a facet that leaves service for it, when that arm is homed here (R132). -/
def Vc.markMismatch (s : Vc) (f : Facet) : Vc :=
  if f.home = s.vcId ∧ f.arm < 12 then s.set1 ARM.ERR.MISMATCH f.arm else s

/-- A facet leaves service with a cause (R110): its records at facet and string level, then spare accounting at its arm. -/
def Vc.leaveService (s : Vc) (n cause : Nat) : Vc :=
  let f := s.facet n
  if !f.inSvc then s else
  let f' := { f with inSvc := false, cause := cause }
  let s := s.setFacet n f'
  let s := if cause = 5 then s.markMismatch f else s
  let code := 0x0310 + cause
  let pre := [opRec code 0 3 n (f'.word 1) s.refDie 1, opRec code 1 3 (facetStr n) (f'.word 1) s.refDie 1]
  if f.home = s.vcId ∧ s.rd ARM.STAT.STATE f.arm ≠ 0 then s.spare f.arm code (f'.word 1) pre
  else s.event pre

/-- Every facet of a string leaves service. -/
def Vc.stringLeaves (s : Vc) (n cause : Nat) : Vc :=
  forN (s.rd STRING.CFG.CELLS n) s fun s p => s.leaveService (n * 96 + p) cause

/-! ### Entering service (R111) -/

/-- A facet meets R111, but for its arm's state; one that is FAILED_BYPASSED never does. -/
def Vc.meets (s : Vc) (n : Nat) : Bool :=
  let f := s.facet n
  f.cause ≠ 4 && s.strRuns (facetStr n) && f.accepted && (f.rstate = 1 || f.rstate = 2) && !bit f.rflags 0 && !bit f.rflags 2 &&
    decide (facetPos n < s.rd STRING.CFG.CELLS (facetStr n)) && !(s.str (facetStr n)).noRejoin

/-- A facet enters service (R111): MISM_RUN 0, CSTATE as its RSTATE, DWELL 0, and, where it returns to service, VF from its next
report. Commands of ticks before `tick` were issued before the entry (R108 step 3). -/
def Vc.enterService (s : Vc) (n : Nat) (tick : Nat := s.tickNo) : Vc :=
  let f := s.facet n
  s.setFacet n { f with
    inSvc := true, cstate := f.rstate, dwell := 0, mismRun := 0, entryC := f.rstate, entryTick := tick
    fresh := f.fresh || f.cause ≠ 0, tjSeen := false }

/-! ### One facet at the commit (R108) -/

/-- A report block is valid: written, and its RCRC correct (R175). -/
def reportOk (blk : Nat) : Bool :=
  blk ≠ 0xFFFF000000000000 && blk / 281474976710656 = check16 (bitsUp blk 0 48)

/-- SEQ `a` is newer than `b` (R180, R183). -/
def seqNewer (a b : Nat) : Bool := let d := (a + 65536 - b) % 65536; decide (0 < d) && decide (d ≤ 32767)

/-- The reports of a facet that may be committed: valid, of a SEQ not yet committed. -/
def freshReports (f : Facet) (rx : List RxRep) (p : Nat) : List RxRep :=
  rx.filter fun r => r.pos = p && reportOk r.blk && (match f.seqDone with | some q => seqNewer r.seq q | none => true)

/-- The newest SEQ among reports, X before Y within it (R23, R183). -/
def bestReport (rs : List RxRep) : Option RxRep :=
  rs.foldl (fun b r =>
    match b with
    | none => some r
    | some c => if seqNewer r.seq c.seq || (r.seq = c.seq && decide (r.dir < c.dir)) then some r else some c) none

/-- VF after a report: set at the first report, filtered afterwards (R108 step 1). -/
def newVf (vf vraw filt : Nat) (fresh : Bool) : Nat :=
  if fresh then vraw * 256
  else ((vf : Int) + (((vraw * 256 : Nat) : Int) - vf) / (2 ^ filt : Nat)).toNat

/-- The states commanded for the two most recent effective ticks at or before the report's VT (R108 step 3). -/
def expected (f : Facet) : List Nat :=
  let due := (f.issued.filter fun e => e.1 ≤ f.vt).take 2
  let cs := due.map fun e => if e.2.2 < f.entryTick then f.entryC else e.2.1
  cs ++ List.replicate (2 - cs.length) f.entryC

/-- VCAP_EXT after a report (R317). -/
def extStat (e vraw : Nat) : Nat := max (e / 65536) vraw * 65536 + min (e % 65536) vraw

/-- A facet's entry once a report is accepted (R108, R179), and whether its state is one that may be expected. -/
def Vc.reported (s : Vc) (f : Facet) (r : RxRep) : Facet × Bool :=
  let w := r.blk % 281474976710656
  let vraw := w / 4294967296
  let rstate := bits w 31 28
  let auxId := bits w 19 16
  let f := { f with
    vraw := vraw, rstate := rstate, rflags := bits w 27 20, vt := r.vt, missRun := 0, noReport := false, accepted := true
    seqDone := some r.seq, lastSeq := r.seq, lpar := bit w 25
    tj := if auxId = 2 then w % 65536 else f.tj
    tjSeen := f.tjSeen || auxId = 2
    vf := newVf f.vf vraw (s.rd ARM.CFG0.FILT f.arm) f.fresh, fresh := false }
  let ok := (s.blocked && rstate = 1) || (expected f).any fun c => c = rstate
  (if f.inSvc then { f with mismatch := !ok, mismRun := if ok then 0 else min 15 (f.mismRun + 1) } else f, ok)

/-- An accepted report at the commit (R108): the entry, the string's flags, and a departure that the report calls for (R110).
`badOther` says that the other copy of the report failed. -/
def Vc.takeReport (s : Vc) (n : Nat) (r : RxRep) (f : Facet) (badOther : Bool) : Vc :=
  let sn := facetStr n
  let fo := s.reported f r
  let f := fo.1
  let s := s.setFacet n f
  let s := if f.inSvc then s.setStat n { s.stat n with vext := extStat (s.stat n).vext f.vraw } else s
  let s := if bit f.rflags 4 then s.set1 STRING.ERRSTAT.CMD_FAULT_SEEN sn else s
  let s := if bit f.rflags 3 then s.set1 STRING.ERRSTAT.WDOG_SEEN sn else s
  let s := if badOther then
      ((s.set1 STRING.ERRSTAT.COPY_ERR sn).count STRING.COPYERR_CNT.COUNT sn).corrected 0
    else s
  let s := if f.inSvc && !fo.2 && decide (s.rd ARM.CFG0.MISM_LIMIT f.arm ≤ f.mismRun) then
      s.leaveService n 5
    else s
  if f.rstate = 5 then s.leaveService n 4
  else if bit f.rflags 0 then s.leaveService n 2
  else if bit f.rflags 2 then s.leaveService n 3
  else s

/-- No report of a facet at the commit (R108). -/
def Vc.missReport (s : Vc) (n : Nat) (f : Facet) : Vc :=
  let sn := facetStr n
  let f := { f with noReport := true, missRun := min 127 (f.missRun + 1), accepted := false }
  let s := s.setFacet n f
  let s := s.count STRING.NOREP_CNT.COUNT sn
  let s := if f.inSvc then s.event [opRec 0x0320 0 2 n (f.word 4) s.refDie 1] else s
  if f.missRun = s.rd STRING.CFG.WDOG_TICKS sn then s.leaveService n 1 else s

/-- The entry of a facet whose string is not mapped: every field at its reset value (R106); the report's SEQ, flags and
acceptance stand beside the entry. -/
def Facet.unmapped (f : Facet) : Facet :=
  { accepted := f.accepted, seqDone := f.seqDone, lastSeq := f.lastSeq, lpar := f.lpar, clrPend := f.clrPend, clrSeq := f.clrSeq }

/-- The entry of an unmapped facet goes back to its reset value (R106). -/
def Vc.keepUnmapped (s : Vc) (n : Nat) : Vc :=
  let f := s.facet n
  if f.arm = 0xF then s.setFacet n f.unmapped else s

/-- The commit of one facet of a running string (R108), with the reports received for its string. -/
def Vc.commitFacet (s : Vc) (n : Nat) (rx : List RxRep) : Vc :=
  let f := s.facet n
  let p := facetPos n
  let mine := rx.filter fun r => r.pos = p
  let bad (d : Nat) : Bool := mine.any fun r => r.dir = d && r.blk ≠ 0xFFFF000000000000 && !reportOk r.blk
  let seen (d : Nat) : Bool := mine.any fun r => r.dir = d && r.blk ≠ 0xFFFF000000000000
  let f := { f with xbad := if seen 0 then bad 0 else f.xbad, ybad := if seen 1 then bad 1 else f.ybad }
  match bestReport (freshReports f rx p) with
  | none => (s.missReport n f).keepUnmapped n
  | some r => (s.takeReport n r f (bad (1 - r.dir))).keepUnmapped n

/-! ### Forming n and f (R118) and the direction (R119) -/

/-- The output of a context in a state that names an arm with ARM_REF. -/
def Vc.feederIn (s : Vc) (a st : Nat) : Option (Nat × Nat) :=
  (List.range 16).findSome? fun c =>
    if s.rd CTX.STATUS.STATE c = st then
      (List.range (s.rd CTX.CFG0.NU c)).findSome? fun i =>
        if s.rd CTX.OMAP.DEST c i = 1 ∧ s.rd CTX.OMAP.IDX c i = a then some (c, i) else none
    else none

/-- The output that feeds an arm: of a RUNNING context, else of one in FAULT (R79, R84). -/
def Vc.feeder (s : Vc) (a : Nat) : Option (Nat × Nat) :=
  match s.feederIn a 1 with
  | some f => some f
  | none => s.feederIn a 2

/-- V_ref of an arm (R118). -/
def Vc.vrefOf (s : Vc) (a : Nat) : F32 :=
  match s.feeder a with
  | some (c, i) => (s.ctx c).u.getD i 0
  | none => 0

/-- What R118 forms: P = −1, n, F16, REF_CLAMP. -/
structure Level where
  negP  : Bool
  n     : Nat
  f16   : Nat
  clamp : Bool
deriving DecidableEq, Repr

/-- R118: polarity, n and F16 from V_ref and V_c. -/
def formLevel (mode : Nat) (bridge : Bool) (vref vc : F32) (navail : Nat) : Level :=
  let isNeg := F32.lt vref 0
  let negP := bridge && isNeg
  let vref' := if !bridge && isNeg then 0 else vref
  let cl := !bridge && isNeg
  if vc.neg || vc.isNaN || vc.isInf || vc.isZero then ⟨negP, 0, 0, true⟩
  else
    let q := F32.div vref'.abs vc
    if q.isInf then ⟨negP, navail, 0, true⟩
    else
      let n := if mode = 0 then q.nearestNat else q.floorNat
      let f16 := if mode = 0 then 0 else q.floor16 - n * 65536
      if navail < n + (if f16 ≠ 0 then 1 else 0) then ⟨negP, navail, 0, true⟩ else ⟨negP, n, f16, cl⟩

/-! ### Ranking and edges (R120 to R126) -/

/-- One facet of an arm as selection sees it: arm index, global facet ID. -/
structure Ent where
  a      : Nat
  gid    : Nat
  vf     : Nat
  cstate : Nat
  dwell  : Nat
  trim   : Nat
  inSvc  : Bool
deriving DecidableEq, Repr

/-- The facets of an arm in arm-index order (R112). What a VC holds of another VC's facet has no EDGE_TRIM: it counts as 0
(DESIGN CHOICE, log 111). -/
def Vc.armEnts (s : Vc) (a : Nat) : List Ent :=
  ((s.arm a).strs.foldl (fun (acc : List Ent × Nat) gn =>
    let vc := gn.1 / 48
    (acc.1 ++ (List.range gn.2).map (fun p =>
      let loc := gn.1 % 48 * 96 + p
      if vc = s.vcId then
        let f := s.facet loc
        ⟨acc.2 + p, vc * 4608 + loc, f.vf, f.cstate, f.dwell, f.trim, f.inSvc⟩
      else
        let r := s.remote (vc * 4608 + loc)
        ⟨acc.2 + p, vc * 4608 + loc, r.vf, r.cstate, r.dwell, 0, r.inSvc⟩), acc.2 + gn.2)) ([], 0)).1

/-- What selection needs of an arm's configuration and of the tick. -/
structure SelCfg where
  mode     : Nat
  minDwell : Nat
  hyst     : Nat
  shift    : Nat
  base     : Nat
  edgeBase : Nat
  fracMin  : Nat
  nArm     : Nat
  sk       : Nat
  tq       : Nat
  charging : Bool
  negP     : Bool
deriving DecidableEq, Repr

/-- The command issued to one facet: MODE, EDGE_AT, the state it leads to, its BIN and PINNED when in service. -/
structure Issue where
  gid    : Nat
  mode   : Nat
  edge   : Nat
  newC   : Nat
  bin    : Option Nat
  pinned : Option Bool
deriving DecidableEq, Repr

def SelCfg.isOn (c : SelCfg) (st : Nat) : Bool := st = (if c.negP then 4 else 3)
def SelCfg.isOpp (c : SelCfg) (st : Nat) : Bool := st = (if c.negP then 3 else 4)

/-- The raw bin of R121. -/
def SelCfg.rawBin (c : SelCfg) (vf : Nat) : Nat := min (vf / 2 ^ (8 + c.shift) - c.base) 1023

/-- The effective bin of R121. -/
def SelCfg.effBin (c : SelCfg) (e : Ent) : Nat :=
  let b := c.rawBin e.vf
  if c.isOn e.cstate then (if c.charging then b - c.hyst else min (b + c.hyst) 1023) else b

/-- The rank of a free facet: its bin in rank order, then the tie-break of R122. -/
def SelCfg.rank (c : SelCfg) (e : Ent) : Nat :=
  let k := if c.charging then c.effBin e else 1023 - c.effBin e
  k * 65536 + (e.a + c.nArm - c.sk) % c.nArm

/-- Inserts by a key into a list rising in it. -/
def insBy {α : Type} (k : α → Nat) (x : α) : List α → List α
  | [] => [x]
  | y :: ys => if k x < k y then x :: y :: ys else y :: insBy k x ys

/-- Sorts by a key. -/
def sortBy {α : Type} (k : α → Nat) (l : List α) : List α := l.foldr (insBy k) []

/-- A pinned facet of R120. -/
def SelCfg.pinned (c : SelCfg) (e : Ent) : Bool := e.inSvc && decide (e.dwell < c.minDwell) && e.cstate ≠ 1

/-- EDGE_AT of R125. -/
def SelCfg.edgeAt (c : SelCfg) (e : Ent) (base : Nat) : Nat :=
  let v : Int := ((base + c.edgeBase : Nat) : Int) + signed 8 e.trim
  min (min v.toNat (c.tq - 1)) 16383

/-- The base edges of a list in rank order in SPREAD: the last `d` take R124's edges, the others 0. -/
def spreadEdges (l : List Ent) (d tq : Nat) : List (Nat × Nat) :=
  (l.zip (List.range l.length)).map fun ei =>
    let k := l.length - d
    (ei.1.gid, if ei.2 < k then 0 else (2 * (ei.2 - k) + 1) * tq / (2 * d))

/-- One run of selection for a level n and a fraction (R120 to R125): the commands, DWELL_LIMIT, FRAC_NONE, the F16 and
E_in in force. -/
structure SelOut where
  issues : List Issue
  dwellLimit : Bool
  fracNone : Bool
  f16  : Nat
  ein  : Nat
deriving DecidableEq, Repr

def selectRun (c : SelCfg) (es : List Ent) (n f16 ein : Nat) : SelOut :=
  let pin := es.filter c.pinned
  let free := sortBy c.rank (es.filter fun e => e.inSvc && !c.pinned e)
  let aOn := (pin.filter fun e => c.isOn e.cstate).length
  let aOpp := (pin.filter fun e => c.isOpp e.cstate).length
  let want : Int := (n : Int) - aOn + aOpp
  let nf := min want.toNat free.length
  let sel := free.take nf
  let rest := free.drop nf
  let frac := if f16 = 0 then none else rest.find? fun e => !c.isOpp e.cstate
  let isFrac (e : Ent) : Bool := match frac with | some g => g.gid = e.gid | none => false
  let ins := sel.filter fun e => !c.isOn e.cstate
  let rem := rest.filter fun e => (c.isOn e.cstate || c.isOpp e.cstate) && !isFrac e
  let d : Int := (ins.length : Int) - rem.length
  let edges :=
    if c.mode = 2 then
      (if 0 < d then spreadEdges ins d.toNat c.tq else []) ++ (if d < 0 then spreadEdges rem (-d).toNat c.tq else [])
    else []
  let baseOf (e : Ent) : Nat := ((edges.find? fun x => x.1 = e.gid).map (·.2)).getD 0
  let onSt := if c.negP then 4 else 3
  let onMode := if c.negP then 2 else 1
  let selIds := sel.map (·.gid)
  let pn := fun (e : Ent) => some (decide (e.dwell < c.minDwell))
  let issue (e : Ent) : Issue :=
    if !e.inSvc then ⟨e.gid, 4, 0, 1, none, some false⟩
    else if c.pinned e then
      ⟨e.gid, (if e.cstate = 3 then 1 else if e.cstate = 4 then 2 else 3), 0, e.cstate, some (c.rawBin e.vf), pn e⟩
    else
      let b := some (c.effBin e)
      if isFrac e then
        if c.isOn e.cstate then ⟨e.gid, 3, c.edgeAt e (c.tq - ein), 2, b, pn e⟩
        else ⟨e.gid, onMode, c.edgeAt e ein, onSt, b, pn e⟩
      else if selIds.contains e.gid then
        ⟨e.gid, onMode, if e.cstate = onSt then 0 else c.edgeAt e (baseOf e), onSt, b, pn e⟩
      else ⟨e.gid, 3, if e.cstate = 2 then 0 else c.edgeAt e (baseOf e), 2, b, pn e⟩
  { issues := es.map issue
    dwellLimit := decide (want < 0) || decide ((free.length : Int) < want)
    fracNone := decide (f16 ≠ 0) && frac.isNone
    f16 := if frac.isNone then 0 else f16
    ein := if frac.isNone then 0 else ein }

/-- Selection with the fraction's limits of R123: the level n that stands, and the run. -/
def selectArm (c : SelCfg) (es : List Ent) (n f16 : Nat) : Nat × SelOut :=
  if f16 = 0 then (n, selectRun c es n 0 0)
  else
    let ein := min ((c.tq * (65536 - f16) + 32768) / 65536) (c.tq - 1)
    if c.tq - ein < c.fracMin then (n, selectRun c es n 0 0)
    else if ein < c.fracMin then (n + 1, selectRun c es (n + 1) 0 0)
    else (n, selectRun c es n f16 ein)

/-! ### Issuing the commands (R126, R127) -/

/-- A command takes its place in a facet entry: CSTATE, LAST_MODE, LAST_EDGE, DWELL, SWCOUNT. -/
def Facet.issue (f : Facet) (mode edge newC eff tick : Nat) : Facet :=
  let ch := newC ≠ f.cstate
  { f with
    cstate := newC, lastMode := mode, lastEdge := edge
    dwell := if ch then 0 else min 255 (f.dwell + 1)
    swcount := if ch then sat 32 (f.swcount + 1) else f.swcount
    issued := (eff, newC, tick) :: f.issued.take 7 }

/-- The command of a facet of this VC is issued for the effective instant, and the SWITCH statistic follows (R317). -/
def Vc.issueLocal (s : Vc) (n mode edge newC eff : Nat) : Vc :=
  let f := s.facet n
  let s := s.setFacet n (f.issue mode edge newC eff s.tickNo)
  if newC ≠ f.cstate then s.setStat n { s.stat n with sw := sat 32 ((s.stat n).sw + 1) } else s

/-- One command of an arm: to a local facet entry, or to the shadow entry of a remote one (R126, R127). -/
def Vc.issueOne (s : Vc) (eff : Nat) (i : Issue) : Vc :=
  if i.gid / 4608 = s.vcId then
    let n := i.gid % 4608
    let s := s.issueLocal n i.mode i.edge i.newC eff
    let f := s.facet n
    s.setFacet n { f with bin := i.bin.getD f.bin, pinned := i.pinned.getD f.pinned }
  else
    let r := s.remote i.gid
    s.setRemote i.gid { r with
      cstate := i.newC, dwell := if i.newC = r.cstate then min 255 (r.dwell + 1) else 0, bin := i.bin.getD r.bin }

/-- A command as BLOCK, while the valve is blocked (R126). -/
def Issue.blocked (i : Issue) : Issue := { i with mode := 4, edge := 0, newC := 1 }

/-! ### Aggregates (R117) -/

/-- The aggregates of an arm over its in-service facets: N_AVAIL, AGG_VMEAN, AGG_ENERGY. -/
def aggregates (es : List Ent) (ccell : F32) : Nat × F32 × F32 :=
  let vs := (es.filter (·.inSvc)).map (·.vf)
  let n := vs.length
  if n = 0 then (0, 0, 0)
  else
    let s1 : Nat := vs.foldl (· + ·) 0
    let s2 : Nat := vs.foldl (fun (a v : Nat) => a + v * v) 0
    (n, F32.roundRat false s1 n (-12), F32.mul (F32.ofInt s2) (F32.mul ccell (F32.mk false (127 - 25) 0)))

/-- The aggregates as the registers show them. -/
def Vc.putAgg (s : Vc) (a : Nat) : Vc :=
  let g := aggregates (s.armEnts a) (s.rd ARM.CCELL.CCELL a)
  let s := (s.wr ARM.AGG_VMEAN.VMEAN g.2.1 a).wr ARM.AGG_ENERGY.ENERGY g.2.2 a
  s.setArm a { s.arm a with agg := g.1 }

/-! ### The selection of one arm (R116 to R126) -/

/-- A MEAS value with MEAN 0 is valid (R69): the lane is locked and a valid sample became an input in this tick or the
previous one. -/
def Vc.chanValid (s : Vc) (l ch : Nat) : Bool :=
  s.rd LANE.STATUS.BSTATE (96 + l) = 7 &&
    match (s.chan (l * 4 + ch)).inTick with
    | some t => decide (s.ticks ≤ t + 2)
    | none => false

/-- The newest valid arm-current sample, for R119 with the validity of R69; `none` when there is none. -/
def Vc.armCurrent (s : Vc) (a : Nat) : Option Int :=
  let l := s.rd ARM.CFG4.ILANE a
  let ch := s.chan (l * 4 + s.rd ARM.CFG4.ICH a)
  if s.chanValid l (s.rd ARM.CFG4.ICH a) then
    ch.value.map fun v => let x := signed 16 v; if s.on ARM.CFG0.SIGN a then -x else x
  else none

/-- BLOCK to every facet of an arm that is FAILED (R126): no selection runs, so BIN and PINNED stay. -/
def Vc.failedIssues (s : Vc) (a : Nat) : List Issue := (s.armEnts a).map fun e => ⟨e.gid, 4, 0, 1, none, none⟩

/-- A facet of this VC whose string sends BLOCK whatever its arm does: its string is in SYNC, or stops (R196). -/
def Vc.mustBlock (s : Vc) (g : Nat) : Bool :=
  g / 4608 = s.vcId && (s.rd STRING.STATUS.STATE (g % 4608 / 96) = 5 || (s.str (g % 4608 / 96)).stopLeft.isSome)

/-- The selection of one FORMED arm homed here, and its aggregates for the next tick (R116, R117); a FAILED arm only has
its facets commanded BLOCK (R126). -/
def Vc.selectArmTick (s : Vc) (a : Nat) : Vc × List Issue :=
  if s.rd ARM.STAT.STATE a = 0 then (s, [])
  else if s.rd ARM.STAT.STATE a = 2 then
    let s := s.wr ARM.STAT.N_AVAIL (s.availOf a) a
    let eff := (s.vt + s.rd ARM.STAT.LC a * s.tq) % 18446744073709551616
    let iss := s.failedIssues a
    (iss.foldl (fun s i => s.issueOne eff i) s, iss)
  else
    let es := s.armEnts a
    let agg := aggregates es (s.rd ARM.CCELL.CCELL a)
    let vref := s.vrefOf a
    let vc := if s.on ARM.CFG0.NORM a then s.rd ARM.VNOM.VNOM a else agg.2.1
    let mode := s.rd ARM.CFG0.EDGE_MODE a
    let lv := formLevel mode (s.on ARM.CFG0.BRIDGE a) vref vc agg.1
    let cur := s.armCurrent a
    let chg :=
      match cur with
      | some x =>
        if (s.rd ARM.CFG3.DEADBAND a : Int) < x.natAbs then decide (0 < (if lv.negP then -x else x))
        else s.on ARM.STAT.DIR a
      | none => s.on ARM.STAT.DIR a
    let nArm := s.rd ARM.CFG1.N_ARM a
    let c : SelCfg := {
      mode := mode, minDwell := s.rd ARM.CFG0.MIN_DWELL a, hyst := s.rd ARM.CFG0.HYST a
      shift := s.rd ARM.CFG0.BIN_SHIFT a, base := s.rd ARM.CFG3.BIN_BASE a, edgeBase := s.rd ARM.CFG2.EDGE_BASE a
      fracMin := s.rd ARM.CFG2.FRAC_MIN a, nArm := nArm, sk := s.tickNo * s.rd ARM.CFG4.TIE_STRIDE a % nArm
      tq := s.tq, charging := chg, negP := lv.negP }
    let (n, o) := selectArm c es lv.n lv.f16
    let s := s.wr ARM.STAT.DIR (b2n chg) a
    let s := s.wr ARM.STAT.POL (b2n lv.negP) a
    let s := s.wr ARM.STAT.N_LAST n a
    let s := s.wr ARM.STAT.N_AVAIL agg.1 a
    let s := s.wr ARM.TICK.F16 o.f16 a
    let s := s.wr ARM.TICK.E_IN o.ein a
    let s := if lv.clamp then s.set1 ARM.ERR.REF_CLAMP a else s
    let s := if cur.isNone then s.set1 ARM.ERR.DIR_HELD a else s
    let s := if o.dwellLimit then s.set1 ARM.ERR.DWELL_LIMIT a else s
    let s := if o.fracNone then s.set1 ARM.ERR.FRAC_NONE a else s
    let s := s.setArm a { s.arm a with vref := vref }
    let iss := o.issues.map fun i => if s.blocked || s.mustBlock i.gid then i.blocked else i
    let eff := (s.vt + s.rd ARM.STAT.LC a * s.tq) % 18446744073709551616
    let s := iss.foldl (fun s i => s.issueOne eff i) s
    (s.putAgg a, iss)

/-! ### FORM and RELEASE (R112 to R115, R129) -/

/-- The strings of this VC mapped to an arm homed here, and those of other VCs, as (VC_ID × 48 + string, cells). -/
def Vc.armStrings (s : Vc) (a : Nat) : List (Nat × Nat) :=
  let loc := ((List.range 48).filter fun n =>
    s.on PRISM.STRMAP.EN n && s.rd PRISM.STRMAP.ARM n = a && s.rd PRISM.STRMAP.HOME_VC n = s.vcId).map
      fun n => (s.vcId * 48 + n, s.rd STRING.CFG.CELLS n)
  let rem := (s.casc.remStrs.filter fun r => r.arm = a && r.home = s.vcId).map fun r => (r.vc * 48 + r.str, r.cells)
  sortBy (·.1) (loc ++ rem)

/-- Whether a string of the cascade runs, and its L_C. -/
def Vc.gstrInfo (s : Vc) (g : Nat) : Bool × Nat :=
  if g / 48 = s.vcId then (s.strRuns (g % 48), s.rd STRING.STATUS.LC (g % 48))
  else match s.casc.remStrs.find? fun r => r.vc * 48 + r.str = g with
    | some r => (r.runs, r.lc)
    | none => (false, 0)

/-- The arm L_C of R26: the largest string L_C, or the floor. -/
def Vc.armLc (s : Vc) (a : Nat) : Nat :=
  (s.armStrings a).foldl (fun m g => max m (s.gstrInfo g.1).2) (s.rd ARM.CFG1.LC_FLOOR a)

/-- The facets of the arm that meet R111, those of other VCs as their strings' status tells it (log 99). -/
def Vc.formable (s : Vc) (a : Nat) : Nat :=
  (s.armStrings a).foldl (fun acc gn =>
    acc +
      if gn.1 / 48 = s.vcId then ((List.range gn.2).filter fun p => s.meets (gn.1 % 48 * 96 + p)).length
      else match s.casc.remStrs.find? fun r => r.vc * 48 + r.str = gn.1 with
        | some r => min gn.2 r.ready
        | none => 0) 0

/-- The strings that hold facets of formed arms, and of arm `a` of this VC: home VC, VC of the string, cells. -/
def Vc.commanded (s : Vc) (a : Nat) : List (Nat × Nat × Nat) :=
  let own := (List.range 12).flatMap fun k =>
    (if k = a then s.armStrings k else if s.rd ARM.STAT.STATE k = 0 then [] else (s.arm k).strs).map fun g =>
      (s.vcId, g.1 / 48, g.2)
  let here := ((List.range 48).filter fun n => s.rd PRISM.STRMAP.HOME_VC n ≠ s.vcId && (s.strArm n).state ≠ 0).map fun n =>
    (s.rd PRISM.STRMAP.HOME_VC n, s.vcId, s.rd STRING.CFG.CELLS n)
  let far := (s.casc.remStrs.filter fun r => r.home ≠ s.vcId && (s.armOf r.home r.arm).state ≠ 0).map fun r =>
    (r.home, r.vc, r.cells)
  own ++ here ++ far

/-- M of R129 for the pair between the VCs `j` and `j` + 1: the facets whose commands cross it. -/
def crossing (l : List (Nat × Nat × Nat)) (j : Nat) : Nat :=
  (l.filter fun x => decide (min x.1 x.2.1 ≤ j) && decide (j < max x.1 x.2.1)).foldl (fun m x => m + x.2.2) 0

/-- The code with which FORM is refused, 0 when every check of R114 passes. -/
def Vc.formCode (s : Vc) (a : Nat) : Nat :=
  let strs := s.armStrings a
  let nArm := s.rd ARM.CFG1.N_ARM a
  let nMin := s.rd ARM.CFG2.N_MIN a
  let nSp := s.rd ARM.CFG1.N_SPARE a
  let lc := s.armLc a
  let mode := s.rd ARM.CFG0.EDGE_MODE a
  let room := (s.rd GLOBAL.TICKCFG.TP_NS - 400) * 10 / 64
  let cmds := s.commanded a
  let remote : Nat := (cmds.filter fun x => x.1 = s.vcId && x.2.1 ≠ s.vcId).foldl (fun m x => m + x.2.2) 0
  if s.rd ARM.STAT.STATE a ≠ 0 then 8
  else if strs.isEmpty ∨ 16 < strs.length ∨ strs.any (fun g => !(s.gstrInfo g.1).1 || (s.gstrInfo g.1).2 = 0) then 1
  else if nArm = 0 ∨ 1536 < nArm ∨ strs.foldl (fun x g => x + g.2) 0 ≠ nArm then 2
  else if nMin = 0 ∨ nArm < nMin + nSp ∨ nSp = 0x7FF then 3
  else if 4 < lc then 4
  else if mode = 3 ∨ (mode ≠ 0 ∧ 4096 < s.rd GLOBAL.TICKCFG.TP_NS) then 5
  else if s.formable a < nMin then 6
  else if ((List.range 15).any fun j => decide (0 < crossing cmds j) && decide (room < crossing cmds j + 16)) ∨ 1536 < remote then 7
  else if s.rd ARM.CFG0.BIN_SHIFT a = 7 ∨ s.rd ARM.CFG0.MISM_LIMIT a = 0 ∨ s.rd ARM.CFG4.TIE_STRIDE a = 0 ∨
      !bit (s.rd PROT.CFG.MLANE_EN) (s.rd ARM.CFG4.ILANE a) then 9
  else if (List.range 16).any (fun c => s.rd CTX.STATUS.STATE c = 1 && s.rd CTX.CFG2.DELAY_TICKS c ≠ lc &&
      (List.range (s.rd CTX.CFG0.NU c)).any fun i => s.rd CTX.OMAP.DEST c i = 1 && s.rd CTX.OMAP.IDX c i = a) then 10
  else 0

/-- ARMCTL.FORM (R113, R114). -/
def Vc.armForm (s : Vc) (a : Nat) : Vc :=
  let code := s.formCode a
  if code ≠ 0 then (s.wr ARM.ERR.FORM_CODE code a).set1 ARM.ERR.FORM_REFUSED a
  else
    let strs := s.armStrings a
    let lc := s.armLc a
    let s := s.setArm a { strs := strs, vref := 0 }
    let s := s.wr ARM.STAT.STATE 1 a
    let s := s.wr ARM.STAT.LC lc a
    let s := s.wr ARM.STAT.DIR 1 a
    let s := s.wr ARM.LOSSCNT.COUNT 0 a
    let s := strs.foldl (fun s gn =>
      if gn.1 / 48 = s.vcId then
        forN gn.2 s fun s p => let n := gn.1 % 48 * 96 + p; if s.meets n then s.enterService n else s
      else s) s
    s.wr ARM.STAT.N_AVAIL (s.availOf a) a

/-- ARMCTL.RELEASE while the valve is blocked (R113): every facet leaves with cause ARM_RELEASED; those of other VCs once they
know of it (log 99). A FAILED arm still keeps the protection block latched. -/
def Vc.armRelease (s : Vc) (a : Nat) : Vc :=
  if s.rd ARM.STAT.STATE a = 0 then s
  else
    let strs := (s.arm a).strs
    let failed := s.rd ARM.STAT.STATE a = 2
    let s := s.wr ARM.STAT.STATE 0 a
    let s := strs.foldl (fun s gn =>
      if gn.1 / 48 = s.vcId then forN gn.2 s fun s p => s.leaveService (gn.1 % 48 * 96 + p) 8
      else s) s
    let s := s.setArm a { failed := failed }
    let s := s.wr ARM.STAT.LC 0 a
    s.wr ARM.STAT.N_AVAIL 0 a

/-- A write of ARMCTL (R113): a RELEASE while the valve is deblocked is an access violation. -/
def Vc.armCtl (s : Vc) (a w : Nat) : Vc :=
  if bit w 1 ∧ !s.blocked ∧ s.rd ARM.STAT.STATE a ≠ 0 then s.badWrite 3 (0x4101C + 0x100 * a)
  else
    let s := if bit w 1 then s.armRelease a else s
    if bit w 0 then s.armForm a else s

/-- The facets of a string take their arm and home from its map entry, or their reset value (R106). -/
def Vc.mapFacets (s : Vc) (n : Nat) : Vc :=
  let arm := s.rd PRISM.STRMAP.ARM n
  let home := s.rd PRISM.STRMAP.HOME_VC n
  forN 96 s fun s p =>
    if s.on PRISM.STRMAP.EN n && decide (p < s.rd STRING.CFG.CELLS n) then
      let f := s.facet (n * 96 + p)
      s.setFacet (n * 96 + p) { f with arm := arm, home := home, remote := home ≠ s.vcId }
    else s.setFacet (n * 96 + p) {}

/-- A write of PRISM.STRMAP[s] (R132), refused while the arm it names, or the arm the string is mapped to, is not UNFORMED: the
facets of the string take its arm and home, or their reset value (R106). -/
def Vc.strMap (s : Vc) (n w : Nat) : Vc :=
  let en := bit w 31
  let home := bits w 11 8
  let arm := bits w 3 0
  if (s.armOf home arm).state ≠ 0 || (s.strArm n).state ≠ 0 || (en && decide (11 < arm)) then s.badWrite 3 (0x40100 + 4 * n)
  else
    let s := s.wr PRISM.STRMAP.EN (b2n en) n
    let s := s.wr PRISM.STRMAP.HOME_VC home n
    let s := s.wr PRISM.STRMAP.ARM arm n
    s.mapFacets n

/-! ### FACET_CTL (R130, R131) -/

/-- FACET_CTL is refused by its words or its buffer (R131): BAD_PARAM, BOUNDS, CHECK_FAIL, or DMA_ERR for a buffer that could not be
read; `buf` is the buffer of SET_TRIM. -/
def Vc.facetCtlWords (s : Vc) (d : Desc) (buf : HostBuf) : Nat :=
  let op := bits (d.word 4) 31 28
  let first := bits (d.word 4) 12 0
  let count := bits (d.word 5) 12 0
  let len := d.word 8
  let rest := (List.range 6).any fun k => d.word (10 + k) ≠ 0
  let bufBad := if op = 0 then bufFault (d.word 6) (d.word 7) len = 1
    else decide (d.word 6 ≠ 0) || decide (d.word 7 ≠ 0) || decide (len ≠ 0) || decide (d.word 9 ≠ 0)
  if 3 < op ∨ bits (d.word 4) 27 13 ≠ 0 ∨ bits (d.word 5) 31 13 ≠ 0 ∨ rest ∨ count = 0 ∨ count = 0x1FFF ∨ bufBad then 1
  else if 4608 < first + count ∨ 4608 < count ∨ (op = 0 ∧ len ≠ count) then 2
  else if op = 0 then
    match s.readBuf buf len with
    | none => 8
    | some bs => if crc32c bs = d.word 9 then 0 else 3
  else 0

/-- The facets of a FACET_CTL. -/
def Desc.facetRange (d : Desc) : List Nat := (List.range (bits (d.word 5) 12 0)).map (· + bits (d.word 4) 12 0)

/-- The removals of a range would take a FORMED arm below N_MIN (R131): of an arm homed here by its registers, of another as its home
last told it (log 99). -/
def Vc.belowMin (s : Vc) (range : List Nat) : Bool :=
  (List.range 16).any fun h => (List.range 12).any fun a =>
    let n := (range.filter fun k => (s.facet k).arm = a && (s.facet k).home = h).length
    (s.armOf h a).state = 1 && decide (0 < n) && decide ((s.armOf h a).avail < (s.armOf h a).nMin + n)

/-- FACET_CTL fails at the commit at which it takes effect (R131): BAD_STATE of a RETURN or a REMOVE. -/
def Vc.facetCtlBad (s : Vc) (d : Desc) : Bool :=
  match bits (d.word 4) 31 28 with
  | 1 => d.facetRange.any fun n => (s.facet n).inSvc || !s.meets n || (s.armOf (s.facet n).home (s.facet n).arm).state ≠ 1
  | 2 => d.facetRange.any (fun n => !(s.facet n).inSvc) || (!s.blocked && s.belowMin d.facetRange)
  | _ => false

/-- FACET_CTL with one OP: refused by its words, or it takes effect at the next tick boundary (R37, R131). -/
def Vc.facetCtl (s : Vc) (id op : Nat) (buf : HostBuf) : Vc :=
  s.withDesc id 1 fun s d =>
    if bits (d.word 4) 31 28 ≠ op ∧ bits (d.word 4) 31 28 ≤ 3 then s
    else if s.facetCtlWords d buf ≠ 0 then s.finish id (s.facetCtlWords d buf)
    else s.holdDesc id buf

/-- FACET_CTL on one facet: `k` is its place in the range, `bs` the trims of SET_TRIM. -/
def Vc.facetOp (s : Vc) (op n k : Nat) (bs : List Nat) : Vc :=
  match op with
  | 0 => if (s.facet n).arm = 0xF then s else s.setFacet n { s.facet n with trim := bs.getD k 0 }
  | 1 => s.enterService n
  | 2 => s.leaveService n 7
  | _ => s.setFacet n { s.facet n with swcount := 0 }

/-- FACET_CTL at the commit of its tick boundary, after the faults of that commit (R131). -/
def Vc.facetNow (s : Vc) (d : Desc) (buf : HostBuf) : Vc :=
  if s.facetCtlBad d then s.finish d.id 4
  else
    let op := bits (d.word 4) 31 28
    let bs := (bufBytes buf (d.word 8)).getD []
    let s := forN (bits (d.word 5) 12 0) s fun s k => s.facetOp op (bits (d.word 4) 12 0 + k) k bs
    let s := if op = 1 then forN 12 s fun s a => if s.rd ARM.STAT.STATE a = 1 then s.wr ARM.STAT.N_AVAIL (s.availOf a) a else s else s
    s.finish d.id 0

/-! ### The facet window (R109) -/

/-- A read of word `w` of window entry `n`: word 0 latches words 1 to 7. -/
def Vc.windowRead (s : Vc) (n w : Nat) : Vc × Nat :=
  let e := (s.facet n).entry
  if w = 0 then
    ({ s with host := { s.host with facetLatch := some (n, e) } }, e.getD 0 0)
  else
    match s.host.facetLatch with
    | some (m, l) => if m = n then (s, l.getD w 0) else (s, e.getD w 0)
    | none => (s, e.getD w 0)

end Sys2Proof.Machine
end

