-- ==== Sys2Proof/Machine/Sm.lean ====
section
/-!
DEFINITION. Machine/Sm.lean: the digest SM3 of GB/T 32905 and the signature check of GB/T 32918.2 on the recommended curve of
GB/T 32918.5, over byte strings given as numbers (R226, R357, R358).
-/
namespace Sys2Proof.Machine

/-! ### SM3 -/

/-- A 32-bit word rotated left. -/
def rol32 (x n : Nat) : Nat := (x * 2 ^ (n % 32) + x / 2 ^ (32 - n % 32)) % 4294967296

/-- The permutations P0 and P1. -/
def sm3P0 (x : Nat) : Nat := Nat.xor (Nat.xor x (rol32 x 9)) (rol32 x 17)
def sm3P1 (x : Nat) : Nat := Nat.xor (Nat.xor x (rol32 x 15)) (rol32 x 23)

/-- Exclusive or of three words, their majority, and the choice of the second or the third by the first. -/
def xor3 (x y z : Nat) : Nat := Nat.xor (Nat.xor x y) z
def maj3 (x y z : Nat) : Nat := Nat.lor (Nat.lor (Nat.land x y) (Nat.land x z)) (Nat.land y z)
def sel3 (x y z : Nat) : Nat := Nat.lor (Nat.land x y) (Nat.land (4294967295 - x) z)

/-- The 68 words of a message block of 16, the newest first. -/
def sm3Expand (b : List Nat) : List Nat :=
  (List.range 52).foldl (fun l _ =>
    Nat.xor (Nat.xor (sm3P1 (xor3 (l.getD 15 0) (l.getD 8 0) (rol32 (l.getD 2 0) 15))) (rol32 (l.getD 12 0) 7)) (l.getD 5 0) :: l)
    b.reverse

/-- One round of the compression: the words A to H. -/
def sm3Round (w : List Nat) (v : List Nat) (j : Nat) : List Nat :=
  match v with
  | [a, b, c, d, e, f, g, h] =>
    let t := if j < 16 then 0x79CC4519 else 0x7A879D8A
    let s1 := rol32 ((rol32 a 12 + e + rol32 t j) % 4294967296) 7
    let s2 := Nat.xor s1 (rol32 a 12)
    let ff := if j < 16 then xor3 a b c else maj3 a b c
    let gg := if j < 16 then xor3 e f g else sel3 e f g
    let wj := w.getD j 0
    let t1 := (ff + d + s2 + Nat.xor wj (w.getD (j + 4) 0)) % 4294967296
    let t2 := (gg + h + s1 + wj) % 4294967296
    [t1, a, rol32 b 9, c, sm3P0 t2, e, rol32 f 19, g]
  | _ => v

/-- The compression of one message block. -/
def sm3Compress (v b : List Nat) : List Nat :=
  let w := (sm3Expand b).reverse
  ((List.range 64).foldl (sm3Round w) v).zipWith Nat.xor v

/-- A number as `n` bytes, the highest first, and back. -/
def bytesBE (v n : Nat) : List Nat := (List.range n).map fun i => v / 256 ^ (n - 1 - i) % 256
def ofBytesBE (bs : List Nat) : Nat := bs.foldl (fun a b => a * 256 + b) 0

/-- Words of four bytes, the highest first. -/
def wordsBE : List Nat → List Nat
  | a :: b :: c :: d :: t => ofBytesBE [a, b, c, d] :: wordsBE t
  | _ => []

/-- The compressions of a padded message, block by block; `n` bounds the blocks. -/
def sm3Blocks (v : List Nat) (ws : List Nat) : Nat → List Nat
  | 0 => v
  | n + 1 => match ws with
    | [] => v
    | _ => sm3Blocks (sm3Compress v (ws.take 16)) (ws.drop 16) n

/-- SM3 of a byte string, as 32 bytes. -/
def sm3 (bs : List Nat) : List Nat :=
  let pad := (119 - bs.length % 64) % 64
  let m := bs ++ [0x80] ++ List.replicate pad 0 ++ bytesBE (8 * bs.length) 8
  let iv := [0x7380166F, 0x4914B2B9, 0x172442D7, 0xDA8A0600, 0xA96F30BC, 0x163138AA, 0xE38DEE4D, 0xB0FB0E4E]
  (sm3Blocks iv (wordsBE m) (bs.length / 64 + 2)).flatMap fun w => bytesBE w 4

/-! ### SM2 (GB/T 32918) -/

/-- The field prime, the coefficients a and b, the order n and the base point G of the recommended curve. -/
def sm2P : Nat := 0xFFFFFFFEFFFFFFFFFFFFFFFFFFFFFFFFFFFFFFFF00000000FFFFFFFFFFFFFFFF
def sm2A : Nat := 0xFFFFFFFEFFFFFFFFFFFFFFFFFFFFFFFFFFFFFFFF00000000FFFFFFFFFFFFFFFC
def sm2B : Nat := 0x28E9FA9E9D9F5E344D5A9E4BCF6509A7F39789F515AB8F92DDBCBD414D940E93
def sm2N : Nat := 0xFFFFFFFEFFFFFFFFFFFFFFFFFFFFFFFF7203DF6B21C6052B53BBF40939D54123
def sm2G : Nat × Nat :=
  (0x32C4AE2C1F1981195F9904466A39C9948FE30BBFF2660BE1715A4589334C74C7,
   0xBC3736A2F4F6779C59BDCEE36B692153D0A9877CC62A474002DF32E52139F0A0)

/-- A power modulo the prime, over the bits of the exponent from bit `k - 1` down. -/
def powP (x e : Nat) : Nat → Nat → Nat
  | 0, acc => acc
  | k + 1, acc => powP x e k (let q := acc * acc % sm2P; if bit e k then q * x % sm2P else q)

/-- The inverse modulo the prime. -/
def invP (x : Nat) : Nat := powP x (sm2P - 2) 256 1

/-- The sum of two points of the curve; `none` is the point at infinity. -/
def ecAdd (a b : Option (Nat × Nat)) : Option (Nat × Nat) :=
  match a, b with
  | none, q => q
  | p, none => p
  | some (x1, y1), some (x2, y2) =>
    if x1 = x2 ∧ (y1 + y2) % sm2P = 0 then none
    else
      let l := if x1 = x2 then (3 * x1 * x1 + sm2A) * invP (2 * y1 % sm2P) % sm2P
        else (y2 + sm2P - y1) * invP ((x2 + sm2P - x1) % sm2P) % sm2P
      let x3 := (l * l + 2 * sm2P - x1 - x2) % sm2P
      some (x3, (l * (x1 + sm2P - x3) + sm2P - y1) % sm2P)

/-- A multiple of a point, over the bits of the factor from bit `k - 1` down. -/
def ecMul (q : Option (Nat × Nat)) (e : Nat) : Nat → Option (Nat × Nat) → Option (Nat × Nat)
  | 0, acc => acc
  | k + 1, acc => ecMul q e k (let d := ecAdd acc acc; if bit e k then ecAdd d q else d)

/-- Z of the signer: its identity "1234567812345678", the curve, the base point and its key, x and y in two numbers. -/
def sm2Z (kx ky : Nat) : List Nat :=
  let id := [0x31, 0x32, 0x33, 0x34, 0x35, 0x36, 0x37, 0x38]
  sm3 ([0x00, 0x80] ++ id ++ id ++ [sm2A, sm2B, sm2G.1, sm2G.2, kx, ky].flatMap fun v => bytesBE v 32)

/-- The signature of 64 bytes, r then s, verifies over a message with a key of 64 bytes, x then y (GB/T 32918.2). -/
def sm2Verify (key msg sig : List Nat) : Bool :=
  let kx := ofBytesBE (key.take 32)
  let ky := ofBytesBE (key.drop 32)
  let r := ofBytesBE (sig.take 32)
  let v := ofBytesBE (sig.drop 32)
  let t := (r + v) % sm2N
  if r = 0 || v = 0 || decide (sm2N ≤ r) || decide (sm2N ≤ v) || t = 0 then false
  else
    let e := ofBytesBE (sm3 (sm2Z kx ky ++ msg))
    match ecAdd (ecMul (some sm2G) v 256 none) (ecMul (some (kx, ky)) t 256 none) with
    | some (x, _) => (e + x) % sm2N = r
    | none => false

end Sys2Proof.Machine
end

