-- ==== Sys2Proof/Machine/Strings.lean ====
section
/-!
DEFINITION. Machine/Strings.lean: the VC's side of a string (R171 to R199): its states, calibration and image load, cell
messages, the sweeps it launches, the copies it takes back, breaks, holds, and the facet commit of its slots.
-/
namespace Sys2Proof.Machine
open Reg

/-! ### Timing of a string (R24, R25, R30) -/

/-- Block time, transmit pipeline and forwarding term at a rate, in 50 ps units (R24, R25). -/
def blockTime (rate : Nat) : Nat := if rate = 2 then 128 else 256
def txPipe (rate : Nat) : Nat := if rate = 2 then 240 else 480
def fwdTerm (rate : Nat) : Nat := if rate = 2 then 360 else 560

/-- T_P passes R24 for a string of `cells` cells at a rate. -/
def tpPasses (tp cells rate : Nat) : Bool :=
  decide ((2 * cells + 26) * blockTime rate ≤ tp * 20) && decide ((if cells ≤ 60 then 1000 else 1500) ≤ tp)

/-- Cascade hops between this VC and the home VC of a string's arm (R30). -/
def Vc.hops (s : Vc) (n : Nat) : Nat :=
  if s.on PRISM.STRMAP.EN n then
    let h := s.rd PRISM.STRMAP.HOME_VC n
    if h < s.vcId then s.vcId - h else h - s.vcId
  else 0

/-- The launch term of R25 or R30, in ns. -/
def Vc.launchNs (s : Vc) (n : Nat) : Nat := 320 + 300 * s.hops n

/-- t_X (Y false) or t_Y (Y true) of R25, in 50 ps units, from the link delays. -/
def Vc.arrival (s : Vc) (n : Nat) (y : Bool) : Nat :=
  let cells := s.rd STRING.CFG.CELLS n
  let r := s.strRate n
  let links := (List.range cells).map fun i => s.rd STRING.HOPDLY.DELAY n (if y then cells - i else i)
  txPipe r + 5 * links.foldl (· + ·) 0 + (cells - 1) * fwdTerm r + (2 * cells + 4) * blockTime r

/-- L_C of R25. -/
def Vc.calcLc (s : Vc) (n : Nat) : Nat :=
  ceilDiv ((s.launchNs n + 150) * 20 + max (s.arrival n false) (s.arrival n true)) (s.rd GLOBAL.TICKCFG.TP_NS * 20)

/-- The L_C of a string's headers (R26, R174): its arm's while the arm is formed, wherever it is homed, else its own: R99's L_a of
an arm that is not formed is nowhere given (DESIGN CHOICE, log 111). -/
def Vc.headerLc (s : Vc) (n : Nat) : Nat :=
  if (s.strArm n).state ≠ 0 then (s.strArm n).lc else s.rd STRING.STATUS.LC n

/-- SLACK_s and GAP_s of R99, in 50 ps units. -/
def Vc.slack (s : Vc) (n : Nat) : Int :=
  ((s.headerLc n * s.rd GLOBAL.TICKCFG.TP_NS * 20 : Nat) : Int) -
    ((s.launchNs n + 150) * 20 + max (s.arrival n false) (s.arrival n true) : Nat)
def Vc.gap (s : Vc) (n : Nat) : Int :=
  ((s.rd GLOBAL.TICKCFG.TP_NS * 20 : Nat) : Int) - ((2 * s.rd STRING.CFG.CELLS n + 26) * blockTime (s.strRate n) : Nat)

/-- LIMIT_NS of R99 over the running strings. -/
def Vc.loadLimit (s : Vc) : Nat :=
  let vs := ((List.range 48).filter fun n => s.strRuns n).map fun n => min (s.slack n) (s.gap n)
  match vs with
  | [] => 128
  | v :: r => (128 + (r.foldl min v) / 20).toNat

/-! ### Lane ends of a string -/

/-- The X (0) or Y (1) lane end of a string carries traffic (R184). -/
def Vc.endInUse (s : Vc) (n d : Nat) : Bool := (s.lnk (2 * n + d)).inUse

/-! ### Cell messages (R191 to R194) -/

/-- M0 of R191. -/
def msgHead (src tag addr dest len op : Nat) : Nat :=
  0x3A + 0xC5 * 256 + op % 16 * 65536 + len % 16 * 1048576 + dest % 128 * 16777216 + addr % 65536 * 4294967296 +
    tag % 256 * 281474976710656 + src % 128 * 72057594037927936

/-- CHECK of R191: CRC-32C over M0 [63:16] and the payload, in transmission order. -/
def msgCheck (m0 : Nat) (payload : List Nat) : Nat :=
  crc32c (((bytesOf m0 8).drop 2) ++ payload.flatMap fun b => bytesOf b 8)

end Sys2Proof.Machine
namespace Sys2Proof

/-- The payload blocks that a message carries: LEN, but a READ none (R191). -/
def MsgFrame.carries (m : MsgFrame) : Nat :=
  let m0 := m.m0.pay.toNat
  if Machine.bits m0 19 16 = 0 then 0 else Machine.bits m0 23 20

/-- A received message is valid: its block type, LEN and CHECK are right (R172, R191). -/
def MsgFrame.ok (m : MsgFrame) : Bool :=
  let m0 := m.m0.pay.toNat
  m.m0.ctl && m0 % 65536 = 0xC53A && decide (Machine.bits m0 23 20 ≤ 8) && m.payload.length = m.carries &&
    m.check.toNat = Machine.msgCheck m0 (m.payload.map BitVec.toNat)

/-- Fields of a message. -/
def MsgFrame.op (m : MsgFrame) : Nat := Machine.bits m.m0.pay.toNat 19 16
def MsgFrame.len (m : MsgFrame) : Nat := Machine.bits m.m0.pay.toNat 23 20
def MsgFrame.dest (m : MsgFrame) : Nat := Machine.bits m.m0.pay.toNat 30 24
def MsgFrame.addr (m : MsgFrame) : Nat := Machine.bits m.m0.pay.toNat 47 32
def MsgFrame.tag (m : MsgFrame) : Nat := Machine.bits m.m0.pay.toNat 55 48
def MsgFrame.src (m : MsgFrame) : Nat := Machine.bits m.m0.pay.toNat 62 56

end Sys2Proof
namespace Sys2Proof.Machine
open Reg

/-- The next TAG of a string (R192). -/
def Vc.nextTag (s : Vc) (n : Nat) : Vc × Nat :=
  let x := s.str n
  (s.setStr n { x with tag := (x.tag + 1) % 256 }, x.tag)

/-- A message leaves on both lane ends with the next TAG; the TAG is shown. Nothing of it leaves on a lost link (R184). -/
def Vc.sendMsg (s : Vc) (n op dest addr len : Nat) (payload : List Nat) : Vc × Nat :=
  let (s, tag) := s.nextTag n
  let s := s.wr STRING.MSGSTAT.TAG tag n
  let m0 := msgHead 0x7F tag addr dest len op
  (if s.strEnds n = 0 then s else s.emit (.cellMsg n (s.strEnds n) m0 payload (msgCheck m0 payload)), tag)

/-- Queues a message of the VC's own. -/
def Vc.queueMsg (s : Vc) (n : Nat) (m : Msg) : Vc := s.setStr n { s.str n with msgs := (s.str n).msgs ++ [m] }

/-- A READ and a WRITE of one payload block. -/
def readMsg (p : MsgFor) (dest addr : Nat) : Msg := ⟨p, 0, dest, addr, 1, [], 0⟩
def writeMsg (p : MsgFor) (dest addr v : Nat) : Msg := ⟨p, 1, dest, addr, 1, [v], 0⟩

/-- The cell image that the running slot carries: its bytes and its version (R225, R357). -/
def Vc.cellImage (s : Vc) : List Nat × Nat :=
  let base := flashSlot (s.rd BOOT.STATUS.RUN_SLOT)
  let e := Memory.words s.flash (base + 96) 3
  (Memory.bytes s.flash (base + e.getD 0 0) (min (e.getD 1 0) 49152), e.getD 2 0)

/-- Image bytes as payload blocks, padded with 0. -/
def packBlocks (bs : List Nat) : List Nat := (List.range (ceilDiv bs.length 8)).map fun i => ofBytes ((bs.drop (8 * i)).take 8)

/-- The FW_BLOCK message of one block number, or the final one (R225). -/
def Vc.imageMsg (s : Vc) (b : Nat) : Msg :=
  let (img, ver) := s.cellImage
  if b = 0xFFFF then
    let d := sm3 img
    ⟨.image b, 7, 0x7F, 0xFFFF, 5, ((List.range 4).map fun i => ofBytes ((d.drop (8 * i)).take 8)) ++ [img.length + ver * 4294967296], 0⟩
  else
    let p := packBlocks ((img.drop (64 * b)).take 64)
    ⟨.image b, 7, 0x7F, b, p.length, p, 0⟩

/-- A LOAD that waits for WRITEs begins once none of those queued before it is queued or in flight (R195). -/
def Vc.loadBegin (s : Vc) (n : Nat) : Vc :=
  let x := s.str n
  match x.load with
  | some ⟨true, k⟩ =>
    let writes := (x.msgs.take k).any (fun m => m.op = 1) || (match x.msgOut with | some o => o.msg.op = 1 | none => false)
    if writes then s
    else (s.setStr n { x with load := some ⟨false, 0⟩ }).wr STRING.STATUS.LGEN (s.rd STRING.STATUS.LGEN n + 1) n
  | _ => s

/-- The result of the message in flight (R192): 1 OK, 2 NACK, 3 TIMEOUT, with the reason and the response's payload. -/
def Vc.msgResult (s : Vc) (n res reason : Nat) (payload : List Nat) : Vc :=
  let x := s.str n
  match x.msgOut with
  | none => s
  | some o =>
    let s := s.setStr n { x with msgOut := none }
    let s := s.wr STRING.MSGSTAT.RESULT res n
    let s := s.wr STRING.MSGSTAT.REASON (reason % 16) n
    let s := if res = 2 then s.set1 STRING.ERRSTAT.MSG_NACK n else if res = 3 then s.set1 STRING.ERRSTAT.MSG_TIMEOUT n else s
    let s :=
      match o.msg.purpose with
      | .descriptor id =>
        if res = 1 then
          match s.desc? id with
          | some d =>
            if o.msg.op = 0 then s.writeBuf d (bufAddr (d.word 6) (d.word 7)) (payload.flatMap fun b => bytesOf b 8) 0
            else s.finish id 0
          | none => s
        else if res = 2 then s.finish id 0xC reason else s.finish id 0xB
      | .calRead link =>
        let v := (payload.getD 0 0) % 65536
        if res = 1 ∧ v ≠ 0 then s.wr STRING.HOPDLY.DELAY v n link
        else s.setStr n { s.str n with calFail := true }
      | _ => s
    s.loadBegin n

/-- A message of so many blocks ends at least 2 block times before the next launch of a sweep of the string (R193). -/
def Vc.msgFits (s : Vc) (n blocks : Nat) : Bool :=
  match (s.str n).launched.head? with
  | some (_, t) =>
    let next := if s.now < t then t else t + s.tq
    !s.strRuns n || decide (next ≤ s.now) || decide (5 * s.now + (blocks + 2) * blockTime (s.strRate n) ≤ 5 * next)
  | none => true

/-- A message is sent from a VC lane end when one is due and fits (R193, R194): an image message in LOAD, else the next in the
queue; a broadcast has no response. -/
def Vc.cellMsgSend (s : Vc) (n : Nat) : Vc :=
  let x := s.str n
  let st := s.rd STRING.STATUS.STATE n
  let next := match x.img with
    | b :: _ => some (s.imageMsg b)
    | [] => x.msgs.head?
  let fits := match next with | some m => s.msgFits n (m.payload.length + 2) | none => true
  if x.msgOut.isSome ∨ st < 2 ∨ 6 < st ∨ !fits then s
  else
    match x.img with
    | b :: bs =>
      let m := s.imageMsg b
      let s := s.setStr n { x with img := bs, imgDone := if b = 0xFFFF then some s.now else x.imgDone }
      (s.sendMsg n m.op m.dest m.addr m.len m.payload).1
    | [] =>
      match x.msgs with
      | [] => s
      | m :: ms =>
        let s := s.setStr n { x with msgs := ms, load := x.load.map fun l => if l.waiting then { l with sweeps := l.sweeps - 1 } else l }
        let (s, tag) := s.sendMsg n m.op m.dest m.addr m.len m.payload
        let s := s.setStr n { s.str n with msgOut := some ⟨m, tag, s.now⟩ }
        if m.dest = 0x7F then
          match m.purpose with
          | .descriptor id => ((s.setStr n { s.str n with msgOut := none }).finish id 0).loadBegin n
          | _ => (s.setStr n { s.str n with msgOut := none }).loadBegin n
        else (s.modDesc (match m.purpose with | .descriptor id => id | _ => s.host.nextId) fun d => { d with waiting := false }).pump

/-- A response reaches a VC lane end (R192): the first valid one of the TAG in flight. -/
def Vc.msgResponse (s : Vc) (n d : Nat) (m : MsgFrame) : Vc :=
  match (s.str n).msgOut with
  | some o =>
    if !m.ok || !s.endInUse n d || m.tag ≠ o.tag || m.dest ≠ 0x7F || m.src ≠ o.msg.dest then s
    else if m.op = 2 ∧ o.msg.op = 0 ∧ m.len = o.msg.len then s.msgResult n 1 0 (m.payload.map BitVec.toNat)
    else if m.op = 3 ∧ o.msg.op = 1 then s.msgResult n 1 0 []
    else if m.op = 4 ∧ m.len = 1 then s.msgResult n 2 ((m.payload.getD 0 0).toNat % 256) []
    else s
  | none => s

/-- No response within the larger of 16 × T_P and 40 µs (R192). -/
def Vc.msgTimeout (s : Vc) (n : Nat) : Vc :=
  match (s.str n).msgOut with
  | some o => if o.sent + max (16 * s.tq) 160000 ≤ s.now then s.msgResult n 3 0 [] else s
  | none => s

/-! ### String states (R196) -/

/-- STRING.STATUS and ERRSTAT of a string as words. -/
def Vc.strWord (s : Vc) (n off : Nat) : Nat := s.word (0x080000 + 0x400 * n + off)

/-- Messages of descriptors not yet sent are withdrawn when the string leaves its states from ASSIGN to RUN (R307); the
one in flight keeps its response time. -/
def Vc.cancelMsgs (s : Vc) (n : Nat) : Vc :=
  let ms := (s.str n).msgs
  let s := s.setStr n { s.str n with msgs := [] }
  ms.foldl (fun s m => match m.purpose with | .descriptor id => s.finish id 6 | _ => s) s

/-- A string enters a state; its lane ends follow their owner (R217). -/
def Vc.strEnter (s : Vc) (n st : Nat) : Vc :=
  let was := s.rd STRING.STATUS.STATE n
  let s := s.wr STRING.STATUS.STATE st n
  let s := s.setStr n { s.str n with since := s.now, clean := 0, syncTicks := 0, deadTicks := 0, portLoss := none }
  let s := if 2 ≤ was ∧ was ≤ 6 ∧ (st < 2 ∨ 6 < st) then
      let s := s.cancelMsgs n
      let x := s.str n
      (s.setStr n { x with load := none, stopLeft := none, img := [], imgDone := none, rx := [], copies := [], broken := [], remoteCmd := [] }).wr
        STRING.STATUS.LOAD_BUSY 0 n
    else s
  s.refreshPort n

/-- The arm-level record of a failed start when the string is mapped to an arm (R196). -/
def Vc.strArmRec (s : Vc) (n code data : Nat) (cls : Nat) : List Rec :=
  if s.on PRISM.STRMAP.EN n then [opRec code 2 cls (s.rd PRISM.STRMAP.ARM n) data] else []

/-- A start fails with a STARTCODE (R196): START_FAIL, ESCALATED at string level, CONTAINED at the arm's. -/
def Vc.strFail (s : Vc) (n code : Nat) : Vc :=
  let s := s.wr STRING.STATUS.STARTCODE code n
  let s := s.strEnter n 7
  let s := (s.set1 STRING.ERRSTAT.START_FAIL n).irq 6
  let d := s.strWord n 8
  s.event (opRec 0x0603 1 3 n d :: s.strArmRec n 0x0603 d 2)

/-- The address of a register of STRING[n]. -/
def strAddr (n off : Nat) : Nat := 0x080000 + 0x400 * n + off

/-- The hold register value of a cell from the held links of its string: bit 0 its up lane, bit 1 its down lane (R235). A cell holds
its end of inner links alone: links 0 and N are held at the VC's ends (R216). -/
def holdMask (cells : Nat) (held : List Nat) (p : Nat) : Nat :=
  let inner (i : Nat) : Bool := held.contains i && i ≠ 0 && i ≠ cells
  b2n (inner p) + 2 * b2n (inner (p + 1))

/-- The WRITE of a cell's lane hold; its block covers LSTAT and LCTL, and LSTAT takes a 0 (log 34). -/
def holdMsg (cells : Nat) (held : List Nat) (p : Nat) : Msg := writeMsg .hold p 0x104 (holdMask cells held p * 4294967296)

/-- The release WRITEs of the cells next to the held inner links of a port (R216). -/
def releaseMsgs (cells : Nat) (held : List Nat) : List Msg :=
  (((held.filter fun i => i ≠ 0 && i ≠ cells).flatMap fun i => [i - 1, i]).eraseDups).map (holdMsg cells [])

/-- A message is one of a hold or its release. -/
def Msg.isHold (m : Msg) : Bool := match m.purpose with | .hold => true | _ => false

/-- What a reset of the VC leaves of its strings (R216): the holds end there, and the WRITEs that tell the cells wait until the string
can send them again (DESIGN CHOICE, log 107). -/
def Vc.keepReleases (s : Vc) : Tab Str :=
  (List.range 48).foldl (fun t n =>
    let x := s.str n
    let ms := (x.msgs.filter Msg.isHold) ++ releaseMsgs (s.rd STRING.CFG.CELLS n) x.held
    if ms = [] then t else Tab.set (fun _ => {}) t n { msgs := ms }) []

/-- Every hold of a port ends (R216): the cells of held inner links are told, the onset counts of the links held restart at 0, and the
10 s for which a link has shown its break start again: a break that goes on is no new onset. A lane end that was held comes back into use as a lost link does, 1 ms after it is UP (R184). -/
def Vc.endHolds (s : Vc) (n : Nat) : Vc :=
  let x := s.str n
  let s := s.setStr n { x with
    held := [], onsets := x.onsets.filter fun o => !x.held.contains o.1
    broken := x.broken.map fun b => if x.held.contains b.1 then (b.1, s.now) else b }
  let s := [2 * n, 2 * n + 1].foldl (fun s l =>
    if s.on LANE.STATUS.HELD l then (s.setLane l { s.lane l with lost := true }).wr LANE.STATUS.HELD 0 l else s) s
  (releaseMsgs (s.rd STRING.CFG.CELLS n) x.held).foldl (fun s m => s.queueMsg n m) s

/-- What START clears of a string: its start code and results, its counters, its breaks, and the holds of the port (R196, R198, R216). -/
def Vc.strClear (s : Vc) (n : Nat) : Vc :=
  let s := s.wr STRING.STATUS.STARTCODE 0 n
  let s := s.wr STRING.STATUS.LC 0 n
  let s := s.wr STRING.STATUS.RING 0 n
  let s := [STRING.COPYERR_CNT.COUNT, STRING.NOREP_CNT.COUNT, STRING.REFL_CNT.COUNT, STRING.HDRERR_CNT.COUNT].foldl
    (fun s f => s.wr f 0 n) s
  let s := [STRING.BREAK.VALID_X, STRING.BREAK.VALID_Y, STRING.BREAK.RPOS_X, STRING.BREAK.RPOS_Y, STRING.BREAK.NCUT].foldl
    (fun s f => s.wr f 0 n) s
  let s := forN 97 s fun s i => s.wr STRING.HOPDLY.DELAY 0 n i
  let s := s.endHolds n
  s.setStr n { s.str n with calVals := [], calFail := false, onsets := [], broken := [], noRejoin := false }

/-- A write of START is a violation with EN 0 or CELLS 0 (R196). -/
def Vc.startBad (s : Vc) (n : Nat) : Bool := !s.on STRING.CFG.EN n || s.rd STRING.CFG.CELLS n = 0

/-- CTRL.START (R196, R199): the port reset, the check of R24, and the bring-up of both lane ends. -/
def Vc.strStart (s : Vc) (n : Nat) : Vc :=
  let cells := s.rd STRING.CFG.CELLS n
  if s.rd STRING.STATUS.STATE n ≠ 0 then s
  else
    let s := s.strClear n
    if tpPasses (s.rd GLOBAL.TICKCFG.TP_NS) cells (s.strRate n) then s.strEnter n 1
    else (s.set1 GLOBAL.STATUS.TP_SHORT).strFail n 8

/-- ASSIGN goes out on X with the next TAG, which is shown (R192, R196, R197, R199); on a lost link nothing leaves (R184). -/
def Vc.sendAssign (s : Vc) (n : Nat) : Vc :=
  let (s, tag) := s.nextTag n
  let s := s.wr STRING.MSGSTAT.TAG tag n
  let m0 := msgHead 0x7F tag 0 0x7F 0 5
  let s := s.setStr n { s.str n with assignAt := s.now }
  if s.laneUse (2 * n) then s.emit (.assign n m0 (msgCheck m0 [])) else s

/-- Both lane ends of a string in TRAIN are UP and in use: ASSIGN. -/
def Vc.trainDone (s : Vc) (n : Nat) : Vc :=
  if s.rd STRING.STATUS.STATE n = 1 && s.endInUse n 0 && s.endInUse n 1 then (s.strEnter n 2).sendAssign n else s

/-- 100 ms in TRAIN (R196). -/
def Vc.trainTimeout (s : Vc) (n : Nat) : Vc :=
  if s.rd STRING.STATUS.STATE n = 1 ∧ (s.str n).since + 400000000 ≤ s.now then s.strFail n 1 else s

/-- Every 1 ms in ASSIGN, ASSIGN goes out again. -/
def Vc.assignRepeat (s : Vc) (n : Nat) : Vc :=
  if s.rd STRING.STATUS.STATE n = 2 ∧ (s.str n).assignAt + 4000000 ≤ s.now then s.sendAssign n else s

/-- 100 ms in ASSIGN with none returned. -/
def Vc.assignTimeout (s : Vc) (n : Nat) : Vc :=
  if s.rd STRING.STATUS.STATE n = 2 ∧ (s.str n).since + 400000000 ≤ s.now then s.strFail n 2 else s

/-- ASSIGN returns at the Y end (R196, R198): CAL_START is broadcast, the VC probes link 0 unless it is lost (R184), and the READs of
the cells' delays are queued, behind the messages that wait. -/
def Vc.assignReturn (s : Vc) (n : Nat) (m : MsgFrame) : Vc :=
  if s.rd STRING.STATUS.STATE n ≠ 2 ∨ !m.ok ∨ m.op ≠ 5 ∨ !s.endInUse n 1 then s
  else if m.addr ≠ s.rd STRING.CFG.CELLS n then s.strFail n 3
  else
    let s := s.strEnter n 3
    let s := (s.sendMsg n 6 0x7F 0 0 []).1
    let s := s.setStr n { s.str n with
      calVals := [], calFail := false
      msgs := (s.str n).msgs ++ (List.range m.addr).map fun i => readMsg (.calRead (i + 1)) i 0x600 }
    if s.laneUse (2 * n) then forN 16 s fun s k => s.emitLane (2 * n) fun e => .probe e (probeBlock k) else s

/-- The mean of 16 values (RTT − TURN)/2 in ps, to the nearest 250 ps, ties to even (R198). -/
def linkDelay (vals : List Int) : Nat :=
  let t := vals.foldl (· + ·) 0
  let q := t / 8000
  let r := t % 8000
  (if r < 4000 then q else if 4000 < r then q + 1 else if q % 2 = 0 then q else q + 1).toNat

/-- The values spread by more than 2 ns. -/
def spreads (vals : List Int) : Bool := vals.any fun a => vals.any fun b => decide (4000 < a - b)

/-- An ECHO at the X end: one sample of link 0 (R198). -/
def Vc.echoRx (s : Vc) (n num turn rttPs : Nat) : Vc :=
  let x := s.str n
  if s.rd STRING.STATUS.STATE n ≠ 3 ∨ x.calVals.any (fun v => v.1 = num) ∨ 15 < num then s
  else
    let vals := x.calVals ++ [(num, (rttPs : Int) - 250 * turn)]
    let s := s.setStr n { x with calVals := vals }
    if vals.length = 16 then
      if spreads (vals.map (·.2)) then s.setStr n { s.str n with calFail := true }
      else s.wr STRING.HOPDLY.DELAY (linkDelay (vals.map (·.2))) n 0
    else s

/-- Fewer than 16 ECHOs within 100 µs (R198). -/
def Vc.echoTimeout (s : Vc) (n : Nat) : Vc :=
  let x := s.str n
  if s.rd STRING.STATUS.STATE n = 3 ∧ x.calVals.length < 16 ∧ x.since + 400000 ≤ s.now then s.setStr n { x with calFail := true }
  else s

/-- All link delays are measured and read, or a measurement failed (R196): t_X, t_Y and L_C, then the image load. -/
def Vc.calibrationDone (s : Vc) (n : Nat) : Vc :=
  let x := s.str n
  if s.rd STRING.STATUS.STATE n ≠ 3 then s
  else if x.calFail then s.strFail n 4
  else if x.calVals.length < 16 ∨ x.msgOut.isSome ∨ x.msgs.any (fun m => match m.purpose with | .calRead _ => true | _ => false) then s
  else
    let s := s.wr STRING.CALRES.TX_NS (ceilDiv (s.arrival n false) 20) n
    let s := s.wr STRING.CALRES.TY_NS (ceilDiv (s.arrival n true) 20) n
    let lc := s.calcLc n
    if 4 < lc then s.strFail n 5
    else
      let s := (s.wr STRING.STATUS.LC lc n).strEnter n 4
      let nb := ceilDiv s.cellImage.1.length 64
      let wd := s.rd STRING.CFG.WDOG_TICKS n + 0x80002710 * 4294967296
      s.setStr n { s.str n with
        img := List.range nb ++ [0xFFFF], imgRound := 0, imgDone := none
        msgs := (s.str n).msgs ++ [writeMsg .wdog 0x7F 0x700 wd] }

/-- A number of ps as 250 ps units, nearest, ties to even. -/
def rn250 (ps : Int) : Int :=
  let q := ps / 250
  let r := ps % 250
  if r < 125 then q else if 125 < r then q + 1 else if q % 2 = 0 then q else q + 1

/-- F of R279 in ps. -/
def fwdPs (rate : Nat) : Nat := if rate = 2 then 11600 else 15200

/-- PATHDLY_X and PATHDLY_Y of a cell (R280), from S. -/
def Vc.pathDelays (s : Vc) (n p : Nat) (sum : Int) : Int × Int :=
  let d : Nat := (List.range (p + 1)).foldl (fun a i => a + s.rd STRING.HOPDLY.DELAY n i) 0
  let x := rn250 (250 * d + p * fwdPs (s.strRate n))
  (x, sum - x)

/-- The result that a message of the VC's own shows (R192): OK with a response, else TIMEOUT. -/
def Vc.ownResult (s : Vc) (n : Nat) (answered : Bool) : Vc :=
  if answered then (s.wr STRING.MSGSTAT.RESULT 1 n).wr STRING.MSGSTAT.REASON 0 n
  else ((s.wr STRING.MSGSTAT.RESULT 3 n).wr STRING.MSGSTAT.REASON 0 n).set1 STRING.ERRSTAT.MSG_TIMEOUT n

/-- The mean of the R_X measured, to the nearest ps (R280). -/
def meanPs (l : List Nat) : Nat := (l.foldl (· + ·) 0 + l.length / 2) / l.length

/-- The WRITEs of a cell's path delays (R280), at most three, until it acknowledges one at attempt `ack`. -/
def Vc.writePath (s : Vc) (n p ack : Nat) (d : Int × Int) : Vc :=
  let heard := decide (1 ≤ ack) && decide (ack ≤ 3)
  forN (if heard then ack else 3) s fun s k =>
    ((s.sendMsg n 1 p 0x604 1 [unsigned 24 d.1 + unsigned 24 d.2 * 4294967296]).1).ownResult n (heard && k + 1 = ack)

/-- 8 ms after the final message (R227): the replies of each cell to the READ of BOOT.STATUS and IMGVER, and at which attempt it
acknowledged its path delays (R280); `rx` holds R_X in ps of each message measured, and the load does not end before there are 64
of them. Missing blocks go out again, at most three rounds; else SYNC, or STARTCODE IMAGE. -/
def Vc.imageLoadDone (s : Vc) (n : Nat) (rx : List Nat) (replies : List (Option (Nat × Nat))) (acks : List Nat) : Vc :=
  let x := s.str n
  let cells := s.rd STRING.CFG.CELLS n
  match x.imgDone with
  | none => s
  | some t =>
    if s.rd STRING.STATUS.STATE n ≠ 4 ∨ s.now < t + 32000000 ∨ rx.length < 64 then s
    else
      let s := forN cells s fun s p => ((s.sendMsg n 0 p 0x800 1 []).1).ownResult n (replies.getD p none).isSome
      let ver := s.cellImage.2
      let rep := (List.range cells).map fun p => replies.getD p none
      let good := rep.all fun r => match r with | some (st, v) => bits st 31 28 = 3 && v = ver | none => false
      let missing := (rep.filterMap fun r =>
        match r with
        | some (st, _) => if bits st 31 28 = 1 ∧ bits st 15 0 ≠ 0xFFFF then some (bits st 15 0) else none
        | none => none).eraseDups
      if good then
        let sum := rn250 ((meanPs rx : Int) - fwdPs (s.strRate n))
        let s := forN cells s fun s p => s.writePath n p (acks.getD p 0) (s.pathDelays n p sum)
        if (List.range cells).all fun p => decide (1 ≤ acks.getD p 0) && decide (acks.getD p 0 ≤ 3) then
          let s := s.strEnter n 5
          let s := forN cells s fun s p => s.setFacet (n * 96 + p) { s.facet (n * 96 + p) with seqDone := none, accepted := false }
          s.setStr n { s.str n with nextSeq := 0, rx := [], copies := [], launched := [] }
        else s.strFail n 6
      else if missing ≠ [] ∧ x.imgRound < 3 then
        s.setStr n { s.str n with img := missing ++ [0xFFFF], imgRound := x.imgRound + 1, imgDone := none }
      else s.strFail n 6

/-- Whether a string that has started may rejoin its running arm (R26, R99). -/
def Vc.mayRejoin (s : Vc) (n : Nat) : Bool :=
  if (s.strArm n).state ≠ 0 then
    let wc : Int := ((s.rd LENS.LOADCHK.WC_NS : Int) - 128) * 20
    decide (s.rd STRING.STATUS.LC n ≤ (s.strArm n).lc) && decide (wc ≤ s.slack n) && decide (wc ≤ s.gap n)
  else true

/-- 16 consecutive clean ticks: RUN (R196). A string that could not rejoin its arm has no facet in service (R26, R99, R110). -/
def Vc.syncComplete (s : Vc) (n : Nat) : Vc :=
  if s.rd STRING.STATUS.STATE n = 5 ∧ 16 ≤ (s.str n).clean then
    let s := s.strEnter n 6
    if s.mayRejoin n then s.setStr n { s.str n with noRejoin := false }
    else (s.setStr n { s.str n with noRejoin := true }).stringLeaves n 6
  else s

/-- 256 ticks in SYNC without them: the string stops, and its facets leave service (R110, R196). -/
def Vc.syncTimeout (s : Vc) (n : Nat) : Vc :=
  if s.rd STRING.STATUS.STATE n = 5 ∧ 256 ≤ (s.str n).syncTicks then (s.stringLeaves n 6).strFail n 7 else s

/-- The structural records of a lost string port from its cluster up (R44): the cluster passes it on, and the port region contains
it. -/
def portRecs (l data : Nat) : List Rec := [stRec 0x0702 1 3 l data 3 0, stRec 0x0702 2 2 l data 3 0]

/-- A string in RUN is down (R196): both lane ends out of service, or no report for WDOG_TICKS ticks. A loss of its port that led to
it is recorded under its event number (R46). -/
def Vc.strDown (s : Vc) (n : Nat) : Vc :=
  let dead := decide (s.rd STRING.CFG.WDOG_TICKS n ≤ (s.str n).deadTicks) || (!s.endInUse n 0 && !s.endInUse n 1)
  if s.rd STRING.STATUS.STATE n = 6 ∧ dead then
    let port := match (s.str n).portLoss with | some l => portRecs l (s.lossRec l).data | none => []
    let s := s.strEnter n 7
    let s := s.stringLeaves n 6
    let s := (s.set1 STRING.ERRSTAT.STRING_DOWN n).irq 6
    s.event (port ++ [opRec 0x0602 1 3 n (s.strWord n 0xC)])
  else s

/-- CTRL.STOP is refused: the string's arm is FORMED and the valve deblocked (R196). -/
def Vc.stopBad (s : Vc) (n : Nat) : Bool :=
  (s.strArm n).state = 1 && !s.blocked

/-- CTRL.STOP (R196). -/
def Vc.strStop (s : Vc) (n : Nat) : Vc :=
  let st := s.rd STRING.STATUS.STATE n
  if st = 5 ∨ st = 6 then
    if (s.str n).stopLeft.isSome then s
    else (s.setStr n { s.str n with stopLeft := some (s.headerLc n + 1) }).stringLeaves n 6
  else if st = 0 then s
  else s.strEnter n 0

/-- The BLOCK sweeps after STOP have been sent: the string has stopped, and a facet that entered service meanwhile leaves it (R110). -/
def Vc.stopEnd (s : Vc) (n : Nat) : Vc :=
  if s.strRuns n ∧ (s.str n).stopLeft = some 0 then (s.stringLeaves n 6).strEnter n 0 else s

/-- CTRL.LOAD while a load runs is a violation (R199). -/
def Vc.loadBad (s : Vc) (n : Nat) : Bool := s.strRuns n && s.on STRING.STATUS.LOAD_BUSY n

/-- CTRL.LOAD (R195, R199). -/
def Vc.strLoad (s : Vc) (n : Nat) : Vc :=
  if !s.strRuns n then s
  else ((s.set1 STRING.STATUS.LOAD_BUSY n).setStr n { s.str n with
    load := some ⟨true, (s.str n).msgs.length⟩ }).loadBegin n

/-- A facet confirms the load: it has returned a report, and its LPAR equals LGEN [0] (R195). -/
def Vc.confirms (s : Vc) (n p : Nat) : Bool :=
  (s.facet (n * 96 + p)).seqDone.isSome && b2n (s.facet (n * 96 + p)).lpar = s.rd STRING.STATUS.LGEN n % 2

/-- Every cell that must confirm has, or 8 sweeps have passed: the load ends (R195). -/
def Vc.loadEnd (s : Vc) (n : Nat) : Vc :=
  let x := s.str n
  match x.load with
  | some ⟨false, sw⟩ =>
    let cells := List.range (s.rd STRING.CFG.CELLS n)
    let late := cells.filter fun p => (s.rd STRING.STATUS.STATE n = 5 || (s.facet (n * 96 + p)).inSvc) && !s.confirms n p
    if late = [] ∨ 8 ≤ sw then
      let s := (s.setStr n { x with load := none }).wr STRING.STATUS.LOAD_BUSY 0 n
      if late = [] then s
      else
        let s := (s.set1 STRING.ERRSTAT.LOAD_FAIL n).irq 6
        late.foldl (fun s p => s.leaveService (n * 96 + p) 5) s
    else s
  | _ => s

/-- A write of STRING.CTRL (R199). -/
def Vc.strCtrl (s : Vc) (n w : Nat) : Vc :=
  if (bit w 0 && bit w 1) || (bit w 0 && s.startBad n) || (bit w 1 && s.stopBad n) || (bit w 2 && s.loadBad n) then
    s.badWrite 3 (strAddr n 4)
  else
    let s := if bit w 0 then s.strStart n else s
    let s := if bit w 1 then s.strStop n else s
    if bit w 2 then s.strLoad n else s

/-! ### Returning sweeps (R183) -/

/-- The CHECK of a sweep header or trailer (R174, R176). -/
def headerCheck (b0 b1 b2 b3 : Nat) : Nat :=
  check16 (bitsUp b0 8 56 ++ bitsUp b1 0 64 ++ bitsUp b2 0 64 ++ bitsUp b3 0 48)
def trailerCheck (t0 t1 : Nat) : Nat := check16 (bitsUp t0 8 56 ++ bitsUp t1 0 48)

/-- A header's type and check are right (R174). -/
def headerOk (h : List Block) : Bool :=
  match h with
  | [b0, b1, b2, b3] =>
    b0.ctl && !b1.ctl && !b2.ctl && !b3.ctl && b0.pay.toNat % 65536 = 0x6996 &&
      b3.pay.toNat / 281474976710656 = headerCheck b0.pay.toNat b1.pay.toNat b2.pay.toNat b3.pay.toNat
  | _ => false

def trailerOk (t0 t1 : Block) : Bool :=
  t0.ctl && !t1.ctl && t0.pay.toNat % 65536 = 0x56A9 && t1.pay.toNat / 281474976710656 = trailerCheck t0.pay.toNat t1.pay.toNat

/-- A piece of a copy returns at a lane end (R183): its header, the slots from `from` on in the copy's order, and the
trailer when it has come. -/
def Vc.sweepReturn (s : Vc) (n : Nat) (endY : Bool) (h : List Block) (start : Nat) (reps : List DWord)
    (tr : Option (Block × Block)) : Vc :=
  if !s.strRuns n ∨ !s.endInUse n (b2n endY) then s
  else if !headerOk h then
    if tr.isSome then (s.set1 STRING.ERRSTAT.HDR_ERR n).count STRING.HDRERR_CNT.COUNT n else s
  else
    let w0 := (h.getD 0 ⟨false, 0⟩).pay.toNat
    let seq := bits w0 63 48
    let dir := bits (h.getD 3 ⟨false, 0⟩).pay.toNat 47 47
    let cells := s.rd STRING.CFG.CELLS n
    let got := ((List.range reps.length).zip reps).filterMap fun ir =>
      let k := start + ir.1
      if k < cells then some (⟨if dir = 0 then k else cells - 1 - k, dir, seq, ir.2.toNat, s.vt⟩ : RxRep) else none
    let x := s.str n
    let s := s.setStr n { x with rx := x.rx ++ got }
    match tr with
    | none => s
    | some (t0, t1) =>
      let ok := trailerOk t0 t1
      let refl := ok && bit t0.pay.toNat 47
      let c : RxCopy := ⟨dir, endY, seq, ok, refl, bits t0.pay.toNat 46 40, s.now⟩
      let s := s.setStr n { s.str n with copies := (s.str n).copies ++ [c] }
      if refl then s.count STRING.REFL_CNT.COUNT n else s

/-! ### The commit of a string (R23, R108, R183, R187, R216) -/

/-- The newest copy of a direction with a good trailer. -/
def newestCopy (cs : List RxCopy) (dir : Nat) : Option RxCopy :=
  (cs.filter fun c => c.dir = dir && c.trOk).foldl (fun b c =>
    match b with
    | none => some c
    | some d => if seqNewer c.seq d.seq then some c else b) none

/-- VALID and RPOS of each direction from the copies returned; a direction with none keeps its last (log 33). -/
def Vc.breakFields (s : Vc) (n : Nat) : Vc :=
  let cs := (s.str n).copies
  let one (s : Vc) (dir : Nat) (fv fp : Fld) : Vc :=
    if !s.endInUse n dir then (s.wr fv 0 n).wr fp 0 n
    else
      match newestCopy cs dir with
      | some c => (s.wr fv (b2n c.refl) n).wr fp (if c.refl then c.rpos else 0) n
      | none => s
  one (one s 0 STRING.BREAK.VALID_X STRING.BREAK.RPOS_X) 1 STRING.BREAK.VALID_Y STRING.BREAK.RPOS_Y

/-- RPOS_X and RPOS_Y of R187; an unreflected X copy has reached every cell, an unreflected mirror too. -/
def Vc.rposX (s : Vc) (n : Nat) : Int :=
  if !s.endInUse n 0 then -1
  else if s.on STRING.BREAK.VALID_X n then s.rd STRING.BREAK.RPOS_X n else s.rd STRING.CFG.CELLS n
def Vc.rposY (s : Vc) (n : Nat) : Int :=
  if !s.endInUse n 1 then s.rd STRING.CFG.CELLS n
  else if s.on STRING.BREAK.VALID_Y n then s.rd STRING.BREAK.RPOS_Y n else -1

/-- The links that show a break (R187, R216). -/
def Vc.brokenLinks (s : Vc) (n : Nat) : List Nat :=
  let x := if !s.endInUse n 0 then [0] else if s.on STRING.BREAK.VALID_X n then [s.rd STRING.BREAK.RPOS_X n + 1] else []
  let y := if !s.endInUse n 1 then [s.rd STRING.CFG.CELLS n]
    else if s.on STRING.BREAK.VALID_Y n then [s.rd STRING.BREAK.RPOS_Y n] else []
  (x ++ y).eraseDups

/-- A link is held (R216): a unit that cannot be contained there, contained by its port's other lane, or, with that out of use, by the
port region (R44). -/
def Vc.holdLink (s : Vc) (n i : Nat) : Vc :=
  let x := s.str n
  if x.held.contains i then s
  else
    let cells := s.rd STRING.CFG.CELLS n
    let held := x.held ++ [i]
    let s := s.setStr n { x with held := held }
    let s := s.wr LANE.PORTLINK.LAST_LINK i (2 * n)
    let page := if i = cells then 2 * n + 1 else 2 * n
    let s :=
      if i = 0 ∨ i = cells then (s.set1 LANE.STATUS.HELD page).refreshLane page
      else (s.queueMsg n (holdMsg cells held (i - 1))).queueMsg n (holdMsg cells held i)
    let s := (s.set1 LANE.ERRSTAT.HELD_OUT page).irq 5
    let d := s.word (laneAddr page 0x18)
    let port := (i = 0 || i = cells) && !s.endInUse n (if i = 0 then 1 else 0)
    let cluster := if port then [stRec 0x0706 1 3 page d 3 0, stRec 0x0706 2 2 page d 3 0] else [stRec 0x0706 1 2 page d 3 0]
    s.event ([stRec 0x0706 0 3 page d 3 0] ++ cluster ++ [opRec 0x0706 1 3 n d] ++ s.strArmRec n 0x0706 d 2)

/-- The links that show a break now and did not at the commit before. -/
def Vc.freshBreaks (s : Vc) (n : Nat) (links : List Nat) : List Nat :=
  links.filter fun i => !((s.str n).broken.any fun b => b.1 = i)

/-- The links that show a break are kept, each with the commit that showed it first (R216). -/
def Vc.keepBreaks (s : Vc) (n : Nat) (links : List Nat) : Vc :=
  let x := s.str n
  s.setStr n { x with broken := links.map fun i => ((x.broken.find? fun b => b.1 = i).getD (i, s.now)) }

/-- Onsets and holds of a string in RUN (R216). -/
def Vc.onsets (s : Vc) (n : Nat) (links : List Nat) : Vc :=
  let x := s.str n
  let fresh := s.freshBreaks n links
  let onsets := (x.onsets.filter fun o => decide (s.now < o.2 + 40000000000)) ++ fresh.map fun i => (i, s.now)
  let s := (s.setStr n { x with onsets := onsets }).keepBreaks n links
  let broken := (s.str n).broken
  links.foldl (fun s i =>
    let third := fresh.contains i && decide (3 ≤ (onsets.filter fun o => o.1 = i).length)
    let long := broken.any fun b => b.1 = i && decide (b.2 + 40000000000 ≤ s.now)
    if third || long then s.holdLink n i else s) s

/-- The cells that two breaks cut off (R187). -/
def Vc.cutOff (s : Vc) (n : Nat) : List Nat :=
  (List.range (s.rd STRING.CFG.CELLS n)).filter fun (p : Nat) => decide (s.rposX n < (p : Int)) && decide ((p : Int) < s.rposY n)

/-- The unit-level records of the inner links of a string that newly show a break (R44, R215); an end of the port has had its own. -/
def Vc.linkRecs (s : Vc) (n code data : Nat) (links : List Nat) : List Rec :=
  ((s.freshBreaks n links).filter fun i => i ≠ 0 && i ≠ s.rd STRING.CFG.CELLS n).map fun _ => stRec code 0 2 n data 3 0

/-- Breaks at the commit (R187), `cut` the cells cut off. A lost inner link is CONTAINED at unit level too, under the event number
of its string's record (R46, R215). -/
def Vc.breaks (s : Vc) (n : Nat) (cut : List Nat) : Vc :=
  let links := s.brokenLinks n
  let was := s.rd STRING.STATUS.RING n
  let ring := if links = [] then 0 else if cut = [] then 1 else 2
  let s := s.wr STRING.BREAK.NCUT cut.length n
  let s := s.wr STRING.STATUS.RING ring n
  let s :=
    if ring = 1 then
      let s := s.set1 STRING.ERRSTAT.REFLECT n
      let d := s.strWord n 0xC
      if was = 0 then s.event (s.linkRecs n 0x0608 d links ++ [opRec 0x0608 1 2 n d]) else s
    else if ring = 2 then
      let s := s.set1 STRING.ERRSTAT.REFLECT n
      if was = 2 then s
      else
        let s := (s.set1 STRING.ERRSTAT.TWO_BREAKS n).irq 6
        let d := s.strWord n 0xC
        s.event (s.linkRecs n 0x0609 d links ++ [opRec 0x0609 1 3 n d])
    else s
  if s.rd STRING.STATUS.STATE n = 6 then s.onsets n links else s.keepBreaks n links

/-- A tick of SYNC is clean (R196): both copies of every slot returned valid, unreflected, with STATE BLOCKED. -/
def Vc.cleanTick (s : Vc) (n : Nat) : Bool :=
  let x := s.str n
  let good (d p : Nat) : Bool := x.rx.any fun r => r.pos = p && r.dir = d && reportOk r.blk && bits r.blk 31 28 = 1
  let back (d : Nat) : Bool := x.copies.any fun c => c.dir = d && c.trOk && !c.refl
  back 0 && back 1 && (List.range (s.rd STRING.CFG.CELLS n)).all fun p => good 0 p && good 1 p

/-- RETTIME of the last tick (R199). -/
def Vc.retTime (s : Vc) (n : Nat) : Vc :=
  let x := s.str n
  let one (d : Nat) : Nat :=
    match (x.copies.filter fun c => c.dir = d).getLast? with
    | some c =>
      match x.launched.find? fun l => l.1 = c.seq with
      | some l => min ((c.vt - l.2) / 4) 0xFFFE
      | none => 0xFFFF
    | none => 0xFFFF
  (s.wr STRING.RETTIME.RET_X_NS (one 0) n).wr STRING.RETTIME.RET_Y_NS (one 1) n

/-- The facet commit of one running string: every slot in ascending position, with its departure where two breaks cut it off
(R108, R115), then the breaks (R187) and the string's tick counts (R196). -/
def Vc.strCommit (s : Vc) (n : Nat) : Vc :=
  if !s.strRuns n then s
  else
    let x := s.str n
    let any := x.rx.any fun r => reportOk r.blk
    let clean := s.cleanTick n
    let s := s.breakFields n
    let cut := s.cutOff n
    let s := forN (s.rd STRING.CFG.CELLS n) s fun s p =>
      let s := s.commitFacet (n * 96 + p) x.rx
      if cut.contains p then s.leaveService (n * 96 + p) 6 else s
    let s := s.retTime n
    let s := s.breaks n cut
    let y := s.str n
    s.setStr n { y with
      rx := [], copies := []
      clean := if clean then y.clean + 1 else 0
      syncTicks := y.syncTicks + 1
      deadTicks := if any then 0 else y.deadTicks + 1 }

/-! ### Launching the sweeps (R173 to R178) -/

/-- The 48-bit command word of R177. -/
def cmdWord (mode edge clr pos seq fire : Nat) : Nat :=
  mode * 17592186044416 + edge * 1073741824 + 0xF * 67108864 + clr * 33554432 + pos * 65536 + seq % 256 * 256 + fire

/-- A word with its own CRC-16 in [63:48] (R175). -/
def withCrc (w : Nat) : Nat := w + check16 (bitsUp w 0 48) * 281474976710656

/-- The command of a slot: MODE, EDGE_AT, and whether it must be issued here, as it is for every facet that no selection of this VC
has issued to (R126, R128, R142, R151). `none` in the first place when a home VC's command has not come. -/
def Vc.slotCommand (s : Vc) (n p : Nat) : Option (Nat × Nat) × Bool :=
  let f := s.facet (n * 96 + p)
  let x := s.str n
  let mine := f.home = s.vcId && s.rd ARM.STAT.STATE f.arm ≠ 0
  if f.arm = 0xF then (some (4, 0), false)
  else if s.rd STRING.STATUS.STATE n = 5 || x.stopLeft.isSome then (some (4, 0), !mine)
  else if f.home = s.vcId then
    if s.rd ARM.STAT.STATE f.arm = 0 then (some (4, 0), true)
    else if s.blocked || !f.inSvc then (some (4, 0), false)
    else (some (f.lastMode, f.lastEdge), false)
  else if s.blocked || !f.inSvc then (some (4, 0), true)
  else
    match x.remoteCmd.find? fun c => c.1 = p with
    | some c => (some (bits c.2 47 44, bits c.2 43 30), true)
    | none => (none, false)

/-- The state a MODE leads to from a commanded state (R178). -/
def modeState (mode old : Nat) : Nat :=
  match mode with
  | 1 => 3 | 2 => 4 | 3 => 2 | 4 => 1 | 5 => 5 | _ => old

/-- The voted command word of a facet by its global ID: the computed one, unless two dies agreed on another (R40). -/
def Vc.votedWord (s : Vc) (g w : Nat) : Nat :=
  match s.voter.voted.find? fun e => e.1 = g with
  | some e => e.2
  | none => w

/-- A slot in which the home's command has not come holds its facet in the state commanded before (R108 step 3, R128). -/
def Vc.heldSlot (s : Vc) (i eff : Nat) : Vc :=
  let f := s.facet i
  s.setFacet i { f with issued := (eff, f.cstate, s.tickNo) :: f.issued.take 7 }

/-- The command word of one slot, after issuing it to the entry when it is issued here, with a waiting CLR and a firing
(R151, R306). A firing, and the BLOCK of a blocked valve, replace what the dies voted (R142, R151, R152). -/
def Vc.slotWord (s : Vc) (n p seq eff : Nat) : Vc × Nat :=
  let i := n * 96 + p
  let firing := match s.prot.firing with | some g => g.facet = i && decide (0 < g.left) | none => false
  if firing then (s, cmdWord 5 0 0 p seq (Nat.xor p 0xA5))
  else
    let (c, issue) := s.slotCommand n p
    let s := match c with
      | none => (s.heldSlot i eff).event [opRec 0x0610 1 2 n (s.strWord n 8)]
      | some me => if issue then s.issueLocal i me.1 me.2 (modeState me.1 (s.facet i).cstate) eff else s
    let me := c.getD (0, 0)
    let f := s.facet i
    let s := if f.clrPend then s.setFacet i { f with clrPend := false, clrSeq := some ((seq + s.headerLc n) % 65536) } else s
    let w := cmdWord me.1 me.2 (b2n f.clrPend) p seq 0
    (s, if s.blocked then w else s.votedWord (s.vcId * 4608 + i) w)

/-- The launch of both sweeps of a running string (R173), `extra` the added Lens time of R22 in 250 ps units. -/
def Vc.launch (s : Vc) (n extra : Nat) : Vc :=
  let x := s.str n
  if !s.strRuns n ∨ x.stopLeft = some 0 then s
  else
    let cells := s.rd STRING.CFG.CELLS n
    let seq := x.nextSeq
    let lc := s.headerLc n
    let eff := (s.vt + lc * s.tq) % 18446744073709551616
    let loading := match x.load with | some l => !l.waiting | none => false
    let (s, cmds) := (List.range cells).foldl (fun (acc : Vc × List Nat) p =>
      let r := acc.1.slotWord n p seq eff
      (r.1, acc.2 ++ [withCrc r.2])) (s, [])
    let lag := s.launchNs n * 4 + extra
    let b0 := 0x6996 + s.rd STRING.STATUS.LGEN n * 65536 + b2n loading * 262144 + lc * 524288 + n * 4194304 +
      s.vcId * 268435456 + s.rd STRING.STATUS.FGEN n * 4294967296 + cells * 1099511627776 + seq * 281474976710656
    let b1 := (s.vt + lag + txPipe (s.strRate n) / 5) % 18446744073709551616
    let tr0 := 0x56A9 + seq * 281474976710656
    let sweep (d : Nat) : List Nat :=
      let b3 := s.tq % 131072 + d * 140737488355328
      let slots := (if d = 0 then cmds else cmds.reverse).flatMap fun c => [c, 0xFFFF000000000000]
      [b0, b1, eff, b3 + headerCheck b0 b1 eff b3 * 281474976710656] ++ slots ++ [tr0, trailerCheck tr0 0 * 281474976710656]
    let s := if s.endInUse n 0 then s.emit (.sweep n 0 (sweep 0)) else s
    let s := if s.endInUse n 1 then s.emit (.sweep n 1 (sweep 1)) else s
    let y := s.str n
    s.setStr n { y with
      nextSeq := (seq + 1) % 65536, remoteCmd := []
      launched := (seq, s.now + lag) :: y.launched.take 15
      load := y.load.map fun l => if l.waiting then l else { l with sweeps := l.sweeps + 1 }
      stopLeft := y.stopLeft.map fun k => k - 1 }

/-! ### Lane events that concern a string -/

/-- LANE.CTRL.RELEASE of a string lane end (R216): every hold of the port ends. -/
def Vc.releasePort (s : Vc) (n : Nat) : Vc := (s.endHolds n).refreshPort n

/-- A write of LANE.CTRL (R220). -/
def Vc.laneCtrl (s : Vc) (l w : Nat) : Vc :=
  let s := if bit w 2 then s.clrFommin l else s
  let s := if bit w 1 && isStrLane l then s.releasePort (l / 2) else s
  if bit w 0 then s.retrain l else s

/-- A string lane loses lock, or receives LINK_FAULT (R184, R203, R207, R215): in UP, the loss with its records, and with its port's
other end out of use the loss of the whole port, which its cluster passes to the port region (R44); of a string in RUN that part is
recorded with STRING_DOWN, to which it leads (R46, R196). In bring-up, BACKOFF. -/
def Vc.strLaneLoss (s : Vc) (l : Nat) : Vc :=
  let b := s.rd LANE.STATUS.BSTATE l
  if b = 7 then
    let runs := s.strRuns (l / 2)
    let port := !s.endInUse (l / 2) (1 - l % 2)
    let s := s.loseLane l
    let r := s.lossRec l
    let down := port && s.rd STRING.STATUS.STATE (l / 2) = 6
    let s := if down then s.setStr (l / 2) { s.str (l / 2) with portLoss := some l } else s
    s.event (r :: (if port && !down then portRecs l r.data else []) ++ if runs then [opRec 0x0702 1 2 (l / 2) r.data] else [])
  else s.putLnk l ((s.lnk l).bringupTimeout s.now)

end Sys2Proof.Machine
end

