-- ==== Sys2Proof/Machine/Lens.lean ====
section
/-!
DEFINITION. Machine/Lens.lean: the Lens engine: contexts, inputs, the law of a step, its supervision, overruns and swaps,
the load check, coefficient banks, and the sampled-value subscriptions (R57 to R105).
-/
namespace Sys2Proof.Machine
open Reg

/-! ### Contexts and their sizes (R58, R59) -/

/-- P_c in ticks. -/
def Vc.ctxP (s : Vc) (c : Nat) : Nat := s.rd LENS.CFG.TL_TICKS * s.rd CTX.CFG1.RATE_DIV c

/-- Context c is due in tick k (R59). -/
def Vc.ctxDue (s : Vc) (c k : Nat) : Bool :=
  s.ctxP c ≠ 0 && ((k : Int) - s.rd CTX.CFG2.OFFSET c) % s.ctxP c = 0

def Vc.ctxRuns (s : Vc) (c : Nat) : Bool := s.rd CTX.STATUS.STATE c = 1

/-- A context with an ARM_REF output is critical (R82). -/
def Vc.critical (s : Vc) (c : Nat) : Bool :=
  (List.range (s.rd CTX.CFG0.NU c)).any fun i => s.rd CTX.OMAP.DEST c i = 1

/-- t_S of R83, in ns. -/
def Vc.stepNs (s : Vc) (c : Nat) : Nat :=
  let nx := s.rd CTX.CFG0.NX c
  16 + (2 * ceilDiv (nx + s.rd CTX.CFG0.NR c + s.rd CTX.CFG0.NI c) 4 + 6) +
    (2 * ceilDiv (nx + s.rd CTX.CFG0.NU c + s.rd CTX.CFG0.NY c) 4 + 4) + 6 + 16

/-- The Bumpless phase of R104, in ns. -/
def Vc.bumpNs (s : Vc) (c : Nat) : Nat :=
  2 * ceilDiv (s.rd CTX.CFG0.NX c + s.rd CTX.CFG0.NR c + s.rd CTX.CFG0.NI c) 4 + 18

/-! ### Coefficients (R86) -/

def coefKey (bank m i j : Nat) : Nat := ((bank * 16 + m) * 32 + i) * 32 + j
def Ctx.c (x : Ctx) (bank m i j : Nat) : F32 := Tab.get (fun _ => 0) x.coef (coefKey bank m i j)
def Ctx.cRow (x : Ctx) (bank m i n : Nat) : List F32 := (List.range n).map fun j => x.c bank m i j

/-- Rows and columns of an entry at full size (R86). -/
def coefSize (m : Nat) : Nat × Nat :=
  match m with
  | 0 => (32, 32) | 1 => (32, 16) | 2 => (32, 32) | 3 => (16, 32) | 4 => (16, 16) | 5 => (16, 16)
  | 10 => (1, 32)
  | _ => (1, 16)

/-! ### The load check (R99) -/

/-- The largest sum of weights of contexts that can be due in one tick: of (weight, period, offset), given those taken. Pairs
whose offsets agree modulo the common divisor of their periods can be due together. -/
def wcBest : List (Nat × Nat × Nat) → List (Nat × Nat) → Nat
  | [], _ => 0
  | (w, p, o) :: r, taken =>
    let skip := wcBest r taken
    if taken.all fun t => ((o : Int) - t.2) % (Nat.gcd p t.1 : Nat) = 0 then max skip (w + wcBest r ((p, o) :: taken)) else skip

/-- WC_NS over the RUNNING critical contexts, and context `extra` if it is critical. -/
def Vc.wcNs (s : Vc) (extra : Nat) : Nat :=
  let cs := (List.range 16).filter fun c => (s.ctxRuns c || c = extra) && s.critical c
  wcBest (cs.map fun c => (8 + s.stepNs c + (if s.rd CTX.CFG0.NI c = 0 then 0 else s.bumpNs c), s.ctxP c,
    s.rd CTX.CFG2.OFFSET c)) []

/-- LOADCHK as it stands (R99). -/
def Vc.refreshLoad (s : Vc) : Vc :=
  (s.wr LENS.LOADCHK.WC_NS (sat 16 (s.wcNs 16))).wr LENS.LOADCHK.LIMIT_NS (sat 16 s.loadLimit)

/-! ### Pending swaps (R100, R101) -/

/-- The descriptor of a context's pending swap. -/
def Vc.swapDesc (s : Vc) (c : Nat) : Option Desc :=
  if s.on SUP.STAT.SWAP_PEND c then
    s.host.descs.find? fun d => d.type = 3 && d.waiting && d.bound.isNone && bits (d.word 4) 3 0 = c
  else none

/-- The pending swap is over: its descriptor ends with a status. PEND_BANK and PEND_POLICY keep their last values: the spec
says what they show while a swap is pending and no more (DESIGN CHOICE, log 109). -/
def Vc.endSwap (s : Vc) (c status : Nat) : Vc :=
  if s.on SUP.STAT.SWAP_PEND c then
    let d := s.swapDesc c
    let s := s.wr SUP.STAT.SWAP_PEND 0 c
    match d with
    | some d => s.finish d.id status
    | none => s
  else s

/-! ### Leaving RUNNING, and the actions (R84, R93 to R95) -/

/-- A context's step in progress is gone, with all its results; a phase of it under way ends with it (R84, R96). -/
def Vc.dropStep (s : Vc) (c : Nat) : Vc :=
  let s := s.setCtx c { s.ctx c with job := none }
  { s with lens := { s.lens with
      queue := s.lens.queue.filter (· ≠ c), carry := if s.lens.queue.head? = some c then 0 else s.lens.carry } }

/-- A context takes a state and runs no step: its step in progress and its pending swap are gone (R84, R101). -/
def Vc.ctxLeave (s : Vc) (c st : Nat) : Vc :=
  let s := s.dropStep c
  let s := s.wr CTX.STATUS.STATE st c
  (s.endSwap c 6).refreshLoad

/-- The action of R93, raised `at_` ns after the facet commit: the record, the interrupt, the block request. -/
def Vc.lensAction (s : Vc) (c act code data at_ : Nat) : Vc :=
  let s := s.event [opRec code 3 (if act = 2 then 4 else 2) c data s.refDie 1]
  let s := if act = 0 then s else s.irq 1
  if act = 2 then
    let s := s.set1 SUP.ERR.BLOCK_REQ c
    { s with lens := { s.lens with reqs := s.lens.reqs ++ [(c, at_)] } }
  else s

/-- The context registers that contain the error flags. -/
def Vc.ctxErrWord (s : Vc) (c : Nat) : Nat := s.word (0x31014 + 0x800 * c)
def Vc.supErrWord (s : Vc) (c : Nat) : Nat := s.word (0x39008 + 0x200 * c)

/-- A context enters FAULT with FAULT_ACTION, or BLOCK when it is critical (R95). -/
def Vc.ctxFault (s : Vc) (c code data at_ : Nat) : Vc :=
  let act := if s.critical c then 2 else s.rd SUP.CFG.FAULT_ACTION c
  (s.ctxLeave c 2).lensAction c act code data at_

/-! ### START and STOP (R75, R76, R79, R84, R85) -/

/-- The map entry of an element: SRC, MEAN, IDX_A, IDX_B, SCALE, OFFSET; `r` tells a reference from a measurement. -/
structure MapEnt where
  src   : Nat
  mean  : Bool
  a     : Nat
  b     : Nat
  scale : F32
  offs  : F32
deriving DecidableEq, Repr

def Vc.mapEnt (s : Vc) (c : Nat) (r : Bool) (j : Nat) : MapEnt :=
  if r then ⟨s.rd CTX.RMAP.SRC c j, s.on CTX.RMAP.MEAN c j, s.rd CTX.RMAP.IDX_A c j, s.rd CTX.RMAP.IDX_B c j,
    s.rd CTX.RSCALE.SCALE c j, s.rd CTX.ROFFS.OFFSET c j⟩
  else ⟨s.rd CTX.YMAP.SRC c j, s.on CTX.YMAP.MEAN c j, s.rd CTX.YMAP.IDX_A c j, s.rd CTX.YMAP.IDX_B c j,
    s.rd CTX.YSCALE.SCALE c j, s.rd CTX.YOFFS.OFFSET c j⟩

/-- The elements of a context's step: (reference, index). -/
def Vc.elements (s : Vc) (c : Nat) : List (Bool × Nat) :=
  (List.range (s.rd CTX.CFG0.NY c)).map (fun j => (false, j)) ++ (List.range (s.rd CTX.CFG0.NR c)).map fun j => (true, j)

/-- An entry's source and indices are in range (R67). -/
def MapEnt.ok (e : MapEnt) (r : Bool) : Bool :=
  match e.src with
  | 0 => true
  | 1 => decide (e.a < 8) && decide (e.b < 4)
  | 2 => decide (e.a < 8) && decide (e.b < 16)
  | 3 => decide (e.a < 12) && decide (e.b < 3)
  | 4 => decide (e.a < 64)
  | 5 => r && decide (e.b < 16)
  | 6 => decide (e.a < 16) && decide (e.b < 16)
  | 7 => decide (e.a < 16) && decide (e.b < 64)
  | _ => false

/-- Samples per second of a subscription (R70, R89). -/
def Vc.svRate (s : Vc) (v : Nat) : Nat :=
  match s.rd SVSUB.CTL.RATE v with
  | 0 => 4800
  | 1 => 14400
  | _ => 96000

/-- The arms that a context's ARM_REF outputs name, or the slots of its CASC_OUT outputs. -/
def Vc.outIdx (s : Vc) (c dest : Nat) : List Nat :=
  ((List.range (s.rd CTX.CFG0.NU c)).filter fun i => s.rd CTX.OMAP.DEST c i = dest).map fun i => s.rd CTX.OMAP.IDX c i

/-- No value twice in a list. -/
def noDup (l : List Nat) : Bool := decide l.Nodup

/-- The CFG_CODE with which START is refused, 0 when every check passes (R58, R59, R67, R72, R75, R76, R79, R84, R99). Where two
checks fail, the first of R85's list gives the code. What the rules give no code for has the model's (DESIGN CHOICE, log 49):
RATE for an OFFSET not below P_c and for a RATE_DIV outside 1 to 4,096, PARENT for a reserved HANDOVER and for a PARENT entry
while PARENT_EN is 0, MAP for a CASC_OUT slot above 63. A CASC_OUT slot counts as already used by the contexts that run, by none
in FAULT or STOPPED (DESIGN CHOICE, log 49). Each of the arms 0 to 11 of this VC counts as homed here, whatever STRMAP holds (DESIGN CHOICE, log 49). -/
def Vc.startCode (s : Vc) (c : Nat) : Nat :=
  let nx := s.rd CTX.CFG0.NX c
  let nu := s.rd CTX.CFG0.NU c
  let ny := s.rd CTX.CFG0.NY c
  let nr := s.rd CTX.CFG0.NR c
  let ni := s.rd CTX.CFG0.NI c
  let rd := s.rd CTX.CFG1.RATE_DIV c
  let off := s.rd CTX.CFG2.OFFSET c
  let p := s.ctxP c
  let es := (s.elements c).map fun e => (s.mapEnt c e.1 e.2, e.1)
  let arms := s.outIdx c 1
  let slots := s.outIdx c 2
  let par := s.rd CTX.CFG1.PARENT c
  let parEn := s.on CTX.CFG1.PARENT_EN c
  let others := (List.range 16).filter fun d => d ≠ c && s.ctxRuns d
  if s.rd CTX.STATUS.STATE c = 2 then 8
  else if nx = 0 ∨ 32 < nx ∨ nu = 0 ∨ 16 < nu ∨ 32 < ny ∨ 16 < nr ∨ 16 < ni then 1
  else if rd = 0 ∨ 4096 < rd ∨ p ≤ off ∨ s.rd CTX.CFG2.INV_LIMIT c = 0 ∨ 62 < s.rd CTX.CFG2.INV_LIMIT c then 4
  else if es.any (fun e => !e.1.ok e.2) ∨
      (List.range ni).any (fun i => nr ≤ s.rd CTX.IMAP.RI c i || ny ≤ s.rd CTX.IMAP.YI c i || nu ≤ s.rd CTX.IMAP.OU c i) ∨
      (List.range nu).any (fun i => 2 < s.rd CTX.OMAP.DEST c i || (s.rd CTX.OMAP.DEST c i = 2 && decide (63 < s.rd CTX.OMAP.IDX c i)))
    then 2
  else if es.any (fun e => e.1.src = 2 && decide (p * s.rd GLOBAL.TICKCFG.TP_NS * s.svRate e.1.a < 1000000000)) then 4
  else if arms ≠ [] ∧ (s.rd CTX.CFG2.DELAY_TICKS c = 0 ∨ 4 < s.rd CTX.CFG2.DELAY_TICKS c ∨
      arms.any (fun a => decide (a < 12) && s.rd ARM.STAT.LC a ≠ s.rd CTX.CFG2.DELAY_TICKS c)) then 5
  else if 1 < s.rd CTX.CFG2.HANDOVER c ∨ (es.any (fun e => e.1.src = 5) ∧ ¬ parEn) then 3
  else if parEn ∧ (!s.ctxRuns par ∨ 2 < s.rd CTX.STATUS.DEPTH par ∨ s.rd CTX.CFG1.RATE_DIV par % rd ≠ 0 ∨
      ((off : Int) - s.rd CTX.CFG2.OFFSET par) % (p : Nat) ≠ 0) then 3
  else if !noDup arms ∨ !noDup slots ∨ arms.any (fun a => 11 < a) ∨
      others.any (fun d => (s.outIdx d 1).any arms.contains || (s.outIdx d 2).any slots.contains) then 6
  else if arms ≠ [] ∧ s.loadLimit < s.wcNs c then 4
  else 0

/-- START is refused with a code. -/
def Vc.refuseStart (s : Vc) (c code : Nat) : Vc := (s.wr CTX.STATUS.CFG_CODE code c).set1 CTX.ERR.START_REFUSED c

/-- CTXCTRL.START (R84); a RUNNING context ignores it (log 36). -/
def Vc.ctxStart (s : Vc) (c : Nat) : Vc :=
  if s.ctxRuns c then s
  else
    let code := s.startCode c
    if code ≠ 0 then s.refuseStart c code
    else
      let x := s.ctx c
      let s := s.setCtx c { x with
        u := List.replicate 16 0, xhat := x.cRow 0 10 0 32, xi := x.cRow 0 11 0 16, held := []
        started := false, startAt := s.ticks, satUp := 0, job := none }
      let s := forN 16 s fun s i => (s.wr CTX.U.VALUE 0 c i).wr SUP.SATTIME.COUNT 0 c i
      let s := s.wr CTX.STATUS.STATE 1 c
      let s := s.wr CTX.STATUS.BANK (s.rd CTX.CFG2.START_BANK c) c
      let s := s.wr CTX.STATUS.DEPTH (if s.on CTX.CFG1.PARENT_EN c then s.rd CTX.STATUS.DEPTH (s.rd CTX.CFG1.PARENT c) + 1 else 0) c
      let s := s.wr CTX.STATUS.INV_RUN 0 c
      let s := s.wr SUP.STAT.OVR_RUN 0 c
      let s := s.wr CTX.SAMPLES.COUNT 0 c
      let s := s.wr CTX.STEPNS.MAX_NS 0 c
      s.refreshLoad

/-- STOP is refused: a RUNNING child, or an ARM_REF output while the valve is deblocked (R85). -/
def Vc.stopRefused (s : Vc) (c : Nat) : Bool :=
  ((List.range 16).any fun d => s.ctxRuns d && s.on CTX.CFG1.PARENT_EN d && s.rd CTX.CFG1.PARENT d = c) ||
    (s.critical c && !s.blocked)

/-- A write of CTXCTRL (R84, R85). -/
def Vc.ctxCtrl (s : Vc) (c w : Nat) : Vc :=
  let start := bit w 0
  let stop := bit w 1
  if (start ∧ stop) ∨ (stop ∧ s.stopRefused c) then s.badWrite 3 (0x3100C + 0x800 * c)
  else if stop then if s.rd CTX.STATUS.STATE c = 0 then s else s.ctxLeave c 0
  else if start then s.ctxStart c
  else s

/-! ### Inputs (R67 to R73, R77, R78) -/

/-- Raw value and validity of a sampled-value element (R71). -/
def Vc.svValue (s : Vc) (v e : Nat) : F32 × Bool :=
  let x := Tab.get (fun _ => ({} : SvSt)) s.lens.svs v
  let q := x.vals.getD e (0, false, false)
  let fresh := match x.at_ with
    | some t => decide ((s.now - t) * s.svRate v ≤ 12000000000)
    | none => false
  (F32.ofInt (signed 32 q.1), fresh && decide (e < x.vals.length) && q.2.1 && (!q.2.2 || s.on SVSUB.CTL.TEST_OK v) &&
    (s.on SVSUB.SVSTAT.SYNCH v || !s.on SVSUB.CTL.REQ_SYNC v) && s.on SVSUB.CTL.ENABLE v && !s.on SVSUB.SVSTAT.REJECTED v)

/-- Raw value and validity of a measured channel (R69). -/
def Vc.measValue (s : Vc) (c l ch : Nat) (mean : Bool) : F32 × Bool :=
  let x := s.chan (4 * l + ch)
  if mean then
    let p := Tab.get (fun _ => (0, 0)) (s.ctx c).snap (4 * l + ch)
    let n := x.num - p.2
    if n = 0 then (0, false) else
      let t := x.total - p.1
      ((if t = 0 then F32.zero false else F32.roundRat (t < 0) t.natAbs n 0), s.chanValid l ch)
  else (F32.ofInt (signed 16 (x.value.getD 0)), s.chanValid l ch)

/-- The hand-over values of a child at a due tick: v of the parent one and two periods back (R77, R78). -/
def Vc.handShift (s : Vc) (c k : Nat) : Vc :=
  if s.on CTX.CFG1.PARENT_EN c then
    let par := s.rd CTX.CFG1.PARENT c
    let x := s.ctx c
    let pu := (s.ctx par).u
    let s := if s.rd CTX.STATUS.STATE par = 2 then s.set1 CTX.ERR.PARENT_HELD c else s
    if !x.started then s.setCtx c { x with v1 := pu, v2 := pu }
    else if s.ctxDue par k then s.setCtx c { x with v1 := pu, v2 := x.v1 }
    else s
  else s

/-- The hand-over value of a parent output (R77). -/
def Vc.handValue (s : Vc) (c k i : Nat) : F32 :=
  let par := s.rd CTX.CFG1.PARENT c
  let x := s.ctx c
  let m := s.rd CTX.CFG1.RATE_DIV par / s.rd CTX.CFG1.RATE_DIV c
  let j := (((k : Int) - s.rd CTX.CFG2.OFFSET par) % (s.ctxP par : Nat)).toNat / s.ctxP c
  let v1 := x.v1.getD i 0
  let v2 := x.v2.getD i 0
  if s.rd CTX.CFG2.HANDOVER c = 0 ∨ j + 1 = m then v1
  else F32.fma (F32.sub v1 v2) (F32.roundRat false (j + 1) m 0) v2

/-- Raw value and validity of an element at a due tick (R67, R73). -/
def Vc.rawValue (s : Vc) (c k : Nat) (e : MapEnt) : F32 × Bool :=
  match e.src with
  | 1 => s.measValue c e.a e.b e.mean
  | 2 => s.svValue e.a e.b
  | 3 =>
    let v := match e.b with
      | 0 => s.rd ARM.AGG_ENERGY.ENERGY e.a
      | 1 => s.rd ARM.AGG_VMEAN.VMEAN e.a
      | _ => F32.ofInt (s.arm e.a).agg
    (v, s.rd ARM.STAT.STATE e.a = 1)
  | 4 => (s.rd LENS.SETPT.VALUE e.a, true)
  | 5 => (s.handValue c k e.b, true)
  | 6 => ((s.ctx e.a).u.getD e.b 0, s.rd CTX.STATUS.STATE e.a ≠ 0)
  | 7 =>
    let v := Tab.get (fun _ => ({} : CascVal)) s.casc.vals (e.a * 64 + e.b)
    (v.val, v.ok && decide (s.now ≤ v.at_ + 3 * v.period))
  | _ => (F32.zero false, true)

/-- The inputs of a due step: the element values as used, whether any was invalid, the values to hold (R64, R73). -/
def Vc.gather (s : Vc) (c k : Nat) : List F32 × Bool × Tab Nat :=
  (s.elements c).foldl (fun (acc : List F32 × Bool × Tab Nat) e =>
    let m := s.mapEnt c e.1 e.2
    let rv := s.rawValue c k m
    let key := if e.1 then 32 + e.2 else e.2
    if rv.2 then
      let v := F32.fma m.scale rv.1 m.offs
      (acc.1 ++ [v], acc.2.1, Tab.set (fun _ => 0) acc.2.2 key v)
    else (acc.1 ++ [Tab.get (fun _ => 0) acc.2.2 key], true, acc.2.2)) ([], false, (s.ctx c).held)

/-! ### The law of a step (R61, R62, R66, R103, R104) -/

/-- [−K_i, F_i, H_i] of a bank, for the sizes of a context. -/
def Ctx.outRow (x : Ctx) (bank i nx nr ni : Nat) : List F32 :=
  (x.cRow bank 3 i nx).map F32.negate ++ x.cRow bank 4 i nr ++ x.cRow bank 5 i ni

/-- ξ with the integrators set by BUMPLESS in ascending order (R104). -/
def bumpless (x : Ctx) (bank nx nr : Nat) (ous : List Nat) (r : List F32) (xi : List F32) : List F32 :=
  ((List.range ous.length).zip ous).foldl (fun (xi : List F32) io =>
    let o := io.2
    let ni := ous.length
    let p := F32.dot (x.outRow bank o nx nr ni) (x.xhat.take nx ++ r ++ (xi.take ni).set io.1 0)
    let t := F32.fmin (F32.fmax (x.u.getD o 0) (x.c bank 9 0 o)) (x.c bank 8 0 o)
    xi.set io.1 (F32.divS (F32.sub t p) (x.c bank 5 o io.1))) xi

/-- The pairing condition of R104 in a bank. -/
def Ctx.paired (x : Ctx) (bank : Nat) (ous : List Nat) : Bool :=
  noDup ous && ((List.range ous.length).zip ous).all fun io =>
    (List.range ous.length).all fun j => (x.c bank 5 io.2 j).isZero = (j ≠ io.1)

/-- OU of each integrator of a context. -/
def Vc.ous (s : Vc) (c : Nat) : List Nat := (List.range (s.rd CTX.CFG0.NI c)).map fun i => s.rd CTX.IMAP.OU c i

/-- The pending swap that the sample of tick k applies (R101, R102). -/
def Vc.swapDue (s : Vc) (c k : Nat) : Option Desc :=
  (s.swapDesc c).filter fun d => !bit (d.word 4) 29 || decide (d.word 5 + d.word 6 * 4294967296 ≤ k)

/-- The step of context c on its inputs (R61): the swap if one applies, the Output, State and Integrator phases. -/
def Vc.compute (s : Vc) (c k : Nat) (ins : List F32) (swap : Option Nat) : Job :=
  let x := s.ctx c
  let nx := s.rd CTX.CFG0.NX c
  let nu := s.rd CTX.CFG0.NU c
  let ny := s.rd CTX.CFG0.NY c
  let nr := s.rd CTX.CFG0.NR c
  let ni := s.rd CTX.CFG0.NI c
  let y := ins.take ny
  let r := ins.drop ny
  let sw := swap.isSome
  let bank := if sw then s.rd SUP.STAT.PEND_BANK c else s.rd CTX.STATUS.BANK c
  let pol := s.rd SUP.STAT.PEND_POLICY c
  let bump := sw && pol = 1 && ni ≠ 0
  let ous := s.ous c
  let xi0 := if sw && pol = 2 then List.replicate 16 0 else if bump then bumpless x bank nx nr ous r x.xi else x.xi
  let xin := x.xhat.take nx ++ r ++ xi0.take ni
  let v := (List.range nu).map fun i => F32.dot (x.outRow bank i nx nr ni) xin
  let u := (List.range nu).map fun i => F32.fmin (F32.fmax (v.getD i 0) (x.c bank 9 0 i)) (x.c bank 8 0 i)
  let sin := x.xhat.take nx ++ u ++ y
  let x' := (List.range nx).map fun j => F32.dot (x.cRow bank 0 j nx ++ x.cRow bank 1 j nu ++ x.cRow bank 2 j ny) sin
  let xi' := (List.range ni).map fun i =>
    let t := F32.sub (r.getD (s.rd CTX.IMAP.RI c i) 0) (y.getD (s.rd CTX.IMAP.YI c i) 0)
    let o := s.rd CTX.IMAP.OU c i
    F32.fma (x.c bank 7 0 i) (F32.sub (u.getD o 0) (v.getD o 0)) (F32.fma (x.c bank 6 0 i) t (xi0.getD i 0))
  let xi1 := if s.blocked && s.on CTX.CFG2.FREEZE_BLK c then xi0.take ni else xi'
  { ready := none
    left := [16] ++ (if bump then [s.bumpNs c] else []) ++
      [2 * ceilDiv (nx + nr + ni) 4 + 6, 2 * ceilDiv (nx + nu + ny) 4 + 4, 6, 16]
    u := u ++ List.replicate (16 - nu) 0, v := v
    xhat := x' ++ x.xhat.drop nx, xi := xi1 ++ xi0.drop ni
    ok := u.all F32.isFinite && x'.all F32.isFinite && xi1.all F32.isFinite
    bank := bank, swap := swap, sample := k, ins := ins
    swapSat := bump && ous.any fun o => bit (s.rd SUP.SATNOW.HIGH c) o || bit (s.rd SUP.SATNOW.LOW c) o }

/-! ### Commit and saturation (R65, R80, R81, R90 to R92, R98, R102, R167) -/

/-- Saturation of output i at Commit (R90): high, low. -/
def satHigh (x : Ctx) (j : Job) (i : Nat) : Bool :=
  !F32.eqv (j.u.getD i 0) (j.v.getD i 0) && F32.eqv (j.u.getD i 0) (x.c j.bank 8 0 i)
def satLow (x : Ctx) (j : Job) (i : Nat) : Bool :=
  !F32.eqv (j.u.getD i 0) (j.v.getD i 0) && !F32.eqv (j.u.getD i 0) (x.c j.bank 8 0 i)

/-- SATTIME of one output after a Commit (R91). -/
def satCount (blockedOut leaky isSat : Bool) (count div : Nat) : Nat :=
  if blockedOut then count
  else if isSat then min (count + div) 0xFFFFFF
  else if leaky then count - div
  else 0

/-- Saturation supervision of a Commit (R90 to R92). The record's DATA is SUPERR (R310), and the mask of the elements when one Commit
raises events for more than one (R92; log 51). -/
def Vc.saturation (s : Vc) (c : Nat) (j : Job) (at_ : Nat) : Vc :=
  let x := s.ctx c
  let nu := s.rd CTX.CFG0.NU c
  let s := s.wr SUP.SATNOW.HIGH (maskOf nu fun i => satHigh x j i) c
  let s := s.wr SUP.SATNOW.LOW (maskOf nu fun i => satLow x j i) c
  let held := s.blocked && !s.on SUP.CFG.SAT_BLK c
  let leaky := s.on SUP.CFG.SAT_MODE c
  let div := s.rd CTX.CFG1.RATE_DIV c
  let cnt (i : Nat) : Nat := satCount held leaky (satHigh x j i || satLow x j i) (s.rd SUP.SATTIME.COUNT c i) div
  let up := maskOf nu fun i => cnt i ≠ 0 && bit x.satUp i
  let ev := maskOf nu fun i =>
    !bit up i && bit (s.rd SUP.SATCFG.SAT_EN c) i && decide (s.rd SUP.SATLIM.LIMIT c i < cnt i)
  let s := (List.range nu).foldl (fun t i => t.wr SUP.SATTIME.COUNT (cnt i) c i) s
  let s := s.setCtx c { x with satUp := up + ev }
  if ev = 0 then s
  else
    let s := s.wr SUP.SATEV.EVENT (Nat.lor (s.rd SUP.SATEV.EVENT c) ev) c
    let s := s.set1 SUP.ERR.SAT_EVENT c
    s.lensAction c (s.rd SUP.CFG.SAT_ACTION c) 0x0212 (if (List.range nu).all fun i => !bit ev i || ev = 2 ^ i then s.supErrWord c else ev) at_

/-- CASC_OUT values leave for every VC of the cascade while it runs, this VC among them (R81). -/
def Vc.cascSend (s : Vc) (c : Nat) : Vc :=
  if s.rd CASCADE.STATUS.STATE ≠ 3 then s else
  (List.range (s.rd CTX.CFG0.NU c)).foldl (fun s i =>
    if s.rd CTX.OMAP.DEST c i = 2 then
      let slot := s.rd CTX.OMAP.IDX c i
      let v := (s.ctx c).u.getD i 0
      let per := s.ctxP c * s.tq
      let key := s.vcId * 64 + slot
      let old := Tab.get (fun _ => ({} : CascVal)) s.casc.vals key
      let s := { s with casc := { s.casc with
        vals := Tab.set (fun _ => {}) s.casc.vals key { old with next := some v, period := per, at_ := s.now } } }
      s.emit (.cascade 4 [s.vcId, slot, v, per])
    else s) s

/-- The results that a step in progress commits: those of the bank it ran under, unless the swap it applied has been cancelled
since, and then those of its inputs under the bank that stayed active (R101, R102, log 98). -/
def Vc.finalJob (s : Vc) (c : Nat) (j : Job) : Job :=
  match j.swap with
  | none => j
  | some id =>
    if (s.swapDesc c).any fun d => d.id = id then j
    else { s.compute c j.sample j.ins none with ready := j.ready, left := j.left }

/-- The Commit phase of a step, `at_` ns after the facet commit (R61, R65, R80, R98, R102, R167). SWAP_SAT is set with the
results of the step that found a saturated output, so a step that is abandoned or discarded sets none (DESIGN CHOICE, log 109). -/
def Vc.commitStep (s : Vc) (c : Nat) (at_ : Nat) : Vc :=
  match (s.ctx c).job with
  | none => s
  | some j =>
    let j := s.finalJob c j
    let s := s.setCtx c { s.ctx c with job := none }
    let took := sat 16 ((at_ : Int) - j.ready.getD 0).toNat
    let s := s.wr CTX.STEPNS.LAST_NS took c
    let s := s.wr CTX.STEPNS.MAX_NS (max took (s.rd CTX.STEPNS.MAX_NS c)) c
    if !j.ok then
      let s := s.set1 CTX.ERR.NONFINITE c
      s.ctxFault c 0x0203 (s.ctxErrWord c) at_
    else
      let s := s.saturation c j at_
      let s := s.setCtx c { s.ctx c with u := j.u, xhat := j.xhat, xi := j.xi }
      let s := forN 16 s fun s i => (s.wr CTX.U.VALUE (j.u.getD i 0) c i).wr CTX.XI.VALUE (j.xi.getD i 0) c i
      let s := forN 32 s fun s i => s.wr CTX.XHAT.VALUE (j.xhat.getD i 0) c i
      let s := s.wr CTX.SAMPLES.COUNT (s.rd CTX.SAMPLES.COUNT c + 1) c
      let s := s.wr SUP.STAT.OVR_RUN 0 c
      let s := if j.swapSat then s.set1 SUP.ERR.SWAP_SAT c else s
      let s := if j.swap.isSome then (s.wr CTX.STATUS.BANK j.bank c).endSwap c 0 else s
      let s := if s.on SCHED.LENSLINK.REL_EN c then
          { s with sched := { s.sched with releases := s.sched.releases ++ [s.rd SCHED.LENSLINK.REL_ITEM c] } }
        else s
      s.cascSend c

/-! ### Overruns (R96 to R98) -/

/-- A step is abandoned: counted, and FAULT at OVR_LIMIT. -/
def Vc.overrun (s : Vc) (c cause : Nat) : Vc :=
  let s := s.dropStep c
  let s := s.set1 SUP.ERR.OVR c
  let run := min 15 (s.rd SUP.STAT.OVR_RUN c + 1)
  let s := s.wr SUP.STAT.OVR_RUN run c
  let s := s.count SUP.OVRCNT.COUNT c
  let s := s.wr SUP.STAT.OVR_CAUSE cause c
  if s.rd SUP.CFG.OVR_LIMIT c ≤ run then
    let s := s.set1 SUP.ERR.OVR_FAULT c
    s.ctxFault c 0x0211 (s.supErrWord c) 0
  else s.event [opRec 0x0210 3 2 c (s.supErrWord c) s.refDie 1]

/-- A step that has not committed by its context's next due tick is abandoned (R96). -/
def Vc.lateStep (s : Vc) (c : Nat) : Vc :=
  if s.ctxRuns c && (s.ctx c).job.isSome then s.overrun c 0 else s

/-- STEP_OVERRUN: the tick that comes is the context's next due tick, and its step has not committed (R96). -/
def Vc.stepOverrun (s : Vc) (c : Nat) : Vc := if s.ctxDue c s.nextTickNo then s.lateStep c else s

/-! ### The Lens part of a tick (R68, R82, R83, R97, R166) -/

/-- The wait of a context's step is met at this tick (R166). -/
def Vc.waitMet (s : Vc) (c : Nat) : Bool :=
  !s.on SCHED.LENSLINK.WAIT_EN c ||
    match (Tab.get (fun _ => ({} : ItemSt)) s.sched.items (s.rd SCHED.LENSLINK.WAIT_ITEM c)).compTick with
    | some t =>
      let x := s.ctx c
      if x.started then decide (s.ticks < t + s.ctxP c) else decide (x.startAt < t)
    | none => false

/-- The totals of every channel that has had samples, kept for the means of the next due tick (R69). -/
def Vc.chanTotals (s : Vc) : Tab (Int × Nat) :=
  (s.prot.chans.filter fun e => e.2.num ≠ 0).map fun e => (e.1, (e.2.total, e.2.num))

/-- Every context that is due keeps the totals as of this tick, whether or not it runs a step (R69, log 98). -/
def Vc.keepTotals (s : Vc) (due : List Nat) : Vc :=
  due.foldl (fun s c => s.setCtx c { s.ctx c with snap := s.chanTotals }) s

/-- The inputs of one due context are taken (R68, R73, R85), and its step is ready to run, unless a check ends it. -/
def Vc.takeStep (s : Vc) (v : Vc) (c k : Nat) : Vc :=
  let g := v.gather c k
  let first := !(s.ctx c).started
  if first && g.2.1 then
    (s.ctxLeave c 0).refuseStart c 7
  else
    let met := s.waitMet c
    let s := s.setCtx c { s.ctx c with held := g.2.2, started := true }
    let s := if g.2.1 then s.set1 CTX.ERR.IN_INVALID c else s
    let run := if g.2.1 then s.rd CTX.STATUS.INV_RUN c + 1 else 0
    let s := s.wr CTX.STATUS.INV_RUN run c
    if g.2.1 && decide (s.rd CTX.CFG2.INV_LIMIT c ≤ run) then
      let s := s.set1 CTX.ERR.INV_FAULT c
      s.ctxFault c 0x0204 (s.ctxErrWord c) 0
    else
      let s := if g.2.1 then s.event [opRec 0x0202 3 2 c (s.ctxErrWord c) s.refDie 1] else s
      if !met then s.overrun c 1
      else s.setCtx c { s.ctx c with job := some (s.compute c k g.1 ((s.swapDue c k).map (·.id))) }

/-- The phases of one background step from `cur` on: the time reached, and the phases left, if any. -/
def runPhases (until_ : Nat) : Nat → List Nat → Nat × List Nat
  | cur, [] => (cur, [])
  | cur, p :: ps => if until_ ≤ cur then (cur, p :: ps) else runPhases until_ (cur + p) ps

/-- Steps run one after another until the next facet commit (R82): time reached, contexts left. A step whose Commit phase ends
after that commit has not reached its Commit by it (R96): it stays, with no phase left. -/
def Vc.runJobs (until_ : Nat) : List Nat → Vc → Nat → Vc × Nat × List Nat
  | [], s, cur => (s, cur, [])
  | c :: cs, s, cur =>
    if until_ ≤ cur then (s, cur, c :: cs)
    else
      match (s.ctx c).job with
      | none => Vc.runJobs until_ cs s cur
      | some j =>
        let cur := cur + (if j.ready.isSome then 16 else 8)
        let ready := some (j.ready.getD (cur : Int))
        let (cur', left) := runPhases until_ cur j.left
        let s := s.setCtx c { s.ctx c with job := some { j with ready := ready, left := left } }
        if left.isEmpty && decide (cur' ≤ until_) then Vc.runJobs until_ cs (s.commitStep c cur') cur'
        else (s, cur', c :: cs)

/-- The steps left at a facet commit are timed from that commit on, `tp` ns after the one before. -/
def Vc.shiftReady (s : Vc) (tp c : Nat) : Vc :=
  match (s.ctx c).job with
  | some j => s.setCtx c { s.ctx c with job := some { j with ready := j.ready.map (· - (tp : Int)) } }
  | none => s

/-- A step whose last phase was under way at the facet commit reaches its Commit when that phase ends (R82). -/
def Vc.lateCommit (s : Vc) : Vc :=
  match s.lens.queue with
  | [] => s
  | c :: cs =>
    match (s.ctx c).job with
    | some j =>
      if j.left.isEmpty then ({ s with lens := { s.lens with queue := cs } }).commitStep c s.lens.carry else s
    | none => s

/-- Lens in tick k, at the facet commit (R68, R82): late steps are abandoned, inputs taken, critical steps run, background
steps run in the time left. A critical step that has not committed by the facet commit that comes is suspended as a background
step is, and steps left over run before those newly due: the spec gives neither (DESIGN CHOICE, log 109). -/
def Vc.lensTick (s : Vc) (k : Nat) : Vc :=
  let dueAll := (List.range 16).filter fun c => s.ctxDue c k
  let due := dueAll.filter s.ctxRuns
  let s := due.foldl Vc.lateStep s
  let due := due.filter s.ctxRuns
  let waits (s : Vc) (c : Nat) : Bool := s.critical c && !s.waitMet c
  let unmet := (due.filter (waits s)).length
  let v := due.foldl (fun s c => s.handShift c k) s
  let s := due.foldl (fun s c => s.takeStep v c k) v
  let s := (s.keepTotals dueAll).lateCommit
  let crit := due.filter fun c => s.critical c && (s.ctx c).job.isSome
  let tp := s.rd GLOBAL.TICKCFG.TP_NS
  let (s, cur, late) := Vc.runJobs tp crit s (8 * unmet)
  let s := s.wr LENS.CRITLOAD.LAST_NS (sat 16 cur)
  let s := s.wr LENS.CRITLOAD.MAX_NS (max (sat 16 cur) (s.rd LENS.CRITLOAD.MAX_NS))
  let back := due.filter fun c => !s.critical c && (s.ctx c).job.isSome
  let (s, cur', left) := Vc.runJobs tp (late ++ s.lens.queue ++ back) s (max cur s.lens.carry)
  let s := left.foldl (fun s c => s.shiftReady tp c) s
  { s with lens := { s.lens with queue := left, carry := cur' - tp, crit := cur } }.refreshLoad

/-- The block requests that join this tick's vote: those raised before Prism ends (R94, log 37); the others wait. -/
def Vc.takeBlockReqs (s : Vc) : Vc × List Nat :=
  let lim := 200 + (s.lens.crit - 128)
  let now := s.lens.reqs.filter fun r => r.2 ≤ lim
  ({ s with lens := { s.lens with reqs := (s.lens.reqs.filter fun r => lim < r.2).map fun r => (r.1, 0) } }, now.map (·.1))

/-! ### Coefficients from and to the host (R87, R88) -/

/-- A 32-bit word list of bytes is all finite binary32. -/
def allFinite (ws : List Nat) : Bool := ws.all F32.isFinite

/-- The status of a COEF_LOAD (R88); `buf` is its buffer as it was read. -/
def Vc.coefStatus (s : Vc) (d : Desc) (buf : HostBuf) : Nat :=
  let w4 := d.word 4
  let w5 := d.word 5
  let dir := bit w4 31
  let bank := bits w4 12 12
  let m := bits w4 11 8
  let c := bits w4 3 0
  let nc := bits w5 29 24
  let nr := bits w5 21 16
  let c0 := bits w5 13 8
  let r0 := bits w5 5 0
  let len := d.word 8
  let st := s.rd CTX.STATUS.STATE c
  let rest := (List.range 6).any fun k => d.word (10 + k) ≠ 0
  let resv := bits w4 30 13 ≠ 0 ∨ bits w4 7 4 ≠ 0 ∨ bits w5 31 30 ≠ 0 ∨ bits w5 23 22 ≠ 0 ∨ bits w5 15 14 ≠ 0 ∨ bits w5 7 6 ≠ 0
  if 11 < m ∨ resv ∨ rest ∨ nr = 0 ∨ nc = 0 ∨ nr = 63 ∨ nc = 63 ∨ (dir ∧ d.word 9 ≠ 0) ∨ bufFault (d.word 6) (d.word 7) len = 1 then 1
  else if (coefSize m).1 < r0 + nr ∨ (coefSize m).2 < c0 + nc ∨ len ≠ nr * nc * 4 then 2
  else if !dir ∧ (if 10 ≤ m then st ≠ 0 else
      (st ≠ 0 ∧ s.rd CTX.STATUS.BANK c = bank) ∨ (s.on SUP.STAT.SWAP_PEND c ∧ s.rd SUP.STAT.PEND_BANK c = bank)) then 5
  else if dir then 0
  else
    match bufBytes buf len with
    | none => 8
    | some bs => if crc32c bs ≠ d.word 9 then 3 else if allFinite (wordsOf bs) then 0 else 1

/-- The (row, column) pairs of a sub-block in row-major order. -/
def subBlock (w5 : Nat) : List (Nat × Nat) :=
  (List.range (bits w5 21 16)).flatMap fun i => (List.range (bits w5 29 24)).map fun j => (bits w5 5 0 + i, bits w5 13 8 + j)

/-- The entries that a COEF_LOAD names, as keys of the context's coefficients; X0 and XI0 stand under bank 0 (R86). -/
def Desc.coefKeys (d : Desc) : List Nat :=
  let m := bits (d.word 4) 11 8
  (subBlock (d.word 5)).map fun ij => coefKey (if 10 ≤ m then 0 else bits (d.word 4) 12 12) m ij.1 ij.2

/-- The sub-block read back from the reference die into the host's buffer (R88). -/
def Vc.coefRead (s : Vc) (d : Desc) (buf : HostBuf) : Vc :=
  match buf with
  | .failed => s.finish d.id 8
  | .bytes _ =>
    let x := s.ctx (bits (d.word 4) 3 0)
    s.writeBuf d (bufAddr (d.word 6) (d.word 7)) (bytesOfWords (d.coefKeys.map fun k => Tab.get (fun _ => 0) x.coef k)) 0

/-- COEF_LOAD with DIR `dir`: a load takes effect at the next tick boundary, its status with it (R37, R88); a read back changes
nothing in a die and is done at once. -/
def Vc.coefLoad (s : Vc) (id : Nat) (dir : Bool) (buf : HostBuf) : Vc :=
  s.withDesc id 2 fun s d =>
    if bit (d.word 4) 31 ≠ dir then s
    else if !dir then s.holdDesc id buf
    else if s.coefStatus d buf ≠ 0 then s.finish id (s.coefStatus d buf)
    else s.coefRead d buf

/-- COEF_LOAD with DIR 0 at its tick boundary: its status, and the sub-block written (R88). -/
def Vc.coefNow (s : Vc) (d : Desc) (buf : HostBuf) : Vc :=
  let st := s.coefStatus d buf
  if st ≠ 0 then s.finish d.id st
  else
    let c := bits (d.word 4) 3 0
    let ws := wordsOf ((bufBytes buf (d.word 8)).getD [])
    let x := s.ctx c
    (s.setCtx c { x with coef := (d.coefKeys.zip ws).foldl (fun t kv => Tab.set (fun _ => 0) t kv.1 kv.2) x.coef }).finish d.id 0

/-! ### COEF_SWAP (R100, R101) -/

/-- The status with which a COEF_SWAP ends when it takes effect, at the present tick, 0 when it is accepted and waits. -/
def Vc.swapStatus (s : Vc) (d : Desc) : Nat :=
  let w4 := d.word 4
  let pol := bits w4 31 30
  let wh := bit w4 29
  let bank := bits w4 12 12
  let c := bits w4 3 0
  let at_ := d.word 5 + d.word 6 * 4294967296
  let rest := (List.range 9).any fun k => d.word (7 + k) ≠ 0
  if pol = 3 ∨ bits w4 28 13 ≠ 0 ∨ bits w4 11 4 ≠ 0 ∨ rest ∨ (!wh ∧ at_ ≠ 0) then 1
  else if wh ∧ (at_ ≤ s.tickNo ∨ !s.ctxDue c at_) then 1
  else if pol = 1 ∧ s.rd CTX.CFG0.NI c ≠ 0 ∧ !(s.ctx c).paired bank (s.ous c) then 1
  else if !s.ctxRuns c then 4
  else if s.rd CTX.STATUS.BANK c = bank ∨ s.on SUP.STAT.SWAP_PEND c then 5
  else 0

/-- COEF_SWAP takes effect at the next tick boundary (R100). -/
def Vc.coefSwap (s : Vc) (id : Nat) : Vc := s.withDesc id 3 fun s _ => s.holdDesc id .failed

/-- COEF_SWAP is checked as it takes effect, and a swap accepted is pending (R101). -/
def Vc.swapNow (s : Vc) (d : Desc) : Vc :=
  let st := s.swapStatus d
  if st ≠ 0 then s.finish d.id st
  else
    let c := bits (d.word 4) 3 0
    let s := s.set1 SUP.STAT.SWAP_PEND c
    let s := s.wr SUP.STAT.PEND_BANK (bits (d.word 4) 12 12) c
    let s := s.wr SUP.STAT.PEND_POLICY (bits (d.word 4) 31 30) c
    s.wait d.id

/-! ### Set-points and Lens configuration writes (R74, R89, R105, R169) -/

/-- A host write of LENS.SETPT[n]: refused while items own the set-point (R169). -/
def Vc.setPoint (s : Vc) (n w : Nat) : Vc :=
  if bit (s.rd SCHED.SETPT_OWN.OWN (n / 32)) (n % 32) then s.badWrite 3 (0x30100 + 4 * n)
  else s.wr LENS.SETPT.VALUE w n

/-- LENS.CTRL.CLR_LOAD. -/
def Vc.clrLoad (s : Vc) (w : Nat) : Vc := if bit w 0 then s.wr LENS.CRITLOAD.MAX_NS 0 else s

/-! ### Sampled values (R70, R71) -/

/-- smpCnt continues: one more than the last, or 0 after the last of a second (log 38). -/
def smpNext (rate last n : Nat) : Bool := n = (last + 1) % 65536 || (n = 0 && last + 1 = rate)

/-- One ASDU taken by a subscription (R71). -/
def Vc.takeAsdu (s : Vc) (v : Nat) (a : Asdu) : Vc :=
  let old := Tab.get (fun _ => ({} : SvSt)) s.lens.svs v
  let n := a.smpCnt.toNat
  let s := if old.at_.isSome && !smpNext (s.svRate v) (s.rd SVSUB.SVSTAT.LAST_SMPCNT v) n then s.count SVSUB.SVGAPS.COUNT v else s
  let s := s.wr SVSUB.SVSTAT.LAST_SMPCNT n v
  let s := s.wr SVSUB.SVSTAT.SYNCH (b2n (a.smpSynch ≠ 0)) v
  let x : SvSt := ⟨a.vals.map fun p => (p.1.toNat, p.2), some s.now⟩
  { s with lens := { s.lens with svs := Tab.set (fun _ => {}) s.lens.svs v x } }

/-- A frame's ASDU list and pairs are within what the VC supports (R70). -/
def svSupported (f : SvFrame) : Bool :=
  f.etype = 0x88BA#16 && decide (f.tags ≤ 1) && decide (1 ≤ f.asdus.length) && decide (f.asdus.length ≤ 8) &&
    (f.asdus.all fun a => decide (a.vals.length ≤ 16)) && !f.sim

/-- A subscription matches a frame's port, MAC and APPID (R70). -/
def Vc.svMatches (s : Vc) (v : Nat) (f : SvFrame) : Bool :=
  s.on SVSUB.CTL.ENABLE v && s.rd SVSUB.CTL.PORT v = b2n f.port && s.rd SVSUB.CTL.APPID v = f.appid.toNat &&
    s.rd SVSUB.DMAC_LO.DMAC_LO v + s.rd SVSUB.DMAC_HI.DMAC_HI v * 4294967296 = f.dmac.toNat

/-- A sampled-value frame (R70, R71): every matching subscription takes its ASDUs, or sets REJECTED. R70 speaks of a frame's svID
and confRev, and each ASDU holds its own: the model judges ASDU by ASDU, and one that does not match sets REJECTED whatever the
others do (DESIGN CHOICE, log 38). -/
def Vc.svFrame (s : Vc) (f : SvFrame) : Vc :=
  let s := { s with time := s.time.heard f.port }
  if !svSupported f then s
  else forN 8 s fun s v =>
    if s.svMatches v f then
      f.asdus.foldl (fun s a =>
        if crc32c (a.svId.map BitVec.toNat) = s.rd SVSUB.SVID_CRC.SVID_CRC v ∧ a.confRev.toNat = s.rd SVSUB.CONFREV.CONFREV v
        then s.takeAsdu v a
        else s.set1 SVSUB.SVSTAT.REJECTED v) s
    else s

end Sys2Proof.Machine
end

