-- ==== Sys2Proof/Machine/Time.lean ====
section
/-!
DEFINITION. Machine/Time.lean: valve time, the tick grid, and the PTP servo (R269 to R278).
-/
namespace Sys2Proof.Machine
open Reg

/-! ### The tick grid (R270) -/

/-- The next tick instant: the first grid value of VT not before now, and after the last tick (log 39). -/
def Vc.nextTickVt (s : Vc) : Nat :=
  let tq := s.tq
  let ofs := match s.casc.tickOfs with
    | some o => o % tq
    | none => s.rd TIME.TICKOFS.OFS % tq
  let base := match s.time.tickVt with
    | some t => max s.vt (t + 1)
    | none => s.vt
  base + (ofs + tq - base % tq) % tq

/-- Valve time runs to the next tick instant, and the tick is counted (R60, R270). -/
def Vc.toTick (s : Vc) : Vc :=
  let t := s.nextTickVt
  let no := s.nextTickNo
  let s := { s with
    now := s.now + (t - s.vt), vt := t % 18446744073709551616, frac := 0, out := [], ticks := s.ticks + 1
    time := { s.time with tickVt := some t } }
  s.wr LENS.TICKNO.TICKNO no

/-! ### Arithmetic of the servo -/

/-- A quotient rounded to the nearest integer, ties to even. -/
def rnDiv (num : Int) (den : Nat) : Int :=
  let q := num / den
  let r := num - q * den
  if 2 * r < den then q else if (den : Int) < 2 * r then q + 1 else if q % 2 = 0 then q else q + 1

/-- 2^-18 ns in one ns, and in one VT unit. -/
def uNs : Nat := 262144
def uVt : Nat := 65536

/-- 200 ppm in units of 2^-48 (R274). -/
def rateMax : Int := 56294995342

def Vc.rate (s : Vc) : Int := signed 64 (s.rd TIME.RATE.RATE)

/-- The servo's state (TIME.STATUS.STATE): 0 FREE, 1 LISTEN, 2 STEP_WAIT, 3 TRACK, 4 HOLDOVER, 5 REFUSED, 6 CASCADE. -/
def Vc.servo (s : Vc) : Nat := s.rd TIME.STATUS.STATE

/-- A step may be applied now, but for STEP_ARM (R275, R278). -/
def Vc.stepFree (s : Vc) : Bool := s.rd CASCADE.STATUS.STATE = 0 && (List.range 48).all fun n => !s.strRuns n

/-- One of the events of R277: its flag, its record, its interrupt. -/
def Vc.timeEvent (s : Vc) (f : Fld) (b : Nat) : Vc :=
  let s := s.set1 f
  (s.event [opRec (0x0900 + b) 3 2 s.vcId (s.word 0x100018)]).irq 4

/-- The servo takes a state; LOCKED falls on leaving TRACK, and I is the present RATE on entry to it (R274). -/
def Vc.servoTo (s : Vc) (st : Nat) : Vc :=
  let s := s.wr TIME.STATUS.STATE st
  let s := { s with time := { s.time with lockRun := 0 } }
  if st = 3 then { s with time := { s.time with integral := s.rate } } else s.wr TIME.STATUS.LOCKED 0

/-- VT moves to a new value: the ticks go on from it, and the timestamps taken before it move with it (log 86). -/
def Vc.moveVt (s : Vc) (vt : Nat) : Vc :=
  let d : Int := ((vt : Int) - s.vt) * uVt
  { s with
    vt := vt, frac := 0
    time := { s.time with
      tickVt := some vt
      syncPend := s.time.syncPend.map fun p => (p.1, ((p.2.1 : Int) + d).toNat, p.2.2)
      pdOut := s.time.pdOut.map fun p => (p.1, p.2.1 + d, p.2.2)
      pdResp := s.time.pdResp.map fun p => (p.1 + d, p.2) } }

/-- The step: VT moves so that the next offset is 0, and one record holds the offset removed (R275, R277). -/
def Vc.stepVt (s : Vc) (o : Int) : Vc :=
  let s := s.moveVt (unsigned 64 ((s.vt : Int) - rnDiv o uVt))
  let s := s.wr TIME.STATUS.STEP_ARM 0
  let s := s.set1 TIME.ERRSTAT.STEP_DONE
  let s := (s.event [opRec 0x0900 3 2 s.vcId (satSigned 32 (rnDiv o uNs))]).irq 4
  s.servoTo 3

/-- A qualified Sync with offset `o`, as from LISTEN (R276). -/
def Vc.asListen (s : Vc) (o : Int) : Vc :=
  if s.on TIME.STATUS.STEP_ARM then
    if s.stepFree then s.stepVt o
    else
      let s := (s.set1 TIME.ERRSTAT.STEP_HELD).servoTo 2
      { s with time := { s.time with stepDue := o } }
  else if o.natAbs ≤ s.rd TIME.STEPGUARD.NS * uNs then s.servoTo 3
  else
    let s := s.wr TIME.REFUSED_NS.REFUSED_NS (satSigned 32 (rnDiv o uNs))
    (s.servoTo 5).timeEvent TIME.ERRSTAT.JUMP_REFUSED 2

/-- The rate of R274 and LOCKED, after a Sync in TRACK; `dt` is the master interval since the previous one. -/
def Vc.steer (s : Vc) (o dt : Int) : Vc :=
  let lim : Bool := o.natAbs ≤ s.rd TIME.LOCKCFG.LOCK_NS * uNs
  let run := if lim then s.time.lockRun + 1 else 0
  let s := { s with time := { s.time with lockRun := run } }
  let s := if lim then (if 8 ≤ run then s.set1 TIME.STATUS.LOCKED else s) else s.wr TIME.STATUS.LOCKED 0
  if dt ≤ 0 then s
  else
    let part (k : Nat) : Int := rnDiv (o * 281474976710656) (dt.toNat * 2 ^ k)
    let i := s.time.integral - part (s.rd TIME.CFG.KI)
    let r := i - part (s.rd TIME.CFG.KP)
    let c := min (max r (-rateMax)) rateMax
    let s := { s with time := { s.time with integral := i } }
    let s := s.wr TIME.RATE.RATE (unsigned 64 c)
    if c ≠ r then s.set1 TIME.ERRSTAT.RATE_LIMIT else s

/-- An offset above LOCK_NS ends LOCKED, and the run of Syncs within it (R274). -/
def Vc.lockEnd (s : Vc) (o : Int) : Vc :=
  if o.natAbs ≤ s.rd TIME.LOCKCFG.LOCK_NS * uNs then s
  else { s with time := { s.time with lockRun := 0 } }.wr TIME.STATUS.LOCKED 0

/-- A Sync used, with its offset and its master time (R274 to R276). -/
def Vc.useSync (s : Vc) (o master : Int) : Vc :=
  let s := s.lockEnd o
  let dt := match s.time.prevTime with
    | some p => master - p
    | none => 0
  let s := { s with time := { s.time with prevTime := some master } }
  let s := s.wr TIME.OFFSET.OFFSET (satSigned 32 (rnDiv o uNs))
  let s := s.count TPORT.SYNCCNT.SYNCCNT (s.rd TIME.CFG.PORT)
  let st := s.servo
  if st = 2 then { s with time := { s.time with stepDue := o } }
  else if st = 1 ∨ st = 4 ∨ (st = 3 ∧ s.on TIME.STATUS.STEP_ARM) then s.asListen o
  else if st = 3 then
    if o.natAbs ≤ s.rd TIME.STEPGUARD.NS * uNs then s.steer o dt
    else
      let s := s.wr TIME.REFUSED_NS.REFUSED_NS (satSigned 32 (rnDiv o uNs))
      (s.servoTo 5).timeEvent TIME.ERRSTAT.JUMP_REFUSED 2
  else if st = 5 ∧ o.natAbs ≤ s.rd TIME.STEPGUARD.NS * uNs then s.servoTo 3
  else s

/-! ### PTP messages (R272, R273) -/

/-- A message is for this clock: PTP follows it on the port and in the domain configured, in no state but FREE or CASCADE. -/
def Vc.ptpTakes (s : Vc) (m : PtpMsg) : Bool :=
  s.on TIME.CFG.PTP_EN && s.servo ≠ 6 && b2n m.port = s.rd TIME.CFG.PORT && decide (m.tags ≤ 1) &&
    m.domain.toNat = s.rd TIME.CFG.DOMAIN

/-- The ingress timestamp of a message, in 2^-18 ns (R273). -/
def Vc.ingress (s : Vc) (m : PtpMsg) : Int :=
  (((s.vt : Int) - m.ago) + rnDiv (-(signed 32 (s.rd TPORT.ING_PS.ING_PS (b2n m.port)))) 250) * uVt

/-- The egress timestamp of a message sent now on a port, in VT units (R273). -/
def Vc.egress (s : Vc) (p : Nat) : Int := (s.vt : Int) + rnDiv (signed 32 (s.rd TPORT.EG_PS.EG_PS p)) 250

/-- A PTP timestamp, and a correctionField, in 2^-18 ns. -/
def ptpTime (m : PtpMsg) : Int := (((m.sec.toNat * 1000000000 + m.ns.toNat) * uNs : Nat) : Int)
def ptpCorr (m : PtpMsg) : Int := m.corr.toInt * 4

/-- A foreign master has been silent for ANN_TO of its intervals (R276). -/
def Vc.annLate (s : Vc) (f : Foreign) : Bool := decide (f.last + s.rd TIME.CFG.ANN_TO * f.every ≤ s.now)

/-- The message comes from the selected master, whose Announces have not stopped (R276). -/
def Vc.fromMaster (s : Vc) (m : PtpMsg) : Bool :=
  match s.time.master with
  | some (c, p, _) => c = m.clock.toNat && p = m.portNo.toNat &&
      s.time.foreign.any fun f => f.clock = c && f.portNo = p && !s.annLate f
  | none => false

/-- A frame on a port shows that its link is up (log 48). -/
def Vc.heard (s : Vc) (p : Bool) : Vc := { s with time := s.time.heard p }

/-- 250 ps units of a logMessageInterval. -/
def interval (i : Byte) : Nat :=
  let k := i.toInt
  if 0 ≤ k then 4000000000 * 2 ^ k.toNat else 4000000000 / 2 ^ (-k).toNat

/-- The offset of a complete Sync is formed and used, when its master is qualified (R274, R276). -/
def Vc.syncComplete1588 (s : Vc) (rx : Int) (master : Int) : Vc :=
  if s.on TPORT.PSTAT.PDV (s.rd TIME.CFG.PORT) then s.useSync (rx - (master + s.time.mld (s.rd TIME.CFG.PORT))) master else s

/-- PTP_SYNC: a Sync from the selected master (R272, R274). -/
def Vc.ptpSync (s : Vc) (m : PtpMsg) : Vc :=
  let s := s.heard m.port
  let k := m.interval.toInt
  if !s.ptpTakes m || !s.fromMaster m || decide (k < -3) || decide (0 < k) then s
  else
    let s := { s with time := { s.time with lastSync := s.now, syncEvery := interval m.interval, syncPend := none } }
    if m.twoStep then
      { s with time := { s.time with syncPend := some (m.seq.toNat, (s.ingress m).toNat, ptpCorr m) } }
    else s.syncComplete1588 (s.ingress m) (ptpTime m + ptpCorr m)

/-- PTP_FOLLOW_UP: completes a two-step Sync. -/
def Vc.ptpFollowUp (s : Vc) (m : PtpMsg) : Vc :=
  let s := s.heard m.port
  match s.time.syncPend with
  | some (q, rx, corr) =>
    if s.ptpTakes m && s.fromMaster m && q = m.seq.toNat then
      let s := { s with time := { s.time with syncPend := none } }
      s.syncComplete1588 rx (ptpTime m + ptpCorr m + corr)
    else s
  | none => s

/-- What the BMCA of IEEE 1588-2019 compares, the best master first: a single number, smaller for the better (log 40). -/
def Foreign.rank (f : Foreign) : Nat :=
  [(f.gm.cls.toNat, 256), (f.gm.acc.toNat, 256), (f.gm.var.toNat, 65536), (f.gm.prio2.toNat, 256),
    (f.gm.id.toNat, 18446744073709551616), (f.gm.steps.toNat, 65536), (f.clock, 18446744073709551616),
    (f.portNo, 65536)].foldl (fun a e => a * e.2 + e.1) f.gm.prio1.toNat

/-- A foreign master is qualified: two Announces within four intervals, the last of them within four (R272). -/
def Foreign.qualified (f : Foreign) (now : Nat) : Bool :=
  decide (now ≤ f.last + 4 * f.every) &&
    match f.prev with
    | some p => decide (f.last ≤ p + 4 * f.every)
    | none => false

/-- HOLDOVER is entered: RATE held, the flag, its record and interrupt (R276, R277). -/
def Vc.holdover (s : Vc) (f : Fld) : Vc := ((s.set1 f).servoTo 4).timeEvent TIME.ERRSTAT.HOLDOVER 3

/-- A master the BMCA may select: a qualified one, or the selected one until ANN_TO intervals pass without an Announce
(R272, R276). -/
def Vc.mayLead (s : Vc) (f : Foreign) : Bool :=
  f.qualified s.now ||
    match s.time.master with
    | some (c, p, _) => f.clock = c && f.portNo = p && !s.annLate f
    | none => false

/-- A master is followed: TRACK, STEP_WAIT or REFUSED (R276). -/
def Vc.following (s : Vc) : Bool := s.servo = 2 || s.servo = 3 || s.servo = 5

/-- The BMCA selects the best master; another grandmaster while one is followed is MASTER_CHANGE (R276). -/
def Vc.bmca (s : Vc) : Vc :=
  let best := (s.time.foreign.filter s.mayLead).foldl (fun (b : Option Foreign) f =>
    match b with
    | none => some f
    | some g => if f.rank < g.rank then some f else some g) none
  match best with
  | none => { s with time := { s.time with master := none } }
  | some f =>
    let old := s.time.gm
    let s := { s with time := { s.time with
      master := some (f.clock, f.portNo, f.gm.id.toNat), gm := some f.gm.id.toNat, annAt := f.last, annEvery := f.every } }
    let s := s.wr TIME.GMID.ID f.gm.id.toNat
    let s := s.wr TIME.STATUS.UTC_OFS f.gm.utc.toNat
    let s := s.wr TIME.STATUS.UTC_VALID (b2n f.gm.utcValid)
    match old with
    | some g =>
      if g ≠ f.gm.id.toNat then
        let s := { s with time := { s.time with syncPend := none, prevTime := none } }
        if s.following then s.holdover TIME.ERRSTAT.MASTER_CHANGE else s
      else s
    | none => s

/-- PTP_ANNOUNCE (R272, R276). -/
def Vc.ptpAnnounce (s : Vc) (m : PtpMsg) (g : GmData) : Vc :=
  let s := s.heard m.port
  if !s.ptpTakes m then s
  else
    let mine (f : Foreign) : Bool := f.clock = m.clock.toNat && f.portNo = m.portNo.toNat
    let prev := (s.time.foreign.find? mine).map (·.last)
    let f : Foreign := ⟨m.clock.toNat, m.portNo.toNat, g, s.now, prev, interval m.interval⟩
    { s with time := { s.time with foreign := f :: s.time.foreign.filter fun f => !mine f } }.bmca

/-- PTP_SYNC_TIMEOUT: no Sync within three intervals (R276). -/
def Vc.syncTimeout1588 (s : Vc) : Vc :=
  if s.following ∧ s.time.lastSync + 3 * s.time.syncEvery ≤ s.now then
    s.holdover TIME.ERRSTAT.SYNC_LOSS
  else s

/-- ANNOUNCE_TIMEOUT: no Announce of the master within ANN_TO intervals: it is selected no longer, in any state; one that is
followed is lost, also when none has been selected since (R276). -/
def Vc.announceTimeout (s : Vc) : Vc :=
  match s.time.master with
  | some (c, p, _) =>
    if s.time.foreign.any fun f => f.clock = c && f.portNo = p && s.annLate f then
      let lost := s.following
      let s := { s with time := { s.time with
        master := none, foreign := s.time.foreign.filter fun f => !(f.clock = c && f.portNo = p) } }
      (if lost then s.holdover TIME.ERRSTAT.SYNC_LOSS else s).bmca
    else s
  | none =>
    if s.following && decide (s.time.annAt + s.rd TIME.CFG.ANN_TO * s.time.annEvery ≤ s.now) then s.holdover TIME.ERRSTAT.SYNC_LOSS
    else s

/-! ### Peer delay (R272, R277) -/

/-- PTP runs: enabled, and this VC is no cascade member. -/
def Vc.ptpOn (s : Vc) : Bool := s.on TIME.CFG.PTP_EN && s.servo ≠ 6

/-- PDELAY_TIMEOUT: no valid response within 1 s; three in a row end the validity of meanLinkDelay (R277). -/
def Vc.pdelayTimeout (s : Vc) : Vc :=
  match s.time.pdOut with
  | some (_, _, sent) =>
    if sent + 4000000000 ≤ s.now then
      let n := s.time.pdFails + 1
      let s := { s with time := { s.time with pdOut := none, pdResp := none, pdFails := n } }
      let s := s.set1 TIME.ERRSTAT.PDELAY_FAIL
      if 3 ≤ n then s.wr TPORT.PSTAT.PDV 0 (s.rd TIME.CFG.PORT) else s
    else s
  | none => s

/-- PDELAY_REQ_SEND: an exchange of 1 s ago without its response has failed (R277); a new one begins. -/
def Vc.pdelaySend (s : Vc) : Vc :=
  if s.ptpOn then
    let s := s.pdelayTimeout
    let p := s.rd TIME.CFG.PORT
    let q := (s.time.pdSeq + 1) % 65536
    let t1 := s.egress p
    let s := { s with time := { s.time with pdSeq := q, pdOut := some (q, t1 * uVt, s.now), pdResp := none } }
    s.emit (.ptp p 2 q t1.toNat)
  else s

/-- PDELAY_REQ_RX: a two-step answer, Pdelay_Resp with t2 and Pdelay_Resp_Follow_Up with t3. -/
def Vc.pdelayReqRx (s : Vc) (m : PtpMsg) : Vc :=
  let s := s.heard m.port
  if s.ptpTakes m then
    let p := b2n m.port
    (s.emit (.ptp p 3 m.seq.toNat (s.ingress m / uVt).toNat)).emit (.ptp p 10 m.seq.toNat (s.egress p).toNat)
  else s

/-- A Pdelay exchange is complete: meanLinkDelay, valid. -/
def Vc.pdelayDone (s : Vc) (d2 : Int) : Vc :=
  let p := s.rd TIME.CFG.PORT
  let mld := d2 / 2
  let s := { s with time := { s.time with pdOut := none, pdResp := none, pdFails := 0 }.setMld p mld }
  let s := s.wr TPORT.PDELAY.PDELAY (sat 32 (rnDiv mld uNs).toNat) p
  s.set1 TPORT.PSTAT.PDV p

/-- PDELAY_RESP_RX: a Pdelay_Resp (one-step or two-step), or the Pdelay_Resp_Follow_Up that completes a two-step one; none
counts from 1 s after the request on (R277). -/
def Vc.pdelayResp (s : Vc) (m : PtpMsg) (followUp : Bool) : Vc :=
  let s := s.heard m.port
  match s.time.pdOut with
  | some (q, t1, sent) =>
    if !s.ptpTakes m || !m.mine || m.seq.toNat ≠ q || decide (sent + 4000000000 ≤ s.now) then s
    else if followUp then
      match s.time.pdResp with
      | some (t4, t2, corr) => s.pdelayDone ((t4 - t1) - (ptpTime m - t2) - corr - ptpCorr m)
      | none => s
    else if m.twoStep then { s with time := { s.time with pdResp := some (s.ingress m, ptpTime m, ptpCorr m) } }
    else s.pdelayDone ((s.ingress m - t1) - ptpCorr m)
  | none => s

/-! ### Control (R275, R276, R278, R283) -/

/-- STEP_APPLY: a held step is applied once nothing holds it (R275). -/
def Vc.stepApply (s : Vc) : Vc :=
  if s.servo = 2 ∧ s.on TIME.STATUS.STEP_ARM ∧ s.stepFree then s.stepVt s.time.stepDue else s

/-- Every string is OFF (R283). -/
def Vc.allOff (s : Vc) : Bool := (List.range 48).all fun n => s.rd STRING.STATUS.STATE n = 0

/-- PTP_EN takes effect (R276). -/
def Vc.ptpEnable (s : Vc) (en : Bool) : Vc :=
  if s.servo = 6 then s
  else if en then if s.servo = 0 then s.servoTo 1 else s
  else s.servoTo 0

/-- A write of TIME.CFG (R276, R283). -/
def Vc.timeCfg (s : Vc) (w : Nat) : Vc :=
  let ann := bits w 15 12
  if s.on TIME.CFG.LOCK then s.badWrite 1 0x100000
  else if !s.allOff ∨ ann < 2 ∨ 10 < ann then s.badWrite 3 0x100000
  else
    let en := bit w 30 && !s.on BOOT.ALT.NO_PTP
    let moved : Bool := s.rd TIME.CFG.PORT ≠ bits w 29 29 || s.rd TIME.CFG.DOMAIN ≠ bits w 23 16 || s.on TIME.CFG.PTP_EN ≠ en
    let s := if moved then { s with time := s.time.forget } else s
    let s := if bit w 31 then s.set1 TIME.CFG.LOCK else s
    let s := s.wr TIME.CFG.PORT (bits w 29 29)
    let s := s.wr TIME.CFG.DOMAIN (bits w 23 16)
    let s := s.wr TIME.CFG.ANN_TO ann
    let s := s.wr TIME.CFG.KI (bits w 11 8)
    let s := s.wr TIME.CFG.KP (bits w 7 4)
    (s.wr TIME.CFG.PTP_EN (b2n en)).ptpEnable en

/-- CTRL.REARM (R276). -/
def Vc.rearm (s : Vc) : Vc :=
  let s := s.set1 TIME.STATUS.STEP_ARM
  if s.servo = 5 then s.servoTo 1 else s

/-- A write of TIME.CTRL (R276, R278, R402). -/
def Vc.timeCtrl (s : Vc) (w : Nat) : Vc :=
  let load := bit w 0
  if (load || bit w 1) && bits w 31 16 ≠ 0xD25A then s.badWrite 3 0x100010
  else if load && !(s.servo = 0 && s.stepFree) then s.badWrite 3 0x100010
  else
    let s := if load then s.moveVt (s.rd TIME.SETVT.SETVT) else s
    if bit w 1 then s.rearm else s

/-- A write of a word of TIME.RATE (R9, R278): refused outside FREE. A low word waits for its high word (log 48), which
completes the value: beyond ±R_MAX it is refused, and the low word with it. -/
def Vc.rateWrite (s : Vc) (high : Bool) (w : Nat) (addr : Nat) : Vc :=
  if s.servo ≠ 0 then s.badWrite 3 addr
  else if !high then { s with time := { s.time with rateLow := some (w % 4294967296) } }
  else
    let v := (w % 4294967296) * 4294967296 + s.time.rateLow.getD (s.rd TIME.RATE.RATE % 4294967296)
    let s := { s with time := { s.time with rateLow := none } }
    if rateMax < signed 64 v ∨ signed 64 v < -rateMax then s.badWrite 3 addr else s.wr TIME.RATE.RATE v

end Sys2Proof.Machine
end

