-- ==== Sys2Proof/Machine/Sched.lean ====
section
/-!
DEFINITION. Machine/Sched.lean: the work scheduler: items, the commit, dispatch and pre-emption, deadlines, cancellation
(R154 to R170).
-/
namespace Sys2Proof.Machine
open Reg

def Vc.itemSt (s : Vc) (j : Nat) : ItemSt := Tab.get (fun _ => {}) s.sched.items j
def Vc.setItem (s : Vc) (j : Nat) (x : ItemSt) : Vc :=
  { s with sched := { s.sched with items := Tab.set (fun _ => {}) s.sched.items j x } }
def Vc.run? (s : Vc) (n : Nat) : Option Run := Tab.get (fun _ => none) s.sched.runs n
def Vc.setRun (s : Vc) (n : Nat) (r : Option Run) : Vc :=
  { s with sched := { s.sched with runs := Tab.set (fun _ => none) s.sched.runs n r } }

def Vc.hart (s : Vc) (n : Nat) : Hart := Tab.get (fun _ => {}) s.sched.harts n
def Vc.setHart (s : Vc) (n : Nat) (h : Hart) : Vc :=
  { s with sched := { s.sched with harts := Tab.set (fun _ => {}) s.sched.harts n h } }

/-- ITEM[j].STATE: 0 FREE, 1 ARMED, 2 READY, 3 RUNNING, 4 PREEMPTED, 5 DONE, 6 CANCELLED, 7 FAULTED. -/
def Vc.itemState (s : Vc) (j : Nat) : Nat := s.rd ITEM.W7.STATE j
def Vc.setItemState (s : Vc) (j st : Nat) : Vc := s.wr ITEM.W7.STATE st j

/-- The item is in none of the states in which it is in use (R157). -/
def Vc.itemIdle (s : Vc) (j : Nat) : Bool := s.itemState j = 0 || decide (5 ≤ s.itemState j)

/-- The valid successors of an item, each with its policy (R164). -/
def Vc.succs (s : Vc) (j : Nat) : List (Nat × Nat) :=
  ((List.range 4).filter fun k => bit (s.rd ITEM.W7.SVALID j) k).map fun k =>
    (bits (s.rd ITEM.SUCC.SUCC j) (8 * k + 7) (8 * k), bits (s.rd ITEM.W7.SPOL j) (2 * k + 1) (2 * k))

/-- The address lies in a TCM (R155). -/
def inTcm (a : Nat) : Bool := decide (a < 0x20000) || (decide (0x10000000 ≤ a) && decide (a < 0x10100000))

/-- The entry checks of ARM (R157). -/
def Vc.entryOk (s : Vc) (j : Nat) : Bool :=
  let n := s.rd ITEM.W5.INIT_COUNT j
  let e := s.rd ITEM.ENTRY.ENTRY j
  n ≠ 0xFF && !(s.on ITEM.W5.RELOAD j && n = 0) && e % 2 = 0 && inTcm e && s.rd ITEM.W5.DL_ACT j ≠ 3 &&
    (s.succs j).all (fun p => p.1 ≠ j && p.2 ≠ 3) &&
    !(s.on ITEM.W5.DL_REL j && decide (4294967296 ≤ s.rd ITEM.DEADLINE.DEADLINE j))

/-- The result of a host ITEMCTL (R170). -/
def Vc.ctlResult (s : Vc) (host : Bool) (j r : Nat) : Vc :=
  if host then (s.wr SCHED.CTLSTAT.RESULT r).wr SCHED.CTLSTAT.ITEM j else s

/-- ARM of an item at its tick boundary (R157). -/
def Vc.itemArm (s : Vc) (j : Nat) (host : Bool) : Vc :=
  if !s.itemIdle j then s.ctlResult host j 2
  else if !s.entryOk j then s.ctlResult host j 4
  else
    let dl := s.rd ITEM.DEADLINE.DEADLINE j
    let s := s.setItem j { s.itemSt j with deadline := if s.on ITEM.W5.DL_REL j ∨ dl = 0 then none else some dl, checked := false }
    let s := s.wr ITEM.W5.COUNT (s.rd ITEM.W5.INIT_COUNT j) j
    (s.setItemState j 1).ctlResult host j 1

/-- FREE of an item at its tick boundary (R157). -/
def Vc.itemFree (s : Vc) (j : Nat) (host : Bool) : Vc :=
  if 5 ≤ s.itemState j then (s.setItemState j 0).ctlResult host j 1 else s.ctlResult host j 2

/-- CANCEL of an item at its tick boundary: for step 3 of its commit (R158, R164). -/
def Vc.itemCancel (s : Vc) (j : Nat) (host : Bool) : Vc :=
  { s with sched := { s.sched with cancels := s.sched.cancels ++ [(j, host)] } }

/-- CTLSTAT is that of the last host ITEMCTL: an earlier one that has yet to take effect reports nothing there (R170). -/
def Vc.ctlOver (s : Vc) : Vc := { s with sched := { s.sched with cancels := s.sched.cancels.map fun c => (c.1, false) } }

/-- A write of ITEMCTL by the host, at its tick boundary (R170). -/
def Vc.itemCtl (s : Vc) (w : Nat) : Vc :=
  let j := bits w 7 0
  let s := if bits w 31 28 = 1 ∨ bits w 31 28 = 2 ∨ bits w 31 28 = 3 then s.ctlOver else s
  match bits w 31 28 with
  | 1 => s.itemArm j true
  | 2 => s.itemCancel j true
  | 3 => s.itemFree j true
  | _ => s.badWrite 3 0x60008

/-! ### Dispatch and pre-emption (R160, R161) -/

/-- Dispatch order as one number, smaller first (R160). -/
def Vc.dispatchKey (s : Vc) (j : Nat) : Nat :=
  let dl := (s.itemSt j).deadline.getD 18446744073709551616
  (((15 - s.rd ITEM.W5.URGENCY j) * 2 + (if s.itemState j = 4 then 0 else 1)) * 36893488147419103232 + dl) * 256 + j

/-- The first item in dispatch order among READY and PREEMPTED ones. -/
def Vc.firstItem (s : Vc) : Option Nat :=
  ((List.range 256).filter fun j => s.itemState j = 2 || s.itemState j = 4).foldl (fun (b : Option Nat) j =>
    match b with
    | none => some j
    | some i => if s.dispatchKey j < s.dispatchKey i then some j else some i) none

/-- The address of the scheduler's exit (R156): even, as every address that a return can reach. -/
def schedExit : Nat := Config.schedExit.toNat / 2 * 2

/-- The core as an item starts on it: at ENTRY with a0 = ARG, sp = STACK and ra the scheduler's exit (R156); a PREEMPTED item finds
the state of its save frame (R161). -/
def Vc.coreStart (s : Vc) (n j : Nat) : Hart :=
  match s.sched.frames.find? fun f => f.item = j with
  | some f => { s.hart n with x := f.x, f := f.f, fcsr := f.fcsr, pc := f.pc }
  | none =>
    ((({ s.hart n with pc := s.rd ITEM.ENTRY.ENTRY j }.setReg 10 (s.rd ITEM.ARG.ARG j)).setReg 2 (s.rd ITEM.STACK.STACK j)).setReg 1
      schedExit)

/-- The save frame of an item is freed: it resumes, or is cancelled (R161, R164). -/
def Vc.freeFrame (s : Vc) (j : Nat) : Vc :=
  { s with sched := { s.sched with frames := s.sched.frames.filter fun f => f.item ≠ j } }

/-- An item starts or resumes on a core; `swap` is the longest time of a save before it, and a restore takes 32 ns at most (R160,
R161). -/
def Vc.startRun (s : Vc) (n j : Nat) (swap : Nat := 0) : Vc :=
  let restore := if s.itemState j = 4 then 128 else 0
  let s := (s.setHart n (s.coreStart n j)).freeFrame j
  (s.setRun n (some ⟨j, s.now, max swap restore⟩)).setItemState j 3

/-- The state of a running item is stored in a save frame (R161). -/
def Vc.saveFrame (s : Vc) (n j : Nat) : Vc :=
  let h := s.hart n
  { s with sched := { s.sched with frames := s.sched.frames ++ [⟨j, h.x, h.f, h.fcsr, h.pc⟩] } }

/-- Idle cores, lowest first, take items in dispatch order (R160). -/
def Vc.dispatch (s : Vc) : Vc :=
  forN 8 s fun s n =>
    match s.run? n with
    | some _ => s
    | none =>
      match s.firstItem with
      | some j => s.startRun n j
      | none => s

/-- The running item to pre-empt (R161): least urgent, then latest started, then on the highest core. -/
def Vc.victim (s : Vc) : Option (Nat × Run) :=
  (List.range 8).foldl (fun (b : Option (Nat × Run)) n =>
    match s.run? n with
    | some r =>
      if s.on ITEM.W5.NOPREEMPT r.item then b
      else
        match b with
        | none => some (n, r)
        | some (_, q) =>
          let u := s.rd ITEM.W5.URGENCY r.item
          let v := s.rd ITEM.W5.URGENCY q.item
          if u < v ∨ (u = v ∧ q.since ≤ r.since) then some (n, r) else b
    | none => b) none

/-- Save frames in use (R161). -/
def Vc.framesUsed (s : Vc) : Nat := s.rd SCHED.STATUS.FRAMES

/-- One pre-emption, if the rule of R161 calls for it. -/
def Vc.preemptOnce (s : Vc) : Vc :=
  match s.firstItem with
  | none => s
  | some j =>
    if s.itemState j ≠ 2 ∨ (List.range 8).any (fun n => (s.run? n).isNone) then s
    else
      match s.victim with
      | none => s
      | some (n, r) =>
        let m := s.rd SCHED.CFG.PREEMPT_MARGIN
        if m = 0 ∨ s.rd ITEM.W5.URGENCY j < s.rd ITEM.W5.URGENCY r.item + m then s
        else if 16 ≤ ((List.range 256).filter fun k => s.itemState k = 4).length then s.set1 SCHED.ERRSTAT.NO_FRAME
        else (((s.saveFrame n r.item).setItemState r.item 4).count SCHED.PREEMPTCNT.COUNT).startRun n j 160

/-! ### Cancellation (R164) -/

/-- A decrease reaches an item (R158). -/
def Vc.decrease (s : Vc) (j : Nat) : Vc :=
  match s.itemState j with
  | 1 => s.wr ITEM.W5.COUNT (s.rd ITEM.W5.COUNT j - 1) j
  | 6 => s
  | 7 => s
  | _ => s.set1 SCHED.ERRSTAT.STRAY_DEC

/-- The item no longer runs, waits or writes: its core, its save frame, its notices, its buffered set-points. -/
def Vc.dropItem (s : Vc) (j : Nat) : Vc :=
  let s := forN 8 s fun s n =>
    match s.run? n with
    | some r => if r.item = j then s.setRun n none else s
    | none => s
  let s := s.freeFrame j
  { s with sched := { s.sched with
      notices := s.sched.notices.filter fun x => x.item ≠ j
      setBuf := s.sched.setBuf.filter fun x => x.1 ≠ j } }

/-- The successors of a cancelled or faulted item under their policies: those cancelled in the next wave. -/
def Vc.succPolicies (s : Vc) (j : Nat) : Vc × List Nat :=
  (s.succs j).foldl (fun (p : Vc × List Nat) e =>
    match e.2 with
    | 1 => (p.1.decrease e.1, p.2)
    | 2 => (p.1, p.2 ++ [e.1])
    | _ => p) (s, [])

/-- One cancellation or fault of a wave: (item, a trap, requested by the host). -/
def Vc.cancelOne (p : Vc × List Nat) (e : Nat × Bool × Bool) : Vc × List Nat :=
  let s := p.1
  let j := e.1
  if e.2.1 then
    let (s, more) := s.succPolicies j
    (s, p.2 ++ more)
  else if 1 ≤ s.itemState j ∧ s.itemState j ≤ 4 then
    let s := (s.dropItem j).setItemState j 6
    let s := s.setItem j { s.itemSt j with deadline := none }
    let s := s.ctlResult e.2.2 j 1
    let (s, more) := s.succPolicies j
    (s, p.2 ++ more)
  else (s.ctlResult e.2.2 j 3, p.2)

/-- Waves of cancellations, each in ascending item number (R158 step 3); every item is cancelled at most once, so that
256 waves are enough. -/
def Vc.cancelWaves : Nat → Vc → List (Nat × Bool × Bool) → Vc
  | 0, s, _ => s
  | n + 1, s, l =>
    match l with
    | [] => s
    | _ =>
      let (s, more) := (sortBy (·.1) l).foldl Vc.cancelOne (s, [])
      Vc.cancelWaves n s (more.eraseDups.map fun j => (j, false, false))

/-! ### The commit (R158) -/

/-- A completion is applied (R157, R169). -/
def Vc.complete (s : Vc) (x : Notice) : Vc :=
  let j := x.item
  let s := s.setItem j {
    deadline := if s.on ITEM.W5.DL_REL j then none else (s.itemSt j).deadline, checked := true, compTick := some s.ticks }
  let s := (s.succs j).foldl (fun s e => s.decrease e.1) s
  let s := { s with sched := { s.sched with results := s.sched.results ++ [(j, x.result)] } }
  if s.on ITEM.W5.RELOAD j then (s.wr ITEM.W5.COUNT (s.rd ITEM.W5.INIT_COUNT j) j).setItemState j 1
  else s.setItemState j 5

/-- A trap is applied (R165): its successors follow in step 3. -/
def Vc.trapItem (s : Vc) (x : Notice) (cause tval : Nat) : Vc :=
  let j := x.item
  let s := (s.dropItem j).setItemState j 7
  let s := s.setItem j { s.itemSt j with deadline := none }
  let s := s.wr SCHED.LASTTRAP.ITEM j
  let s := s.wr SCHED.LASTTRAP.MCAUSE cause
  let s := s.wr SCHED.LASTTVAL.MTVAL tval
  let s := s.set1 SCHED.ERRSTAT.ITEM_TRAP
  let s := s.count SCHED.TRAPCNT.COUNT
  s.event [stRec 0x0500 1 2 j (s.word 0x60010) s.refDie 0]

/-- The set-point writes of the items completed at this commit, in ascending item number (R169). -/
def Vc.applySetpoints (s : Vc) (js : List Nat) : Vc :=
  let ws := s.sched.setBuf.filter fun w => js.contains w.1
  let s := { s with sched := { s.sched with setBuf := s.sched.setBuf.filter fun w => !js.contains w.1 } }
  let clash := ws.any fun a => ws.any fun b => a.2.1 = b.2.1 && a.1 ≠ b.1
  let s := if clash then s.set1 SCHED.ERRSTAT.SETPT_CONFLICT else s
  js.foldl (fun s j => (ws.filter fun w => w.1 = j).foldl (fun s w => s.wr LENS.SETPT.VALUE w.2.2 w.2.1) s) s

/-- Tick source t is enabled and its period falls on tick k (R168). -/
def Vc.sourceFires (s : Vc) (t k : Nat) : Bool :=
  s.on SCHED.TSRC_CFG.EN t && s.rd SCHED.TSRC_CFG.PERIOD t ≠ 0 &&
    ((k : Int) - s.rd SCHED.TSRC_OFFSET.OFFSET t) % (s.rd SCHED.TSRC_CFG.PERIOD t : Nat) = 0

/-- Every ARMED item whose COUNT is 0 becomes READY, and its relative deadline is fixed (R157, R163). -/
def Vc.makeReady (s : Vc) : Vc :=
  forN 256 s fun s j =>
    if s.itemState j = 1 ∧ s.rd ITEM.W5.COUNT j = 0 then
      let dl := s.rd ITEM.DEADLINE.DEADLINE j
      let s := if s.on ITEM.W5.DL_REL j ∧ dl ≠ 0 then s.setItem j { s.itemSt j with deadline := some (s.time.tickVt.getD s.vt + dl), checked := false } else s
      s.setItemState j 2
    else s

/-- Step 1 of R158 for one notice. -/
def Vc.applyNotice (s : Vc) (x : Notice) : Vc :=
  match x.trap with
  | none => s.complete x
  | some (c, v) => s.trapItem x c v

/-- Steps 4 and 5 of R158: items made READY, dispatch, pre-emption. -/
def Vc.schedEnd (s : Vc) : Vc :=
  let s := s.makeReady
  let s := s.wr SCHED.STATUS.READY (sat 8 ((List.range 256).filter fun j => s.itemState j = 2 || s.itemState j = 4).length)
  let s := s.dispatch
  forN 8 s fun s _ => s.preemptOnce

/-- An item's deadline has come without its completion, and has not been checked (R163). -/
def Vc.missed (s : Vc) (j : Nat) : Bool :=
  match (s.itemSt j).deadline, s.time.tickVt with
  | some d, some t => decide (d ≤ t) && decide (1 ≤ s.itemState j) && decide (s.itemState j ≤ 4) && !(s.itemSt j).checked
  | _, _ => false

/-- A deadline is missed (R163): checked once, flagged, counted, and classed by DL_ACT; the item of CANCEL is cancelled besides. -/
def Vc.missAct (s : Vc) (j : Nat) : Vc :=
  let s := s.setItem j { s.itemSt j with checked := true }
  let s := (s.set1 SCHED.ERRSTAT.DL_MISS).count SCHED.DLMISSCNT.COUNT
  let rec1 := stRec 0x0501 1 2 j (s.word 0x60010) s.refDie 0
  match s.rd ITEM.W5.DL_ACT j with
  | 0 => s.corrected 1
  | 1 => (s.event [rec1]).irq 2
  | _ => s.event [rec1]

/-- DL_ACT of an item is CANCEL (R163). -/
def Vc.missCancels (s : Vc) (j : Nat) : Bool := decide (2 ≤ s.rd ITEM.W5.DL_ACT j)

/-- Step 3 of R158: cancellations and traps in waves, with those of the deadlines missed at this commit; then steps 4 and 5. -/
def Vc.schedRest (s : Vc) (traps : List (Nat × Bool × Bool)) : Vc :=
  let late := (List.range 256).filter s.missed
  let cans := s.sched.cancels.map fun c => (c.1, false, c.2)
  let dls := (late.filter s.missCancels).map fun j => (j, false, false)
  let s := late.foldl Vc.missAct s
  let s := { s with sched := { s.sched with releases := [], cancels := [] } }
  (Vc.cancelWaves 257 s (traps ++ cans ++ dls)).schedEnd

/-- The windows of the control cores show the start of the tick, and the facet table of its facet commit (R155). -/
def Vc.coreView (s : Vc) : CoreView :=
  let none_ : List Nat × List Nat × List Nat := ([], [], [])
  { samples := (List.range 32).foldl (fun t k => Tab.set (fun _ => 0) t k ((s.chan k).value.getD 0)) []
    valid := maskOf 32 fun k => s.chanValid (k / 4) (k % 4)
    sv := s.lens.svs.foldl (fun t e => (List.range 16).foldl (fun t i =>
      Tab.set (fun _ => 0) t (16 * e.1 + i) (e.2.vals.getD i (0, false, false)).1) t) []
    svValid := s.lens.svs.foldl (fun t e => Tab.set (fun _ => 0) t e.1 (maskOf 16 fun i => (s.svValue e.1 i).2)) []
    ctxs := s.lens.ctxs.foldl (fun t e => Tab.set (fun _ => none_) t e.1 (e.2.u, e.2.xhat, e.2.xi)) []
    facets := s.facets.foldl (fun t e => Tab.set (fun _ => ({} : Facet).entry) t e.1 e.2.entry) []
    vt := s.time.tickVt }

/-- The dies named in the notices applied, as a mask. -/
def noticeDies (ns : List Notice) (f : Notice → BitVec 3) : Nat := maskOf 3 fun d => ns.any fun x => (f x).getLsbD d

/-- The scheduler's commit of tick k, steps 1 to 5 of R158. -/
def Vc.schedCommit (s : Vc) (k : Nat) : Vc :=
  let ns := sortBy (·.item) s.sched.notices
  let now := ns.take 32
  let s := { s with sched := { s.sched with
    notices := ns.drop 32, results := [], lateDies := noticeDies now (·.late), oddDies := noticeDies now (·.odd)
    view := s.coreView } }
  let s := if ns.length ≤ 32 then s else s.set1 SCHED.ERRSTAT.DEFER
  let done := (now.filter fun x => x.trap.isNone).map (·.item)
  let s := now.foldl Vc.applyNotice s
  let s := s.applySetpoints done
  let s := (List.range 4).foldl (fun s t => if s.sourceFires t k then s.decrease (s.rd SCHED.TSRC_CFG.ITEM t) else s) s
  let rel := s.sched.releases
  let s := rel.foldl Vc.decrease s
  s.schedRest ((now.filter fun x => x.trap.isSome).map fun x => (x.item, true, false))

/-! ### What the cores do (R156, R159, R165, R169) -/

/-- A core returns from its item, or the item traps: a notice, and the core takes its next item. The notice of the second die in
service is the one that counts; `late` and `odd` name the dies whose own came late or gave another result (R159). -/
def Vc.coreEnds (s : Vc) (n result : Nat) (trap : Option (Nat × Nat)) (late odd : BitVec 3 := 0) : Vc :=
  match s.run? n with
  | none => s
  | some r =>
    let s := { s with sched := { s.sched with notices := s.sched.notices ++ [(⟨r.item, result, trap, late, odd⟩ : Notice)] } }
    (s.setRun n none).dispatch

/-- CORE_SETPOINT_WRITE: buffered until the item completes, or an access fault of a set-point that is not owned (R169). -/
def Vc.coreSetpoint (s : Vc) (n sp v : Nat) : Vc :=
  match s.run? n with
  | none => s
  | some r =>
    if bit (s.rd SCHED.SETPT_OWN.OWN (sp / 32)) (sp % 32) then
      { s with sched := { s.sched with setBuf := s.sched.setBuf ++ [(r.item, sp, v)] } }
    else s.coreEnds n 0 (some (7, 0x30000000 + 4 * sp))

/-! ### Deadlines (R163) -/

/-- A deadline's CANCEL (R163, R164): the waves, then steps 4 and 5 of R158. -/
def Vc.deadlineCancel (s : Vc) (j : Nat) : Vc := (Vc.cancelWaves 257 s [(j, false, false)]).schedEnd

/-- DEADLINE_MISS: a deadline that the last tick's commit has reached and the item's completion has not; each deadline is checked
once, and keeps its place in dispatch order. The commit itself takes the deadlines it finds missed (`schedRest`); this is one
that came to light after it (log 103). -/
def Vc.deadlineMiss (s : Vc) (j : Nat) : Vc :=
  if s.missed j then if s.missCancels j then (s.missAct j).deadlineCancel j else s.missAct j else s

end Sys2Proof.Machine
end

