-- ==== Sys2Proof/Machine/Voter.lean ====
section
/-!
DEFINITION. Machine/Voter.lean: the in-package channels, the vote of the control dies, set-aside and realignment (R37 to R46).
-/
namespace Sys2Proof.Machine
open Reg

/-- The state field of a die: 0 IN_SERVICE, 1 RESETTING, 2 SET_ASIDE, 3 REALIGNING, 4 HELD_OUT. -/
def dieFld (d : Nat) : Fld :=
  match d with
  | 0 => VOTER.STATUS.STATE_A
  | 1 => VOTER.STATUS.STATE_B
  | _ => VOTER.STATUS.STATE_C

def Vc.dieState (s : Vc) (d : Nat) : Nat := s.rd (dieFld d)
def Vc.setDie (s : Vc) (d st : Nat) : Vc := s.wr (dieFld d) st

/-- VOTER.STATUS.MODE: 0 THREE, 1 TWO, 2 NONE. -/
def Vc.mode (s : Vc) : Nat := s.rd VOTER.STATUS.MODE

/-- The dies that vote. -/
def Vc.voting (s : Vc) : List Nat := (List.range 3).filter fun d => s.dieState d = 0

/-- VOTER.ERRSTAT as it stands, the DATA of a voter record (R310). -/
def Vc.voterErr (s : Vc) : Nat := s.word 0x2000C

/-- A die is reset: its own state is gone, and a realignment of it ends. -/
def Vc.resetDie (s : Vc) (d st : Nat) : Vc :=
  let s := s.setDie d st
  { s with voter := { s.voter with
      copy := 0, asked := withoutBit s.voter.asked d, streak := s.voter.streak.set d 0 } }.emit (.reset d)

/-- The copy to a realigning die is abandoned (R42). -/
def Vc.abandonCopy (s : Vc) : Vc :=
  forN 3 s fun s d => if s.dieState d = 3 then { s.setDie d 2 with voter := { s.voter with copy := 0 } } else s

/-- A failure that leaves no vote: the protection block with cause VOTER, MODE NONE, FATAL at package level and passed to the
system (R41, R42, R44). -/
def Vc.voteLost (s : Vc) (f : Fld) (b : Nat) (pre : List Rec) : Vc :=
  let s := (s.set1 f).wr VOTER.STATUS.MODE 2
  (s.abandonCopy).latchCause 5 (pre ++ fatalRecs (0x0100 + b) 0 s.voterErr)

/-- The set-aside event for two dies in one tick in THREE mode (R42). -/
def Vc.doubleFault (s : Vc) (ds : List Nat) : Vc :=
  let s := s.set1 VOTER.ERRSTAT.DOUBLE_FAULT
  s.voteLost VOTER.ERRSTAT.DOUBLE_FAULT 7 (ds.map fun d => stRec 0x0107 3 3 d s.voterErr d)

/-- The set-aside event of R42 for a die: a disagreement that has lasted, a channel down, or an error above CORRECTED. A die set aside
by an earlier command of the same tick returns to service (log 85). Where R42 names no place for a voter's record, the model
puts it: REGION 1, and at package level the DIE of the die concerned, or L where no one die is (DESIGN CHOICE, log 95). -/
def Vc.dieFault (s : Vc) (d : Nat) : Vc :=
  if s.dieState d ≠ 0 then s
  else if s.mode = 0 then
    let s := s.setBit VOTER.ERRSTAT.ASIDE d
    let s := (s.resetDie d 1).wr VOTER.STATUS.MODE 1
    let s := { s with voter := { s.voter with lastAside := some (d, s.ticks) } }
    s.event [stRec (0x0100 + d) 3 3 d s.voterErr d, stRec (0x0100 + d) 4 2 d s.voterErr d]
  else if s.mode = 1 then
    match s.voter.lastAside with
    | some (e, t) =>
      if t = s.ticks then (s.setDie e 0).doubleFault [e, d]
      else s.voteLost VOTER.ERRSTAT.DUAL_DISAGREE 5 []
    | none => s.voteLost VOTER.ERRSTAT.DUAL_DISAGREE 5 []
  else s

/-- The event for several dies at once (R42). -/
def Vc.dieFaults (s : Vc) (ds : List Nat) : Vc :=
  if s.mode = 0 then
    match ds.filter fun d => s.dieState d = 0 with
    | [] => s
    | [d] => s.dieFault d
    | l => s.doubleFault l
  else ds.foldl Vc.dieFault s

/-- A realignment fails (R42): the die resets, or is held out at the third failure. -/
def Vc.realignFail (s : Vc) (d : Nat) : Vc :=
  let n := min 3 (s.rd VOTER.STATUS.REALIGN_FAILS + 1)
  let s := (s.wr VOTER.STATUS.REALIGN_FAILS n).set1 VOTER.ERRSTAT.REALIGN_FAIL
  let s := s.resetDie d (if n = 3 then 4 else 1)
  s.event [stRec 0x0106 3 3 d s.voterErr d, stRec 0x0106 4 2 d s.voterErr d]

/-- A die's channel is down (R38). -/
def Vc.channelDown (s : Vc) (d : Nat) : Vc :=
  let s := s.set1 VOTER.ERRSTAT.CHANNEL_DOWN
  if s.dieState d = 3 then s.realignFail d else s.dieFault d

/-- FLIT_RX: a flit on a die's channel (R38), its CRC-16 over its 256 bits, and whether it is a replay. R38 gives the CRC-16 no
polynomial, initial value or bit order: the model takes those of R401's other CRC-16 fields, 0x8BB7, 0 and the lowest bit first
(DESIGN CHOICE, log 6). -/
def Vc.flitRx (s : Vc) (d data crc : Nat) (replay : Bool) : Vc :=
  if crc = check16 (bitsUp data 0 256) then s
  else if replay then s.channelDown d
  else
    let n := s.voter.replays.getD d 0 + 1
    let s := { s with voter := { s.voter with replays := s.voter.replays.set d n } }
    let s := s.corrected 0
    if 16 < n then s.channelDown d else s

/-- DIE_SELF_TEST_DONE (R42). -/
def Vc.selfTestDone (s : Vc) (d : Nat) (pass : Bool) : Vc :=
  if s.dieState d ≠ 1 then s
  else if pass then s.setDie d 2
  else
    let s := (s.setDie d 4).set1 VOTER.ERRSTAT.REALIGN_FAIL
    s.event [stRec 0x0106 3 3 d s.voterErr d, stRec 0x0106 4 2 d s.voterErr d]

/-- A write of VOTER.CTRL (R42, R55, R402). -/
def Vc.voterCtrl (s : Vc) (w : Nat) : Vc :=
  let aside := bits w 6 4
  let re := bits w 2 0
  if (aside ≠ 0 ∨ re ≠ 0) ∧ bits w 31 16 ≠ 0xC3A5 then s.badWrite 3 0x20004
  else if aside ≠ 0 ∧ s.mode ≠ 0 then s.badWrite 3 0x20004
  else
    let s := s.dieFaults ((List.range 3).filter fun d => bit aside d)
    forN 3 s fun s d =>
      if bit re d && s.dieState d = 2 && s.mode = 1 then { s with voter := { s.voter with asked := withBit s.voter.asked d } } else s

/-- The copy at a tick: it starts for a die in SET_ASIDE in TWO mode, and its ticks are counted (R42, R43). -/
def Vc.copyTick (s : Vc) : Vc :=
  forN 3 s fun s d =>
    if s.dieState d = 2 && s.mode = 1 && (s.on VOTER.CFG.AUTO_REALIGN || bit s.voter.asked d) then
      { s.setDie d 3 with voter := { s.voter with copy := 1, asked := withoutBit s.voter.asked d } }
    else if s.dieState d = 3 then { s with voter := { s.voter with copy := min 64 (s.voter.copy + 1) } }
    else s

/-- REALIGN_COPY_COMPLETE: copy tick 64's shadow outputs compared with the voted values (R42, R43). -/
def Vc.copyDone (s : Vc) (d : Nat) (agrees : Bool) : Vc :=
  if s.dieState d = 3 ∧ s.voter.copy = 64 then
    if agrees then
      { (s.setDie d 0).wr VOTER.STATUS.MODE 0 with voter := { s.voter with copy := 0, streak := s.voter.streak.set d 0 } }
    else s.realignFail d
  else s

/-! ### The vote of a tick (R39 to R42) -/

/-- The value two of the dies agree on, and the dies that disagree: those that differ from it or did not deliver. Of two dies with
different values neither is the majority, and both count; of three different values no die differs from an agreeing pair (R40). -/
def voteItem (vals : List (Nat × Option Nat)) : Option Nat × List Nat :=
  let have_ := vals.filterMap fun v => v.2.map fun x => (v.1, x)
  let win := (have_.find? fun a => have_.any fun b => b.1 ≠ a.1 && b.2 = a.2).map (·.2)
  match win with
  | some w => (some w, (vals.filter fun v => v.2 ≠ some w).map (·.1))
  | none =>
    let missing := (vals.filter fun v => v.2.isNone).map (·.1)
    (none, if missing = [] ∧ vals.length ≤ 2 then vals.map (·.1) else missing)

/-- A value no item has: the computed one, which the dies share unless they deviate. -/
def computed : Nat := 340282366920938463463374607431768211456

end Sys2Proof.Machine

namespace Sys2Proof

/-- What a die delivers for an item, `dev` its deviation and `late` whether this item was late. -/
def DieData.value (x : DieData) (dev : Option Nat) (late : Bool) : Option Nat :=
  if x.late || late then none else some (dev.getD Machine.computed)

/-- A die's data for a facet's command word was late. -/
def DieData.lateOn (x : DieData) (i : Nat) : Bool := x.lateCmds.any fun c => c.val = i

/-- A die's deviation on one facet's command word. -/
def DieData.cmdOf (x : DieData) (i : Nat) : Option Nat := (x.cmds.find? fun c => c.1.val = i).map fun c => c.2.toNat

end Sys2Proof

namespace Sys2Proof.Machine
open Reg

/-- What the vote of a tick gives: the command words that differ from the computed ones, the Lens block requests, the dies that
disagree or did not deliver, and whether an item has no majority (R39, R40). -/
structure VoteOut where
  voted : List (Nat × Nat)
  mask  : Nat
  bad   : List Nat
  split : Bool
deriving DecidableEq, Repr

/-- A facet whose command word the dies vote on in a tick, by its global ID: a slot of a running string of this VC, or a remote
facet that this VC commands (R39, R128). -/
def Vc.votes (s : Vc) (far : List Nat) (g : Nat) : Bool :=
  if g / 4608 = s.vcId then s.strRuns (g % 4608 / 96) && decide (g % 96 < s.rd STRING.CFG.CELLS (g % 4608 / 96)) else far.contains g

/-- The vote on every item of a tick: the dies' deviations, and the Lens block requests computed; `far` names the remote facets
commanded (R39, R40). -/
def Vc.voteOn (s : Vc) (dies : List DieData) (reqs far : List Nat) : VoteOut :=
  let vs := s.voting
  let data (d : Nat) : DieData := dies.getD d {}
  let slots := ((vs.flatMap fun d => (data d).cmds.map (fun c => c.1.val) ++ (data d).lateCmds.map (·.val)).eraseDups).filter (s.votes far)
  let cmdVotes := slots.map fun i => (i, voteItem (vs.map fun d => (d, (data d).value ((data d).cmdOf i) ((data d).lateOn i))))
  let blk := voteItem (vs.map fun d => (d, (data d).value ((data d).blkMask.map BitVec.toNat) (data d).lateBlk))
  let dig := voteItem (vs.map fun d => (d, (data d).value ((data d).digest.map BitVec.toNat) (data d).lateDig))
  let all := cmdVotes.map (·.2) ++ [blk, dig]
  { voted := cmdVotes.filterMap fun v => match v.2.1 with
      | some w => if w = computed then none else some (v.1, w)
      | none => none
    mask := match blk.1 with
      | some m => if m = computed then maskOf 16 reqs.contains else m
      | none => 0
    bad := (List.range 3).filter fun d => all.any fun v => v.2.contains d
    split := all.any fun v => v.1.isNone }

/-- What follows from the dies that disagreed (R40 to R42). -/
def Vc.voteEnd (s : Vc) (bad : List Nat) (split : Bool) : Vc :=
  if s.mode = 1 then
    if bad = [] then s else s.voteLost VOTER.ERRSTAT.DUAL_DISAGREE 5 []
  else if split then s.voteLost VOTER.ERRSTAT.NO_MAJORITY 4 []
  else
    let s := if bad = [] then s else s.corrected 4
    s.dieFaults (bad.filter fun d => decide (s.rd VOTER.CFG.DIS_TICKS ≤ s.voter.streak.getD d 0))

/-- What the dies deliver with what their notices of this commit make of their digests: a die whose notice came late has its digest
late, one with another result has another digest (R39, R159). -/
def Vc.noticed (s : Vc) (dies : List DieData) : List DieData :=
  (List.range 3).map fun d =>
    let x := dies.getD d {}
    { x with
      lateDig := x.lateDig || bit s.sched.lateDies d
      digest := if bit s.sched.oddDies d then some (x.digest.getD (BitVec.ofNat 64 (d + 1))) else x.digest }

/-- The vote of a tick: the dies' deviations, and the Lens block requests computed (R39 to R42, R94). -/
def Vc.voteTick (s : Vc) (dies : List DieData) (reqs far : List Nat) : Vc :=
  let dies := s.noticed dies
  let s := { s with voter := { s.voter with replays := [0, 0, 0], voted := [] } }
  if s.mode = 2 then (if s.hasCause 5 then s else s.latchCause 5)
  else
    let o := s.voteOn dies reqs far
    let s := { s with voter := { s.voter with voted := o.voted } }
    let s := if o.mask = 0 then s
      else (s.wr LENS.BLKSRC.CTX (Nat.lor (s.rd LENS.BLKSRC.CTX) o.mask)).latchCause 4
    let s : Vc := o.bad.foldl (fun (s : Vc) d => s.count VOTER.DISCNT.COUNT d) s
    let s : Vc := { s with voter := { s.voter with
      streak := (List.range 3).map fun d => if o.bad.contains d then s.voter.streak.getD d 0 + 1 else 0 } }
    s.voteEnd o.bad o.split

end Sys2Proof.Machine
end

