-- ==== Sys2Proof/Machine/Cascade.lean ====
section
/-!
DEFINITION. Machine/Cascade.lean: the cascade: start and stop, enumeration, alignment, lost lanes, and what the other VCs send
(R28 to R36, R81, R127, R128, R305).
-/
namespace Sys2Proof.Machine
open Reg

/-- CASCADE.STATUS.STATE: 0 OFF, 1 ENUM, 2 ALIGN, 3 RUN, 4 LOST. -/
def Vc.cascState (s : Vc) : Nat := s.rd CASCADE.STATUS.STATE

/-- CASCADE.ERRSTAT, the DATA of a cascade record (R310). -/
def Vc.cascErr (s : Vc) : Nat := s.word 0x13000C

/-- A cascade frame came on both lanes of a pair; `bad` has a bit for each copy whose CRC fails, which is counted. The frame is
used when a copy is good, and then a bad copy is COPY_ERR, CORRECTED (R28, R36). -/
def Vc.cascCopies (s : Vc) (bad : Nat) : Vc × Bool :=
  match bad with
  | 0 => (s, true)
  | 3 => (s.count CASCADE.COPYCNT.COUNT (n := 2), false)
  | _ => (((s.set1 CASCADE.ERRSTAT.COPY_ERR).count CASCADE.COPYCNT.COUNT).corrected 0, true)

/-- The cascade is OFF, what it exchanged is gone, and a member's servo follows PTP again (R34, R276). -/
def Vc.cascOff (s : Vc) : Vc :=
  let s := (s.wr CASCADE.STATUS.STATE 0).wr CASCADE.STATUS.READY 0
  let s := { s with casc := {} }
  if s.servo = 6 then s.servoTo (if s.on TIME.CFG.PTP_EN then 1 else 0) else s

/-- The cascade fails to start: the flag, the interrupt, its record (R34, R292; the class is the model's, log 41). -/
def Vc.cascFail (s : Vc) (f : Fld) (b : Nat) : Vc :=
  let s := (s.set1 f).irq 7
  (s.event [opRec (0x0800 + b) 3 2 s.vcId s.cascErr]).cascOff

/-- This VC's identity, which REMOTE of every facet entry follows (R36, R107). -/
def Vc.setVcId (s : Vc) (id : Nat) : Vc :=
  let s := s.wr CASCADE.CFG.VC_ID id
  { s with facets := s.facets.map fun e => (e.1, { e.2 with remote := e.2.home ≠ 0xF && e.2.home ≠ id }) }

/-- What a VC that is no member shows: READY 0 and VC_ID 0, no hop to a lead and no upstream delay (R36). -/
def Vc.noMember (s : Vc) : Vc :=
  if s.rd CASCADE.CFG.ROLE = 2 then s
  else (((s.wr CASCADE.STATUS.READY 0).wr CASCADE.STATUS.DEPTH 0).wr CASCADE.HOPDLY.UP_DELAY 0).setVcId 0

/-- CTRL.START in OFF (R34, R35, R36): a VC_COUNT that R36 does not give is rejected whatever the ROLE. R34 gives START no further
event for a VC of ROLE SINGLE, and the model does nothing there (DESIGN CHOICE, log 96). -/
def Vc.cascStart (s : Vc) : Vc :=
  let n := s.rd CASCADE.CFG.VC_COUNT
  let role := s.rd CASCADE.CFG.ROLE
  if s.cascState ≠ 0 then s
  else if n = 0 ∨ 16 < n then s.cascFail CASCADE.ERRSTAT.ID_CONFLICT 3
  else if role = 0 then s
  else if role = 1 then
    let s := ((s.setVcId 0).wr CASCADE.STATUS.STATE 1).wr CASCADE.STATUS.DEPTH 0
    { s with casc := { s.casc with startAt := s.now } }.emit (.cascade 0 [1, n])
  else s.set1 CASCADE.STATUS.READY

/-- CTRL.STOP (R34, R36): OFF from any state, the strings blocked. -/
def Vc.cascStop (s : Vc) : Vc := (s.hostBlock).cascOff

/-- A write of CASCADE.CTRL. -/
def Vc.cascCtrl (s : Vc) (w : Nat) : Vc :=
  if bit w 1 then s.cascStop else if bit w 0 then s.cascStart else s

/-- ENUMERATION_FRAME on the UP pair (R34, R35). A member ignores a frame whose carried ID is above 15, without a flag: R34 gives
ID_CONFLICT only in ENUM (DESIGN CHOICE, log 96). -/
def Vc.enumFrame (s : Vc) (id count bad : Nat) : Vc :=
  let (s, ok) := s.cascCopies bad
  let _ := count
  if !ok || s.cascState ≠ 0 || s.rd CASCADE.CFG.ROLE ≠ 2 || !s.on CASCADE.STATUS.READY || decide (15 < id) then s
  else
    let n := s.rd CASCADE.CFG.VC_COUNT
    let s := s.setVcId id
    let s := s.wr CASCADE.STATUS.READY 0
    let s := s.wr CASCADE.STATUS.DEPTH id
    let s := s.wr CASCADE.STATUS.STATE 2
    let s := s.servoTo 6
    let s := s.emit (.cascade 1 [id, n])
    if id + 1 < n then s.emit (.cascade 0 [id + 1, n]) else s

/-- ENUM_ACKNOWLEDGE at the lead: each member's carried ID and VC_COUNT (R34). -/
def Vc.enumAck (s : Vc) (acks : List (Nat × Nat)) (bad : Nat) : Vc :=
  let (s, ok) := s.cascCopies bad
  let n := s.rd CASCADE.CFG.VC_COUNT
  if !ok || s.cascState ≠ 1 then s
  else if acks.any fun a => decide (15 < a.1) || a.2 ≠ n then s.cascFail CASCADE.ERRSTAT.ID_CONFLICT 3
  else if ((List.range (n - 1)).all fun i => acks.any fun a => a.1 = i + 1) && decide (s.now ≤ s.casc.startAt + 40000000) then
    s.wr CASCADE.STATUS.STATE 2
  else s

/-- ENUM_TIMEOUT: 10 ms from START (R34). -/
def Vc.enumTimeout (s : Vc) : Vc :=
  if s.cascState = 1 ∧ s.casc.startAt + 40000000 ≤ s.now then s.cascFail CASCADE.ERRSTAT.ENUM_TIMEOUT 5 else s

/-- The budget of R30: the L_C of every arm is at most 4, by its calibrated strings here and elsewhere, and by the floor that the
host gives an arm homed here (R26). -/
def Vc.budgetMet (s : Vc) : Bool :=
  ((List.range 48).all fun n => !(s.on PRISM.STRMAP.EN n && s.rd STRING.STATUS.LC n ≠ 0) || decide (s.calcLc n ≤ 4)) &&
    s.casc.remStrs.all (fun r => decide (r.lc ≤ 4)) && (List.range 12).all fun a => (s.armStrings a).isEmpty || decide (s.rd ARM.CFG1.LC_FLOOR a ≤ 4)

/-- TICK_ALIGNMENT_DONE (R29, R30, R34, R60): a member takes valve time, tick number and tick grid of the lead, corrected by
the one-way delay; the budget is checked. -/
def Vc.tickAlign (s : Vc) (delay vt tickNo tickOfs : Nat) : Vc :=
  if s.cascState ≠ 2 then s
  else if !s.budgetMet then s.cascFail CASCADE.ERRSTAT.BUDGET_FAIL 4
  else if s.rd CASCADE.CFG.ROLE = 2 then
    let vt := (vt + delay) % 18446744073709551616
    let s := s.wr CASCADE.HOPDLY.UP_DELAY (sat 16 delay)
    let s := s.wr LENS.TICKNO.TICKNO tickNo
    let s := { s with
      vt := vt, frac := 0, ticks := s.ticks + 1, time := { s.time with tickVt := some vt }
      casc := { s.casc with tickOfs := some tickOfs, aligned := true } }
    s.emit (.cascade 2 [s.vcId])
  else { s with casc := { s.casc with aligned := true } }

/-- CASCADE_READY: every member reports ready, cascade ticks start, and the cascade runs (R34). -/
def Vc.cascReady (s : Vc) : Vc := if s.cascState = 2 ∧ s.casc.aligned then s.wr CASCADE.STATUS.STATE 3 else s

/-- The records of a cascade pair's loss in RUN from its cluster up (R44): the link die's cluster and region contain only losses of
string ports, so it is ESCALATED to the die and FATAL at the package and the system. -/
def pairRecs (pair data : Nat) : List Rec :=
  ((List.range 3).map fun k => stRec 0x0802 (k + 1) 3 pair data) ++ fatalRecs 0x0802 pair data

/-- A cascade lane was lost (R32, R34): its pair still has a lane, or has lost both. The unit's record, `unit`, those of the levels
above it and the valve's are of one event (R46); the valve's own record of a lost pair is that of the cause it latches (R17). -/
def Vc.cascLaneLost (s : Vc) (l : Nat) (unit : Rec) : Vc :=
  let pair := (l - 104) / 2
  let s := (s.set1 CASCADE.ERRSTAT.LANE_LOST).irq 7
  if s.cascState = 3 && !s.pairUp pair then
    let s := (s.set1 CASCADE.ERRSTAT.PAIR_LOST).irq 7
    let s := s.wr CASCADE.STATUS.STATE 4
    s.latchCause 8 (unit :: pairRecs pair s.cascErr) (pairs := [1 - pair])
  else s.event [unit, opRec 0x0801 3 2 s.vcId s.cascErr]

/-! ### Frames of a running cascade -/

/-- A frame not meant for this VC goes on along the cascade. -/
def Vc.cascForward (s : Vc) (kind : Nat) (ws : List Nat) : Vc := s.emit (.cascade kind ws)

/-- What a home VC tells of its arms is for every VC, which takes it at its next commit (log 99). -/
def Vc.armNotes (s : Vc) (notes : List ArmNote) (bad : Nat) : Vc :=
  if bad = 3 ∨ notes = [] then s
  else ({ s with casc := { s.casc with notes := s.casc.notes ++ notes } }).cascForward 8
    (notes.flatMap fun (n : ArmNote) => [n.home.val, n.arm.val, n.state.toNat, n.lc.toNat, n.avail.toNat, n.nMin.toNat])

/-- CASCADE_COMMAND_FRAME (R128): voted commands for facets of VC `dest`, for its next sweeps. -/
def Vc.cascCommands (s : Vc) (dest : Nat) (cmds : List (Nat × Nat)) (bad : Nat) : Vc :=
  let (s, ok) := s.cascCopies bad
  if !ok then s
  else if dest ≠ s.vcId then s.cascForward 3 (dest :: cmds.flatMap fun c => [c.1, c.2])
  else cmds.foldl (fun s c =>
    let n := facetStr c.1
    let x := s.str n
    s.setStr n { x with remoteCmd := (facetPos c.1, c.2) :: x.remoteCmd.filter fun e => e.1 ≠ facetPos c.1 }) s

/-- FACET_SLICE_RX (R127): one word per facet of string `str` of VC `vc`, for its home, used at the next commit. -/
def Vc.sliceRx (s : Vc) (home vc str : Nat) (ws : List Nat) (bad : Nat) : Vc :=
  let (s, ok) := s.cascCopies bad
  if !ok then s
  else if home ≠ s.vcId then s.cascForward 5 (home :: vc :: str :: ws)
  else
    let es := (List.range ws.length).zip ws |>.map fun e => (vc * 4608 + str * 96 + e.1, e.2)
    { s with casc := { s.casc with slices := s.casc.slices ++ es } }

/-- CASC_VALUE_RX (R81): used from the next tick boundary; it goes on along the cascade. -/
def Vc.cascValue (s : Vc) (origin slot value period bad : Nat) : Vc :=
  let (s, ok) := s.cascCopies bad
  if !ok then s
  else
    let k := origin * 64 + slot
    let old := Tab.get (fun _ => ({} : CascVal)) s.casc.vals k
    let s := { s with casc := { s.casc with
      vals := Tab.set (fun _ => {}) s.casc.vals k { old with next := some value, period := period, at_ := s.now } } }
    s.cascForward 4 [origin, slot, value, period]

/-- MEMBER_STATUS_RX (R305): the failed conditions of a VC, and its strings. -/
def Vc.memberStatus (s : Vc) (vc conds : Nat) (strs : List RemStr) (bad : Nat) : Vc :=
  let (s, ok) := s.cascCopies bad
  if !ok then s
  else
    { s with casc := { s.casc with
      members := (vc, conds) :: s.casc.members.filter fun m => m.1 ≠ vc
      remStrs := s.casc.remStrs.filter (fun r => r.vc ≠ vc) ++ strs.map fun r => { r with vc := vc } } }

/-- At the facet commit of a tick, values of the cascade received before the tick are in use (R81). -/
def Vc.cascVals (s : Vc) : Vc :=
  let vals := s.casc.vals.map fun e => match e.2.next with
    | some v => (e.1, { e.2 with val := v, ok := true, next := none })
    | none => e
  { s with casc := { s.casc with slices := [], notes := [], vals := vals } }

/-- At the facet commit, slices received become the shadow entries of remote facets, and a facet that has left service is
accounted to its arm (R115, R127). A slice does not tell OOS_CAUSE and word 1 of the entry, which CODE and DATA of the arm's record hold
(R310): they are free (log 53). -/
def Vc.sliceCommit (s : Vc) (sl : List (Nat × Nat)) : Vc :=
  sl.foldl (fun s e =>
    let r := s.remote e.1
    let inS := bit e.2 7
    let s := s.setRemote e.1 { r with vf := e.2 / 256, inSvc := inS }
    if r.inSvc && !inS then
      let g := e.1 / 96
      match (List.range 12).find? fun a => s.rd ARM.STAT.STATE a ≠ 0 && (s.arm a).strs.any fun x => x.1 = g with
      | some a =>
        ({ s with free := s.free + 2 } : Vc).spare a (0x0310 + Config.freeNat s.free % 16) (Config.freeNat (s.free + 1) % 4294967296) []
      | none => s
    else s) s

/-- A facet whose arm's home forms or releases the arm: it enters service under R111, or leaves with ARM_RELEASED (R113). -/
def Vc.noteFacet (s : Vc) (was st i : Nat) : Vc :=
  if was = 0 && st = 1 then (if s.meets i then s.enterService i s.tickNo else s)
  else if was ≠ 0 && st = 0 then s.leaveService i 8
  else s

/-- At the facet commit, what the home of an arm told of it: facets of its strings here enter service at its FORM, where they meet
R111, and leave at its RELEASE (R111, R113, log 99). -/
def Vc.noteCommit (s : Vc) (n : ArmNote) : Vc :=
  let home := n.home.val
  let arm := n.arm.val
  let st := n.state.toNat
  if home = s.vcId then s
  else
    let was := (s.armOf home arm).state
    let s := { s with casc := { s.casc with
      homeArms := Tab.set (fun _ => {}) s.casc.homeArms (home * 12 + arm)
        (if st = 0 then {} else ⟨st, n.lc.toNat, n.avail.toNat, n.nMin.toNat⟩) } }
    forN 48 s fun s m =>
      if s.on PRISM.STRMAP.EN m && s.rd PRISM.STRMAP.HOME_VC m = home && s.rd PRISM.STRMAP.ARM m = arm then
        forN (s.rd STRING.CFG.CELLS m) s fun s p => s.noteFacet was st (m * 96 + p)
      else s

/-- What this VC sends along the cascade after its commit and selection: what its arms are, and of its remote-homed strings their
status and their slices (R127, log 99). -/
def Vc.cascSlices (s : Vc) : Vc :=
  if s.cascState ≠ 3 then s
  else
    let s := s.emit (.cascade 8 (s.vcId :: (List.range 12).flatMap fun a =>
      [s.rd ARM.STAT.STATE a, s.rd ARM.STAT.LC a, s.rd ARM.STAT.N_AVAIL a, s.rd ARM.CFG2.N_MIN a]))
    forN 48 s fun s n =>
    let h := s.rd PRISM.STRMAP.HOME_VC n
    if s.on PRISM.STRMAP.EN n && h ≠ s.vcId then
      let cells := s.rd STRING.CFG.CELLS n
      let ready := ((List.range cells).filter fun p => s.meets (n * 96 + p)).length
      let s := s.emit (.cascade 6 [h, s.vcId, n, s.rd PRISM.STRMAP.ARM n, cells, s.rd STRING.STATUS.LC n, b2n (s.strRuns n), ready])
      let ws := (List.range (s.rd STRING.CFG.CELLS n)).map fun p =>
        let f := s.facet (n * 96 + p)
        f.vf * 256 + b2n f.inSvc * 128
      s.emit (.cascade 5 (h :: s.vcId :: n :: ws))
    else s

/-- The voted commands of remote facets leave for their VCs (R128). -/
def Vc.cascIssue (s : Vc) (iss : List Issue) : Vc :=
  iss.foldl (fun s i =>
    if i.gid / 4608 = s.vcId then s
    else s.emit (.cascade 3 [i.gid / 4608, i.gid % 4608, s.votedWord i.gid (cmdWord i.mode i.edge 0 (i.gid % 96) 0 0)])) s

end Sys2Proof.Machine
end

