-- ==== Sys2Proof/Machine/Aperture.lean ====
section
/-!
DEFINITION. Machine/Aperture.lean: the Aperture recorder: channels, entries, areas, triggers, hold-off, readout (R319 to R325,
R327).
-/
namespace Sys2Proof.Machine
open Reg

def Vc.area (s : Vc) (a : Nat) : ApArea := Tab.get (fun _ => {}) s.ap.areas a
def Vc.setArea (s : Vc) (a : Nat) (x : ApArea) : Vc :=
  { s with ap := { s.ap with areas := Tab.set (fun _ => {}) s.ap.areas a x } }

/-- APERTURE.STATUS.STATE: 0 OFF, 1 FILLING, 2 ARMED, 3 POST, 4 HOLDOFF, 5 FULL. -/
def Vc.apState (s : Vc) : Nat := s.rd APERTURE.STATUS.STATE
def Vc.apTo (s : Vc) (st : Nat) : Vc := s.wr APERTURE.STATUS.STATE st
def Vc.apArea (s : Vc) : Nat := s.rd APERTURE.STATUS.AREA

/-- Areas; slots of one area; slots of its pre part (R322). -/
def Vc.apCount (s : Vc) : Nat := 2 ^ s.rd APERTURE.CFG.NAREA
def Vc.apCap (s : Vc) : Nat := 1048576 / s.apCount
def Vc.apPre (s : Vc) : Nat := s.apCap * s.rd APERTURE.CFG.PRE_EIGHTHS / 8

/-! ### Entries (R321) -/

def ApEnt.slots (e : ApEnt) : List Nat :=
  match e with
  | .time vt => [2305843009213693952, vt]
  | .fullset => [4611686018427387904]
  | .trigger n m => [6917529027641081856 + n * 65536 + m]
  | .change ch o v => [9223372036854775808 + ch * 144115188075855872 + o * 137438953472 + v]

/-- Drops the oldest entries of a ring until its slots fit. -/
def trimRing (cap : Nat) : List ApEnt → Nat → List ApEnt × Nat
  | [], n => ([], n)
  | e :: es, n => if n ≤ cap then (e :: es, n) else trimRing cap es (n - e.slots.length)

/-- An entry enters the pre part, a ring (R322). -/
def ApArea.toPre (x : ApArea) (cap : Nat) (e : ApEnt) : ApArea :=
  let k := e.slots.length
  let r := trimRing cap (x.pre ++ [e]) (x.preSlots + k)
  { x with pre := r.1, preSlots := r.2, written := x.written + k }

/-- An entry enters the post part until that is full (R322). -/
def ApArea.toPost (x : ApArea) (cap : Nat) (e : ApEnt) : ApArea :=
  let k := e.slots.length
  if x.postFull || decide (cap < x.postSlots + k) then { x with postFull := true }
  else { x with post := x.post ++ [e], postSlots := x.postSlots + k, postFull := decide (x.postSlots + k = cap) }

/-- An entry is written where the recorder now writes. -/
def Vc.apWrite (s : Vc) (e : ApEnt) : Vc :=
  let a := s.apArea
  match s.apState with
  | 1 => s.setArea a ((s.area a).toPre s.apPre e)
  | 2 => s.setArea a ((s.area a).toPre s.apPre e)
  | 3 => s.setArea a ((s.area a).toPost (s.apCap - s.apPre) e)
  | _ => s

/-! ### Channels (R319, R320) -/

def Vc.chOn (s : Vc) (n : Nat) : Bool := s.on APERTURE.CHSEL.EN n

/-- The values of the channel are binary32. -/
def Vc.chFloat (s : Vc) (n : Nat) : Bool :=
  match s.rd APERTURE.CHSEL.SRC n with
  | 1 => true
  | 2 => true
  | 3 => true
  | 4 => [0, 4, 5].contains (s.rd APERTURE.CHSEL.IDX_B n)
  | _ => false

/-- The present value of a Lens, arm or facet channel. -/
def Vc.chValue (s : Vc) (n : Nat) : Nat :=
  let a := s.rd APERTURE.CHSEL.IDX_A n
  let b := s.rd APERTURE.CHSEL.IDX_B n
  match s.rd APERTURE.CHSEL.SRC n with
  | 1 => s.rd CTX.U.VALUE a b
  | 2 => s.rd CTX.XHAT.VALUE a b
  | 3 => s.rd CTX.XI.VALUE a b
  | 4 =>
    match b with
    | 0 => (s.arm a).vref
    | 1 => s.rd ARM.STAT.N_LAST a
    | 2 => s.rd ARM.TICK.F16 a
    | 3 => s.rd ARM.STAT.N_AVAIL a
    | 4 => s.rd ARM.AGG_VMEAN.VMEAN a
    | 5 => s.rd ARM.AGG_ENERGY.ENERGY a
    | _ => s.rd ARM.STAT.DIR a
  | 6 => (s.facet b).vf
  | _ => (s.facet b).rstate * 16 + (s.facet b).cstate

/-- `a` exceeds `b` in the channel's format; measured samples are signed. -/
def Vc.chGt (s : Vc) (n a b : Nat) : Bool :=
  if s.chFloat n then F32.lt b a
  else if s.rd APERTURE.CHSEL.SRC n = 5 then decide (signed 32 b < signed 32 a)
  else decide (b < a)

/-- Two values differ by more than a threshold in the channel's format (R320). -/
def Vc.chDiff (s : Vc) (n a b lim : Nat) : Bool :=
  if lim = 0 then a ≠ b
  else if s.chFloat n then F32.lt lim (F32.sub a b).abs
  else if s.rd APERTURE.CHSEL.SRC n = 5 then decide ((lim : Int) < (signed 32 a - signed 32 b).natAbs)
  else decide ((lim : Int) < ((a : Int) - b).natAbs)

/-- OFFSET of a CHANGE entry (R321), limited to its 20 bits. -/
def Vc.apOffset (s : Vc) (tag : Nat) : Nat := satSigned 20 ((tag : Int) - s.ap.timeVt)

/-- A CHANGE entry, with the tick's TIME entry before the first. -/
def Vc.apChange (s : Vc) (vt n tag v : Nat) : Vc :=
  let s := if s.ap.timeVt = vt then s else { s.apWrite (.time vt) with ap := { (s.apWrite (.time vt)).ap with timeVt := vt } }
  let s := s.apWrite (.change n (s.apOffset tag) v)
  { s with ap := { s.ap with stored := Tab.set (fun _ => none) s.ap.stored n (some v) } }

/-- A full set (R320): FULLSET, TIME and every enabled channel with the value read last: Lens and arm values at the end of selection, facet
values at the facet commit, samples as they came (R319). Before its first sampling point a channel has its present value, which for a
full set at START is that of the facet commit just over; a measured one that has had no sample yet has an open value (log 20). -/
def Vc.fullSet (s : Vc) (vt : Nat) : Vc :=
  let s := (s.apWrite .fullset).apWrite (.time vt)
  let s := { s with ap := { s.ap with timeVt := vt } }
  forN 64 s fun s n =>
    if s.chOn n then
      let meas : Bool := s.rd APERTURE.CHSEL.SRC n = 5
      match Tab.get (fun _ => none) s.ap.seen n with
      | some (tag, v) => s.apChange vt n (if meas then tag else vt) v
      | none =>
        if meas then { s.apChange vt n vt (Config.freeNat s.free % 4294967296) with free := s.free + 1 }
        else s.apChange vt n vt (s.chValue n)
    else s

/-- An area is taken for FILLING and a full set written (R324). -/
def Vc.takeArea (s : Vc) (a vt : Nat) : Vc :=
  let s := s.wr APERTURE.STATUS.UNREAD (withoutBit (s.rd APERTURE.STATUS.UNREAD) a)
  let s := (s.wr APERTURE.STATUS.AREA a).apTo 1
  let s := s.setArea a { chTable := s.ap.chTable }
  { s with ap := { s.ap with stored := [] } }.fullSet vt

/-- The facet channels are read at the facet commit (R319). -/
def Vc.apFacets (s : Vc) : Vc :=
  if s.apState = 0 then s
  else
    let new := (List.range 64).filterMap fun n =>
      if s.chOn n && decide (6 ≤ s.rd APERTURE.CHSEL.SRC n) then some (n, s.vt, s.chValue n) else none
    { s with ap := { s.ap with pending := s.ap.pending ++ new } }

/-! ### Readout (R325) -/

/-- The bytes of a completed area. -/
def ApArea.bytes (x : ApArea) : List Nat :=
  let es := (x.pre.dropWhile fun e => e ≠ .fullset) ++ x.post
  let body := es.flatMap fun e => e.slots.flatMap fun w => bytesOf w 8
  let total := 320 + body.length
  let head := [total, x.trigMask * 65536 + x.name, x.trigVt % 4294967296, x.trigVt / 4294967296, x.trigTick % 4294967296,
    x.trigTick / 4294967296, x.ignAt, b2n x.truncated + 2 * b2n x.wrapped] ++ List.replicate 8 0
  bytesOfWords (head ++ x.chTable) ++ body

/-- An area is released: in FULL it is taken for recording (R324). -/
def Vc.apRelease (s : Vc) (a : Nat) : Vc :=
  let s := s.wr APERTURE.STATUS.UNREAD (withoutBit (s.rd APERTURE.STATUS.UNREAD) a)
  let s := s.setArea a {}
  if s.apState = 5 then s.takeArea a (s.time.tickVt.getD s.vt) else s

/-- The readout of a completed area. -/
def Vc.apReadNow (s : Vc) (d : Desc) : Vc :=
  let a := bits (d.word 4) 2 0
  let x := s.area a
  let bs := x.bytes
  if !x.complete then s.finish d.id 4
  else if d.word 8 < bs.length ∨ bufFault (d.word 6) (d.word 7) (d.word 8) = 2 then s.finish d.id 2 bs.length
  else
    let ok := s.host.bme || d.orphan
    let s := s.writeBuf d (bufAddr (d.word 6) (d.word 7)) bs bs.length
    if ok && bit (d.word 4) 8 then s.apRelease a else s

/-- The readouts that wait for an area run once it is complete. -/
def Vc.apServe (s : Vc) (a : Nat) : Vc :=
  (s.host.descs.filter fun d => d.type = 8 && d.waiting && bits (d.word 4) 2 0 = a).foldl (fun s d => s.apReadNow d) s

/-! ### Triggers and the sampling point (R322 to R324) -/

/-- A trigger of kind ABOVE, BELOW or STEP on the values of this tick, each with the one before it. -/
def Vc.valueTrig (s : Vc) (t : Nat) (vals : List (Nat × Nat × Option Nat)) : Bool :=
  let ch := s.rd APERTURE.TRIG.CH t
  let lv := s.rd APERTURE.TLEVEL.LEVEL t
  vals.any fun v => v.1 = ch &&
    match s.rd APERTURE.TRIG.KIND t with
    | 0 => s.chGt ch v.2.1 lv
    | 1 => s.chGt ch lv v.2.1
    | _ => match v.2.2 with
      | some p => v.2.1 ≠ p && s.chDiff ch v.2.1 p lv
      | none => false

/-- TRIG[t] is true at this sampling point. -/
def Vc.trigTrue (s : Vc) (t : Nat) (vals : List (Nat × Nat × Option Nat)) : Bool :=
  s.on APERTURE.TRIG.EN t &&
    match s.rd APERTURE.TRIG.KIND t with
    | 3 => decide (Nat.land (bits s.ap.flashMask 9 1) (bits (s.rd APERTURE.TLEVEL.LEVEL t) 9 1) ≠ 0)
    | 4 => (match s.ledger.maxClass with
      | some c => decide (bits (s.rd APERTURE.TLEVEL.LEVEL t) 2 0 ≤ c)
      | none => false)
    | 5 => s.ap.forced
    | k => decide (k < 3) && s.valueTrig t vals

/-- A trigger is ignored (R324). -/
def Vc.ignoreTrig (s : Vc) : Vc :=
  let s := (s.count APERTURE.IGNCNT.IGNCNT).set1 APERTURE.ERRSTAT.IGNORED
  { s with ap := { s.ap with ignored := s.ap.ignored + 1 } }

/-- The trigger of a sampling point (R323). -/
def Vc.takeTrig (s : Vc) (mask : Nat) : Vc :=
  let name := ((List.range 16).find? fun t => bit mask t).getD 0
  let a := s.apArea
  let s := s.apTo 3
  let s := s.apWrite (.trigger name mask)
  let s := s.setArea a { s.area a with trigMask := mask, name := name, trigVt := s.vt, trigTick := s.tickNo }
  let s := { s with ap := { s.ap with trigAt := s.ticks, ignored := 0 } }
  s.event [stRec 0x0D02 0 0 0 (mask * 65536 + name)]

/-- The area in POST is complete (R322, R324): its header, DONE, unread, the interrupt. -/
def Vc.areaDone (s : Vc) (trunc : Bool) : Vc :=
  let a := s.apArea
  let n := s.ap.doneCount + 1
  let s := s.setArea a { s.area a with
    complete := true, truncated := trunc, wrapped := decide (s.apPre < (s.area a).written), ignAt := s.rd APERTURE.IGNCNT.IGNCNT, order := n }
  let s := { s with ap := { s.ap with doneCount := n } }
  let s := s.wr APERTURE.STATUS.UNREAD (withBit (s.rd APERTURE.STATUS.UNREAD) a)
  (s.set1 APERTURE.ERRSTAT.DONE).irq 9

/-- The recorder stops (R324). -/
def Vc.apStopNow (s : Vc) : Vc :=
  let st := s.apState
  let s := if st = 3 then s.areaDone true else if st = 1 ∨ st = 2 then s.setArea s.apArea {} else s
  { s.apTo 0 with ap := { s.ap with stopReq := false, forced := false, flashMask := 0, pending := [] } }

/-- What counted since the last sampling point is over. -/
def Vc.apClear (s : Vc) : Vc :=
  { s with
    ap := { s.ap with pending := [], forced := false, flashMask := 0 }
    ledger := { s.ledger with maxClass := none } }

/-- One value read since the last sampling point, channel, tag and value (R320); the list collects each with the value
before it. -/
def Vc.apTake (p : Vc × List (Nat × Nat × Option Nat)) (e : Nat × Nat × Nat) : Vc × List (Nat × Nat × Option Nat) :=
  let s := p.1
  let n := e.1
  let v := e.2.2
  let old := Tab.get (fun _ => none) s.ap.seen n
  let s := { s with ap := { s.ap with seen := Tab.set (fun _ => none) s.ap.seen n (some (e.2.1, v)) } }
  let s := match Tab.get (fun _ => none) s.ap.stored n with
    | some w => if s.chDiff n v w (s.rd APERTURE.CHDELTA.DELTA n) then s.apChange s.vt n e.2.1 v else s
    | none => s.apChange s.vt n e.2.1 v
  (s, p.2 ++ [(n, v, old.map (·.2))])

/-- The true triggers act by the recorder's state (R322 to R324). -/
def Vc.apTrigs (s : Vc) (mask : Nat) : Vc :=
  match s.apState with
  | 1 =>
    let s := if mask ≠ 0 then s.ignoreTrig else s
    if s.apPre ≤ (s.area s.apArea).written then s.apTo 2 else s
  | 2 => if mask ≠ 0 then s.takeTrig mask else s
  | 3 => if mask ≠ 0 then s.ignoreTrig else s
  | 4 => if mask ≠ 0 then s.ignoreTrig else s
  | _ => s

/-- The sampling point of a tick, at the end of selection (R319 to R324). -/
def Vc.apSamplePoint (s : Vc) : Vc :=
  if s.apState = 0 then { s.apClear with ap := { s.apClear.ap with stopReq := false } }
  else
    let slow := (List.range 64).filterMap fun n =>
      if s.chOn n && decide (s.rd APERTURE.CHSEL.SRC n ≤ 4) then some (n, s.vt, s.chValue n) else none
    let before := (s.area s.apArea).written
    let (s, vals) := (s.ap.pending ++ slow).foldl Vc.apTake (s, [])
    let step := s.apPre / 8
    let s := if (s.apState = 1 ∨ s.apState = 2) ∧ step ≠ 0 ∧ before / step ≠ (s.area s.apArea).written / step then s.fullSet s.vt else s
    let s := (s.apTrigs (maskOf 16 fun t => s.trigTrue t vals)).apClear
    if s.ap.stopReq then s.apStopNow.apServe s.apArea else s

/-! ### Commands (R324, R327) -/

/-- CTRL.START is refused: no channel enabled, or an enabled trigger on a channel that is not (R327). -/
def Vc.apStartBad (s : Vc) : Bool :=
  !((List.range 64).any s.chOn) ||
    (List.range 16).any fun t => s.on APERTURE.TRIG.EN t && decide (s.rd APERTURE.TRIG.KIND t < 3) && !s.chOn (s.rd APERTURE.TRIG.CH t)

/-- APERTURE_START in OFF (R324), at a tick instant. A FORCE and flash events since the last sampling point stay for the next (R323). -/
def Vc.apStart (s : Vc) : Vc :=
  let tbl := (List.range 64).map fun n => s.word (0x120100 + 4 * n)
  let s := s.wr APERTURE.IGNCNT.IGNCNT 0
  let s := { s with ap := { s.ap with chTable := tbl, ignored := 0, seen := [], pending := [] } }
  s.takeArea 0 s.vt

/-- A write of APERTURE.CTRL. -/
def Vc.apCtrl (s : Vc) (w : Nat) : Vc :=
  if bit w 0 && s.apState = 0 && s.apStartBad then s.badWrite 3 0x12000C
  else
    let s := if bit w 0 && s.apState = 0 then s.apStart else s
    let s := if bit w 1 && s.apState ≠ 0 then { s with ap := { s.ap with stopReq := true } } else s
    if bit w 2 then { s with ap := { s.ap with forced := true } } else s

/-! ### APERTURE_READ (R325) -/

/-- APERTURE_READ; of the area in POST it waits (R325). -/
def Vc.apRead (s : Vc) (id : Nat) : Vc :=
  s.withDesc id 8 fun s d =>
    let a := bits (d.word 4) 2 0
    let rest := d.word 5 ≠ 0 ∨ (List.range 7).any fun k => d.word (9 + k) ≠ 0
    let bf := bufFault (d.word 6) (d.word 7) (d.word 8)
    if bits (d.word 4) 31 9 ≠ 0 ∨ bits (d.word 4) 7 3 ≠ 0 ∨ rest ∨ s.apCount ≤ a ∨ bf = 1 then s.finish id 1
    else if s.apState = 3 ∧ s.apArea = a then s.wait id
    else s.apReadNow d

/-- APERTURE_AREA_COMPLETE: the post part is full, or POSTMAX ticks have passed (R322); readouts that wait for it run. -/
def Vc.apAreaComplete (s : Vc) : Vc :=
  let a := s.apArea
  if s.apState = 3 ∧ ((s.area a).postFull ∨ s.ap.trigAt + s.rd APERTURE.POSTMAX.VALUE ≤ s.ticks) then
    ((s.areaDone false).apTo 4).apServe a
  else s

/-- The area the recorder takes after hold-off (R324): the next free one in ascending order, else with WRAP the oldest
unread one. -/
def Vc.nextArea (s : Vc) : Option Nat :=
  let n := s.apCount
  let order := (List.range n).map fun k => (s.apArea + 1 + k) % n
  match order.find? fun a => !bit (s.rd APERTURE.STATUS.UNREAD) a with
  | some a => some a
  | none =>
    if s.on APERTURE.CFG.WRAP then
      order.foldl (fun (b : Option Nat) a =>
        match b with
        | none => some a
        | some c => if (s.area a).order < (s.area c).order then some a else some c) none
    else none

/-- HOLDOFF_END (R324). -/
def Vc.holdoffEnd (s : Vc) : Vc :=
  let v := s.rd APERTURE.HOLDOFF.VALUE
  let past := if s.on APERTURE.HOLDOFF.MODE then decide (v ≤ s.ap.ignored) else decide (s.ap.trigAt + v ≤ s.ticks)
  if s.apState = 4 ∧ past then
    match s.nextArea with
    | some a => s.takeArea a (s.time.tickVt.getD s.vt)
    | none => ((s.apTo 5).set1 APERTURE.ERRSTAT.FULL).irq 9
  else s

end Sys2Proof.Machine
end

