-- ==== Sys2Proof/Machine/HostDesc.lean ====
section
/-!
DEFINITION. Machine/HostDesc.lean: the descriptors of the host-queue chapter (R295, R305 to R308): NOP, VALVE_CTL,
CELL_CLEAR, CELL_MSG and SNAPSHOT.
-/
namespace Sys2Proof.Machine
open Reg

/-- Words `a` to 15 of a descriptor are 0. -/
def Desc.zeroFrom (d : Desc) (a : Nat) : Bool := (List.range 16).all fun k => decide (k < a) || d.word k = 0

/-- NOP (R295). -/
def Vc.nopDesc (s : Vc) (id : Nat) : Vc :=
  s.withDesc id 0 fun s d => s.finish id (if d.zeroFrom 4 then 0 else 1)

/-! ### VALVE_CTL (R15, R305) -/

/-- Conditions [0] to [3] of R305 that fail on this VC. An arm homed elsewhere counts as its home told it (log 99), and is not FORMED
to a VC that no home tells (R15). -/
def Vc.deblockFails (s : Vc) : Nat :=
  let local_ := (List.range 48).any fun n => s.on PRISM.STRMAP.EN n && (s.strArm n).state ≠ 1
  let remote := s.casc.remStrs.any fun r => r.home = s.vcId && s.rd ARM.STAT.STATE r.arm ≠ 1
  let unfed := (List.range 12).any fun a => s.rd ARM.STAT.STATE a = 1 && (s.feederIn a 1).isNone
  b2n (!s.on PROT.STATUS.PERMIT_A || !s.on PROT.STATUS.PERMIT_B) + 2 * b2n s.latched + 4 * b2n (local_ || remote) + 8 * b2n unfed

/-- Condition [4]: a member of the running cascade failed one, or has not reported. A lead whose cascade is not in RUN has no member
that could report, and checks none (DESIGN CHOICE, log 104). -/
def Vc.memberFails (s : Vc) : Bool :=
  s.rd CASCADE.CFG.ROLE = 1 && s.cascState = 3 &&
    (s.casc.members.any (fun m => m.2 % 16 ≠ 0) || decide (s.casc.members.length < s.rd CASCADE.CFG.VC_COUNT - 1))

/-- The DETAIL of a deblock (R305). -/
def Vc.deblockDetail (s : Vc) : Nat := s.deblockFails + 16 * b2n s.memberFails

/-- The valve is deblocked here, unless a host block takes effect at the same boundary (R305) or a cause is latched (R139). -/
def Vc.deblock (s : Vc) : Vc :=
  if s.prot.blkTick.isSome ∨ s.latched then s
  else (s.wr PROT.STATUS.HOST_BLK 0).wr GLOBAL.STATUS.BLOCKED 0

/-- A VALVE_CTL whose words are acceptable. -/
def Desc.valveOk (d : Desc) : Bool :=
  let op := bits (d.word 4) 31 28
  (op = 1 || op = 2) && bits (d.word 4) 27 0 = 0 && d.zeroFrom 5

/-- VALVE_CTL with one OP: it ends at once where its words or this VC's ROLE refuse it, and otherwise takes effect at the next tick
boundary. -/
def Vc.valveCtl (s : Vc) (id op : Nat) : Vc :=
  s.withDesc id 10 fun s d =>
    if s.rd CASCADE.CFG.ROLE = 2 then s.finish id 0xA
    else if !d.valveOk then s.finish id 1
    else if bits (d.word 4) 31 28 ≠ op then s
    else s.holdDesc id .failed

/-- VALVE_CTL DEBLOCK at its tick boundary: of a deblocked valve OK; checked against R15; OK, or BAD_STATE with the failed
conditions. -/
def Vc.deblockNow (s : Vc) (id : Nat) : Vc :=
  if !s.blocked then s.finish id 0
  else if s.deblockDetail ≠ 0 then s.finish id 4 s.deblockDetail
  else
    let s := s.deblock
    let s := if s.cascState = 3 then s.emit (.cascade 6 [b2n (!s.blocked)]) else s
    s.finish id 0

/-- VALVE_CTL at its tick boundary (R305). -/
def Vc.valveNow (s : Vc) (d : Desc) : Vc :=
  if bits (d.word 4) 31 28 = 2 then s.hostBlock.finish d.id 0 else s.deblockNow d.id

/-! ### CELL_CLEAR (R306) -/

/-- The facets of a CELL_CLEAR. -/
def Desc.clearRange (d : Desc) : List Nat := (List.range (bits (d.word 5) 12 0)).map (· + bits (d.word 4) 12 0)

/-- The status of R306 at the effective tick. -/
def Vc.cellClearStatus (s : Vc) (d : Desc) : Nat :=
  let first := bits (d.word 4) 12 0
  let count := bits (d.word 5) 12 0
  if bits (d.word 4) 31 13 ≠ 0 ∨ bits (d.word 5) 31 13 ≠ 0 ∨ !d.zeroFrom 6 ∨ count = 0 ∨ count = 0x1FFF then 1
  else if 4608 < count ∨ 4608 < first + count then 2
  else if d.clearRange.all fun n => s.strRuns (facetStr n) && decide (facetPos n < s.rd STRING.CFG.CELLS (facetStr n)) &&
      (s.facet n).arm ≠ 0xF then 0
  else 4

/-- CELL_CLEAR takes effect at the next tick boundary. -/
def Vc.cellClear (s : Vc) (id : Nat) : Vc := s.withDesc id 11 fun s _ => s.holdDesc id .failed

/-- CELL_CLEAR at its tick boundary: the facets' commands of this tick carry CLR. -/
def Vc.clearNow (s : Vc) (d : Desc) : Vc :=
  let st := s.cellClearStatus d
  if st ≠ 0 then s.finish d.id st
  else
    let s := d.clearRange.foldl (fun (s : Vc) n => s.setFacet n { s.facet n with clrPend := true, clrSeq := none }) s
    (s.wait d.id s.ticks).modDesc d.id fun e => { e with eff := s.tickNo }

/-- A facet has reported after its clear: its last accepted report is from a sweep launched at or after the effective tick of the
command that carried CLR (R306). -/
def Vc.clearedFacet (s : Vc) (n : Nat) : Bool :=
  let f := s.facet n
  !f.clrPend && f.seqDone.isSome && match f.clrSeq with | some q => !seqNewer q f.lastSeq | none => false

/-- CELL_CLEAR_DONE: every facet has reported, or 16 ticks have run out. -/
def Vc.cellClearDone (s : Vc) (id : Nat) : Vc :=
  match s.desc? id with
  | none => s
  | some d =>
    let all_ := d.clearRange.all s.clearedFacet
    if !d.isStarted || d.type ≠ 11 || !d.waiting || d.bound.isSome || !(all_ || decide (d.aux + 16 ≤ s.ticks)) then s
    else
      let still := (d.clearRange.filter fun n => bit (s.facet n).rflags 0 || bit (s.facet n).rflags 2).length
      let s := d.clearRange.foldl (fun (s : Vc) n => s.setFacet n { s.facet n with clrPend := false }) s
      s.finishAt id 0 (still + 2147483648 * b2n (!all_)) d.eff

/-! ### CELL_MSG (R307) -/

/-- The status of R307, and the payload read for a WRITE. -/
def Vc.cellMsgStatus (s : Vc) (d : Desc) (buf : HostBuf) : Nat × List Nat :=
  let n := bits (d.word 4) 25 20
  let op := bits (d.word 4) 19 16
  let dest := bits (d.word 4) 6 0
  let len := bits (d.word 5) 19 16
  let addr := bits (d.word 5) 15 0
  let covers (a : Nat) : Bool := decide (addr ≤ a) && decide (a < addr + 8 * len)
  let bad := decide (bits (d.word 4) 31 26 ≠ 0) || decide (1 < op) || decide (bits (d.word 4) 15 7 ≠ 0) || decide (47 < n) ||
    decide (bits (d.word 5) 31 20 ≠ 0) || decide (len = 0) || decide (8 < len) || decide (addr % 4 ≠ 0) ||
    (decide (96 ≤ dest) && decide (dest ≤ 126)) || (op = 0 && (dest = 0x7F || decide (d.word 9 ≠ 0))) || !d.zeroFrom 10 ||
    (op = 1 && (covers 0x108 || covers 0x604 || covers 0x608)) || bufFault (d.word 6) (d.word 7) (d.word 8) = 1
  let st := s.rd STRING.STATUS.STATE n
  let late := if st = 0 ∨ st = 1 ∨ st = 7 then 4 else 0
  if bad then (1, [])
  else if d.word 8 ≠ 8 * len then (2, [])
  else if op = 0 then (late, [])
  else
    match s.readBuf buf (d.word 8) with
    | none => (8, [])
    | some bs => if crc32c bs = d.word 9 then (late, packBlocks bs) else (3, [])

/-- CELL_MSG with one OP: it enters its string's queue once, or waits while that is full (R194). -/
def Vc.cellMsg (s : Vc) (id op : Nat) (buf : HostBuf) : Vc :=
  s.withDesc id 6 fun s d =>
    let n := bits (d.word 4) 25 20
    if d.aux ≠ 0 ∨ (bits (d.word 4) 19 16 ≠ op ∧ bits (d.word 4) 19 16 ≤ 1) then s
    else if !s.msgRoom n then s
    else
      let r := s.cellMsgStatus d buf
      if r.1 ≠ 0 then s.finish id r.1
      else
        let m : Msg := ⟨.descriptor id, op, bits (d.word 4) 6 0, bits (d.word 5) 15 0, bits (d.word 5) 19 16, r.2, 0⟩
        ((s.queueMsg n m).wait id 1).pump

/-! ### SNAPSHOT (R308) -/

/-- A register has a field that can be read. -/
def Row.readable (r : Row) : Bool := r.parts.any fun p => p.acc ≠ .wo

/-- The mapped registers of a BAR0 page with their values, in ascending offset. -/
def Vc.pageRegs (s : Vc) (page : Nat) : List (Nat × Nat) :=
  if vcRows page = [] then [] else
  (List.range 16384).filterMap fun k =>
    match s.mapped (65536 * page + 4 * k) with
    | some (r, i, j) => if r.readable then some (65536 * page + 4 * k, s.rowWord r i j) else none
    | none => none

/-- The captured bytes. -/
def Vc.snapshotBytes (s : Vc) (mask : Nat) (facets : Bool) : List Nat :=
  let regs := ((List.range 23).filter (bit mask)).flatMap s.pageRegs
  let ft := if facets then (List.range 4608).flatMap fun n => (s.facet n).entry else []
  let total := 32 + 8 * regs.length + 4 * ft.length
  bytesOfWords ([total, regs.length, s.tickNo % 4294967296, s.tickNo / 4294967296, (s.time.tickVt.getD s.vt) % 4294967296,
      (s.time.tickVt.getD s.vt) / 4294967296, 0, 0] ++
    (regs.flatMap fun e => [e.1, e.2]) ++ ft)

/-- The words of a SNAPSHOT are not acceptable: 1 BAD_PARAM, 2 BOUNDS. -/
def Desc.snapFault (d : Desc) : Nat :=
  let mask := d.word 4
  let pages := [7, 9, 10, 11, 13, 14, 15].any (bit mask) || decide (8388608 ≤ mask)
  if pages || decide (1 < d.word 5) || !d.zeroFrom 9 || bufFault (d.word 6) (d.word 7) (d.word 8) = 1 then 1
  else if bufFault (d.word 6) (d.word 7) (d.word 8) = 2 then 2 else 0

/-- SNAPSHOT waits for the facet commit of the tick in which it takes effect. -/
def Vc.snapshot (s : Vc) (id : Nat) : Vc :=
  s.withDesc id 9 fun s d => if d.snapFault ≠ 0 then s.finish id d.snapFault else s.holdDesc id .failed

/-- SNAPSHOT at the facet commit. -/
def Vc.snapNow (s : Vc) (d : Desc) : Vc :=
  let s := s.refreshLoad
  let bs := s.snapshotBytes (d.word 4) (bit (d.word 5) 0)
  if d.word 8 < bs.length then s.finish d.id 2 bs.length
  else s.writeBuf d (bufAddr (d.word 6) (d.word 7)) bs 0

end Sys2Proof.Machine
end

