-- ==== Sys2Proof/Machine/Protect.lean ====
section
/-!
DEFINITION. Machine/Protect.lean: measurement frames and the comparators, the protection latch's other sources, clearing
and testing it, arm tokens and firings (R133 to R152, R404).
-/
namespace Sys2Proof.Machine
open Reg

/-! ### Measurement channels -/

/-- A channel is enabled on an enabled lane (R135, R136). -/
def Vc.chEnabled (s : Vc) (l ch : Nat) : Bool := bit (s.rd PROT.CFG.MLANE_EN) l && s.on MLANE.CHCFG.EN l ch

/-- A channel is past its MISS time (R135). -/
def Vc.pastMiss (s : Vc) (l ch : Nat) : Bool :=
  decide ((s.chan (4 * l + ch)).lastOk + 400 * s.rd MLANE.MCFG.MISS l < s.now)

/-- Comparator instances in service. -/
def Vc.instances (s : Vc) : List Nat := (List.range 3).filter fun i => !bit (s.rd PROT.STATUS.HELD) i

/-- Structural records of a held-out instance, unit to die, ESCALATED (R137, R44). -/
def heldRecs (i d : Nat) : List Rec := (List.range 4).map fun lev => stRec 0x0424 lev 3 i d 3 1

/-! ### The copies of the comparator instances (R137) -/

/-- A threshold or configuration value of channel k as the registers hold it: HI, LO, CONSEC, EN. -/
def Vc.cmpReg (s : Vc) (f k : Nat) : Nat :=
  match f with
  | 0 => s.rd MLANE.THRESH.HI (k / 4) (k % 4)
  | 1 => s.rd MLANE.THRESH.LO (k / 4) (k % 4)
  | 2 => s.rd MLANE.CHCFG.CONSEC (k / 4) (k % 4)
  | _ => s.rd MLANE.CHCFG.EN (k / 4) (k % 4)

/-- The same as instance i's copy holds it. -/
def Vc.cmpVal (s : Vc) (i f k : Nat) : Nat :=
  (Tab.get (fun _ => none) s.prot.copies ((4 * i + f) * 32 + k)).getD (s.cmpReg f k)

/-- Instance i's check of its copies fails: one of them is not as it was written, and the CRC shows it. -/
def Vc.copyBad (s : Vc) (i : Nat) : Bool :=
  (s.prot.copies.any fun e => e.1 / 128 = i) &&
    Config.copyCrc ((List.range 128).map fun n => s.cmpVal i (n % 4) (n / 4)) ≠
      Config.copyCrc ((List.range 128).map fun n => s.cmpReg (n % 4) (n / 4))

/-- A copy's value changes by an upset. -/
def Vc.copyUpset (s : Vc) (u : CmpUpset) : Vc :=
  let v := if u.field.val < 2 then u.value.toNat else if u.field.val = 2 then u.value.toNat % 4 else u.value.toNat % 2
  let v := if v = s.cmpReg u.field u.chan then none else some v
  { s with prot := { s.prot with
      copies := Tab.set (fun _ => none) s.prot.copies ((4 * u.inst.val + u.field.val) * 32 + u.chan.val) v } }

/-- The instances check their copies at the tick (R137): a check that fails within a run of disagreement is one of that run. -/
def Vc.copyCheck (s : Vc) (ups : List CmpUpset) : Vc :=
  let s := ups.foldl Vc.copyUpset s
  let s : Vc := { s with prot := { s.prot with crcFail := maskOf 3 fun i => s.copyBad i } }
  forN 32 s fun s k =>
    let c := s.chan k
    if s.prot.crcFail = 0 || c.dis.all (· = 0) then s
    else s.setChan k { c with crcBad := (List.range 3).map fun i => c.crcBad.getD i false || bit s.prot.crcFail i }

/-- A channel's configuration is written: every instance's copy of it takes the values written. -/
def Vc.copyWritten (s : Vc) (k : Nat) : Vc :=
  { s with prot := { s.prot with copies := s.prot.copies.filter fun e => e.1 % 32 ≠ k } }

/-- The runs of disagreement of every channel restart. -/
def Vc.clearRuns (s : Vc) : Vc :=
  forN 32 s fun s k => s.setChan k { s.chan k with dis := [0, 0, 0], crcBad := [false, false, false] }

/-- An instance is held out: the first leaves 1OF2, the second latches CMP_FAIL and is FATAL at the package, which passes it to
the system (R44, R137). -/
def Vc.holdOut (s : Vc) (i : Nat) : Vc :=
  let s := s.clearRuns
  let first := s.rd PROT.STATUS.CMP_MODE = 0
  let s := s.setBit PROT.STATUS.HELD i
  let s := s.set1 PROT.ERRSTAT.CMP_HELDOUT
  let d := s.word 0x50030
  if first then (s.wr PROT.STATUS.CMP_MODE 1).event (heldRecs i d ++ [stRec 0x0424 4 2 i d 3 1])
  else (s.wr PROT.STATUS.CMP_MODE 2).latchCause 9 (heldRecs i d ++ fatalRecs 0x0424 i d)

/-- A disagreement of instance `i` is counted (R137). -/
def Vc.disagrees (s : Vc) (i : Nat) : Vc := ((s.count PROT.CMPDIS.COUNT i).set1 PROT.ERRSTAT.CMP_DISAGREE).corrected 0

/-- The runs of disagreement of a channel after one sample, and the hold-out they lead to; `ov i` is instance i's
judgment (R137). -/
def Vc.judgeRuns (s : Vc) (k : Nat) (ov : Nat → Bool) : Vc :=
  let c := s.chan k
  let bad (i : Nat) : Bool := bit s.prot.crcFail i
  match s.rd PROT.STATUS.CMP_MODE with
  | 0 =>
    let dis (i : Nat) : Bool := bad i || (ov i != ov ((i + 1) % 3) && ov i != ov ((i + 2) % 3))
    let d := (List.range 3).map fun i => if dis i then c.dis.getD i 0 + 1 else 0
    let s := forN 3 s fun s i => if dis i then s.disagrees i else s
    match (List.range 3).filter fun i => decide (8 ≤ d.getD i 0) with
    | [] => s.setChan k { c with dis := d }
    | out => out.foldl Vc.holdOut s
  | 1 =>
    match s.instances with
    | [a, b] =>
      let differ := ov a != ov b
      let dis := differ || bad a || bad b
      let s := if differ || bad a then s.disagrees a else s
      let s := if differ || bad b then s.disagrees b else s
      let n := if dis then c.dis.getD a 0 + 1 else 0
      let cb := (List.range 3).map fun i => dis && (c.crcBad.getD i false || bad i)
      if 8 ≤ n then
        let ca := cb.getD a false
        let cbb := cb.getD b false
        s.holdOut (if ca && !cbb then a else b)
      else s.setChan k { c with dis := (List.range 3).map fun i => if i = a || i = b then n else 0, crcBad := cb }
    | _ => s
  | _ => s

/-- Over, as R136 says. -/
def Vc.isOver (s : Vc) (l ch x : Nat) (overrange : Bool) : Bool :=
  let v := signed 16 x
  decide (signed 16 (s.rd MLANE.THRESH.HI l ch) < v) || decide (v < signed 16 (s.rd MLANE.THRESH.LO l ch)) || overrange

/-- Over, as instance i judges by its own copies (R136, R137). -/
def Vc.judges (s : Vc) (i k x : Nat) (overrange : Bool) : Bool :=
  let v := signed 16 x
  s.cmpVal i 3 k = 1 &&
    (decide (signed 16 (s.cmpVal i 0 k) < v) || decide (v < signed 16 (s.cmpVal i 1 k)) || overrange)

/-- The judgments of the instances in service combined as the mode says (R137). -/
def Vc.combine (s : Vc) (j : Nat → Bool) : Bool :=
  match s.rd PROT.STATUS.CMP_MODE with
  | 0 => decide (2 ≤ (s.instances.filter j).length)
  | 1 => s.instances.any j
  | _ => false

/-- One valid sample reaches the comparators (R136, R137), which judge it by their own copies; `bad` marks instances whose judgment
itself is wrong. A channel trips at the
sample that ends its run of CONSEC + 1; the samples that only go on being over are no second trip. -/
def Vc.compare (s : Vc) (l ch x : Nat) (overrange : Bool) (bad : Nat) : Vc :=
  let k := 4 * l + ch
  let isOv := s.isOver l ch x overrange
  let ov (i : Nat) : Bool := s.judges i k x overrange != bit bad i
  let c := s.chan k
  let run := (List.range 3).map fun i => if ov i then c.run.getD i 0 + 1 else 0
  let s := s.setChan k { c with run := run, isOv := isOv }
  let past (r : List Nat) (i : Nat) : Bool := decide (s.cmpVal i 2 k < r.getD i 0)
  let trips := s.combine (past run) && !(s.combine (past c.run) && s.hasCause 1)
  let s := if trips then (s.setChan k { s.chan k with tripped := true }).latchCause 1 [] l ch x l else s
  s.judgeRuns k ov

/-- Aperture sees a valid sample: the channel that records it, its tag and its value (R319, R321). -/
def Vc.apSample (s : Vc) (l ch x tag : Nat) : Vc :=
  let v := unsigned 32 (signed 16 x)
  let mine := (List.range 64).filter fun n =>
    s.on APERTURE.CHSEL.EN n && s.rd APERTURE.CHSEL.SRC n = 5 && s.rd APERTURE.CHSEL.IDX_A n = l && s.rd APERTURE.CHSEL.IDX_B n = ch
  { s with ap := { s.ap with pending := s.ap.pending ++ mine.map fun n => (n, tag, v) } }

/-- One channel of an accepted frame (R135); `bad` has three bits for each channel. -/
def Vc.takeSample (s : Vc) (l ch x stat bad tag : Nat) : Vc :=
  let k := 4 * l + ch
  let ok := bit stat 0 && !bit stat 2
  let c := s.chan k
  if !ok then s
  else
    let s := s.setChan k { c with
      inTick := some s.ticks, lastOk := s.now, missed := false, value := some x
      total := c.total + signed 16 x, num := c.num + 1 }
    let s := s.apSample l ch x tag
    if s.chEnabled l ch then s.compare l ch x (bit stat 1) (bits bad (3 * ch + 2) (3 * ch))
    else s.setChan k { s.chan k with isOv := s.isOver l ch x (bit stat 1) }

/-- A sample frame reaches the control domain (R133, R134): accepted or discarded, its samples judged. -/
def Vc.measFrame (s : Vc) (l : Nat) (bs : List Block) (bad : Nat) : Vc :=
  let p (i : Nat) : Nat := (bs.getD i ⟨false, 0⟩).pay.toNat
  let shape := match bs with | [a, b, c, d] => a.ctl && !b.ctl && !c.ctl && !d.ctl | _ => false
  let w0 := p 0
  let nch := bits w0 10 8
  let ok := shape && s.rd LANE.STATUS.BSTATE (96 + l) = 7 && w0 % 256 = 0x5A &&
    bits (p 3) 15 0 = check16 (bitsUp w0 0 64 ++ bitsUp (p 1) 0 64 ++ bitsUp (p 2) 0 64) &&
    bits w0 47 32 = s.rd MLANE.MCFG.UNIT_ID l && nch = s.rd MLANE.MCFG.NCH l
  if !bit (s.rd PROT.CFG.MLANE_EN) l then s
  else if !ok then
    let s := (s.count MLANE.CRCERR.CRCERR l).set1 PROT.ERRSTAT.FRAME_ERR
    s.event [stRec 0x0420 0 2 l (s.word 0x50030) 3 1]
  else
    let fseq := bits w0 31 16
    let gap : Bool := match Tab.get (fun _ => none) s.prot.fseqSeen l with | some q => fseq ≠ (q + 1) % 65536 | none => false
    let s := if gap then (s.count MLANE.SEQGAP.SEQGAP l).set1 PROT.ERRSTAT.SEQ_GAP else s
    let s := s.wr MLANE.MSTAT.LAST_FSEQ fseq l
    let s := { s with prot := { s.prot with
      fseqSeen := Tab.set (fun _ => none) s.prot.fseqSeen l (some fseq)
      lastFrame := Tab.set (fun _ => 0) s.prot.lastFrame l s.now } }
    let lag := (if s.rd LANE.STATUS.RATE (96 + l) = 2 then 294 else 589) + 4 * bits (p 2) 15 0
    let tag := (s.vt + 18446744073709551616 - lag) % 18446744073709551616
    forN nch s fun s ch => s.takeSample l ch (bits (p 1) (16 * ch + 15) (16 * ch)) (bits w0 (51 + 4 * ch) (48 + 4 * ch)) bad tag

/-- An enabled channel has had no valid sample for its MISS time (R135). -/
def Vc.measMiss (s : Vc) (l ch : Nat) : Vc :=
  let c := s.chan (4 * l + ch)
  if !s.chEnabled l ch || c.missed || !s.pastMiss l ch then s
  else
    let s := s.setChan (4 * l + ch) { c with missed := true }
    if s.on MLANE.MCFG.MISS_ACT l then s.latchCause 2 [] l ch 0 l
    else
      let s := (s.set1 PROT.ERRSTAT.MEAS_MISS).irq 3
      s.event [opRec 0x0422 3 2 l (s.word 0x50030)]

/-- Configuration of a channel changed: its runs restart; a channel now enabled starts its MISS time (R136, log 35). -/
def Vc.chanRestart (s : Vc) (l ch : Nat) (newly : Bool) : Vc :=
  let k := 4 * l + ch
  let c := s.chan k
  s.setChan k { c with run := [0, 0, 0], lastOk := if newly then s.now else c.lastOk, missed := if newly then false else c.missed }

/-! ### The block permit (R140) -/

/-- A companion port is enabled (R353). -/
def Vc.portOn (s : Vc) (p : Nat) : Bool := bit (s.rd COMPANION.CFG.EN) p

/-- The AND of the PERMIT bits of the enabled ports (R352). -/
def Vc.scPermit (s : Vc) : Bool := (List.range 2).all fun p => !s.portOn p || bit (s.rd CPORT.STATUS.SC_STATUS p) 7

/-- A filtered pin differs from the reports of the enabled ports (R352). -/
def Vc.permitMismatch (s : Vc) : Bool :=
  (s.portOn 0 || s.portOn 1) && (s.on PROT.STATUS.PERMIT_A ≠ s.scPermit || s.on PROT.STATUS.PERMIT_B ≠ s.scPermit)

/-- A pin, a report or an enable may have changed: since when they differ (R352). -/
def Vc.watchPermit (s : Vc) : Vc :=
  { s with prot := { s.prot with differAt := if s.permitMismatch then some (s.prot.differAt.getD s.now) else none } }

/-- The filtered level of a BLKREQ pin; a departure from the permit level latches PERMIT. -/
def Vc.permitLevel (s : Vc) (pinB level : Bool) : Vc :=
  let was := if pinB then s.on PROT.STATUS.PERMIT_B else s.on PROT.STATUS.PERMIT_A
  let s := (if pinB then s.wr PROT.STATUS.PERMIT_B (b2n level) else s.wr PROT.STATUS.PERMIT_A (b2n level)).watchPermit
  if was && !level then s.latchCause 3 else s

/-- A BLKREQ pin has held a level for a time in ns. For 100 ns or more it is the pin's level, and the filter passes it. A shorter
time is a pulse that has ended: under 60 ns it is ignored, and between it passes or not, freely. -/
def Vc.permitChange (s : Vc) (pinB level : Bool) (ns : Nat) : Vc :=
  if 100 ≤ ns then
    ({ s with prot := if pinB then { s.prot with pinB := level } else { s.prot with pinA := level } }).permitLevel pinB level
  else if ns < 60 then s
  else
    let t := { s with free := s.free + 1 }
    if Config.freeBit s.free then t.permitLevel pinB level else t

/-! ### Clearing, blocking, testing (R139, R404) -/

/-- A cause is still active (R139). -/
def Vc.causeActive (s : Vc) : Bool :=
  (List.range 32).any (fun k =>
    let c := s.chan k
    (c.tripped && c.isOv) || (s.chEnabled (k / 4) (k % 4) && s.pastMiss (k / 4) (k % 4))) ||
  !s.on PROT.STATUS.PERMIT_A || !s.on PROT.STATUS.PERMIT_B ||
  (List.range 12).any (fun a => s.rd ARM.STAT.STATE a = 2 || (s.arm a).failed) || s.rd VOTER.STATUS.MODE = 2 ||
  s.rd CASCADE.STATUS.STATE = 4 || s.rd PROT.STATUS.CMP_MODE = 2

/-- CTRL.CLEAR (R139): it never deblocks. -/
def Vc.protClear (s : Vc) : Vc :=
  if s.causeActive then (s.set1 PROT.ERRSTAT.CLEAR_REFUSED).irq 3
  else (forN 32 s fun s k => s.setChan k { s.chan k with tripped := false }).wr PROT.LATCH.CAUSE 0

/-- A write of PROT.CTRL (R139, R402). -/
def Vc.protCtrl (s : Vc) (w : Nat) : Vc :=
  if (bit w 0 || bit w 1) && bits w 31 16 ≠ 0x5A3C then s.badWrite 3 0x5000C
  else
    let s := if bit w 1 then s.protClear else s
    if bit w 0 then s.hostBlock else s

/-- The injected sample is over by an instance's own copies; whether the channel is enabled does not matter (R404). -/
def Vc.testOver (s : Vc) (i k x : Nat) : Bool :=
  decide (signed 16 (s.cmpVal i 0 k) < signed 16 x) || decide (signed 16 x < signed 16 (s.cmpVal i 1 k))

/-- A write of PROT.TEST (R404): the injected sample is judged with its value alone. -/
def Vc.protTest (s : Vc) (w : Nat) : Vc :=
  if !s.blocked then s.badWrite 3 0x5002C
  else if bit w 15 && s.combine (fun i => s.testOver i (4 * bits w 14 12 + bits w 11 10) (bits w 31 16)) then
    (s.set1 PROT.ERRSTAT.TEST_TRIP).irq 3
  else s

/-! ### Arm tokens and firings (R150 to R152) -/

def Vc.tokStat (s : Vc) (a : Nat) : Nat := s.word (0x50404 + 0x10 * a)

/-- A write of TOKCFG: grant or revocation. -/
def Vc.tokCfg (s : Vc) (a w : Nat) : Vc :=
  let n := bits w 15 12
  let ex := bits w 7 0
  if bits w 31 16 ≠ 0x96E1 ∨ 8 < n ∨ (n ≠ 0 ∧ ex = 0) then s.badWrite 3 (0x50400 + 0x10 * a)
  else if n = 0 then
    let s := s.setToken a {}
    s.event [opRec 0x0441 2 0 a (s.tokStat a) 0 0]
  else
    let s := s.setToken a ⟨bits w 11 8, n, s.vt + 4000000 * ex⟩
    s.event [opRec 0x0440 2 0 a (s.tokStat a) 0 0]

/-- A token's time has run out. -/
def Vc.tokenExpiry (s : Vc) (a : Nat) : Vc := if s.tokenValid a then s else s.setToken a {}

/-- A write of PROT.FIRE: the request waits for the next tick boundary. -/
def Vc.fireWrite (s : Vc) (w : Nat) : Vc :=
  if bits w 31 16 ≠ 0x96E1 ∨ 4608 ≤ bits w 12 0 then s.badWrite 3 0x50500
  else { s with prot := { s.prot with fireReq := s.prot.fireReq ++ [bits w 12 0] } }

/-- The result of one request (R151). -/
def Vc.fireResult (s : Vc) (n : Nat) : Nat :=
  let f := s.facet n
  if !s.strRuns (facetStr n) ∨ f.arm = 0xF then 6
  else if s.prot.firing.isSome then 5
  else if ¬ (f.arm < 12 ∧ s.tokenValid f.arm ∧ (s.token f.arm).home = f.home) then 2
  else if f.inSvc then 3
  else if f.rstate = 5 then 4
  else 1

/-- One request is checked at a tick boundary. -/
def Vc.fireCheck (s : Vc) (n : Nat) : Vc :=
  let r := s.fireResult n
  let s := s.wr PROT.FIRESTAT.RESULT r
  let s := s.wr PROT.FIRESTAT.FACET n
  if r = 1 then
    let a := (s.facet n).arm
    let t := s.token a
    let s := s.setToken a { t with count := t.count - 1 }
    let s := { s with prot := { s.prot with firing := some { facet := n, left := 4 } } }
    s.event [opRec 0x0442 0 0 n (s.word 0x50504) 0 0]
  else s

/-- Every request waiting is checked, in order. -/
def Vc.fireTick (s : Vc) : Vc :=
  let rs := s.prot.fireReq
  rs.foldl Vc.fireCheck { s with prot := { s.prot with fireReq := [] } }

/-- After the launch of a tick the firing advances: a slot filled, the effective tick nearer, or a tick after it. -/
def Vc.fireAdvance (s : Vc) : Vc :=
  match s.prot.firing with
  | none => s
  | some g =>
    let n := facetStr g.facet
    let seq := (s.str n).nextSeq + 65535
    let g' :=
      if 1 < g.left then { g with left := g.left - 1 }
      else if g.left = 1 then { g with left := 0, effIn := s.headerLc n, effSeq := (seq + s.headerLc n) % 65536 }
      else if 0 < g.effIn then { g with effIn := g.effIn - 1 }
      else { g with after := g.after + 1 }
    { s with prot := { s.prot with firing := some g' } }

/-- A firing ends (R152): a report from a sweep launched at or after the last effective tick, or 16 ticks. -/
def Vc.firingEnd (s : Vc) : Vc :=
  match s.prot.firing with
  | none => s
  | some g =>
    let f := s.facet g.facet
    let reported := f.accepted && (f.lastSeq = g.effSeq || seqNewer f.lastSeq g.effSeq)
    if 0 < g.left ∨ 0 < g.effIn ∨ (!reported ∧ g.after < 16) then s
    else
      let s := { s with prot := { s.prot with firing := none } }
      if f.rstate = 5 then s
      else
        let s := s.set1 PROT.FIRESTAT.NO_EFFECT
        s.event [opRec 0x0443 0 2 g.facet (s.word 0x50504) 0 0]

/-! ### Cascade blocks (R144) -/

/-- A block flash's fields are right (R141, R143). -/
def flashOk (p : Nat) : Bool := p % 65536 = 0x3CC3 && p / 281474976710656 = check16 (bitsUp p 0 48)

/-- A copy of a cascade block on a pair is good or has failed its CRC, which is counted. A frame of which one copy failed and another
was used is COPY_ERR, CORRECTED, once (R36): copies that come within the 150 ns of one hop (R31) are those of one frame (DESIGN
CHOICE, log 106). -/
def Vc.blkCopy (s : Vc) (pair : Nat) (good : Bool) : Vc :=
  let near (t : Tab (Option Nat)) : Bool := match Tab.get (fun _ => none) t pair with
    | some x => decide (s.now ≤ x + 600)
    | none => false
  let put (t : Tab (Option Nat)) (v : Option Nat) : Tab (Option Nat) := Tab.set (fun _ => none) t pair v
  let c := s.casc
  let s := if good then s else s.count CASCADE.COPYCNT.COUNT
  let s := if near (if good then c.blkBad else c.blkGood) then (s.set1 CASCADE.ERRSTAT.COPY_ERR).corrected 0 else s
  if good then { s with casc := { s.casc with blkGood := put c.blkGood (some s.now), blkBad := put c.blkBad none } }
  else { s with casc := { s.casc with blkBad := put c.blkBad (some s.now), blkGood := put c.blkGood none } }

/-- A copy of a cascade block arrives on a pair. A good one's ORIGIN and FSEQ are handled once (R144): CASC_IN, the flash event with
them, and the other pair. -/
def Vc.cascadeBlock (s : Vc) (pair : Nat) (b : Block) : Vc :=
  let p := b.pay.toNat
  let o := bits p 39 36
  let q := bits p 31 24
  if !b.ctl || p % 256 ≠ 0xC3 || !s.pairUp pair then s
  else
    let s := s.blkCopy pair (flashOk p)
    if !flashOk p || s.prot.seenCasc.contains (o, q) then s
    else ((s.markSeen (o, q)).latchCause 7 [] 0 0 0 0 (some (o, q)) []).cascBlocks [1 - pair] p

end Sys2Proof.Machine
end

