-- ==== Sys2Proof/Machine/Companion.lean ====
section
/-!
DEFINITION. Machine/Companion.lean: the VC's companion ports (R351 to R353).
-/
namespace Sys2Proof.Machine
open Reg

def Vc.comp (s : Vc) (p : Nat) : Comp := Tab.get (fun _ => {}) s.comps p
def Vc.setComp (s : Vc) (p : Nat) (x : Comp) : Vc := { s with comps := Tab.set (fun _ => {}) s.comps p x }

/-- ERRSTAT of a port as a word, the DATA of its records (R310). -/
def Vc.portErr (s : Vc) (p : Nat) : Nat := s.word (0x140114 + 0x40 * p)

/-- The request word of R351. -/
def requestWord (op seq addr data : Nat) : Nat :=
  let low := 0xE1 + op * 256 + seq % 256 * 65536 + addr % 256 * 4294967296 + data % 256 * 1099511627776
  low + check16 (bitsUp low 0 48) * 281474976710656

/-- The 64-bit words of a companion frame, bit 0 first, as bytes. -/
def compBytes (ws : List Nat) : List Byte := (ws.flatMap fun w => bytesOf w 8).map (BitVec.ofNat 8)

/-- An access ends with a RESULT and a value (R353). -/
def Vc.accEnd (s : Vc) (p result data : Nat) : Vc :=
  let s := s.setComp p { s.comp p with acc := none, tries := 0 }
  let s := s.wr CPORT.ACCSTAT.BUSY 0 p
  let s := s.wr CPORT.ACCSTAT.RESULT result p
  s.wr CPORT.ACCSTAT.DATA data p

/-- A request that had no valid response by the next one (R352): the tenth in a row loses the link. -/
def Vc.portMiss (s : Vc) (p : Nat) : Vc :=
  let c := s.comp p
  let s := s.setComp p { c with misses := c.misses + 1 }
  let s :=
    if c.misses + 1 = 10 then
      let s := ((s.wr CPORT.LINK.UP 0 p).set1 CPORT.ERRSTAT.LINK_LOST p).irq 10
      s.event [opRec 0x0B04 3 2 p (s.portErr p)]
    else s
  if c.acc.isSome ∧ 10 ≤ c.tries then { s.accEnd p 4 0 with comps := Tab.set (fun _ => {}) s.comps p { s.comp p with acc := none, tries := 0, out := none } } else s

/-- The next request of one port: an unanswered one again, else the access waiting, else POLL (R351). An access that waits takes the
place of an unanswered POLL, with a SEQ of its own (R353, log 119). -/
def Vc.portRequest (s : Vc) (p : Nat) : Vc :=
  let s := if (s.comp p).out.isSome then s.portMiss p else s
  let c := s.comp p
  let seq := (c.seq + 1) % 256
  let again := c.out.filter fun w => c.acc.isNone || decide (bits w 15 8 ≠ 0)
  let (w, seq) := match again, c.acc with
    | some w, _ => (w, c.seq)
    | none, some a => (requestWord (1 + bits a 30 30) seq (bits a 15 8) (if bit a 30 then bits a 7 0 else 0), seq)
    | none, none => (requestWord 0 seq 0 0, seq)
  let mine := c.acc.isSome && bits w 15 8 ≠ 0
  let s := s.setComp p { c with out := some w, seq := seq, sent := some s.now, tries := c.tries + b2n mine }
  s.emit (.companion p (compBytes [w]))

/-- COMPANION_REQUEST: every 100 µs, a request on each enabled port (R351). -/
def Vc.companionRequest (s : Vc) : Vc :=
  forN 2 s fun s p =>
    let due := match (s.comp p).sent with | some t => decide (t + 400000 ≤ s.now) | none => true
    if s.portOn p && due then s.portRequest p else s

/-- COMPANION_RESPONSE_RX: a response of two words (R351, R352). -/
def Vc.companionResponse (s : Vc) (p w0 w1 : Nat) : Vc :=
  if w0 / 281474976710656 ≠ check16 (bitsUp w0 0 48 ++ bitsUp w1 0 64) then
    ((s.count CPORT.CRCCNT.CRCCNT p).set1 CPORT.ERRSTAT.CRC_ERR p).corrected 0
  else
    let c := s.comp p
    match c.out with
    | none => s
    | some q =>
      if bits w0 7 0 ≠ 0x1E ∨ bits w0 23 8 ≠ bits q 23 8 ∨ bits w0 39 32 ≠ bits q 39 32 then s
      else
        let oldLock := s.rd CPORT.STATUS.LOCKOUT p
        let oldPermit := bit (s.rd CPORT.STATUS.SC_STATUS p) 7
        let s := s.setComp p { c with out := none, misses := 0 }
        let s := s.set1 CPORT.LINK.UP p
        let s := s.wr CPORT.INSTATE.INSTATE (bits w1 63 32) p
        let s := s.wr CPORT.STATUS.OUTSTATE (bits w1 31 24) p
        let s := s.wr CPORT.STATUS.FSV (bits w1 23 16) p
        let s := s.wr CPORT.STATUS.LOCKOUT (bits w1 15 8) p
        let s := (s.wr CPORT.STATUS.SC_STATUS (bits w1 7 0) p).watchPermit
        let s :=
          if (List.range 8).any fun b => bit (bits w1 15 8) b && !bit oldLock b then
            let s := (s.set1 CPORT.ERRSTAT.LOCKOUT p).irq 10
            s.event [opRec 0x0B03 3 2 p (s.portErr p)]
          else s
        let s :=
          if oldPermit && !bit w1 7 then
            let s := (s.set1 CPORT.ERRSTAT.PERMIT_LOST p).irq 10
            s.event [stRec 0x0B02 0 0 p (s.portErr p)]
          else s
        if bits q 15 8 = 0 then s
        else
          let r := bits w0 31 24
          let s := s.accEnd p (if r = 0 then 1 else if r = 1 then 2 else 3) (bits w0 47 40)
          if r = 0 then s else s.set1 CPORT.ERRSTAT.ACC_REFUSED p

/-- A write of PORT[p].ACC (R353). -/
def Vc.companionAccess (s : Vc) (p w : Nat) : Vc :=
  if !bit w 31 then s
  else if s.on CPORT.ACCSTAT.BUSY p || !s.portOn p then s.badWrite 3 (0x14010C + 0x40 * p)
  else
    let s := s.setComp p { s.comp p with acc := some w, tries := 0 }
    let s := s.set1 CPORT.ACCSTAT.BUSY p
    let s := s.wr CPORT.ACCSTAT.RESULT 0 p
    let s := s.wr CPORT.ACCSTAT.ADDR (bits w 15 8) p
    s.wr CPORT.ACCSTAT.DATA (bits w 7 0) p

/-- A write of COMPANION.CFG; NO_COMPANION holds EN at 0 (R370). -/
def Vc.companionCfg (s : Vc) (w : Nat) : Vc :=
  (s.wr COMPANION.CFG.EN (if s.on BOOT.ALT.NO_COMPANION then 0 else bits w 1 0)).watchPermit

/-- PERMIT_MISMATCH: for more than 2 ms a filtered pin has differed from the reports (R352). -/
def Vc.permitCheck (s : Vc) : Vc :=
  if s.prot.differAt.any fun t => decide (t + 8000000 < s.now) then
    let s := (s.set1 COMPANION.ERRSTAT.PERMIT_MISMATCH).irq 10
    s.event [opRec 0x0B10 3 2 0 (s.word 0x140004)]
  else s

end Sys2Proof.Machine
end

