-- ==== Sys2Proof/Machine/Ledger.lean ====
section
/-!
DEFINITION. Machine/Ledger.lean: the event ledger in flash, its statistics and its readout (R311 to R318, R326).
-/
namespace Sys2Proof.Machine
open Reg

/-! ### Records in flash (R311, R312) -/

/-- Where the record of a sequence number stands: the permanent area for the first 256, then the circulating one. -/
def recordAt (rseq : Nat) : Nat := if rseq < 256 then flashPerm + 64 * rseq else flashCirc + 64 * ((rseq - 256) % 1088)

/-- Words 0 to 9 of a record. -/
def Vc.recWords (s : Vc) (q : QRec) (ev rseq : Nat) : List Nat :=
  let w := [q.r.code * 65536 + q.r.ladder * 32768 + q.r.level * 4096 + q.r.cls * 512, ev, rseq,
    s.vcId * 268435456 + q.r.die % 4 * 67108864 + q.r.region % 2 * 33554432 + q.r.index % 65536, q.r.data,
    q.vt % 4294967296, q.vt / 4294967296, s.rd LEDGER.HOURS.VALUE, s.rd LEDGER.PCYCLES.VALUE]
  w ++ [crc32c (bytesOfWords w)]

/-- Words 10 to 13 of a closed record (R311). -/
def closeWords (rep vt : Nat) : List Nat :=
  let w := [rep, vt % 4294967296, vt / 4294967296]
  w ++ [crc32c (bytesOfWords w)]

/-- LEDGER_LOST is queued when space frees (R314). -/
def Vc.lostRecord (s : Vc) : Vc :=
  let n := s.ledger.lostPend
  if n = 0 then s else ({ s with ledger := { s.ledger with lostPend := 0 } }).event [stRec 0x0D00 0 2 0 n]

/-- The program of a record's closing. -/
def closeOp (c : Nat × Nat × Nat) : FOp := .prog (c.1 + 40) (bytesOfWords (closeWords c.2.1 c.2.2))

/-- The operations of a record at its place: its sector of the circular area erased first, then its words, and its closing if it has
one (R312, R313). -/
def Vc.recordOps (s : Vc) (q : QRec) (ev rseq : Nat) : List FOp :=
  let a := recordAt rseq
  (if 256 ≤ rseq ∧ (a - flashCirc) % 4096 = 0 then [.erase a] else []) ++ [.prog a (bytesOfWords (s.recWords q ev rseq))] ++
    match q.close with
    | some c => [closeOp (a, c)]
    | none => []

/-- EVENT_NO of the next record. -/
def Vc.nextEvent (s : Vc) (q : QRec) : Nat :=
  if q.first then s.rd LEDGER.NEXT_EVENT.VALUE else s.rd LEDGER.NEXT_EVENT.VALUE - 1

/-- A record has been programmed as it stood: it leaves the queue. One that has closed since is to be closed in flash. -/
def Vc.recordDone (s : Vc) (q : QRec) (ev rseq : Nat) : Vc :=
  let now := (s.ledger.queue.head?.getD q).close
  let a := recordAt rseq
  let l := { s.ledger with queue := s.ledger.queue.tail }
  let l := match q.close, now with
    | some _, _ => l
    | none, some c => { l with closings := l.closings ++ [(a, c)] }
    | none, none => { l with openAt := l.openAt ++ [a] }
  let s : Vc := { s with ledger := l }
  let s := s.wr LEDGER.NEXT_RSEQ.VALUE (rseq + 1)
  let s := s.wr LEDGER.NEXT_EVENT.VALUE (ev + 1)
  let s := if 256 ≤ rseq + 1 then s.set1 LEDGER.STATUS.PERM_FULL else s
  s.lostRecord

/-- The next queued record is programmed and leaves the queue. -/
def Vc.writeRecord (s : Vc) : Vc :=
  match s.ledger.queue with
  | [] => s
  | q :: _ =>
    let rseq := s.rd LEDGER.NEXT_RSEQ.VALUE
    let ev := s.nextEvent q
    ({ s with flash := runOps (s.recordOps q ev rseq) s.flash } : Vc).recordDone q ev rseq

/-- A write of the ledger, settled: the closings due, the next record with its EVENT_NO and RSEQ, and the operations of both. -/
def Vc.ledgerNext (s : Vc) : XKind × List FOp :=
  let cls := s.ledger.closings
  let q := s.ledger.queue.head?
  let rseq := s.rd LEDGER.NEXT_RSEQ.VALUE
  let ev := match q with | some q => s.nextEvent q | none => 0
  (.ledgerRecord cls q ev rseq, cls.map closeOp ++ match q with | some q => s.recordOps q ev rseq | none => [])

/-- Such a write is done. -/
def Vc.ledgerWritten (s : Vc) (cls : List (Nat × Nat × Nat)) (q : Option QRec) (ev rseq : Nat) : Vc :=
  let s : Vc := { s with ledger := { s.ledger with closings := s.ledger.closings.filter fun c => !cls.contains c } }
  match q with
  | some q => s.recordDone q ev rseq
  | none => s

/-- A flash program or erase of the ledger fails (R314): the unit resets itself; a second failure within 60 s is FAULT. -/
def Vc.ledgerFail (s : Vc) : Vc :=
  let again := match s.ledger.lastFail with | some t => decide (s.now < t + 240000000000) | none => false
  let s := { s with ledger := { s.ledger with failures := s.ledger.failures + 1, lastFail := some s.now } }
  if again then ((s.wr LEDGER.STATUS.STATE 2).set1 LEDGER.ERRSTAT.FLASH_FAIL).irq 8 else s

/-- A request joins the queue of the xSPI unit (R355). -/
def Vc.xQueue (s : Vc) (k : XKind) : Vc := { s with boot := { s.boot with xspi := s.boot.xspi ++ [⟨k, false, []⟩] } }

/-- The ledger's writes go to flash: behind the requests that the xSPI unit has, or else at once, with their result (R314, R355). -/
def Vc.ledgerOps (s : Vc) (k : XKind) (ops : List FOp) (ok : Bool) : Vc :=
  if s.boot.xspi ≠ [] then (if s.boot.xspi.any fun x => x.kind = k then s else s.xQueue k)
  else if ok then { s with flash := runOps ops s.flash }
  else s.ledgerFail

/-- The ledger programs its closings and its next record; `ok` is the flash's result (R312, R314). -/
def Vc.ledgerFlashWrite (s : Vc) (ok : Bool) : Vc :=
  if s.rd LEDGER.STATUS.STATE ≠ 1 ∨ (s.ledger.queue = [] ∧ s.ledger.closings = []) then s
  else
    let n := s.ledgerOps .ledgerWrite s.ledgerNext.2 ok
    match s.boot.xspi, ok, s.ledgerNext.1 with
    | [], true, .ledgerRecord cls q ev rseq => n.ledgerWritten cls q ev rseq
    | _, _, _ => n

/-! ### HOURS and the statistics (R315, R317) -/

/-- The operations that keep HOURS and PCYCLES. -/
def Vc.hoursOps (s : Vc) : List FOp :=
  let (c, seq) := nextCopy (keptHours s.flash)
  copyOps (flashHours c) seq (s.rd LEDGER.HOURS.VALUE) (s.rd LEDGER.PCYCLES.VALUE)

/-- HOURS and PCYCLES are kept in flash. -/
def Vc.hoursSave (s : Vc) (ok : Bool) : Vc :=
  if s.rd LEDGER.STATUS.STATE ≠ 1 then s else s.ledgerOps .ledgerHours s.hoursOps ok

/-- The bin of a junction temperature at 1/128 °C (R317). -/
def tjBin (tj : Nat) : Nat :=
  let t := signed 16 tj
  if t < -2560 then 0 else if 15360 ≤ t then 15 else 1 + ((t + 2560) / 1280).toNat

/-- A list with element `i` raised by 1, saturating at 32 bits. -/
def bump (l : List Nat) (i : Nat) : List Nat := (List.range 16).map fun k => if k = i then sat 32 (l.getD k 0 + 1) else l.getD k 0

/-- A whole second out of cold reset: HOURS, and one second in the bin of each in-service facet that has reported TJ. -/
def Vc.hoursSecond (s : Vc) : Vc :=
  let s := s.wr LEDGER.HOURS.VALUE (s.rd LEDGER.HOURS.VALUE + 1)
  (s.facets.filter fun e => e.2.inSvc && e.2.tjSeen).foldl (fun s e =>
    s.setStat e.1 { s.stat e.1 with tj := bump (s.stat e.1).tj (tjBin e.2.tj) }) s

/-- The words of a facet's statistics, and of its entry in a copy. -/
def FacetStat.words (x : FacetStat) : List Nat := [x.vext, x.sw] ++ (List.range 16).map fun b => x.tj.getD b 0

/-- A copy of the statistics as bytes. The spec gives it a sequence number and a CRC-32C as for settings, and no layout: the model's
is SEQ, the numbers of facet and of lane entries, CHECK, and one entry for each facet and lane whose statistics are not at their
reset values (DESIGN CHOICE, log 21). -/
def statBytes (seq : Nat) (stats : Tab FacetStat) (fomMin : Tab Nat) : List Nat :=
  let h := [seq % 4294967296, stats.length, fomMin.length]
  let es := (stats.flatMap fun e => e.1 :: e.2.words) ++ fomMin.flatMap fun e => [e.1, e.2]
  bytesOfWords (h ++ [crc32c (bytesOfWords (h ++ [0] ++ es))] ++ es)

/-- The facet entries of a copy, `n` of them, and its lane entries. -/
def statFacets : Nat → List Nat → Tab FacetStat → Tab FacetStat
  | 0, _, t => t
  | n + 1, ws, t =>
    let tj := (ws.drop 3).take 16
    statFacets n (ws.drop 19)
      (Tab.set (fun _ => {}) t (ws.getD 0 0) ⟨ws.getD 1 0, ws.getD 2 0, if tj.all (· = 0) then [] else tj⟩)
def statLanes : Nat → List Nat → Tab Nat → Tab Nat
  | 0, _, t => t
  | n + 1, ws, t => statLanes n (ws.drop 2) (Tab.set (fun _ => 0xFF) t (ws.getD 0 0) (ws.getD 1 0))

/-- A copy of the statistics in flash, if valid: its sequence number and what it holds. -/
def statCopyAt (m : List Host.Cell) (c : Nat) : Option (Nat × Tab FacetStat × Tab Nat) :=
  let h := Memory.words m (flashStats c) 4
  let nf := h.getD 1 0
  let nl := h.getD 2 0
  if 4608 < nf ∨ 108 < nl then none
  else
    let es := Memory.words m (flashStats c + 16) (19 * nf + 2 * nl)
    if crc32c (bytesOfWords (h.take 3 ++ [0] ++ es)) = h.getD 3 0 then
      some (h.getD 0 0, statFacets nf es [], statLanes nl (es.drop (19 * nf)) [])
    else none

/-- Sequence number of a copy, 0 for none. -/
def statSeq (m : List Host.Cell) (c : Nat) : Nat := match statCopyAt m c with | some c => c.1 | none => 0

/-- The operations that write the statistics to the older copy with the next sequence number. -/
def Vc.statsOps (s : Vc) : List FOp :=
  let a := statSeq s.flash 0
  let b := statSeq s.flash 1
  writeOps (flashStats (if a ≤ b then 0 else 1)) (statBytes (max a b + 1) s.ledger.stats s.ledger.fomMin)

/-- HOURS at this write of the statistics, from which the next is due. -/
def Vc.statsMark (s : Vc) : Vc := { s with ledger := { s.ledger with statsAt := s.rd LEDGER.HOURS.VALUE } }

/-- STATS_MIN minutes of HOURS have passed. -/
def Vc.statsWrite (s : Vc) (ok : Bool) : Vc :=
  if s.rd LEDGER.STATUS.STATE ≠ 1 ∨ s.rd LEDGER.HOURS.VALUE < s.ledger.statsAt + 60 * s.rd LEDGER.CFG.STATS_MIN then s
  else if ok ∨ s.boot.xspi ≠ [] then (s.ledgerOps .ledgerStats s.statsOps ok).statsMark else s.ledgerFail

/-- CTRL.FLUSH: the open records close, and writes of HOURS and the statistics are asked for. -/
def Vc.ledgerFlush (s : Vc) : Vc :=
  let s := s.closeRecs
  if s.rd LEDGER.STATUS.STATE ≠ 1 then s else ((s.xQueue .ledgerHours).xQueue .ledgerStats).statsMark

/-- CTRL.UNIT_RST (R314): the unit resets, its queue survives, and its writes that the xSPI unit has not begun are withdrawn. In FAULT
it may succeed, by a rule that the spec does not state (log 121): the ledger is UP again and writes LEDGER_FAULT. One that is skipped
stays so. -/
def Vc.ledgerUnitRst (s : Vc) : Vc :=
  let mine (k : XKind) : Bool := k = .ledgerWrite || k = .ledgerHours || k = .ledgerStats
  let s : Vc := { s with boot := { s.boot with xspi := s.boot.xspi.filter fun x => x.begun || !mine x.kind } }
  if s.on BOOT.ALT.NO_LEDGER then s
  else if s.rd LEDGER.STATUS.STATE = 2 then
    let good := Config.freeBit s.free
    let s : Vc := { s with free := s.free + 1 }
    if good then
      let n := s.ledger.failures
      let s : Vc := { s with ledger := { s.ledger with failures := 0, lastFail := none } }
      (s.wr LEDGER.STATUS.STATE 1).event [stRec 0x0D04 0 2 0 n]
    else s
  else { s with ledger := { s.ledger with failures := 0, lastFail := none } }

/-- CTRL.CLR_STATS: every statistic at once, a write of both copies asked for, STATS_CLEARED. -/
def Vc.clrStats (s : Vc) : Vc :=
  let s : Vc := { s with ledger := { s.ledger with stats := [], fomMin := [] } }
  ((s.xQueue .ledgerStats).xQueue .ledgerStats).event [stRec 0x0D01 0 0 0 0]

/-! ### Formatting (R316) -/

/-- Formatting begins: 0 for a blank flash, 1 for CTRL.FORMAT. -/
def Vc.formatBegin (s : Vc) (why : Nat) : Vc := (s.xQueue (.ledgerFormat why)).wr LEDGER.STATUS.STATE 0

/-- PCYCLES after formatting: a format of a blank flash after a power-up counts that power-up. -/
def Vc.formatCycles (s : Vc) (why : Nat) : Nat := if why = 0 ∧ s.boot.powerUp then 1 else 0

/-- The operations of formatting: every sector of the ledger's areas erased, HOURS and PCYCLES kept, and every statistic at its reset
value in both copies. -/
def Vc.formatOps (s : Vc) (why : Nat) : List FOp :=
  ((List.range 21).map fun k => FOp.erase (flashPerm + 4096 * k)) ++ ((List.range 2).map fun k => .erase (flashHours k)) ++
    ((List.range 256).map fun k => .erase (flashStats 0 + 4096 * k)) ++
    copyOps (flashHours 0) 1 0 (s.formatCycles why) ++ writeOps (flashStats 0) (statBytes 1 [] []) ++
    writeOps (flashStats 1) (statBytes 2 [] [])

/-- Formatting ends: numbers from 0, LEDGER_FORMATTED first, which closes the records that were open and is the last event, then every
queued record, and UP. -/
def Vc.formatEnd (s : Vc) (why : Nat) : Vc :=
  let s := s.closeRecs
  let r := stRec 0x0D05 0 0 0 why
  let s := { s with
    ledger := { s.ledger with
      stats := [], fomMin := [], closings := [], statsAt := 0, openAt := [], lastRecs := [r], isOpen := true, repeats := 0, lastVt := s.vt
      queue := ⟨r, s.vt, true, none⟩ :: s.ledger.queue } }
  let s := s.wr LEDGER.NEXT_RSEQ.VALUE 0
  let s := s.wr LEDGER.NEXT_EVENT.VALUE 0
  let s := s.wr LEDGER.STATUS.PERM_FULL 0
  let s := s.wr LEDGER.HOURS.VALUE 0
  let s := s.wr LEDGER.PCYCLES.VALUE (s.formatCycles why)
  let s := s.wr LEDGER.STATUS.STATE 1
  forN s.ledger.queue.length s fun s _ => s.writeRecord

/-- An operation of formatting fails (R314): it begins again, until the ledger is in FAULT. -/
def Vc.formatFail (s : Vc) (why : Nat) : Vc :=
  let s := s.ledgerFail
  if s.rd LEDGER.STATUS.STATE = 2 then s else s.xQueue (.ledgerFormat why)

/-- A write of LEDGER.CTRL (R326, R402). -/
def Vc.ledgerCtrl (s : Vc) (w : Nat) : Vc :=
  if ((bit w 0 || bit w 3) && bits w 31 16 ≠ 0x6B1D) || (bit w 3 && s.rd LEDGER.STATUS.STATE ≠ 2) then s.badWrite 3 0x110004
  else
    let s := if bit w 2 then s.ledgerUnitRst else s
    let s := if bit w 0 then s.clrStats else s
    let s := if bit w 1 then s.ledgerFlush else s
    if bit w 3 then s.formatBegin 1 else s

/-! ### At step LEDGER (R315, R316, R317) -/

/-- A record in flash is written: its CHECK is right. -/
def recordOk (ws : List Nat) : Bool := crc32c (bytesOfWords (ws.take 9)) = ws.getD 9 0 && ws ≠ List.replicate 16 0xFFFFFFFF

/-- Every written record, as its words, of the two areas; only slots that hold something are read. -/
def Vc.writtenRecords (s : Vc) : List (List Nat) :=
  let slots := (s.flash.filterMap fun e =>
    if flashPerm ≤ e.1 ∧ e.1 < flashPerm + 0x15000 then some (e.1 / 64 * 64) else none).eraseDups
  (slots.map fun a => Memory.words s.flash a 16).filter recordOk

/-- The next record and event numbers from the records found in flash (R312). -/
def Vc.ledgerNumbers (s : Vc) : Vc :=
  let rs := s.writtenRecords
  let top (k : Nat) : Nat := match rs with | [] => 0 | _ => rs.foldl (fun m w => max m (w.getD k 0)) 0 + 1
  let s := s.wr LEDGER.NEXT_RSEQ.VALUE (top 2)
  let s := s.wr LEDGER.NEXT_EVENT.VALUE (top 1)
  s.wr LEDGER.STATUS.PERM_FULL (b2n (decide (256 ≤ top 2)))

/-- At the first start after a cold reset, HOURS and PCYCLES go on from what flash has kept; a power-up that counts is kept (R315). -/
def Vc.ledgerHours (s : Vc) : Vc :=
  let k := match keptHours s.flash with | some k => k.2.2 | none => (0, 0)
  let s :=
    if s.boot.cold then
      let s := (s.wr LEDGER.HOURS.VALUE (s.rd LEDGER.HOURS.VALUE + k.1)).wr LEDGER.PCYCLES.VALUE (k.2 + b2n s.boot.powerUp)
      if s.boot.powerUp then s.xQueue .ledgerHours else s
    else s
  { s with boot := { s.boot with cold := false } }

/-- The statistics are those of the newer valid copy in flash (R317). -/
def Vc.ledgerStats (s : Vc) : Vc :=
  let best := if statSeq s.flash 0 < statSeq s.flash 1 then statCopyAt s.flash 1
    else (statCopyAt s.flash 0).or (statCopyAt s.flash 1)
  let s := match best with
    | some c => { s with ledger := { s.ledger with stats := c.2.1, fomMin := c.2.2 } }
    | none => (s.set1 LEDGER.ERRSTAT.STATS_BAD).irq 8
  s.statsMark

/-- The ledger reads its areas, HOURS, PCYCLES and statistics, or begins to format a blank flash. -/
def Vc.ledgerBoot (s : Vc) : Vc :=
  if Memory.blankAt s.flash flashPerm 0x17000 then
    (let s : Vc := s.formatBegin 0; { s with boot := { s.boot with cold := false } })
  else s.ledgerNumbers.ledgerHours.ledgerStats.wr LEDGER.STATUS.STATE 1

/-! ### Readout (R318) -/

/-- The size of an area in items. -/
def areaSize (a : Nat) : Nat :=
  match a with
  | 0 => 256 | 1 => 1088 | 2 => 4608 | 3 => 4608 | 4 => 4608 | _ => 108

/-- The items of a readout, as bytes. -/
def Vc.ledgerItems (s : Vc) (area first count : Nat) : List (List Nat) :=
  match area with
  | 0 => (List.range count).map fun i => Memory.bytes s.flash (flashPerm + 64 * (first + i)) 64
  | 1 =>
    let slots := (s.flash.filterMap fun e =>
      if flashCirc ≤ e.1 ∧ e.1 < flashCirc + 0x11000 then some (e.1 / 64 * 64) else none).eraseDups
    let recs := (slots.map fun a => Memory.bytes s.flash a 64).filter fun b => decide (first ≤ ofBytes ((b.drop 8).take 4))
    (sortBy (fun b => ofBytes ((b.drop 8).take 4)) recs).take count
  | 2 => (List.range count).map fun i => bytesOf (s.stat (first + i)).vext 4
  | 3 => (List.range count).map fun i => bytesOf (s.stat (first + i)).sw 4
  | 4 => (List.range count).map fun i => bytesOfWords ((List.range 16).map fun b => (s.stat (first + i)).tj.getD b 0)
  | _ => (List.range count).map fun i => bytesOf (Tab.get (fun _ => 0xFF) s.ledger.fomMin (first + i)) 4

/-- LEDGER_READ's status but for its flash result: 0 when it may read. -/
def Vc.ledgerReadStatus (s : Vc) (d : Desc) : Nat × Nat :=
  let area := bits (d.word 4) 31 28
  let count := bits (d.word 6) 12 0
  let first := d.word 5
  let len := d.word 9
  let bf := bufFault (d.word 7) (d.word 8) len
  if 5 < area ∨ bits (d.word 4) 27 0 ≠ 0 ∨ bits (d.word 6) 31 13 ≠ 0 ∨ count = 0 ∨ count = 0x1FFF ∨ bf = 1 ∨
      (List.range 6).any (fun k => d.word (10 + k) ≠ 0) then (1, 0)
  else if areaSize area < count ∨ (area ≠ 1 ∧ areaSize area < first + count) then (2, 0)
  else
    let n := ((s.ledgerItems area first count).map List.length).foldl (· + ·) 0
    if len < n ∨ bf = 2 then (2, n)
    else if s.rd LEDGER.STATUS.STATE ≠ 1 then (4, 0)
    else (0, 0)

/-- The readout itself; `ok` is the result of the flash reads. -/
def Vc.ledgerReadNow (s : Vc) (id : Nat) (ok : Bool) : Vc :=
  match s.desc? id with
  | none => s
  | some d =>
    let area := bits (d.word 4) 31 28
    let a := bufAddr (d.word 7) (d.word 8)
    let st := s.ledgerReadStatus d
    if st.1 ≠ 0 then s.finish id st.1 st.2
    else
      let items := s.ledgerItems area (d.word 5) (bits (d.word 6) 12 0)
      if !ok && decide (area < 2) then
        (if s.host.bme then s.emit (.hostWriteOpen a (64 * items.length)) else s).finish id 0x10
      else s.writeBuf d a items.flatten items.length

/-- LEDGER_READ: it waits behind flash programming. -/
def Vc.ledgerRead (s : Vc) (id : Nat) (ok : Bool) : Vc :=
  s.withDesc id 7 fun s d =>
    if (s.ledgerReadStatus d).1 = 0 ∧ s.boot.xspi ≠ [] then
      ({ s with boot := { s.boot with xspi := s.boot.xspi ++ [({ kind := .ledgerRead id } : XReq)] } }).wait id
    else s.ledgerReadNow id ok

end Sys2Proof.Machine
end

