-- ==== Sys2Proof/Machine/Boot.lean ====
section
/-!
DEFINITION. Machine/Boot.lean: the xSPI unit, images, the slot pointer, FW_BLOCK, CONFIG_WRITE, CONFIRM, the start-up record
(R355 to R370), and the resets of the VC (R7, R47, R48, R383).
-/
namespace Sys2Proof.Machine
open Reg

/-! ### Images (R357, R358) -/

/-- Words of the header of a slot's image, and of its component entry `e`. -/
def Vc.hdr (s : Vc) (slot w : Nat) : Nat := (Memory.words s.flash (flashSlot slot + 4 * w) 1).getD 0 0
def Vc.comp3 (s : Vc) (slot e w : Nat) : Nat := s.hdr slot (8 + 8 * e + w)

/-- Bytes of a slot. -/
def Vc.slotBytes (s : Vc) (slot off n : Nat) : List Nat := Memory.bytes s.flash (flashSlot slot + off) n

/-- R358 step 1. -/
def Vc.layoutOk (s : Vc) (slot : Nat) : Bool :=
  let off (e : Nat) : Nat := s.comp3 slot e 0
  let len (e : Nat) : Nat := s.comp3 slot e 1
  let apart (a b : Nat) : Bool := decide (off a + len a ≤ off b) || decide (off b + len b ≤ off a)
  s.hdr slot 0 = 0x4F4E5531 && bits (s.hdr slot 1) 31 16 = 1 &&
    (List.range 3).all (fun e => decide (off e + len e ≤ s.hdr slot 2)) && apart 0 1 && apart 0 2 && apart 1 2 &&
    decide (1 ≤ len 2) && decide (len 2 ≤ 49152) && decide (bits (s.hdr slot 4) 6 0 ≤ 64)

/-- Security version of a slot's image. -/
def Vc.slotSvn (s : Vc) (slot : Nat) : Nat := bits (s.hdr slot 4) 6 0

/-- R358 step 4: every component accepts the interface versions of the two others. -/
def Vc.compatible (s : Vc) (slot : Nat) : Bool :=
  (List.range 3).all fun i =>
    ((List.range 3).filter (· ≠ i)).zip [4, 5] |>.all fun jw =>
      let v := bits (s.comp3 slot jw.1 3) 15 0
      let r := s.comp3 slot i jw.2
      decide (bits r 15 0 ≤ v) && decide (v ≤ bits r 31 16)

/-- The result of R358: 0 valid, else the status code of the first check that fails. -/
def Vc.imageCheck (s : Vc) (slot : Nat) : Nat :=
  if !s.layoutOk slot then 0x11
  else
    let key := s.slotBytes slot 256 64
    let fused := (List.range 8).flatMap fun i => bytesOf (Config.keyHash i).toNat 4
    if sm3 key ≠ fused then 0x13
    else if s.slotSvn slot < s.boot.fused then 0x14
    else if !s.compatible slot then 0x15
    else
      let digests := (List.range 3).all fun e =>
        sm3 (s.slotBytes slot (s.comp3 slot e 0) (s.comp3 slot e 1)) = s.slotBytes slot (128 + 32 * e) 32
      let len := s.hdr slot 2
      if digests && sm2Verify key (s.slotBytes slot 0 len) (s.slotBytes slot len 64) then 0 else 0x12

/-! ### Flags and records of BOOT (R370, R372) -/

def Vc.bootErrWord (s : Vc) : Nat := s.word 0x150010

/-- An ERRSTAT bit with interrupt source 11 and its record, CONTAINED at package level. -/
def Vc.bootErr (s : Vc) (f : Fld) (b : Nat) : Vc :=
  let s := (s.set1 f).irq 11
  s.event [stRec (0x0C00 + b) 4 2 0 s.bootErrWord]

/-- An image failed R358 with a status code: its flag, and SLOT[s].STATE BAD. -/
def Vc.imageBad (s : Vc) (slot code : Nat) : Vc :=
  let f := if code = 0x14 then BOOT.ERRSTAT.ROLLBACK else if code = 0x15 then BOOT.ERRSTAT.COMPAT_FAIL else BOOT.ERRSTAT.VERIFY_FAIL
  (s.set1 f).wr BOOT.SLOT_STATE.STATE 4 slot

/-- FUSED rises to a security version (R362): one fuse for each step. -/
def Vc.raiseSvn (s : Vc) (svn : Nat) : Vc :=
  if s.boot.fused < svn then { s.set1 BOOT.ERRSTAT.SVN_RAISED with boot := { s.boot with fused := svn } } else s

/-! ### The slot pointer (R359) -/

/-- A pointer copy, if valid. -/
def Vc.ptrCopy (s : Vc) (c : Nat) : Option (Nat × Nat × Nat) := copyAt s.flash (flashPointer c)

/-- The pointer in force: its copy, SEQ, word 1 and word 2. -/
def Vc.pointer (s : Vc) : Option (Nat × Nat × Nat × Nat) := newerCopy (s.ptrCopy 0) (s.ptrCopy 1)

/-- Word 1 of the pointer in force; with none, PRIMARY A, no trial, nothing staged. -/
def Vc.ptrWord (s : Vc) : Nat := match s.pointer with | some p => p.2.2.1 | none => 0

/-- Word 1 of a pointer. -/
def ptrBits (primary trialEn trials staged : Nat) : Nat := primary + 2 * trialEn + 4 * trials + 16 * staged

def ptrPrimary (w : Nat) : Nat := bits w 0 0
def ptrTrialEn (w : Nat) : Bool := bit w 1
def ptrTrials (w : Nat) : Nat := bits w 3 2
def ptrStaged (w : Nat) : Nat := bits w 4 4

/-- The operations of a pointer write: the other copy, SEQ + 1. -/
def Vc.ptrOps (s : Vc) (w1 : Nat) : List FOp :=
  let (c, seq) := nextCopy s.pointer
  copyOps (flashPointer c) seq w1 0

/-- STATUS shows the pointer in force. -/
def Vc.showPtr (s : Vc) : Vc :=
  (s.wr BOOT.STATUS.STAGED (ptrStaged s.ptrWord)).wr BOOT.STATUS.TRIALS (ptrTrials s.ptrWord)

/-- The boot controller writes the pointer during a start and reads it back; a write that fails is FLASH_ERR, and leaves the copy
invalid (R359, R372). -/
def Vc.ptrWrite (s : Vc) (w1 : Nat) : Vc :=
  let ops := s.ptrOps w1
  if s.boot.ptrBad then
    let a := flashPointer (nextCopy s.pointer).1
    let s := { s with flash := spoilCopy (Memory.cut s.flash s.free a 4096) (s.free + 1) a, free := s.free + 2 }
    (s.bootErr BOOT.ERRSTAT.FLASH_ERR 8).showPtr
  else ({ s with flash := runOps ops s.flash } : Vc).showPtr

/-! ### Settings copies (R364, R365) -/

/-- A settings copy, if valid: SEQ, FORMAT, records. -/
def Vc.settings (s : Vc) (c : Nat) : Option (Nat × Nat × List (Nat × Nat)) :=
  let h := Memory.words s.flash (flashSettings c) 8
  let n := h.getD 3 0
  if h.getD 0 0 ≠ 0x53455431 ∨ 8188 < n then none
  else
    let r := Memory.words s.flash (flashSettings c + 32) (2 * n)
    if crc32c (bytesOfWords (h.take 7 ++ [0] ++ r)) = h.getD 7 0 then
      some (h.getD 1 0, bits (h.getD 2 0) 31 16, (List.range n).map fun i => (bits (r.getD (2 * i) 0) 21 0, r.getD (2 * i + 1) 0))
    else none

/-- SEQ of a copy, 0 where it is invalid. -/
def Vc.setSeq (s : Vc) (c : Nat) : Nat := match s.settings c with | some x => x.1 | none => 0

/-- The copy a CONFIG_WRITE goes to, and its SEQ. -/
def Vc.setTarget (s : Vc) : Nat × Nat :=
  let c := match s.settings 0, s.settings 1 with
    | none, _ => 0
    | _, none => 1
    | some a, some b => if b.1 < a.1 then 1 else 0
  (c, max (s.setSeq 0) (s.setSeq 1) + 1)

/-- The bytes written: SEQ and the header CHECK filled in. -/
def setBytes (seq : Nat) (bs : List Nat) : List Nat :=
  let ws := wordsOf bs
  let ws := ws.set 1 (seq % 4294967296)
  bytesOfWords (ws.set 7 (crc32c (bytesOfWords (ws.set 7 0))))

/-- A slot's image reads a settings FORMAT. -/
def Vc.reads (s : Vc) (slot fmt : Nat) : Bool :=
  decide (bits (s.hdr slot 5) 15 0 ≤ fmt) && decide (fmt ≤ bits (s.hdr slot 5) 31 16)

/-! ### The xSPI unit (R355) -/

/-- The copies of a VERIFY: each INHERIT component from the running slot (R360). -/
def Vc.inheritOps (s : Vc) (slot : Nat) : List FOp :=
  let run := s.rd BOOT.STATUS.RUN_SLOT
  if !s.layoutOk slot then []
  else (List.range 3).flatMap fun e =>
    if bit (s.comp3 slot e 3) 31 && decide (s.comp3 slot e 0 + s.comp3 slot e 1 ≤ 0x800000) then
      writeOps (flashSlot slot + s.comp3 slot e 0) (s.slotBytes run (s.comp3 run e 0) (s.comp3 slot e 1))
    else []

/-- The start-up record entry of a start: its START_NO, word 1 and HOURS (R369). -/
def entryWords (m : List Host.Cell) (no w1 : Nat) : List Nat :=
  let hours := match keptHours m with | some k => k.2.2.1 | none => 0
  [no, w1, 0xFFFFFFFF, 0xFFFFFFFF, 0xFFFFFFFF, hours, 0xFFFFFFFF, crc32c (bytesOfWords [no, w1, hours])]

/-- The newest entry of the ring: place and words; of one start, the CLEARED entry comes after it. -/
def newestEntry (m : List Host.Cell) : Option (Nat × List Nat) :=
  (ringEntries m).foldl (fun (b : Option (Nat × List Nat)) e =>
    let k (e : Nat × List Nat) : Nat := e.2.getD 0 0 * 2 + b2n (bit (e.2.getD 1 0) 26)
    match b with
    | none => some e
    | some c => if k c < k e then some e else some c) none

/-- Where the next entry goes: over the oldest. -/
def entryAt (m : List Host.Cell) : Nat :=
  flashRing + 32 * match newestEntry m with | some e => (e.1 + 1) % 256 | none => 0

/-- The operations that program an entry: where its place is not erased, its sector is erased and programmed again with the other
entries as they stood (R355, R369, log 84). -/
def entryOps (m : List Host.Cell) (a : Nat) (ws : List Nat) : List FOp :=
  if Memory.blankAt m a 32 then [.prog a (bytesOfWords ws)]
  else
    let sec := a / 4096 * 4096
    writeOps sec (Memory.bytes m sec (a - sec) ++ bytesOfWords ws ++ Memory.bytes m (a + 32) (4064 - (a - sec)))

/-- The program of bit `n` of a word of an entry. -/
def markOp (a w n : Nat) : FOp := .prog (a + 4 * w) (bytesOf (0xFFFFFFFF - 2 ^ n) 4)

/-- A request begins: its operations, from the state it now finds. -/
def Vc.xOps (s : Vc) (k : XKind) : XKind × List FOp :=
  let w := s.ptrWord
  let up : Bool := s.rd LEDGER.STATUS.STATE = 1
  match k with
  | .fwWrite id slot off bs =>
    if ptrStaged w = 1 then
      (.fwUnstage id slot off bs, s.ptrOps (ptrBits (ptrPrimary w) (b2n (ptrTrialEn w)) (ptrTrials w) 0))
    else (k, writeOps (flashSlot slot + off) bs)
  | .fwVerify _ slot => (k, s.inheritOps slot)
  | .fwStage _ _ => (k, s.ptrOps (ptrBits (ptrPrimary w) (b2n (ptrTrialEn w)) (ptrTrials w) 1))
  | .fwActivate _ => (k, s.ptrOps (ptrBits (ptrPrimary w) 1 0 (ptrStaged w)))
  | .config id _ _ bs =>
    let (c, seq) := s.setTarget
    (.config id c seq bs, writeOps (flashSettings c) (setBytes seq bs))
  | .confirm => (k, s.ptrOps (ptrBits (s.rd BOOT.STATUS.RUN_SLOT) 0 0 1))
  | .ledgerWrite => if up then s.ledgerNext else (k, [])
  | .ledgerHours => (k, if up then s.hoursOps else [])
  | .ledgerStats => (k, if up then s.statsOps else [])
  | .ledgerFormat why => (k, s.formatOps why)
  | .ringEntry no w1 => (k, entryOps s.flash (entryAt s.flash) (entryWords s.flash no w1))
  | .mark a w n => (k, [markOp a w n])
  | .ledgerRead _ | .fwUnstage .. | .ledgerRecord .. => (k, [])

/-- A request writes the slot pointer. -/
def XKind.isPtr (k : XKind) : Bool :=
  match k with
  | .fwUnstage .. | .fwStage .. | .fwActivate _ | .confirm => true
  | _ => false

/-- What a request wrote is read back, or its images are read (R358, R359, R365). -/
def XKind.reads (k : XKind) : Bool :=
  match k with
  | .fwVerify .. | .config .. => true
  | _ => k.isPtr

/-- The flash after an operation of a request has failed or has been cut, with the operations still to do. The copy being written of
the pointer or of the settings is invalid; a WRITE's slot is not staged, so that its pointer write stands (R360, R363, R365, log 28). -/
def XKind.broken (k : XKind) (use : Nat) (o : FOp) (os : List FOp) (m : List Host.Cell) : List Host.Cell :=
  match k with
  | .fwUnstage .. => runOps (o :: os) m
  | .config _ c _ _ => Memory.spoil (o.cut use m) (use + 1) (flashSettings c) 0x31#8
  | .fwStage .. | .fwActivate _ | .confirm => spoilCopy (o.cut use m) (use + 1) o.addr
  | _ => o.cut use m

/-- The flash after what a request wrote cannot be read back: the copy is invalid. -/
def Vc.unread (s : Vc) (k : XKind) : List Host.Cell :=
  match k with
  | .config _ c _ _ => Memory.spoil s.flash s.free (flashSettings c) 0x31#8
  | .fwStage .. | .fwActivate _ | .confirm =>
    match s.pointer with
    | some p => spoilCopy s.flash s.free (flashPointer p.1)
    | none => s.flash
  | _ => s.flash

/-- A request fails: FLASH_ERR (R360, R365, R372); the ledger's own requests fail under R314. -/
def Vc.xFail (s : Vc) (k : XKind) : Vc :=
  match k with
  | .ledgerWrite | .ledgerRecord .. | .ledgerHours | .ledgerStats => s.ledgerFail
  | .ledgerFormat why => s.formatFail why
  | .confirm => ((s.bootErr BOOT.ERRSTAT.FLASH_ERR 8).showPtr).wr BOOT.STATUS.CONFIRM_BUSY 0
  | _ =>
    let s := (s.bootErr BOOT.ERRSTAT.FLASH_ERR 8).showPtr
    match (XReq.mk k true []).desc with | some id => s.finish id 0x10 | none => s

/-- A request's flash work is done and read back: its completion, and a request that follows from it. -/
def Vc.xDone (s : Vc) (k : XKind) (readOk : Bool) : Vc × Option XKind :=
  let s := s.showPtr
  match k with
  | .fwUnstage id slot off bs => (s, some (.fwWrite id slot off bs))
  | .fwWrite id _ _ _ => (s.finish id 0, none)
  | .fwVerify id slot =>
    let c := s.imageCheck slot
    if c = 0 then (s.wr BOOT.SLOT_STATE.STATE 2 slot, some (.fwStage id (s.hdr slot 3)))
    else ((s.imageBad slot c).finish id c, none)
  | .fwStage id ver => (s.finish id 0 ver, none)
  | .fwActivate id => (s.finish id 0, none)
  | .config id _ seq _ => (s.finish id 0 seq, none)
  | .confirm =>
    let s := s.wr BOOT.STATUS.TRIAL 0
    ((s.raiseSvn (s.slotSvn (s.rd BOOT.STATUS.RUN_SLOT))).wr BOOT.STATUS.CONFIRM_BUSY 0, none)
  | .ledgerRead id => (s.ledgerReadNow id readOk, none)
  | .ledgerRecord cls q ev rseq => (s.ledgerWritten cls q ev rseq, none)
  | .ledgerFormat why => (s.formatEnd why, none)
  | .ledgerWrite | .ledgerHours | .ledgerStats | .ringEntry .. | .mark .. => (s, none)

/-- A request ends: one whose read-back fails has failed. -/
def Vc.xEndOf (s : Vc) (k : XKind) (readOk : Bool) : Vc × Option XKind :=
  if k.reads && !readOk then (({ s with flash := s.unread k, free := s.free + 1 } : Vc).xFail k, none)
  else s.xDone k readOk

/-- SLOT[s].STATE shows a download (R360). -/
def Vc.receiving (s : Vc) (k : XKind) : Vc :=
  match k with
  | .fwUnstage _ slot _ _ => s.wr BOOT.SLOT_STATE.STATE 1 slot
  | .fwWrite _ slot _ _ => s.wr BOOT.SLOT_STATE.STATE 1 slot
  | _ => s

/-- Serves the queue: the head begins, and what needs no operation is done at once; `n` bounds the requests served. -/
def Vc.xServe (s : Vc) (readOk : Bool) : Nat → Vc
  | 0 => s
  | n + 1 =>
    match s.boot.xspi with
    | [] => s
    | x :: xs =>
      if x.begun && x.ops ≠ [] then s
      else
        let (k, ops) := if x.begun then (x.kind, []) else s.xOps x.kind
        let s : Vc := match x.desc with | some id => s.modDesc id fun d => { d with waiting := false } | none => s
        let s : Vc := s.receiving k
        if ops ≠ [] then { s with boot := { s.boot with xspi := ⟨k, true, ops⟩ :: xs } }
        else
          let s : Vc := { s with boot := { s.boot with xspi := xs } }
          let (s, next) := s.xEndOf k readOk
          let s : Vc := match next with
            | some k' => { s with boot := { s.boot with xspi := ⟨k', false, []⟩ :: s.boot.xspi } }
            | none => s
          Vc.xServe s readOk n

/-- The unit looks at its queue. -/
def Vc.xKick (s : Vc) : Vc := Vc.xServe s true 600

/-- A request arrives at the xSPI unit. -/
def Vc.xPut (s : Vc) (k : XKind) : Vc :=
  let s := match (XReq.mk k false []).desc with | some id => s.wait id | none => s
  (s.xQueue k).xKick

/-- FLASH_OPERATION_DONE: the operation in progress completes, or fails, and the next is served. -/
def Vc.flashDone (s : Vc) (ok readOk : Bool) : Vc :=
  match s.boot.xspi with
  | ⟨k, true, o :: os⟩ :: xs =>
    if ok then
      Vc.xServe { s with flash := o.run s.flash, boot := { s.boot with xspi := ⟨k, true, os⟩ :: xs } } readOk 600
    else
      let s : Vc := { s with flash := k.broken s.free o os s.flash, free := s.free + 2, boot := { s.boot with xspi := xs } }
      Vc.xServe (s.xFail k) readOk 600
  | _ => Vc.xServe s readOk 600

/-- LEDGER_FORMAT_DONE: every operation of formatting succeeds (R316). -/
def Vc.formatDone (s : Vc) : Vc :=
  match s.boot.xspi with
  | ⟨.ledgerFormat why, true, os⟩ :: xs =>
    (({ s with flash := runOps os s.flash, boot := { s.boot with xspi := xs } } : Vc).formatEnd why).xKick
  | _ => s

/-! ### FW_BLOCK and CONFIG_WRITE (R360, R365) -/

/-- The status of an FW_BLOCK before its work, and the bytes of a WRITE. -/
def Vc.fwStatus (s : Vc) (d : Desc) (buf : HostBuf) : Nat × List Nat :=
  let op := bits (d.word 4) 31 28
  let slot := bits (d.word 4) 0 0
  let off := d.word 5
  let len := d.word 8
  let bad := decide (2 < op) || decide (bits (d.word 4) 27 1 ≠ 0) || !d.zeroFrom 10 ||
    (if op = 0 then decide (off % 4096 ≠ 0) || decide (len < 4096) || decide (65536 < len) || decide (len % 4096 ≠ 0) ||
        bufFault (d.word 6) (d.word 7) len = 1
      else !d.zeroFrom 5)
  let trial := s.on BOOT.STATUS.TRIAL
  if bad then (1, [])
  else if 0x800000 < off + len then (2, [])
  else if (slot = s.rd BOOT.STATUS.RUN_SLOT && !s.bootHalted) || (decide (op < 2) && trial) ||
      (op = 2 && (!s.on BOOT.STATUS.STAGED || trial || s.on BOOT.STATUS.CONFIRM_BUSY)) then (4, [])
  else if op = 0 then
    match s.readBuf buf len with
    | none => (8, [])
    | some bs => if crc32c bs = d.word 9 then (0, bs) else (3, [])
  else if op = 2 ∧ s.slotSvn slot < s.boot.fused then (0x14, [])
  else (0, [])

/-- FW_BLOCK with one OP. -/
def Vc.fwBlock (s : Vc) (id op : Nat) (buf : HostBuf) : Vc :=
  s.withDesc id 5 fun s d =>
    let o := bits (d.word 4) 31 28
    if o ≠ op ∧ o ≤ 2 then s
    else
      let st := s.fwStatus d buf
      let slot := bits (d.word 4) 0 0
      if st.1 = 0x14 then (s.set1 BOOT.ERRSTAT.ROLLBACK).finish id 0x14
      else if st.1 ≠ 0 then s.finish id st.1
      else if op = 0 then s.xPut (.fwWrite id slot (d.word 5) st.2)
      else if op = 1 then s.xPut (.fwVerify id slot)
      else s.xPut (.fwActivate id)

/-- The status of a CONFIG_WRITE before its work, and its bytes. -/
def Vc.configStatus (s : Vc) (d : Desc) (buf : HostBuf) : Nat × List Nat :=
  let len := d.word 8
  if d.word 4 ≠ 0 ∨ d.word 5 ≠ 0 ∨ !d.zeroFrom 10 ∨ bufFault (d.word 6) (d.word 7) len = 1 then (1, [])
  else
    match s.readBuf buf len with
    | none => (8, [])
    | some bs =>
      let w := wordsOf bs
      let n := w.getD 3 0
      let offs := (List.range ((bs.length - 32) / 8)).any fun r => decide (bits (w.getD (8 + 2 * r) 0) 31 22 ≠ 0)
      let fmt := bits (w.getD 2 0) 31 16
      let run := s.rd BOOT.STATUS.RUN_SLOT
      let readers := if s.bootHalted then (List.range 2).filter fun k => s.imageCheck k = 0
        else [run] ++ if s.on BOOT.STATUS.STAGED then [1 - ptrPrimary s.ptrWord] else []
      if w.getD 0 0 ≠ 0x53455431 ∨ w.getD 1 0 ≠ 0 ∨ bits (w.getD 2 0) 15 0 ≠ 0 ∨ n = 0xFFFFFFFF ∨ w.getD 4 0 ≠ 0 ∨
          w.getD 5 0 ≠ 0 ∨ w.getD 6 0 ≠ 0 ∨ w.getD 7 0 ≠ 0 ∨ offs then (1, [])
      else if 65536 < len ∨ len ≠ 32 + 8 * n then (2, [])
      else if crc32c bs ≠ d.word 9 then (3, [])
      else if !readers.any fun k => s.reads k fmt then (0x17, [])
      else (0, bs)

/-- CONFIG_WRITE. -/
def Vc.configWrite (s : Vc) (id : Nat) (buf : HostBuf) : Vc :=
  s.withDesc id 4 fun s d =>
    let st := s.configStatus d buf
    if st.1 ≠ 0 then s.finish id st.1 else s.xPut (.config id 0 0 st.2)

/-! ### The start-up record (R369, R370) -/

/-- The newest entry of the ring. -/
def Vc.newestEntry (s : Vc) : Option (Nat × List Nat) := Machine.newestEntry s.flash

/-- Programs a new entry over the oldest: its START_NO and word 1. -/
def Vc.newEntry (s : Vc) (no w1 : Nat) : Vc × Nat :=
  let a := entryAt s.flash
  ({ s with flash := runOps (entryOps s.flash a (entryWords s.flash no w1)) s.flash }, a)

/-- Programs bit `n` of a word of this start's entry, behind the requests that the xSPI unit has. -/
def Vc.markEntry (s : Vc) (w n : Nat) : Vc :=
  match s.boot.entry with
  | some a => if s.boot.xspi = [] then { s with flash := (markOp a w n).run s.flash } else s.xQueue (.mark a w n)
  | none => s

/-- The starts of the record that count: START_NO and words, newer than the last CLEARED entry. -/
def Vc.countedStarts (s : Vc) : List (List Nat) :=
  let es := (ringEntries s.flash).map (·.2)
  let cleared := (es.filter fun w => bit (w.getD 1 0) 26).foldl (fun m w => max m (w.getD 0 0 + 1)) 0
  es.filter fun w => !bit (w.getD 1 0) 26 && decide (cleared ≤ w.getD 0 0)

/-- A past start failed at step `n` (R368); `cause` is the reset that ended it. A trial start that fails step IMAGE or LOAD is reverted and
not counted (R361), nor is one that found no settings in its image's range (R366, R368). -/
def failedAt (w : List Nat) (cause n : Nat) : Bool :=
  let begun := !bit (w.getD 2 0) n
  let done := !bit (w.getD 3 0) n
  let failed := !bit (w.getD 4 0) n
  let trial := bit (w.getD 1 0) 27
  let reverted := trial && (n = 2 || n = 3)
  let noSettings := trial && n = 5 && cause = 4
  !reverted && (failed || (begun && !done && (cause = 3 || cause = 4) && !noSettings))

/-- The cause of the reset that ended a start of the record: that of the start after it. Where a start between the two failed at FLASH and
left no entry, the boot controller holds the cause over its warm resets for the last start alone (log 120). -/
def Vc.causeAfter (s : Vc) (w : List Nat) : Nat :=
  match (ringEntries s.flash).find? fun e => !bit (e.2.getD 1 0) 26 && e.2.getD 0 0 = w.getD 0 0 + 1 with
  | some e => if bit (e.2.getD 4 0) 1 then bits (e.2.getD 1 0) 31 29 else 2
  | none => s.boot.endCause.getD (s.rd GLOBAL.RESETCAUSE.CAUSE)

/-- STEPFAIL of a step at this start (R370). -/
def Vc.stepFails (s : Vc) (n : Nat) : Nat := min 7 (s.countedStarts.filter fun w => failedAt w (s.causeAfter w) n).length

/-! ### Commands of BOOT.CTRL (R362, R367, R370) -/

/-- Step `n` of the start is done. -/
def Vc.stepDone (s : Vc) (n : Nat) : Vc :=
  ({ s with boot := { s.boot with done := withBit s.boot.done n } } : Vc).markEntry 3 n

/-- Step `n` of the start begins. -/
def Vc.stepBegin (s : Vc) (n : Nat) : Vc :=
  let s := s.wr BOOT.STATUS.STEP n
  ({ s with boot := { s.boot with begun := withBit s.boot.begun n, since := s.now } } : Vc).markEntry 2 n

/-- Step LANES begins at the first STRING.CTRL.START after step 8 (R367). -/
def Vc.lanesBegin (s : Vc) : Vc :=
  if s.rd BOOT.STATUS.STATE = 1 && !bit s.boot.begun 9 && !bit s.boot.done 9 then s.stepBegin 9 else s

/-- Step LANES is done once every enabled string is in RUN. -/
def Vc.lanesDone (s : Vc) : Vc :=
  if bit s.boot.begun 9 && !bit s.boot.done 9 &&
      (List.range 48).all fun n => !s.on STRING.CFG.EN n || s.rd STRING.STATUS.STATE n = 6 then s.stepDone 9
  else s

/-- CTRL.START_DONE completes step LANES. -/
def Vc.startDone (s : Vc) : Vc :=
  if s.rd BOOT.STATUS.STATE = 1 && !bit s.boot.done 9 then s.stepDone 9 else s

/-- CTRL.CLR_HISTORY programs an entry with CLEARED = 1. -/
def Vc.clrHistory (s : Vc) : Vc :=
  s.xPut (.ringEntry (s.rd BOOT.STARTNO.START_NO) (67108864 + s.rd GLOBAL.RESETCAUSE.CAUSE * 536870912))

/-- CTRL.CONFIRM (R362). -/
def Vc.confirmImage (s : Vc) : Vc :=
  if s.on BOOT.STATUS.CONFIRM_BUSY then s else (s.set1 BOOT.STATUS.CONFIRM_BUSY).xPut .confirm

/-- A write of BOOT.CTRL (R402). -/
def Vc.bootCtrl (s : Vc) (w : Nat) : Vc :=
  if ((bit w 0 || bit w 1) && bits w 31 16 ≠ 0x7E81) || (bit w 0 && !s.on BOOT.STATUS.TRIAL) then s.badWrite 3 0x150004
  else
    let s := if bit w 2 then s.startDone else s
    let s := if bit w 1 then s.clrHistory else s
    if bit w 0 then s.confirmImage else s

/-! ### Resets (R7, R47, R48, R271, R383) -/

/-- Identities of the fields that a warm reset keeps (R7). -/
def keptFields : List Nat :=
  (((List.range 23).flatMap vcRows).flatMap fun r => (r.parts.filter fun p => p.f.keep).map fun p => p.f.id).eraseDups

/-- What is in force right after any reset: the permit pins as they stand (R140), the cause (R54), the servo's state
(R271). -/
def Vc.afterReset (s : Vc) (cause : Nat) : Vc :=
  let s := s.wr GLOBAL.RESETCAUSE.CAUSE cause
  let s := (s.wr PROT.STATUS.PERMIT_A (b2n s.prot.pinA)).wr PROT.STATUS.PERMIT_B (b2n s.prot.pinB)
  s.wr TIME.STATUS.STATE (b2n (s.on TIME.CFG.PTP_EN))

/-- The operation in progress of the xSPI unit is never interrupted: it ends before the unit resets (R355). -/
def Vc.xEnd (s : Vc) : Vc :=
  match s.boot.xspi with
  | ⟨_, true, o :: _⟩ :: _ => { s with flash := o.run s.flash }
  | _ => s

/-- Before a warm reset resets the package (R48): the block flash on every string in service, Aperture stops, and the flash
operation in progress ends. -/
def Vc.beforeReset (s : Vc) : Vc :=
  (s.flashEvent 0x0A none [0, 1]).apStopNow.xEnd

/-- What a warm reset keeps of how the last start of the record ended: nothing once the present start has its entry, else the reset that
came first since (R368, log 120). -/
def Vc.lastEnd (s : Vc) : Option Nat :=
  if s.boot.entry.isSome then none else some (s.boot.endCause.getD (s.rd GLOBAL.RESETCAUSE.CAUSE))

/-- The package after a warm reset, with what R7 keeps. The cascade blocks already handled stay known, so that a late copy of one
blocks no second time (DESIGN CHOICE, log 26). -/
def Vc.resetKeep (s : Vc) : Vc :=
  let kept := keptFields
  { out := s.out ++ [.reset 4], vt := s.vt, frac := s.frac, now := s.now, free := s.free
    regs := s.regs.filter fun e => kept.contains (e.1 / 1048576)
    strs := s.keepReleases
    prot := { pinA := s.prot.pinA, pinB := s.prot.pinB, fseq := s.prot.fseq, seenCasc := s.prot.seenCasc }
    ap := { areas := s.ap.areas, doneCount := s.ap.doneCount }
    boot := { fused := s.boot.fused, flashFail := s.boot.flashFail, endCause := s.lastEnd, fresh := s.boot.fresh, cold := s.boot.cold
              powerUp := s.boot.powerUp, passed := s.boot.passed, tested := s.boot.tested, incompat := s.boot.incompat }
    flash := s.flash }

/-- The dies of a list are held out, and MODE follows (R370). -/
def Vc.holdDies (s : Vc) (ds : List Nat) : Vc := (ds.foldl (fun s d => s.setDie d 4) s).wr VOTER.STATUS.MODE (min ds.length 2)

/-- A warm reset (R48, R7); dies that were held stay held. -/
def Vc.warmReset (s : Vc) (cause : Nat) : Vc :=
  let s := s.beforeReset
  (s.resetKeep.holdDies ((List.range 3).filter fun d => s.dieState d = 4)).afterReset cause

/-- The flash after a cold reset has cut the operation in progress (R363, R383). A pointer write cut in its last operation leaves the old
pointer or the new one. -/
def Vc.cutFlash (s : Vc) : List Host.Cell :=
  match s.boot.xspi with
  | ⟨k, true, o :: os⟩ :: _ =>
    if k.isPtr && os.isEmpty && Config.freeBit s.free then o.run s.flash else k.broken (s.free + 1) o os s.flash
  | _ => s.flash

/-- A cold reset: power-up, a rail below its threshold, or the reset pin (R383): only the flash and the fuses stay, and
the pins are as they are. It holds the VC for 1 ms. -/
def Vc.coldReset (s : Vc) (powerUp : Bool) : Vc :=
  let n : Vc := {
    out := [.reset 5], now := s.now, resetUntil := s.now + 4000000, free := s.free + 3
    strs := s.keepReleases
    prot := { pinA := s.prot.pinA, pinB := s.prot.pinB }
    boot := { fused := s.boot.fused, powerUp := powerUp }
    flash := s.cutFlash }
  n.afterReset (if powerUp then 0 else 1)

end Sys2Proof.Machine
end

