-- ==== Sys2Proof/Machine/BarAccess.lean ====
section
/-!
DEFINITION. Machine/BarAccess.lean: writes and reads of BAR0 (R5 to R9, R51 to R53, R371, R402): which registers are mapped,
the access codes, the locks, and the registers whose write does something.
-/
namespace Sys2Proof.Machine
open Reg

/-! ### Access codes (R5, R6) -/

/-- The part's bits of a register word. -/
def Part.bitsOf (p : Part) (w : Nat) : Nat := bits w (p.lo + p.w - 1) p.lo

/-- Every field takes the value written to it. -/
def Row.takes (r : Row) (w : Nat) : Bool :=
  r.parts.all fun p => p.ok = [] || p.ok.any fun b => decide (b.1 ≤ p.bitsOf w) && decide (p.bitsOf w ≤ b.2)

/-- A field's value with bits [sh + w - 1 : sh] replaced. -/
def replaceBits (old sh w v : Nat) : Nat := old - bits old (sh + w - 1) sh * 2 ^ sh + v % 2 ^ w * 2 ^ sh

/-- The bits of `a` that are 0 in `b`, below bit `w`. -/
def clearBits (w a b : Nat) : Nat := (List.range w).foldl (fun n i => if bit a i && !bit b i then n + 2 ^ i else n) 0

/-- One field of a write, by its access code. -/
def Vc.putPart (s : Vc) (p : Part) (w i j : Nat) : Vc :=
  match p.acc with
  | .rw => s.wr p.f (replaceBits (s.rd p.f i j) p.sh p.w (p.bitsOf w)) i j
  | .rwl => s.wr p.f (replaceBits (s.rd p.f i j) p.sh p.w (p.bitsOf w)) i j
  | .prm => s.wr p.f (replaceBits (s.rd p.f i j) p.sh p.w (p.bitsOf w)) i j
  | .lock => if p.bitsOf w ≠ 0 then s.set1 p.f i j else s
  | .w1c => s.wr p.f (clearBits p.f.w (s.rd p.f i j) (p.bitsOf w)) i j
  | .ro => s
  | .wo => s

/-- Every field of a write. -/
def Vc.putRow (s : Vc) (r : Row) (w i j : Nat) : Vc := r.parts.foldl (fun s p => s.putPart p w i j) s

/-- The register holds RWL fields and its block is locked. -/
def Vc.lockedRow (s : Vc) (r : Row) (i : Nat) : Bool :=
  match r.lockF with
  | some f => s.on f (if r.lockIdx then i else 0)
  | none => false

/-- The facet window (R51, R109). -/
def inWindow (addr : Nat) : Bool := decide (0x200000 ≤ addr) && decide (addr < 0x224000)

/-! ### Writes that a rule restricts or follows up -/

/-- A plain write, or the violation "rejected value". -/
def Vc.putIf (s : Vc) (ok : Bool) (r : Row) (addr w i j : Nat) : Vc := if ok then s.putRow r w i j else s.badWrite 3 addr

/-- GLOBAL.TICKCFG (R54). -/
def Vc.tickCfg (s : Vc) (r : Row) (addr w : Nat) : Vc :=
  let busy := (List.range 48).any fun n => s.rd STRING.STATUS.STATE n ≠ 0 && s.rd STRING.STATUS.STATE n ≠ 7
  s.putIf (!(busy && bits w 14 0 ≠ s.rd GLOBAL.TICKCFG.TP_NS)) r addr w 0 0

/-- GLOBAL.RESETCTL (R48, R54, R402). -/
def Vc.resetCtl (s : Vc) (w : Nat) : Vc :=
  if !bit w 0 then s else if bits w 31 16 = 0xA5C3 then s.warmReset 2 else s.badWrite 3 0xC

/-- ERR.VIOL_INFO: clearing VALID clears OVERFLOW with it (R56). -/
def Vc.violInfo (s : Vc) (r : Row) (w : Nat) : Vc :=
  let s := s.putRow r w 0 0
  if bit w 0 then s.wr ERR.VIOL_INFO.OVERFLOW 0 else s

/-- ERR.CTRL.CLR_SUMMARY (R56). -/
def Vc.clrSummary (s : Vc) (w : Nat) : Vc :=
  if bit w 0 then (List.range 6).foldl (fun s l => s.wr (summaryFld l) 0) s else s

/-- LENS.CFG (R89). -/
def Vc.lensCfg (s : Vc) (r : Row) (addr w : Nat) : Vc :=
  let busy := (List.range 16).any fun c => s.rd CTX.STATUS.STATE c ≠ 0
  s.putIf (!(busy && bits w 6 0 ≠ s.rd LENS.CFG.TL_TICKS)) r addr w 0 0

/-- SVSUB[v].CTL (R89): while ENABLE is 1, the other fields may not change; SVGAPS counts from ENABLE. -/
def Vc.svCtl (s : Vc) (r : Row) (addr w v : Nat) : Vc :=
  let was := s.on SVSUB.CTL.ENABLE v
  let now := s.word addr
  let others (x : Nat) : Nat := bits x 30 28 * 524288 + bits x 18 0
  if (was && others w ≠ others now) || (bit w 31 && decide (2 < bits w 18 16)) then s.badWrite 3 addr
  else
    let s := s.putRow r w v 0
    if bit w 31 && !was then
      { s.wr SVSUB.SVGAPS.COUNT 0 v with lens := { s.lens with svs := Tab.set (fun _ => {}) s.lens.svs v {} } }
    else s

/-- SUPCFG (R93, R105). -/
def Vc.supCfg (s : Vc) (r : Row) (addr w c : Nat) : Vc :=
  s.putIf (s.rd CTX.STATUS.STATE c = 0 && bits w 5 4 ≠ 3 && bits w 1 0 ≠ 3) r addr w c 0

/-- Registers of an arm's configuration (R113). -/
def Vc.armCfg (s : Vc) (r : Row) (addr w a j : Nat) : Vc := s.putIf (s.rd ARM.STAT.STATE a = 0) r addr w a j

/-- PROT configuration (R136, R217): runs restart, newly enabled channels start their MISS time, lanes follow. -/
def Vc.protCfg (s : Vc) (r : Row) (w i j : Nat) : Vc :=
  let was (k : Nat) : Bool := s.chEnabled (k / 4) (k % 4)
  let before := (List.range 32).filter was
  let s := s.putRow r w i j
  let thresh : Bool := r.parts.any fun p => p.f = MLANE.THRESH.HI || p.f = MLANE.CHCFG.EN
  let s := if thresh then s.copyWritten (4 * i + j) else s
  let s := forN 32 s fun s k =>
    let newly := s.chEnabled (k / 4) (k % 4) && !before.contains k
    if newly || (thresh && k = 4 * i + j) then s.chanRestart (k / 4) (k % 4) newly else s
  forN 8 s fun s l => s.refreshLane (96 + l)

/-- HOPDLY reads 0 above CELLS (R199). -/
def Vc.trimDelays (s : Vc) (n : Nat) : Vc :=
  forN 97 s fun s i => if s.rd STRING.CFG.CELLS n < i then s.wr STRING.HOPDLY.DELAY 0 n i else s

/-- STRING[n].CFG (R199): only while OFF; the facets of a mapped string and HOPDLY follow CELLS, the lanes follow EN, and step LANES of the
start waits for the strings with EN alone (R367). -/
def Vc.strCfg (s : Vc) (r : Row) (addr w n : Nat) : Vc :=
  if s.rd STRING.STATUS.STATE n ≠ 0 then s.badWrite 3 addr
  else ((((s.putRow r w n 0).trimDelays n).mapFacets n).refreshPort n).lanesDone

/-- LANE[l].CFG and EQ (R212, R220): only in L1 or L2. -/
def Vc.laneCfg (s : Vc) (r : Row) (addr w l j : Nat) (eq : Bool) : Vc :=
  s.putIf (s.rd LANE.STATUS.PSTATE l ≠ 0 && (!eq || eqValid w)) r addr w l j

/-- SCHED.TSRC_CFG (R168). -/
def Vc.tsrcCfg (s : Vc) (r : Row) (addr w t : Nat) : Vc :=
  let en := bit w 31
  let bad := if s.on SCHED.TSRC_CFG.EN t then en else en && decide (bits w 28 16 ≤ s.rd SCHED.TSRC_OFFSET.OFFSET t)
  s.putIf (!bad) r addr w t 0

/-- The registers of APERTURE that only OFF may write (R319, R323, R327). -/
def Vc.apCfg (s : Vc) (r : Row) (addr w i : Nat) : Vc :=
  let src := r.parts.any (fun p => p.f = APERTURE.CHSEL.EN) && bit w 31 && (bits w 27 24 = 0 || decide (7 < bits w 27 24))
  let kind := r.parts.any (fun p => p.f = APERTURE.TRIG.EN) && bit w 31 && decide (5 < bits w 30 28)
  s.putIf (s.apState = 0 && !src && !kind) r addr w i 0

/-! ### A write of a mapped, unlocked register -/

/-- What a write does, by the register's rule. A 64-bit register is written by halves. -/
def Vc.writeRow (s : Vc) (r : Row) (addr w i j : Nat) : Vc :=
  match r.tag with
  | .tickcfg => s.tickCfg r addr w
  | .resetctl => s.resetCtl w
  | .voterctl => s.voterCtrl w
  | .violinfo => s.violInfo r w
  | .errctl => s.clrSummary w
  | .cascfg => (s.putRow r w i j).noMember.refreshCasc
  | .casctl => (s.cascCtrl w).refreshCasc
  | .lenscfg => s.lensCfg r addr w
  | .lensctl => s.clrLoad w
  | .setpt => s.setPoint i w
  | .svctl => s.svCtl r addr w i
  | .svfield => s.putIf (!s.on SVSUB.CTL.ENABLE i) r addr w i j
  | .ctxcfg => s.putIf (s.rd CTX.STATUS.STATE i = 0) r addr w i j
  | .ctxctl => s.ctxCtrl i w
  | .supcfg => s.supCfg r addr w i
  | .prismctl => if bit w 0 then s.wr PRISM.TIMING.MAX_END_NS 0 else s
  | .strmap => s.strMap i w
  | .armcfg => s.armCfg r addr w i j
  | .armctl => s.armCtl i w
  | .protcfg => s.protCfg r w i j
  | .protctl => s.protCtrl w
  | .prottest => s.protTest w
  | .tokcfg => s.tokCfg i w
  | .fire => s.fireWrite w
  | .itemctl => s.itemCtl w
  | .item => s.putIf (s.itemIdle i) r addr w i j
  | .lenslink => s.putIf (s.rd CTX.STATUS.STATE i = 0) r addr w i j
  | .tsrccfg => s.tsrcCfg r addr w i
  | .tsrcoff => s.putIf (!s.on SCHED.TSRC_CFG.EN i) r addr w i j
  | .strcfg => s.strCfg r addr w i
  | .strctl =>
    let s := s.strCtrl i w
    if bit w 0 && !s.host.access.bad then s.lanesBegin else s
  | .lanecfg => s.laneCfg r addr w i j false
  | .laneeq => s.laneCfg r addr w i j true
  | .lanectl => s.laneCtrl i w
  | .align => s.alignWrite i w
  | .lanetest => s.laneTest i w
  | .portlink => s
  | .timecfg => s.timeCfg w
  | .timepar => s.putIf s.allOff r addr w i j
  | .timectl => s.timeCtrl w
  | .rate => s.rateWrite (r.half = .high) w addr
  | .irqstat => s.putRow r w i j
  | .irqmap => s.putRow r w i j
  | .sqcfg => s.sqCfg i w
  | .sqctl => s.sqCtrl i w
  | .cqcfg => s.cqCfg i w
  | .sqdb => s.sqDoorbell i w
  | .cqdb => s.cqDoorbell i w
  | .ledgerctl => (s.ledgerCtrl w).xKick
  | .apcfg => s.apCfg r addr w i
  | .apctl => s.apCtrl w
  | .compcfg => s.companionCfg w
  | .acc => s.companionAccess i w
  | .bootctl => s.bootCtrl w
  | _ => s.putRow r w i j

/-- A write of a BAR0 offset, as a 32-bit word. One of control-die state, or of APERTURE.CTRL, waits for the next tick boundary (R37,
R52, R324); what the boot controller applies, before any tick of its start, is in effect at once (R366; log 108). -/
def Vc.regWrite (s : Vc) (addr w : Nat) : Vc :=
  if inWindow addr && !s.bootHalted then s.badWrite 1 addr
  else
    match s.mapped addr with
    | none => s.badWrite 0 addr
    | some (r, i, j) =>
      if s.lockedRow r i then s.badWrite 1 addr
      else if !r.takes w then s.badWrite 3 addr
      else if atBoundary addr && !s.host.access.internal then s.hold (.host s.host.access.req s.host.access.byteEn addr w)
      else s.writeRow r addr w i j

/-- A host write at the tick boundary at which it takes effect: what the dies' own state refuses is refused there, a lock set by a
write before it included (R37, R53; log 108). -/
def Vc.writeNow (s : Vc) (req byteEn addr w : Nat) : Vc :=
  let s := { s with host := { s.host with access := { req := req, byteEn := byteEn } } }
  match s.mapped addr with
  | none => s
  | some (r, i, j) => if s.lockedRow r i then s.badWrite 1 addr else s.writeRow r addr w i j

/-- A BAR0 write as it arrives: requester, offset, byte enables (R8, R53). -/
def Vc.barWrite (s : Vc) (req addr byteEn w : Nat) : Vc :=
  let s := { s with host := { s.host with access := { req := req, byteEn := byteEn } } }
  if addr % 4 ≠ 0 ∨ byteEn ≠ 15 then s.badWrite 2 addr else s.regWrite addr w

/-- A settings record, applied by the boot controller (R53, R366); whether it was a violation. -/
def Vc.applyRecord (s : Vc) (addr w : Nat) : Vc × Bool :=
  let s := { s with host := { s.host with access := { internal := true } } }
  let s := if addr % 4 ≠ 0 then s.badWrite 2 addr else s.regWrite addr w
  (s, s.host.access.bad)

/-! ### Reads (R9, R53, R109) -/

/-- The value a read returns, with what it latches. -/
def Vc.readRow (s : Vc) (r : Row) (addr i j : Nat) : Vc × Nat :=
  match r.half with
  | .none => (s, s.rowWord r i j)
  | .low =>
    let rest := s.host.latch.filter fun e => e.1 ≠ addr + 4
    ({ s with host := { s.host with latch := (addr + 4, s.word (addr + 4)) :: rest } }, s.rowWord r i j)
  | .high =>
    match s.host.latch.find? fun e => e.1 = addr with
    | some e => ({ s with host := { s.host with latch := s.host.latch.filter fun e => e.1 ≠ addr } }, e.2)
    | none => (s, s.rowWord r i j)

/-- A read that is an access violation, with its cause. -/
def Vc.badRead (s : Vc) (cause addr req byteEn : Nat) : Vc :=
  ((s.violation cause addr false req byteEn).aer cause ⟨false, req, byteEn, addr⟩).emit (.readRsp 1 0)

/-- A read that succeeds is answered with its value. -/
def Vc.answerRead (x : Vc × Nat) : Vc := x.1.emit (.readRsp 0 x.2)

/-- A read within the facet window (R109). -/
def Vc.windowAt (s : Vc) (addr : Nat) : Vc × Nat := s.windowRead ((addr - 0x200000) / 32) ((addr - 0x200000) % 32 / 4)

/-- A BAR0 read as it arrives. -/
def Vc.barRead (s : Vc) (req addr byteEn : Nat) : Vc :=
  if addr % 4 ≠ 0 ∨ byteEn ≠ 15 then s.badRead 2 addr req byteEn
  else if inWindow addr && !s.bootHalted then Vc.answerRead (s.windowAt addr)
  else
    match s.mapped addr with
    | none => s.badRead 0 addr req byteEn
    | some (r, i, j) => Vc.answerRead (s.readRow r addr i j)

/-- A write of the host (R284). -/
def Vc.pcieWrite (s : Vc) (req : Nat) (addr : PcieAddr) (byteEn w : Nat) : Vc :=
  match addr with
  | .bar0 a => s.barWrite req a.toNat byteEn w
  | .bar2 a => s.bar2Write a.toNat byteEn w
  | .config r => s.cfgWrite r byteEn w

/-- A read of the host (R284). -/
def Vc.pcieRead (s : Vc) (req : Nat) (addr : PcieAddr) (byteEn : Nat) : Vc :=
  match addr with
  | .bar0 a => s.barRead req a.toNat byteEn
  | .bar2 a => s.emit (.readRsp 0 (s.bar2Word a.toNat))
  | .config r => s.emit (.readRsp 0 (s.cfgWord r))

end Sys2Proof.Machine
end

