-- ==== Sys2Proof/Machine/CellMap.lean ====
section
/-!
DEFINITION. Machine/CellMap.lean: the registers of a cell controller, from the register maps of R235, R255, R256 and R268.
-/
namespace Sys2Proof.Machine

/-! ### CCID (R235, spec/10_cell_controller.md) -/

/-- CCID.PART.PART [31:16] -/
def Reg.CCID.PART.PART : Fld := ⟨605, 16, 256, 256, false, false⟩
/-- CCID.PART.GRADE [15:12] -/
def Reg.CCID.PART.GRADE : Fld := ⟨606, 4, 15, 15, false, false⟩
/-- CCID.PART.REV [11:8] -/
def Reg.CCID.PART.REV : Fld := ⟨607, 4, 1, 1, false, false⟩
/-- CCID.UID_LO.UID [31:0] -/
def Reg.CCID.UID_LO.UID : Fld := ⟨608, 32, 0, 0, false, false⟩
/-- CCID.UID_HI.UID [31:0] -/
def Reg.CCID.UID_HI.UID : Fld := ⟨609, 32, 0, 0, false, false⟩
/-- CCID.POS.VALID [7:7] -/
def Reg.CCID.POS.VALID : Fld := ⟨610, 1, 0, 0, false, false⟩
/-- CCID.POS.POS [6:0] -/
def Reg.CCID.POS.POS : Fld := ⟨611, 7, 127, 127, false, false⟩

def rowsCcCcid0 : List Row := [
  ⟨0x0, 1, 0x0, 1, 0x0, .plain, none, false, .none, [⟨16, 16, Reg.CCID.PART.PART, 0, .ro, []⟩, ⟨12, 4, Reg.CCID.PART.GRADE, 0, .ro, []⟩, ⟨8, 4, Reg.CCID.PART.REV, 0, .ro, []⟩]⟩,
  ⟨0x4, 1, 0x0, 1, 0x0, .plain, none, false, .none, [⟨0, 32, Reg.CCID.UID_LO.UID, 0, .ro, []⟩]⟩,
  ⟨0x8, 1, 0x0, 1, 0x0, .plain, none, false, .none, [⟨0, 32, Reg.CCID.UID_HI.UID, 0, .ro, []⟩]⟩,
  ⟨0xc, 1, 0x0, 1, 0x0, .plain, none, false, .none, [⟨7, 1, Reg.CCID.POS.VALID, 0, .ro, []⟩, ⟨0, 7, Reg.CCID.POS.POS, 0, .ro, []⟩]⟩]

/-! ### CCLINK (R235, spec/10_cell_controller.md) -/

/-- CCLINK.LSTAT.PSTATE [31:30] -/
def Reg.CCLINK.LSTAT.PSTATE : Fld := ⟨612, 2, 0, 0, false, false⟩
/-- CCLINK.LSTAT.HELD [29:29] -/
def Reg.CCLINK.LSTAT.HELD : Fld := ⟨613, 1, 0, 0, false, false⟩
/-- CCLINK.LSTAT.BSTATE [27:24] -/
def Reg.CCLINK.LSTAT.BSTATE : Fld := ⟨614, 4, 2, 2, false, false⟩
/-- CCLINK.LSTAT.RATE [23:22] -/
def Reg.CCLINK.LSTAT.RATE : Fld := ⟨615, 2, 0, 0, false, false⟩
/-- CCLINK.LSTAT.RLIMIT [21:20] -/
def Reg.CCLINK.LSTAT.RLIMIT : Fld := ⟨616, 2, 2, 2, false, false⟩
/-- CCLINK.LSTAT.EQ_SEL [18:16] -/
def Reg.CCLINK.LSTAT.EQ_SEL : Fld := ⟨617, 3, 0, 0, false, false⟩
/-- CCLINK.LSTAT.FOM [7:0] -/
def Reg.CCLINK.LSTAT.FOM : Fld := ⟨618, 8, 0, 0, false, false⟩
/-- CCLINK.LCTL.HOLD_DOWN [1:1] -/
def Reg.CCLINK.LCTL.HOLD_DOWN : Fld := ⟨619, 1, 0, 0, false, false⟩
/-- CCLINK.LCTL.HOLD_UP [0:0] -/
def Reg.CCLINK.LCTL.HOLD_UP : Fld := ⟨620, 1, 0, 0, false, false⟩
/-- CCLINK.LOSSCNT.COUNT [31:0] -/
def Reg.CCLINK.LOSSCNT.COUNT : Fld := ⟨621, 32, 0, 0, false, false⟩
/-- CCLINK.CODEERR.COUNT [31:0] -/
def Reg.CCLINK.CODEERR.COUNT : Fld := ⟨622, 32, 0, 0, false, false⟩
/-- CCLINK.TEST.EN [31:31] -/
def Reg.CCLINK.TEST.EN : Fld := ⟨623, 1, 0, 0, false, false⟩
/-- CCLINK.TEST.CHK_LOCK [30:30] -/
def Reg.CCLINK.TEST.CHK_LOCK : Fld := ⟨624, 1, 0, 0, false, false⟩
/-- CCLINK.TEST.LANES [29:28] -/
def Reg.CCLINK.TEST.LANES : Fld := ⟨625, 2, 0, 0, false, false⟩
/-- CCLINK.TEST.PATTERN [27:26] -/
def Reg.CCLINK.TEST.PATTERN : Fld := ⟨626, 2, 2, 2, false, false⟩
/-- CCLINK.TEST.RATE [25:24] -/
def Reg.CCLINK.TEST.RATE : Fld := ⟨627, 2, 2, 2, false, false⟩
/-- CCLINK.TEST.GEN [23:23] -/
def Reg.CCLINK.TEST.GEN : Fld := ⟨628, 1, 0, 0, false, false⟩
/-- CCLINK.TEST.CHK [22:22] -/
def Reg.CCLINK.TEST.CHK : Fld := ⟨629, 1, 0, 0, false, false⟩
/-- CCLINK.TEST.LOOP [21:21] -/
def Reg.CCLINK.TEST.LOOP : Fld := ⟨630, 1, 0, 0, false, false⟩
/-- CCLINK.TEST.INV [20:20] -/
def Reg.CCLINK.TEST.INV : Fld := ⟨631, 1, 0, 0, false, false⟩
/-- CCLINK.TEST.EQ_SEL [18:16] -/
def Reg.CCLINK.TEST.EQ_SEL : Fld := ⟨632, 3, 0, 0, false, false⟩
/-- CCLINK.TEST.DUR [15:8] -/
def Reg.CCLINK.TEST.DUR : Fld := ⟨633, 8, 100, 100, false, false⟩
/-- CCLINK.PRBSERR.COUNT [31:0] -/
def Reg.CCLINK.PRBSERR.COUNT : Fld := ⟨634, 32, 0, 0, false, false⟩

def rowsCcCclink0 : List Row := [
  ⟨0x100, 2, 0x4, 1, 0x0, .plain, none, false, .none, [⟨30, 2, Reg.CCLINK.LSTAT.PSTATE, 0, .ro, []⟩, ⟨29, 1, Reg.CCLINK.LSTAT.HELD, 0, .ro, []⟩, ⟨24, 4, Reg.CCLINK.LSTAT.BSTATE, 0, .ro, []⟩, ⟨22, 2, Reg.CCLINK.LSTAT.RATE, 0, .ro, []⟩, ⟨20, 2, Reg.CCLINK.LSTAT.RLIMIT, 0, .ro, []⟩, ⟨16, 3, Reg.CCLINK.LSTAT.EQ_SEL, 0, .ro, []⟩, ⟨0, 8, Reg.CCLINK.LSTAT.FOM, 0, .ro, []⟩]⟩,
  ⟨0x108, 1, 0x0, 1, 0x0, .lctl, none, false, .none, [⟨1, 1, Reg.CCLINK.LCTL.HOLD_DOWN, 0, .rw, []⟩, ⟨0, 1, Reg.CCLINK.LCTL.HOLD_UP, 0, .rw, []⟩]⟩,
  ⟨0x110, 2, 0x4, 1, 0x0, .plain, none, false, .none, [⟨0, 32, Reg.CCLINK.LOSSCNT.COUNT, 0, .ro, []⟩]⟩,
  ⟨0x118, 2, 0x4, 1, 0x0, .plain, none, false, .none, [⟨0, 32, Reg.CCLINK.CODEERR.COUNT, 0, .ro, []⟩]⟩,
  ⟨0x120, 1, 0x0, 1, 0x0, .cctest, none, false, .none, [⟨31, 1, Reg.CCLINK.TEST.EN, 0, .rw, []⟩, ⟨30, 1, Reg.CCLINK.TEST.CHK_LOCK, 0, .ro, []⟩, ⟨28, 2, Reg.CCLINK.TEST.LANES, 0, .rw, [(1, 3)]⟩, ⟨26, 2, Reg.CCLINK.TEST.PATTERN, 0, .rw, []⟩, ⟨24, 2, Reg.CCLINK.TEST.RATE, 0, .rw, [(0, 2)]⟩, ⟨23, 1, Reg.CCLINK.TEST.GEN, 0, .rw, []⟩, ⟨22, 1, Reg.CCLINK.TEST.CHK, 0, .rw, []⟩, ⟨21, 1, Reg.CCLINK.TEST.LOOP, 0, .rw, []⟩, ⟨20, 1, Reg.CCLINK.TEST.INV, 0, .rw, []⟩, ⟨16, 3, Reg.CCLINK.TEST.EQ_SEL, 0, .rw, []⟩, ⟨8, 8, Reg.CCLINK.TEST.DUR, 0, .rw, [(1, 255)]⟩]⟩,
  ⟨0x124, 2, 0x4, 1, 0x0, .plain, none, false, .none, [⟨0, 32, Reg.CCLINK.PRBSERR.COUNT, 0, .ro, []⟩]⟩]

/-! ### CCBYP (R235, spec/10_cell_controller.md) -/

/-- CCBYP.CFG.LOCK [31:31] -/
def Reg.CCBYP.CFG.LOCK : Fld := ⟨635, 1, 0, 0, true, false⟩
/-- CCBYP.CFG.CONFIRM_MS [15:8] -/
def Reg.CCBYP.CFG.CONFIRM_MS : Fld := ⟨636, 8, 10, 10, false, false⟩
/-- CCBYP.CFG.PULSE_MS [3:0] -/
def Reg.CCBYP.CFG.PULSE_MS : Fld := ⟨637, 4, 5, 5, false, false⟩
/-- CCBYP.OV1.TH [15:0] -/
def Reg.CCBYP.OV1.TH : Fld := ⟨638, 16, 51200, 51200, false, true⟩
/-- CCBYP.OV2.TH [15:0] -/
def Reg.CCBYP.OV2.TH : Fld := ⟨639, 16, 54400, 54400, false, true⟩
/-- CCBYP.OV3.TH [15:0] -/
def Reg.CCBYP.OV3.TH : Fld := ⟨640, 16, 57600, 57600, false, true⟩
/-- CCBYP.BYPTH.TH [15:0] -/
def Reg.CCBYP.BYPTH.TH : Fld := ⟨641, 16, 32768, 32768, false, false⟩
/-- CCBYP.STATUS.FIRED [31:31] -/
def Reg.CCBYP.STATUS.FIRED : Fld := ⟨642, 1, 0, 0, false, false⟩
/-- CCBYP.STATUS.CONFIRMED [30:30] -/
def Reg.CCBYP.STATUS.CONFIRMED : Fld := ⟨643, 1, 0, 0, false, false⟩
/-- CCBYP.STATUS.UNCONFIRMED [29:29] -/
def Reg.CCBYP.STATUS.UNCONFIRMED : Fld := ⟨644, 1, 0, 0, false, false⟩
/-- CCBYP.STATUS.CAUSE_LOCAL [28:28] -/
def Reg.CCBYP.STATUS.CAUSE_LOCAL : Fld := ⟨645, 1, 0, 0, false, false⟩
/-- CCBYP.STATUS.CAUSE_CMD [27:27] -/
def Reg.CCBYP.STATUS.CAUSE_CMD : Fld := ⟨646, 1, 0, 0, false, false⟩
/-- CCBYP.STATUS.CAUSE_EXT [26:26] -/
def Reg.CCBYP.STATUS.CAUSE_EXT : Fld := ⟨647, 1, 0, 0, false, false⟩
/-- CCBYP.STATUS.ARMED [25:25] -/
def Reg.CCBYP.STATUS.ARMED : Fld := ⟨648, 1, 0, 0, false, false⟩
/-- CCBYP.STATUS.OV2 [1:1] -/
def Reg.CCBYP.STATUS.OV2 : Fld := ⟨649, 1, 0, 0, false, false⟩
/-- CCBYP.STATUS.OV1 [0:0] -/
def Reg.CCBYP.STATUS.OV1 : Fld := ⟨650, 1, 0, 0, false, false⟩
/-- CCBYP.FIRE_VT_LO.VT [31:0] -/
def Reg.CCBYP.FIRE_VT_LO.VT : Fld := ⟨651, 32, 0, 0, false, false⟩
/-- CCBYP.FIRE_VT_HI.VT [31:0] -/
def Reg.CCBYP.FIRE_VT_HI.VT : Fld := ⟨652, 32, 0, 0, false, false⟩
/-- CCBYP.OVCNT.OV2 [31:16] -/
def Reg.CCBYP.OVCNT.OV2 : Fld := ⟨653, 16, 0, 0, false, false⟩
/-- CCBYP.OVCNT.OV1 [15:0] -/
def Reg.CCBYP.OVCNT.OV1 : Fld := ⟨654, 16, 0, 0, false, false⟩

def rowsCcCcbyp0 : List Row := [
  ⟨0x500, 1, 0x0, 1, 0x0, .plain, some Reg.CCBYP.CFG.LOCK, false, .none, [⟨31, 1, Reg.CCBYP.CFG.LOCK, 0, .lock, []⟩, ⟨8, 8, Reg.CCBYP.CFG.CONFIRM_MS, 0, .rwl, [(1, 255)]⟩, ⟨0, 4, Reg.CCBYP.CFG.PULSE_MS, 0, .rwl, [(1, 15)]⟩]⟩,
  ⟨0x504, 1, 0x0, 1, 0x0, .plain, some Reg.CCBYP.CFG.LOCK, false, .none, [⟨0, 16, Reg.CCBYP.OV1.TH, 0, .rwl, []⟩]⟩,
  ⟨0x508, 1, 0x0, 1, 0x0, .plain, some Reg.CCBYP.CFG.LOCK, false, .none, [⟨0, 16, Reg.CCBYP.OV2.TH, 0, .rwl, []⟩]⟩,
  ⟨0x50c, 1, 0x0, 1, 0x0, .plain, some Reg.CCBYP.CFG.LOCK, false, .none, [⟨0, 16, Reg.CCBYP.OV3.TH, 0, .rwl, []⟩]⟩,
  ⟨0x510, 1, 0x0, 1, 0x0, .plain, some Reg.CCBYP.CFG.LOCK, false, .none, [⟨0, 16, Reg.CCBYP.BYPTH.TH, 0, .rwl, []⟩]⟩,
  ⟨0x514, 1, 0x0, 1, 0x0, .plain, none, false, .none, [⟨31, 1, Reg.CCBYP.STATUS.FIRED, 0, .ro, []⟩, ⟨30, 1, Reg.CCBYP.STATUS.CONFIRMED, 0, .ro, []⟩, ⟨29, 1, Reg.CCBYP.STATUS.UNCONFIRMED, 0, .ro, []⟩, ⟨28, 1, Reg.CCBYP.STATUS.CAUSE_LOCAL, 0, .ro, []⟩, ⟨27, 1, Reg.CCBYP.STATUS.CAUSE_CMD, 0, .ro, []⟩, ⟨26, 1, Reg.CCBYP.STATUS.CAUSE_EXT, 0, .ro, []⟩, ⟨25, 1, Reg.CCBYP.STATUS.ARMED, 0, .ro, []⟩, ⟨1, 1, Reg.CCBYP.STATUS.OV2, 0, .ro, []⟩, ⟨0, 1, Reg.CCBYP.STATUS.OV1, 0, .ro, []⟩]⟩,
  ⟨0x518, 1, 0x0, 1, 0x0, .plain, none, false, .none, [⟨0, 32, Reg.CCBYP.FIRE_VT_LO.VT, 0, .ro, []⟩]⟩,
  ⟨0x51c, 1, 0x0, 1, 0x0, .plain, none, false, .none, [⟨0, 32, Reg.CCBYP.FIRE_VT_HI.VT, 0, .ro, []⟩]⟩,
  ⟨0x520, 1, 0x0, 1, 0x0, .plain, none, false, .none, [⟨16, 16, Reg.CCBYP.OVCNT.OV2, 0, .ro, []⟩, ⟨0, 16, Reg.CCBYP.OVCNT.OV1, 0, .ro, []⟩]⟩]

/-! ### CCTIME (R235, spec/10_cell_controller.md) -/

/-- CCTIME.LINKDLY.D [15:0] -/
def Reg.CCTIME.LINKDLY.D : Fld := ⟨655, 16, 0, 0, false, false⟩
/-- CCTIME.PATHDLY_X.DELAY [23:0] -/
def Reg.CCTIME.PATHDLY_X.DELAY : Fld := ⟨656, 24, 0, 0, false, false⟩
/-- CCTIME.PATHDLY_Y.DELAY [23:0] -/
def Reg.CCTIME.PATHDLY_Y.DELAY : Fld := ⟨657, 24, 0, 0, false, false⟩
/-- CCTIME.NOW_LO.VT [31:0] -/
def Reg.CCTIME.NOW_LO.VT : Fld := ⟨658, 32, 0, 0, false, false⟩
/-- CCTIME.NOW_HI.VT [31:0] -/
def Reg.CCTIME.NOW_HI.VT : Fld := ⟨659, 32, 0, 0, false, false⟩
/-- CCTIME.SYNCCFG.EN [31:31] -/
def Reg.CCTIME.SYNCCFG.EN : Fld := ⟨660, 1, 0, 0, false, true⟩
/-- CCTIME.SYNCCFG.WIDTH [27:20] -/
def Reg.CCTIME.SYNCCFG.WIDTH : Fld := ⟨661, 8, 25, 25, false, true⟩
/-- CCTIME.SYNCCFG.OFFSET [16:0] -/
def Reg.CCTIME.SYNCCFG.OFFSET : Fld := ⟨662, 17, 0, 0, false, true⟩
/-- CCTIME.TSTAT.VALID [31:31] -/
def Reg.CCTIME.TSTAT.VALID : Fld := ⟨663, 1, 0, 0, false, false⟩

def rowsCcCctime0 : List Row := [
  ⟨0x600, 1, 0x0, 1, 0x0, .plain, none, false, .none, [⟨0, 16, Reg.CCTIME.LINKDLY.D, 0, .ro, []⟩]⟩,
  ⟨0x604, 1, 0x0, 1, 0x0, .plain, none, false, .none, [⟨0, 24, Reg.CCTIME.PATHDLY_X.DELAY, 0, .rw, []⟩]⟩,
  ⟨0x608, 1, 0x0, 1, 0x0, .plain, none, false, .none, [⟨0, 24, Reg.CCTIME.PATHDLY_Y.DELAY, 0, .rw, []⟩]⟩,
  ⟨0x60c, 1, 0x0, 1, 0x0, .plain, none, false, .none, [⟨0, 32, Reg.CCTIME.NOW_LO.VT, 0, .ro, []⟩]⟩,
  ⟨0x610, 1, 0x0, 1, 0x0, .plain, none, false, .none, [⟨0, 32, Reg.CCTIME.NOW_HI.VT, 0, .ro, []⟩]⟩,
  ⟨0x614, 1, 0x0, 1, 0x0, .plain, none, false, .none, [⟨31, 1, Reg.CCTIME.SYNCCFG.EN, 0, .rw, []⟩, ⟨20, 8, Reg.CCTIME.SYNCCFG.WIDTH, 0, .rw, [(1, 255)]⟩, ⟨0, 17, Reg.CCTIME.SYNCCFG.OFFSET, 0, .rw, []⟩]⟩,
  ⟨0x618, 1, 0x0, 1, 0x0, .plain, none, false, .none, [⟨31, 1, Reg.CCTIME.TSTAT.VALID, 0, .ro, []⟩]⟩]

/-! ### CCWDOG (R235, spec/10_cell_controller.md) -/

/-- CCWDOG.SWEEP.WDOG_TICKS [6:0] -/
def Reg.CCWDOG.SWEEP.WDOG_TICKS : Fld := ⟨664, 7, 4, 4, false, false⟩
/-- CCWDOG.CORE.EN [31:31] -/
def Reg.CCWDOG.CORE.EN : Fld := ⟨665, 1, 1, 1, false, false⟩
/-- CCWDOG.CORE.TIMEOUT_US [15:0] -/
def Reg.CCWDOG.CORE.TIMEOUT_US : Fld := ⟨666, 16, 10000, 10000, false, false⟩
/-- CCWDOG.KICK.KEY [31:16] -/
def Reg.CCWDOG.KICK.KEY : Fld := ⟨667, 16, 0, 0, false, false⟩
/-- CCWDOG.KICK.FW_FAULT [0:0] -/
def Reg.CCWDOG.KICK.FW_FAULT : Fld := ⟨668, 1, 0, 0, false, false⟩
/-- CCWDOG.WSTAT.EXPIRIES [31:16] -/
def Reg.CCWDOG.WSTAT.EXPIRIES : Fld := ⟨669, 16, 0, 0, false, false⟩
/-- CCWDOG.WSTAT.MISSED [6:0] -/
def Reg.CCWDOG.WSTAT.MISSED : Fld := ⟨670, 7, 0, 0, false, false⟩

def rowsCcCcwdog0 : List Row := [
  ⟨0x700, 1, 0x0, 1, 0x0, .plain, none, false, .none, [⟨0, 7, Reg.CCWDOG.SWEEP.WDOG_TICKS, 0, .rw, [(2, 64)]⟩]⟩,
  ⟨0x704, 1, 0x0, 1, 0x0, .plain, none, false, .none, [⟨31, 1, Reg.CCWDOG.CORE.EN, 0, .rw, []⟩, ⟨0, 16, Reg.CCWDOG.CORE.TIMEOUT_US, 0, .rw, [(100, 65535)]⟩]⟩,
  ⟨0x708, 1, 0x0, 1, 0x0, .kick, none, false, .none, [⟨16, 16, Reg.CCWDOG.KICK.KEY, 0, .wo, []⟩, ⟨0, 1, Reg.CCWDOG.KICK.FW_FAULT, 0, .wo, []⟩]⟩,
  ⟨0x70c, 1, 0x0, 1, 0x0, .plain, none, false, .none, [⟨16, 16, Reg.CCWDOG.WSTAT.EXPIRIES, 0, .ro, []⟩, ⟨0, 7, Reg.CCWDOG.WSTAT.MISSED, 0, .ro, []⟩]⟩]

/-! ### CCBOOT (R235, spec/10_cell_controller.md) -/

/-- CCBOOT.STATUS.STATE [31:28] -/
def Reg.CCBOOT.STATUS.STATE : Fld := ⟨671, 4, 0, 0, false, false⟩
/-- CCBOOT.STATUS.MISSING [15:0] -/
def Reg.CCBOOT.STATUS.MISSING : Fld := ⟨672, 16, 65535, 65535, false, false⟩
/-- CCBOOT.IMGVER.VERSION [31:0] -/
def Reg.CCBOOT.IMGVER.VERSION : Fld := ⟨673, 32, 0, 0, false, false⟩
/-- CCBOOT.CTRL.KEY [31:16] -/
def Reg.CCBOOT.CTRL.KEY : Fld := ⟨674, 16, 0, 0, false, false⟩
/-- CCBOOT.CTRL.CORE_RST [0:0] -/
def Reg.CCBOOT.CTRL.CORE_RST : Fld := ⟨675, 1, 0, 0, false, false⟩
/-- CCBOOT.CNT.LOADS [31:16] -/
def Reg.CCBOOT.CNT.LOADS : Fld := ⟨676, 16, 0, 0, false, false⟩
/-- CCBOOT.CNT.REFUSED [15:0] -/
def Reg.CCBOOT.CNT.REFUSED : Fld := ⟨677, 16, 0, 0, false, false⟩
/-- CCBOOT.CAUSE.LAST [1:0] -/
def Reg.CCBOOT.CAUSE.LAST : Fld := ⟨678, 2, 0, 0, false, false⟩

def rowsCcCcboot0 : List Row := [
  ⟨0x800, 1, 0x0, 1, 0x0, .plain, none, false, .none, [⟨28, 4, Reg.CCBOOT.STATUS.STATE, 0, .ro, []⟩, ⟨0, 16, Reg.CCBOOT.STATUS.MISSING, 0, .ro, []⟩]⟩,
  ⟨0x804, 1, 0x0, 1, 0x0, .plain, none, false, .none, [⟨0, 32, Reg.CCBOOT.IMGVER.VERSION, 0, .ro, []⟩]⟩,
  ⟨0x808, 1, 0x0, 1, 0x0, .ccbootctl, none, false, .none, [⟨16, 16, Reg.CCBOOT.CTRL.KEY, 0, .wo, []⟩, ⟨0, 1, Reg.CCBOOT.CTRL.CORE_RST, 0, .wo, []⟩]⟩,
  ⟨0x80c, 1, 0x0, 1, 0x0, .plain, none, false, .none, [⟨16, 16, Reg.CCBOOT.CNT.LOADS, 0, .ro, []⟩, ⟨0, 16, Reg.CCBOOT.CNT.REFUSED, 0, .ro, []⟩]⟩,
  ⟨0x810, 1, 0x0, 1, 0x0, .plain, none, false, .none, [⟨0, 2, Reg.CCBOOT.CAUSE.LAST, 0, .ro, []⟩]⟩]

/-! ### GATE (R255, spec/11_cell_gate_timing.md) -/

/-- GATE.CFG.BRIDGE [31:31] -/
def Reg.GATE.CFG.BRIDGE : Fld := ⟨679, 1, 0, 0, false, true⟩
/-- GATE.CFG.BYP_LEGS [30:29] -/
def Reg.GATE.CFG.BYP_LEGS : Fld := ⟨680, 2, 0, 0, false, true⟩
/-- GATE.CFG.MP_POLICY [28:28] -/
def Reg.GATE.CFG.MP_POLICY : Fld := ⟨681, 1, 0, 0, false, true⟩
/-- GATE.DEAD_RISE.TIME [12:0] -/
def Reg.GATE.DEAD_RISE.TIME : Fld := ⟨682, 13, 250, 250, false, true⟩
/-- GATE.DEAD_FALL.TIME [12:0] -/
def Reg.GATE.DEAD_FALL.TIME : Fld := ⟨683, 13, 250, 250, false, true⟩
/-- GATE.MINPULSE.TIME [12:0] -/
def Reg.GATE.MINPULSE.TIME : Fld := ⟨684, 13, 0, 0, false, true⟩
/-- GATE.SKEW.SKEW_BL [31:24] -/
def Reg.GATE.SKEW.SKEW_BL : Fld := ⟨685, 8, 0, 0, false, true⟩
/-- GATE.SKEW.SKEW_BH [23:16] -/
def Reg.GATE.SKEW.SKEW_BH : Fld := ⟨686, 8, 0, 0, false, true⟩
/-- GATE.SKEW.SKEW_AL [15:8] -/
def Reg.GATE.SKEW.SKEW_AL : Fld := ⟨687, 8, 0, 0, false, true⟩
/-- GATE.SKEW.SKEW_AH [7:0] -/
def Reg.GATE.SKEW.SKEW_AH : Fld := ⟨688, 8, 0, 0, false, true⟩
/-- GATE.STATUS.STATE [31:28] -/
def Reg.GATE.STATUS.STATE : Fld := ⟨689, 4, 0, 0, false, false⟩
/-- GATE.STATUS.PEND [27:27] -/
def Reg.GATE.STATUS.PEND : Fld := ⟨690, 1, 0, 0, false, false⟩
/-- GATE.STATUS.BYP_NEXT [26:26] -/
def Reg.GATE.STATUS.BYP_NEXT : Fld := ⟨691, 1, 0, 0, false, false⟩
/-- GATE.STATUS.OUT [3:0] -/
def Reg.GATE.STATUS.OUT : Fld := ⟨692, 4, 0, 0, false, false⟩
/-- GATE.EVSTAT.BRIDGE_BLOCK [5:5] -/
def Reg.GATE.EVSTAT.BRIDGE_BLOCK : Fld := ⟨693, 1, 0, 0, false, false⟩
/-- GATE.EVSTAT.DL_FAIL [4:4] -/
def Reg.GATE.EVSTAT.DL_FAIL : Fld := ⟨694, 1, 0, 0, false, false⟩
/-- GATE.EVSTAT.EDGE_EMPTY [3:3] -/
def Reg.GATE.EVSTAT.EDGE_EMPTY : Fld := ⟨695, 1, 0, 0, false, false⟩
/-- GATE.EVSTAT.MP_FORCED [2:2] -/
def Reg.GATE.EVSTAT.MP_FORCED : Fld := ⟨696, 1, 0, 0, false, false⟩
/-- GATE.EVSTAT.MP_STRETCH [1:1] -/
def Reg.GATE.EVSTAT.MP_STRETCH : Fld := ⟨697, 1, 0, 0, false, false⟩
/-- GATE.EVSTAT.MP_DROP [0:0] -/
def Reg.GATE.EVSTAT.MP_DROP : Fld := ⟨698, 1, 0, 0, false, false⟩
/-- GATE.MPCNT.STRETCHES [31:16] -/
def Reg.GATE.MPCNT.STRETCHES : Fld := ⟨699, 16, 0, 0, false, false⟩
/-- GATE.MPCNT.DROPS [15:0] -/
def Reg.GATE.MPCNT.DROPS : Fld := ⟨700, 16, 0, 0, false, false⟩
/-- GATE.DLSTAT.LINE [31:31] -/
def Reg.GATE.DLSTAT.LINE : Fld := ⟨701, 1, 0, 0, false, false⟩
/-- GATE.DLSTAT.FAIL_B [30:30] -/
def Reg.GATE.DLSTAT.FAIL_B : Fld := ⟨702, 1, 0, 0, false, false⟩
/-- GATE.DLSTAT.FAIL_A [29:29] -/
def Reg.GATE.DLSTAT.FAIL_A : Fld := ⟨703, 1, 0, 0, false, false⟩
/-- GATE.DLSTAT.M_B [13:8] -/
def Reg.GATE.DLSTAT.M_B : Fld := ⟨704, 6, 32, 32, false, false⟩
/-- GATE.DLSTAT.M_A [5:0] -/
def Reg.GATE.DLSTAT.M_A : Fld := ⟨705, 6, 32, 32, false, false⟩

def rowsCcGate0 : List Row := [
  ⟨0x200, 1, 0x0, 1, 0x0, .plain, none, false, .none, [⟨31, 1, Reg.GATE.CFG.BRIDGE, 0, .rw, []⟩, ⟨29, 2, Reg.GATE.CFG.BYP_LEGS, 0, .rw, [(0, 2)]⟩, ⟨28, 1, Reg.GATE.CFG.MP_POLICY, 0, .rw, []⟩]⟩,
  ⟨0x204, 1, 0x0, 1, 0x0, .plain, none, false, .none, [⟨0, 13, Reg.GATE.DEAD_RISE.TIME, 0, .rw, [(125, 5000)]⟩]⟩,
  ⟨0x208, 1, 0x0, 1, 0x0, .plain, none, false, .none, [⟨0, 13, Reg.GATE.DEAD_FALL.TIME, 0, .rw, [(125, 5000)]⟩]⟩,
  ⟨0x20c, 1, 0x0, 1, 0x0, .plain, none, false, .none, [⟨0, 13, Reg.GATE.MINPULSE.TIME, 0, .rw, [(0, 5000)]⟩]⟩,
  ⟨0x210, 1, 0x0, 1, 0x0, .plain, none, false, .none, [⟨24, 8, Reg.GATE.SKEW.SKEW_BL, 0, .rw, []⟩, ⟨16, 8, Reg.GATE.SKEW.SKEW_BH, 0, .rw, []⟩, ⟨8, 8, Reg.GATE.SKEW.SKEW_AL, 0, .rw, []⟩, ⟨0, 8, Reg.GATE.SKEW.SKEW_AH, 0, .rw, []⟩]⟩,
  ⟨0x214, 1, 0x0, 1, 0x0, .plain, none, false, .none, [⟨28, 4, Reg.GATE.STATUS.STATE, 0, .ro, []⟩, ⟨27, 1, Reg.GATE.STATUS.PEND, 0, .ro, []⟩, ⟨26, 1, Reg.GATE.STATUS.BYP_NEXT, 0, .ro, []⟩, ⟨0, 4, Reg.GATE.STATUS.OUT, 0, .ro, []⟩]⟩,
  ⟨0x218, 1, 0x0, 1, 0x0, .plain, none, false, .none, [⟨5, 1, Reg.GATE.EVSTAT.BRIDGE_BLOCK, 0, .w1c, []⟩, ⟨4, 1, Reg.GATE.EVSTAT.DL_FAIL, 0, .w1c, []⟩, ⟨3, 1, Reg.GATE.EVSTAT.EDGE_EMPTY, 0, .w1c, []⟩, ⟨2, 1, Reg.GATE.EVSTAT.MP_FORCED, 0, .w1c, []⟩, ⟨1, 1, Reg.GATE.EVSTAT.MP_STRETCH, 0, .w1c, []⟩, ⟨0, 1, Reg.GATE.EVSTAT.MP_DROP, 0, .w1c, []⟩]⟩,
  ⟨0x21c, 1, 0x0, 1, 0x0, .plain, none, false, .none, [⟨16, 16, Reg.GATE.MPCNT.STRETCHES, 0, .ro, []⟩, ⟨0, 16, Reg.GATE.MPCNT.DROPS, 0, .ro, []⟩]⟩,
  ⟨0x220, 4, 0x4, 1, 0x0, .plain, none, false, .none, [⟨31, 1, Reg.GATE.DLSTAT.LINE, 0, .ro, []⟩, ⟨30, 1, Reg.GATE.DLSTAT.FAIL_B, 0, .ro, []⟩, ⟨29, 1, Reg.GATE.DLSTAT.FAIL_A, 0, .ro, []⟩, ⟨8, 6, Reg.GATE.DLSTAT.M_B, 0, .ro, []⟩, ⟨0, 6, Reg.GATE.DLSTAT.M_A, 0, .ro, []⟩]⟩]

/-! ### TRIP (R256, spec/11_cell_gate_timing.md) -/

/-- TRIP.TCFG.EN [31:31] -/
def Reg.TRIP.TCFG.EN : Fld := ⟨706, 1, 0, 0, false, true⟩
/-- TRIP.TCFG.ACT_LOW [30:30] -/
def Reg.TRIP.TCFG.ACT_LOW : Fld := ⟨707, 1, 0, 0, false, true⟩
/-- TRIP.TCFG.TYPE [29:29] -/
def Reg.TRIP.TCFG.TYPE : Fld := ⟨708, 1, 0, 0, false, true⟩
/-- TRIP.TCFG.OUTSEL [25:24] -/
def Reg.TRIP.TCFG.OUTSEL : Fld := ⟨709, 2, 0, 0, false, true⟩
/-- TRIP.T0.FILTER [10:0] -/
def Reg.TRIP.T0.FILTER : Fld := ⟨710, 11, 50, 50, false, true⟩
/-- TRIP.T1.BLANK [12:0] -/
def Reg.TRIP.T1.BLANK : Fld := ⟨711, 13, 750, 750, false, true⟩
/-- TRIP.LATCH.ACTIVE [13:8] -/
def Reg.TRIP.LATCH.ACTIVE : Fld := ⟨712, 6, 0, 0, false, false⟩
/-- TRIP.LATCH.LATCHED [5:0] -/
def Reg.TRIP.LATCH.LATCHED : Fld := ⟨713, 6, 0, 0, false, false⟩
/-- TRIP.CTRL.KEY [31:16] -/
def Reg.TRIP.CTRL.KEY : Fld := ⟨714, 16, 0, 0, false, false⟩
/-- TRIP.CTRL.CLEAR [0:0] -/
def Reg.TRIP.CTRL.CLEAR : Fld := ⟨715, 1, 0, 0, false, false⟩
/-- TRIP.TSTAT.FIRST [31:28] -/
def Reg.TRIP.TSTAT.FIRST : Fld := ⟨716, 4, 15, 15, false, false⟩
/-- TRIP.TSTAT.TRIP_PERSIST [2:2] -/
def Reg.TRIP.TSTAT.TRIP_PERSIST : Fld := ⟨717, 1, 0, 0, false, false⟩
/-- TRIP.TSTAT.DURING_DEAD [1:1] -/
def Reg.TRIP.TSTAT.DURING_DEAD : Fld := ⟨718, 1, 0, 0, false, false⟩
/-- TRIP.TSTAT.TRIPPED [0:0] -/
def Reg.TRIP.TSTAT.TRIPPED : Fld := ⟨719, 1, 0, 0, false, false⟩
/-- TRIP.TRIPCNT.BLANKED [31:16] -/
def Reg.TRIP.TRIPCNT.BLANKED : Fld := ⟨720, 16, 0, 0, false, false⟩
/-- TRIP.TRIPCNT.TRIPS [15:0] -/
def Reg.TRIP.TRIPCNT.TRIPS : Fld := ⟨721, 16, 0, 0, false, false⟩
/-- TRIP.TRIP_VT_LO.VT [31:0] -/
def Reg.TRIP.TRIP_VT_LO.VT : Fld := ⟨722, 32, 0, 0, false, false⟩
/-- TRIP.TRIP_VT_HI.VT [31:0] -/
def Reg.TRIP.TRIP_VT_HI.VT : Fld := ⟨723, 32, 0, 0, false, false⟩

def rowsCcTrip0 : List Row := [
  ⟨0x300, 6, 0x4, 1, 0x0, .plain, none, false, .none, [⟨31, 1, Reg.TRIP.TCFG.EN, 0, .rw, []⟩, ⟨30, 1, Reg.TRIP.TCFG.ACT_LOW, 0, .rw, []⟩, ⟨29, 1, Reg.TRIP.TCFG.TYPE, 0, .rw, []⟩, ⟨24, 2, Reg.TRIP.TCFG.OUTSEL, 0, .rw, []⟩]⟩,
  ⟨0x318, 1, 0x0, 1, 0x0, .plain, none, false, .none, [⟨0, 11, Reg.TRIP.T0.FILTER, 0, .rw, [(5, 1250)]⟩]⟩,
  ⟨0x31c, 1, 0x0, 1, 0x0, .plain, none, false, .none, [⟨0, 13, Reg.TRIP.T1.BLANK, 0, .rw, [(125, 5000)]⟩]⟩,
  ⟨0x320, 1, 0x0, 1, 0x0, .plain, none, false, .none, [⟨8, 6, Reg.TRIP.LATCH.ACTIVE, 0, .ro, []⟩, ⟨0, 6, Reg.TRIP.LATCH.LATCHED, 0, .ro, []⟩]⟩,
  ⟨0x324, 1, 0x0, 1, 0x0, .tripctl, none, false, .none, [⟨16, 16, Reg.TRIP.CTRL.KEY, 0, .wo, []⟩, ⟨0, 1, Reg.TRIP.CTRL.CLEAR, 0, .wo, []⟩]⟩,
  ⟨0x328, 1, 0x0, 1, 0x0, .plain, none, false, .none, [⟨28, 4, Reg.TRIP.TSTAT.FIRST, 0, .ro, []⟩, ⟨2, 1, Reg.TRIP.TSTAT.TRIP_PERSIST, 0, .w1c, []⟩, ⟨1, 1, Reg.TRIP.TSTAT.DURING_DEAD, 0, .w1c, []⟩, ⟨0, 1, Reg.TRIP.TSTAT.TRIPPED, 0, .w1c, []⟩]⟩,
  ⟨0x32c, 1, 0x0, 1, 0x0, .plain, none, false, .none, [⟨16, 16, Reg.TRIP.TRIPCNT.BLANKED, 0, .ro, []⟩, ⟨0, 16, Reg.TRIP.TRIPCNT.TRIPS, 0, .ro, []⟩]⟩,
  ⟨0x330, 1, 0x0, 1, 0x0, .plain, none, false, .none, [⟨0, 32, Reg.TRIP.TRIP_VT_LO.VT, 0, .ro, []⟩]⟩,
  ⟨0x334, 1, 0x0, 1, 0x0, .plain, none, false, .none, [⟨0, 32, Reg.TRIP.TRIP_VT_HI.VT, 0, .ro, []⟩]⟩]

/-! ### ADC (R268, spec/12_cell_measurement.md) -/

/-- ADC.CFG.REPSRC [31:31] -/
def Reg.ADC.CFG.REPSRC : Fld := ⟨724, 1, 0, 0, false, true⟩
/-- ADC.CFG.TICK_EN [30:30] -/
def Reg.ADC.CFG.TICK_EN : Fld := ⟨725, 1, 1, 1, false, true⟩
/-- ADC.CFG.SAMPLE_LEAD [16:0] -/
def Reg.ADC.CFG.SAMPLE_LEAD : Fld := ⟨726, 17, 0, 0, false, true⟩
/-- ADC.CAL_A.GAIN [31:16] -/
def Reg.ADC.CAL_A.GAIN : Fld := ⟨727, 16, 32768, 32768, false, true⟩
/-- ADC.CAL_A.OFFSET [15:0] -/
def Reg.ADC.CAL_A.OFFSET : Fld := ⟨728, 16, 0, 0, false, true⟩
/-- ADC.CAL_B.GAIN [31:16] -/
def Reg.ADC.CAL_B.GAIN : Fld := ⟨729, 16, 32768, 32768, false, true⟩
/-- ADC.CAL_B.OFFSET [15:0] -/
def Reg.ADC.CAL_B.OFFSET : Fld := ⟨730, 16, 0, 0, false, true⟩
/-- ADC.WIN.WIN_HI [31:16] -/
def Reg.ADC.WIN.WIN_HI : Fld := ⟨731, 16, 65535, 65535, false, false⟩
/-- ADC.WIN.WIN_LO [15:0] -/
def Reg.ADC.WIN.WIN_LO : Fld := ⟨732, 16, 0, 0, false, false⟩
/-- ADC.WINCFG.WIN_EN [31:31] -/
def Reg.ADC.WINCFG.WIN_EN : Fld := ⟨733, 1, 0, 0, false, false⟩
/-- ADC.WINCFG.BURST_N [7:0] -/
def Reg.ADC.WINCFG.BURST_N : Fld := ⟨734, 8, 16, 16, false, false⟩
/-- ADC.AB_DIFF.DIFF [15:0] -/
def Reg.ADC.AB_DIFF.DIFF : Fld := ⟨735, 16, 1600, 1600, false, false⟩
/-- ADC.REFCTL.BUF_EN [31:31] -/
def Reg.ADC.REFCTL.BUF_EN : Fld := ⟨736, 1, 1, 1, false, false⟩
/-- ADC.REFCTL.SETTLED [0:0] -/
def Reg.ADC.REFCTL.SETTLED : Fld := ⟨737, 1, 0, 0, false, false⟩
/-- ADC.OWCTL.GO [31:31] -/
def Reg.ADC.OWCTL.GO : Fld := ⟨738, 1, 0, 0, false, false⟩
/-- ADC.OWCTL.SETTLE [15:8] -/
def Reg.ADC.OWCTL.SETTLE : Fld := ⟨739, 8, 5, 5, false, false⟩
/-- ADC.OWCTL.CH [1:0] -/
def Reg.ADC.OWCTL.CH : Fld := ⟨740, 2, 0, 0, false, false⟩
/-- ADC.OWSTAT.BUSY [31:31] -/
def Reg.ADC.OWSTAT.BUSY : Fld := ⟨741, 1, 0, 0, false, false⟩
/-- ADC.OWSTAT.LAST_CH [30:29] -/
def Reg.ADC.OWSTAT.LAST_CH : Fld := ⟨742, 2, 0, 0, false, false⟩
/-- ADC.OWSTAT.REFUSED [28:28] -/
def Reg.ADC.OWSTAT.REFUSED : Fld := ⟨743, 1, 0, 0, false, false⟩
/-- ADC.OWSTAT.OPEN [23:20] -/
def Reg.ADC.OWSTAT.OPEN : Fld := ⟨744, 4, 0, 0, false, false⟩
/-- ADC.OWSTAT.TESTED [19:16] -/
def Reg.ADC.OWSTAT.TESTED : Fld := ⟨745, 4, 0, 0, false, false⟩
/-- ADC.OWSTAT.LAST_DELTA [15:0] -/
def Reg.ADC.OWSTAT.LAST_DELTA : Fld := ⟨746, 16, 0, 0, false, false⟩
/-- ADC.OWDELTA.DELTA [15:0] -/
def Reg.ADC.OWDELTA.DELTA : Fld := ⟨747, 16, 16384, 16384, false, false⟩
/-- ADC.STATUS.REF_FAULT [31:31] -/
def Reg.ADC.STATUS.REF_FAULT : Fld := ⟨748, 1, 0, 0, false, false⟩
/-- ADC.STATUS.AB_MISMATCH [30:30] -/
def Reg.ADC.STATUS.AB_MISMATCH : Fld := ⟨749, 1, 0, 0, false, false⟩
/-- ADC.STATUS.LEAD_BAD [29:29] -/
def Reg.ADC.STATUS.LEAD_BAD : Fld := ⟨750, 1, 0, 0, false, false⟩
/-- ADC.STATUS.BURST [28:28] -/
def Reg.ADC.STATUS.BURST : Fld := ⟨751, 1, 0, 0, false, false⟩
/-- ADC.STATUS.SUBST [27:27] -/
def Reg.ADC.STATUS.SUBST : Fld := ⟨752, 1, 0, 0, false, false⟩
/-- ADC.STATUS.WIN_EXIT [26:26] -/
def Reg.ADC.STATUS.WIN_EXIT : Fld := ⟨753, 1, 0, 0, false, false⟩
/-- ADC.QCFG.SRC_EN [19:16] -/
def Reg.ADC.QCFG.SRC_EN : Fld := ⟨754, 4, 0, 0, false, false⟩
/-- ADC.QCFG.CH_EN [9:0] -/
def Reg.ADC.QCFG.CH_EN : Fld := ⟨755, 10, 0, 0, false, false⟩
/-- ADC.QSTAT.LOST [31:16] -/
def Reg.ADC.QSTAT.LOST : Fld := ⟨756, 16, 0, 0, false, false⟩
/-- ADC.QSTAT.COUNT [5:0] -/
def Reg.ADC.QSTAT.COUNT : Fld := ⟨757, 6, 0, 0, false, false⟩
/-- ADC.QPOP.ENTRY [31:0] -/
def Reg.ADC.QPOP.ENTRY : Fld := ⟨758, 32, 0, 0, false, false⟩
/-- ADC.LAST.VALUE [31:16] -/
def Reg.ADC.LAST.VALUE : Fld := ⟨759, 16, 0, 0, false, false⟩
/-- ADC.LAST.RAW [15:0] -/
def Reg.ADC.LAST.RAW : Fld := ⟨760, 16, 0, 0, false, false⟩
/-- ADC.TICKV.TVALID [31:31] -/
def Reg.ADC.TICKV.TVALID : Fld := ⟨761, 1, 0, 0, false, false⟩
/-- ADC.TICKV.VALUE [15:0] -/
def Reg.ADC.TICKV.VALUE : Fld := ⟨762, 16, 0, 0, false, false⟩
/-- ADC.BURSTCNT.BURSTS [31:16] -/
def Reg.ADC.BURSTCNT.BURSTS : Fld := ⟨763, 16, 0, 0, false, false⟩
/-- ADC.BURSTCNT.EXITS [15:0] -/
def Reg.ADC.BURSTCNT.EXITS : Fld := ⟨764, 16, 0, 0, false, false⟩

def rowsCcAdc0 : List Row := [
  ⟨0x400, 1, 0x0, 1, 0x0, .plain, none, false, .none, [⟨31, 1, Reg.ADC.CFG.REPSRC, 0, .rw, []⟩, ⟨30, 1, Reg.ADC.CFG.TICK_EN, 0, .rw, []⟩, ⟨0, 17, Reg.ADC.CFG.SAMPLE_LEAD, 0, .rw, []⟩]⟩,
  ⟨0x404, 1, 0x0, 1, 0x0, .plain, none, false, .none, [⟨16, 16, Reg.ADC.CAL_A.GAIN, 0, .rw, [(24576, 40960)]⟩, ⟨0, 16, Reg.ADC.CAL_A.OFFSET, 0, .rw, []⟩]⟩,
  ⟨0x408, 1, 0x0, 1, 0x0, .plain, none, false, .none, [⟨16, 16, Reg.ADC.CAL_B.GAIN, 0, .rw, [(24576, 40960)]⟩, ⟨0, 16, Reg.ADC.CAL_B.OFFSET, 0, .rw, []⟩]⟩,
  ⟨0x40c, 1, 0x0, 1, 0x0, .plain, none, false, .none, [⟨16, 16, Reg.ADC.WIN.WIN_HI, 0, .rw, []⟩, ⟨0, 16, Reg.ADC.WIN.WIN_LO, 0, .rw, []⟩]⟩,
  ⟨0x410, 1, 0x0, 1, 0x0, .plain, none, false, .none, [⟨31, 1, Reg.ADC.WINCFG.WIN_EN, 0, .rw, []⟩, ⟨0, 8, Reg.ADC.WINCFG.BURST_N, 0, .rw, []⟩]⟩,
  ⟨0x414, 1, 0x0, 1, 0x0, .plain, none, false, .none, [⟨0, 16, Reg.ADC.AB_DIFF.DIFF, 0, .rw, []⟩]⟩,
  ⟨0x418, 1, 0x0, 1, 0x0, .refctl, none, false, .none, [⟨31, 1, Reg.ADC.REFCTL.BUF_EN, 0, .rw, []⟩, ⟨0, 1, Reg.ADC.REFCTL.SETTLED, 0, .ro, []⟩]⟩,
  ⟨0x41c, 1, 0x0, 1, 0x0, .owctl, none, false, .none, [⟨31, 1, Reg.ADC.OWCTL.GO, 0, .wo, []⟩, ⟨8, 8, Reg.ADC.OWCTL.SETTLE, 0, .rw, [(1, 255)]⟩, ⟨0, 2, Reg.ADC.OWCTL.CH, 0, .rw, []⟩]⟩,
  ⟨0x420, 1, 0x0, 1, 0x0, .plain, none, false, .none, [⟨31, 1, Reg.ADC.OWSTAT.BUSY, 0, .ro, []⟩, ⟨29, 2, Reg.ADC.OWSTAT.LAST_CH, 0, .ro, []⟩, ⟨28, 1, Reg.ADC.OWSTAT.REFUSED, 0, .w1c, []⟩, ⟨20, 4, Reg.ADC.OWSTAT.OPEN, 0, .ro, []⟩, ⟨16, 4, Reg.ADC.OWSTAT.TESTED, 0, .ro, []⟩, ⟨0, 16, Reg.ADC.OWSTAT.LAST_DELTA, 0, .ro, []⟩]⟩,
  ⟨0x424, 1, 0x0, 1, 0x0, .plain, none, false, .none, [⟨0, 16, Reg.ADC.OWDELTA.DELTA, 0, .rw, []⟩]⟩,
  ⟨0x428, 1, 0x0, 1, 0x0, .plain, none, false, .none, [⟨31, 1, Reg.ADC.STATUS.REF_FAULT, 0, .ro, []⟩, ⟨30, 1, Reg.ADC.STATUS.AB_MISMATCH, 0, .w1c, []⟩, ⟨29, 1, Reg.ADC.STATUS.LEAD_BAD, 0, .w1c, []⟩, ⟨28, 1, Reg.ADC.STATUS.BURST, 0, .ro, []⟩, ⟨27, 1, Reg.ADC.STATUS.SUBST, 0, .ro, []⟩, ⟨26, 1, Reg.ADC.STATUS.WIN_EXIT, 0, .w1c, []⟩]⟩,
  ⟨0x42c, 1, 0x0, 1, 0x0, .plain, none, false, .none, [⟨16, 4, Reg.ADC.QCFG.SRC_EN, 0, .rw, []⟩, ⟨0, 10, Reg.ADC.QCFG.CH_EN, 0, .rw, []⟩]⟩]

def rowsCcAdc1 : List Row := [
  ⟨0x430, 1, 0x0, 1, 0x0, .plain, none, false, .none, [⟨16, 16, Reg.ADC.QSTAT.LOST, 0, .ro, []⟩, ⟨0, 6, Reg.ADC.QSTAT.COUNT, 0, .ro, []⟩]⟩,
  ⟨0x434, 1, 0x0, 1, 0x0, .qpop, none, false, .none, [⟨0, 32, Reg.ADC.QPOP.ENTRY, 0, .ro, []⟩]⟩,
  ⟨0x440, 10, 0x4, 1, 0x0, .plain, none, false, .none, [⟨16, 16, Reg.ADC.LAST.VALUE, 0, .ro, []⟩, ⟨0, 16, Reg.ADC.LAST.RAW, 0, .ro, []⟩]⟩,
  ⟨0x468, 1, 0x0, 1, 0x0, .plain, none, false, .none, [⟨31, 1, Reg.ADC.TICKV.TVALID, 0, .ro, []⟩, ⟨0, 16, Reg.ADC.TICKV.VALUE, 0, .ro, []⟩]⟩,
  ⟨0x46c, 1, 0x0, 1, 0x0, .plain, none, false, .none, [⟨16, 16, Reg.ADC.BURSTCNT.BURSTS, 0, .ro, []⟩, ⟨0, 16, Reg.ADC.BURSTCNT.EXITS, 0, .ro, []⟩]⟩]

/-- Every row of the map. -/
def ccRows : List Row :=
  rowsCcCcid0 ++ rowsCcCclink0 ++ rowsCcCcbyp0 ++ rowsCcCctime0 ++ rowsCcCcwdog0 ++ rowsCcCcboot0 ++ rowsCcGate0 ++ rowsCcTrip0 ++ rowsCcAdc0 ++ rowsCcAdc1

end Sys2Proof.Machine
end

