-- ==== Sys2Proof/Machine/StateCell.lean ====
section
/-!
DEFINITION. Machine/StateCell.lean: the state of one cell controller as plain data (R221 to R268, R279 to R282). Its registers
are a table of fields; what the spec gives it beside registers has a field here.
-/
namespace Sys2Proof.Machine

/-- A command in the cell's queue (R181): its EFF_VT, its word, its sweep's TQ, and LGEN when the sweep asks for a load. -/
structure QCmd where
  eff  : Nat
  word : Nat
  tq   : Nat
  load : Option Nat
deriving DecidableEq, Repr

/-- An edge that stands (R240): its instant in cell time, the state it leads to, and whether it was moved (R244). -/
structure Edge where
  at_   : Nat
  st    : Nat
  moved : Bool := false
deriving DecidableEq, Repr

/-- The gate timing unit beside its registers. -/
structure GateSt where
  /-- pending outputs with their turn-on instants (R241) -/
  pend     : List (Nat × Nat) := []
  /-- the latest turn-off of pair A and of pair B -/
  tOffA    : Nat := 0
  tOffB    : Nat := 0
  edges    : List Edge := []
  /-- where the next edge goes instead of its own time, decided before its command is executed (R243) -/
  movedTo  : Option Nat := none
  /-- the turn-on instant of the current state, until the minimum-pulse decision is taken -/
  tOn      : Option Nat := none
  /-- the turn-on instant of a state that began with its end unknown (R243) -/
  unknown  : Option Nat := none
  /-- the pair of the last bypass entry: false lower, true upper (R238) -/
  lastPair : Option Bool := none
  /-- the last rising and the last falling edge of each output at its pin, in 125 ps units of cell time -/
  rise     : Tab Nat := []
  fall     : Tab Nat := []
  /-- the last delay-line calibration of each output -/
  calAt    : Tab Nat := []
deriving DecidableEq, Repr

/-- The gate unit as it stood before the first edge, turn-on, command or flash of a 250 MHz cycle (R253): the cycle, the unit, its
outputs, the state, and the events and counts of its minimum pulses. -/
structure CycSnap where
  cycle : Nat
  gate  : GateSt
  outs  : Nat
  st    : Nat
  evs   : List Nat
deriving DecidableEq, Repr

/-- What a report showed before the newest conversion result (R267): the cycle of that result, its channel, LAST of the channel,
the newest VCAP result, TICKV. -/
structure OldResult where
  cycle  : Nat
  ch     : Nat
  last   : Nat
  vcap   : Nat
  tickv  : Nat
  tvalid : Bool
deriving DecidableEq, Repr

/-- What a conversion slot converts (R259); a tick sample with the time of its hold. -/
inductive AdcJob where
  | vcap (ch : Nat)
  | tick (ch at_ : Nat)
  | ow
  | burst (ch : Nat)
  | bg (ch : Nat)
deriving DecidableEq, Repr

/-- An open-wire test (R263): channel, step 1 to 3, since when the step runs, S, the time of GO, when its conversion became due, R_PU and
R_PD. -/
structure OwTest where
  ch    : Nat
  step  : Nat
  since : Nat
  s     : Nat
  from_ : Nat
  due   : Option Nat := none
  rpu   : Nat := 0
  rpd   : Nat := 0
deriving DecidableEq, Repr

/-- One result queue entry (R266). -/
structure QEntry where
  gap   : Bool
  src   : Nat
  ch    : Nat
  stamp : Nat
  raw   : Nat
deriving DecidableEq, Repr

/-- The converter beside its registers. -/
structure AdcSt where
  slot     : Nat := 0
  /-- when the grid of slots began: the release from cold reset (R259) -/
  start    : Nat := 0
  job      : AdcJob := .vcap 0
  /-- the track-and-hold holds a tick sample not yet converted: the input it holds and since when -/
  tickPend : Option (Nat × Nat) := none
  /-- the tick instant whose hold was last taken -/
  heldFor  : Option Nat := none
  /-- the next channel of the background rotation -/
  bg       : Nat := 1
  ow       : Option OwTest := none
  /-- the comparator has seen a result inside the window, or was just enabled (R262) -/
  winArmed : Bool := true
  burst    : Nat := 0
  queue    : List QEntry := []
  gap      : Bool := false
  /-- the newest VCAP result (R259) -/
  vcap     : Nat := 0
  /-- since when the reference buffer is enabled -/
  bufSince : Nat := 0
  /-- a test of channel 0 has ended, and no even slot has started since (R264) -/
  subst    : Bool := false
  old      : Option OldResult := none
deriving DecidableEq, Repr

/-- A response that waits for its lane (R192, R193). -/
structure CcResp where
  down    : Bool
  m0      : Nat
  payload : List Nat
deriving DecidableEq, Repr

/-- One unpaired or used time estimate (R281): SEQ, direction, the estimate in 2^-16 units of 250 ps, and whether the rule
for one copy was applied. -/
structure Estimate where
  seq  : Nat
  dirY : Bool
  e    : Int
  used : Bool
deriving DecidableEq, Repr

/-- A sweep at a cell (R193): the arrival of its header, its TQ, and its length in 50 ps. -/
structure SweepAt where
  at_ : Nat
  tq  : Nat
  len : Nat
deriving DecidableEq, Repr

/-- The state of one CC. Every field has its value at a cold reset as the default. -/
structure Cell where
  /-- out of cold reset -/
  run      : Bool := false
  /-- fields of its registers that differ from their reset values, and the shadow copies (R235) -/
  regs     : Tab Nat := []
  shadow   : Tab Nat := []
  up       : LaneSt := {}
  down     : LaneSt := {}
  /-- since when neither receiver has had signal is the command's to tell; the lane test's end is not (R235) -/
  testEnd  : Option Nat := none
  /-- cell time less the chipset's common time, in 2^-16 units of 250 ps (R281) -/
  off      : Int := 0
  /-- the first estimate has been taken since cold reset or the last write of PATHDLY -/
  timed    : Bool := false
  split    : Int := 0
  est      : Option Estimate := none
  /-- the error still to be steered out, in parts of one sign with the ticks left for each, the most urgent first; the last tick
  instant in the time of the lane's recovered clock -/
  steer    : List (Int × Nat) := []
  steerAt  : Nat := 0
  /-- when flash copies passed lately, newest first -/
  flashAt  : List Nat := []
  queue    : List QCmd := []
  /-- SEQ of the last accepted command -/
  lastSeq  : Option Nat := none
  /-- EFF_VT and TQ of the last accepted command, and the last tick instant -/
  grid     : Option (Nat × Nat) := none
  lastInst : Nat := 0
  /-- the AUX pointer, and as it stood before the last acceptance (R179) -/
  aux      : Nat := 0
  auxOld   : Nat := 0
  /-- tick instants for which CMD_FAULT is still reported -/
  faultFor : Nat := 0
  lpar     : Nat := 0
  /-- LGEN of the last applied load -/
  lgen     : Option Nat := none
  flashed  : Bool := false
  fgenHold : Option Nat := none
  /-- FGEN of the candidate header that arrived last, and when; when the last flash acted on arrived (R189) -/
  lastFgen : Option Nat := none
  fgenAt   : Nat := 0
  actedAt  : Option Nat := none
  /-- flashes acted on: ORIGIN and FSEQ (R143) -/
  acted    : List (Nat × Nat) := []
  /-- the sweep watchdog counts; a command was accepted since the last instant; WDOG (R190) -/
  wdogOn   : Bool := false
  accepted : Bool := false
  wdog     : Bool := false
  /-- arrival of the newest sweep header in direction X and in direction Y, with its TQ and the length of its sweep in 50 ps (R193) -/
  hdrX     : Option SweepAt := none
  hdrY     : Option SweepAt := none
  /-- the cell turns back what would leave on its up lane, and on its down lane (R185) -/
  reflUp   : Bool := false
  reflDown : Bool := false
  /-- until when a response, and what follows it out of the buffer, leaves on the up lane and on the down lane, in 50 ps (R193) -/
  sendUp   : Nat := 0
  sendDown : Nat := 0
  /-- until when blocks of a sweep or a message pass on to the up lane and to the down lane, in 50 ps (R193) -/
  passUp   : Nat := 0
  passDown : Nat := 0
  gate     : GateSt := {}
  cyc      : Option CycSnap := none
  /-- the SYNC_OUT pulse that is to come, or goes on: its end (R233) -/
  syncEnd  : Option Nat := none
  /-- filtered levels of TRIP0 to TRIP5 (R248) -/
  pins     : Nat := 0
  /-- the cell time at which each trip input latched last, and the cycle of the OV2 latch (R252, R253) -/
  latchAt  : Tab (Option Nat) := []
  ov2Cyc   : Option Nat := none
  /-- the firing instant, and BYP_FIRE (R230) -/
  fireAt   : Option Nat := none
  bypOn    : Bool := false
  /-- the cell was armed and BLOCKED at the firing (R230) -/
  fireArmed : Bool := false
  /-- the first result of the unbroken run of results at or above OV3, and that the run has fired (R228) -/
  ov3Since : Option Nat := none
  ov3Fired : Bool := false
  adc      : AdcSt := {}
  /-- the image loader (R226): armed by ASSIGN, the image area in blocks of 64 bytes, the blocks recorded, the digest, the
  length and the version received, and a core reset's check of the kept image under way -/
  armed    : Bool := false
  img      : Tab (List Byte) := []
  blks     : Tab Bool := []
  digest   : List Nat := []
  imgLen   : Nat := 0
  imgVer   : Nat := 0
  recheck  : Bool := false
  /-- since when the core watchdog runs, its expiry since the last kick, FW_FAULT (R235, R236) -/
  kickAt   : Option Nat := none
  expired  : Bool := false
  fwFault  : Bool := false
  /-- the core is halted by the TAP (R234); it is held in reset by the image loader (R226) -/
  halted   : Bool := false
  held     : Bool := false
  /-- the core, and the bytes written to its data SRAM (R222) -/
  core     : Hart := {}
  sram     : Tab (Option Nat) := []
  lastTag  : Option Nat := none
  resps    : List CcResp := []
  /-- the link measurement of CAL_START (R198): its ECHOs, and that it failed -/
  calVals  : Option (List (Nat × Int)) := none
deriving DecidableEq, Repr

end Sys2Proof.Machine
end

