-- ==== Sys2Proof/Machine/Cell.lean ====
section
/-!
DEFINITION. Machine/Cell.lean: what every function of a cell controller shares: its registers, its time, its state changes,
its command queue and its lanes.
-/
namespace Sys2Proof.Machine
open Reg

/-- A cell during a command: its state, its number (string × 96 + position), the chipset's common time in 250 ps units, the
counter of free values, and what it sends. -/
structure Cw extends Cell where
  n    : Nat
  now  : Nat
  free : Nat
  out  : List Emit := []

/-! ### Registers -/

/-- The active value of a register field. -/
def Cw.rd (w : Cw) (f : Fld) (i : Nat := 0) : Nat := Tab.get (fun _ => f.reset 0) w.regs (f.key i 0)

/-- Sets the active value of a field, cut to its width. -/
def Cw.wr (w : Cw) (f : Fld) (v : Nat) (i : Nat := 0) : Cw :=
  { w with regs := Tab.set (fun _ => f.reset 0) w.regs (f.key i 0) (v % 2 ^ f.w) }

def Cw.on (w : Cw) (f : Fld) (i : Nat := 0) : Bool := w.rd f i ≠ 0
def Cw.set1 (w : Cw) (f : Fld) (i : Nat := 0) : Cw := w.wr f 1 i
def Cw.count (w : Cw) (f : Fld) (i : Nat := 0) : Cw := w.wr f (sat f.w (w.rd f i + 1)) i

/-- A shadow copy is written; the value of a shadow never written is the active one (R235). -/
def Cw.rdShadow (w : Cw) (f : Fld) (i : Nat) : Nat := (Tab.get (fun _ => w.rd f i + 1) w.shadow (f.key i 0)) - 1
def Cw.wrShadow (w : Cw) (f : Fld) (v i : Nat) : Cw :=
  { w with shadow := Tab.set (fun _ => 0) w.shadow (f.key i 0) (v % 2 ^ f.w + 1) }

/-- Every shadow field of the map, with its indices. -/
def shadowFields : List (Fld × Nat) :=
  ccRows.flatMap fun r => (List.range r.n1).flatMap fun i => (r.parts.filter (·.f.shadow)).map fun p => (p.f, i)

/-- Every shadow becomes active (R195). -/
def Cw.loadShadows (w : Cw) : Cw := shadowFields.foldl (fun w fi => w.wr fi.1 (w.rdShadow fi.1 fi.2) fi.2) w

def Cw.emit (w : Cw) (e : Emit) : Cw := { w with out := w.out ++ [e] }
def Cw.string (w : Cw) : Nat := w.n / 96
def Cw.place (w : Cw) : Nat := w.n % 96

/-! ### Cell time (R281) -/

/-- Cell time in 2^-16 units of 250 ps. -/
def Cw.fine (w : Cw) : Int := (w.now : Int) * 65536 + w.off

/-- Cell time in 250 ps units, 64 bits. -/
def Cw.time (w : Cw) : Nat := unsigned 64 (w.fine / 65536)

/-- Cell time moves by an amount in 2^-16 units; a stored estimate is relative to it. -/
def Cw.shift (w : Cw) (d : Int) : Cw :=
  { w with off := w.off + d, est := w.est.map fun x => { x with e := x.e - d } }

/-- Cell time is stepped (R281); the tick instants go on from the new time. -/
def Cw.stepTime (w : Cw) (d : Int) : Cw :=
  let w := { w.shift d with steer := [] }
  { w with lastInst := w.time }

/-- The error still to be steered out. -/
def Cw.steerSum (w : Cw) : Int := (w.steer.map (·.1)).foldl (· + ·) 0

/-- What must be steered out in this tick, so that every part can still end in its time at `lim` a tick: `sum` is what the parts
before these amount to. -/
def steerNeed (lim : Nat) : Nat → List (Int × Nat) → Nat
  | _, [] => 0
  | sum, (e, t) :: r => max (sum + e.natAbs - lim * (t - 1)) (steerNeed lim (sum + e.natAbs) r)

/-- An amount is taken off the parts, the most urgent first; every part left has a tick less. -/
def steerTake : Nat → List (Int × Nat) → List (Int × Nat)
  | _, [] => []
  | n, (e, t) :: r =>
    if e.natAbs ≤ n then steerTake (n - e.natAbs) r
    else (if e < 0 then e + n else e - n, t - 1) :: steerTake 0 r

/-- The most urgent parts up to an amount. -/
def steerKeep : Nat → List (Int × Nat) → List (Int × Nat)
  | _, [] => []
  | n, (e, t) :: r =>
    if n = 0 then [] else if e.natAbs ≤ n then (e, t) :: steerKeep (n - e.natAbs) r
    else [(if e < 0 then -(n : Int) else n, t)]

/-- The steering's part of one tick (R281): the path within 16 ticks is free, its rate at most ±1,000 ppm from the lane's recovered
clock, by which the tick has lasted since the last one. -/
def Cw.steerTick (w : Cw) (tq : Nat) : Cw :=
  let el := if w.now - w.steerAt < 2 * tq then w.now - w.steerAt else tq
  let w := { w with steerAt := w.now }
  if w.steer = [] then w
  else
    let lim : Nat := el * 65536 / 1000
    let rest := w.steerSum.natAbs
    let lo := min rest (steerNeed lim 0 w.steer)
    let hi := max lo (min rest lim)
    let piece := lo + Config.freeNat w.free % (hi - lo + 1)
    let d : Int := if w.steerSum < 0 then -(piece : Int) else piece
    { w.shift d with steer := steerTake piece w.steer, free := w.free + 1 }

/-! ### State (R179, R237) -/

/-- The cell's state in the encoding of R179: 0 BOOT, 1 BLOCKED, 2 BYPASSED, 3 INSERTED, 4 INSERTED_NEG,
5 FAILED_BYPASSED. -/
def Cw.st (w : Cw) : Nat := w.rd GATE.STATUS.STATE

/-- Tick samples are taken: TICK_EN, VALID, and a state other than BOOT (R261). -/
def Cw.ticking (w : Cw) : Bool := w.on ADC.CFG.TICK_EN && w.on CCTIME.TSTAT.VALID && decide (w.st ≠ 0)

/-- Tick samples of before do not count once their conditions begin to hold together again (R268); `was` says whether they held. -/
def Cw.tickingFrom (w : Cw) (was : Bool) : Cw := if !was && w.ticking then w.wr ADC.TICKV.TVALID 0 else w

/-- SYNC_OUT goes low, and a pulse to come does not come (R224, R233). -/
def Cw.syncLow (w : Cw) : Cw :=
  match w.syncEnd with
  | some t => if w.time < t then { w with syncEnd := none }.emit (.syncLow w.string w.place) else { w with syncEnd := none }
  | none => w

/-- The state changes (R239). Once the state is BOOT, SYNC_OUT is low and the tick instants have ended until a command is accepted
again (R233). -/
def Cw.setSt (w : Cw) (st : Nat) : Cw :=
  let was := w.st
  let ticked := w.ticking
  let w := (w.wr GATE.STATUS.STATE st).tickingFrom ticked
  if st = 0 ∧ was ≠ 0 then { w.syncLow with grid := none } else w

/-- The next tick instant of cell time: the least EFF_VT + m × TQ of the last accepted command after the last instant, or
the EFF_VT of the first queued command if that comes before (R181, R233). -/
def Cw.nextInst (w : Cw) : Option Nat :=
  match w.grid with
  | some (eff, tq) =>
    let t := ((eff : Int) + (((w.lastInst : Int) - eff) / tq + 1) * tq).toNat
    match w.queue with
    | q :: _ => some (min t q.eff)
    | [] => some t
  | none => none

/-- Any latched trip, the OV2 latch, or a firing holds the cell (R229, R230, R249). -/
def Cw.tripped (w : Cw) : Bool := w.on TRIP.LATCH.LATCHED
def Cw.ov2 (w : Cw) : Bool := w.on CCBYP.STATUS.OV2

/-- CMD_FAULT is set in the reports of the 4 ticks that follow (R179). -/
def Cw.cmdFault (w : Cw) : Cw := { w with faultFor := 4 }

/-- Arming is cleared (R232). -/
def Cw.disarm (w : Cw) : Cw := w.wr CCBYP.STATUS.ARMED 0

/-- Every output is off and every pending turn-on and edge is cancelled, at a cell time; the state is BLOCKED unless it is
BOOT or FAILED_BYPASSED (R242, R244). -/
def Cw.allOff (w : Cw) (t : Nat) : Cw :=
  let outs := w.rd GATE.STATUS.OUT
  let g := w.gate
  let w := { w with gate := { g with
    pend := [], edges := [], movedTo := none, tOn := none, unknown := none
    tOffA := if outs % 4 ≠ 0 then t else g.tOffA
    tOffB := if outs / 4 % 4 ≠ 0 then t else g.tOffB } }
  let w := w.wr GATE.STATUS.OUT 0
  if w.st = 0 ∨ w.st = 5 then w else w.setSt 1

/-- The 250 MHz cycle of the cell (R253). -/
def Cw.cycle (w : Cw) : Nat := w.time / 16

/-- What the minimum pulses of a cycle set and count (R243, R244). -/
def pulseFields : List Fld :=
  [GATE.EVSTAT.MP_DROP, GATE.EVSTAT.MP_STRETCH, GATE.EVSTAT.MP_FORCED, GATE.EVSTAT.EDGE_EMPTY, GATE.MPCNT.DROPS, GATE.MPCNT.STRETCHES]

/-- The gate unit is kept as it stands, at the first edge, turn-on, command or flash of a cycle (R253). -/
def Cw.keepCycle (w : Cw) : Cw :=
  if w.cyc.any fun c => c.cycle = w.cycle then w
  else { w with cyc := some ⟨w.cycle, w.gate, w.rd GATE.STATUS.OUT, w.st, pulseFields.map fun f => w.rd f⟩ }

/-- The gate unit and its outputs as what ranks above the edges of a cycle finds them (R253). -/
def Cw.gateBefore (w : Cw) : GateSt × Nat :=
  match w.cyc with
  | some c => if c.cycle = w.cycle then (c.gate, c.outs) else (w.gate, w.rd GATE.STATUS.OUT)
  | none => (w.gate, w.rd GATE.STATUS.OUT)

/-- What the edges, turn-ons and flashes of this cycle did is undone for an event that ranks above them (R253). -/
def Cw.undoCycle (w : Cw) : Cw :=
  match w.cyc with
  | some c =>
    if c.cycle = w.cycle ∧ w.st ≠ 0 ∧ w.st ≠ 5 ∧ c.st ≠ 0 ∧ c.st ≠ 5 then
      let w := (pulseFields.zip c.evs).foldl (fun w e => w.wr e.1 e.2) w
      ({ w with gate := c.gate }.wr GATE.STATUS.OUT c.outs).setSt c.st
    else w
  | none => w

/-- The block of R242 that acts at once, before the edges and turn-ons of its cycle (R253). -/
def Cw.blockNow (w : Cw) : Cw :=
  let u := w.undoCycle
  let u := if w.on GATE.STATUS.OUT || u.on GATE.STATUS.OUT then u.emit (.gatesLow w.string w.place) else u
  u.allOff w.time

def Cw.emptyQueue (w : Cw) : Cw := { w with queue := [] }

/-- Report flag HEALTH (R236). -/
def Cw.health (w : Cw) : Bool :=
  w.rd CCBOOT.STATUS.STATE ≠ 3 || w.expired || w.fwFault || w.on CCBYP.STATUS.UNCONFIRMED

/-- Report flags (R179): TRIP, OV1, OV2, WDOG, CMD_FAULT, LPAR, FLASHED, HEALTH. -/
def Cw.flags (w : Cw) : Nat :=
  b2n w.tripped + 2 * b2n (w.on CCBYP.STATUS.OV1) + 4 * b2n w.ov2 + 8 * b2n w.wdog + 16 * b2n (decide (0 < w.faultFor)) +
    32 * w.lpar + 64 * b2n w.flashed + 128 * b2n w.health

/-- The channel an AUX_ID names (R257). -/
def auxChannel (id : Nat) : Nat := [2, 3, 8, 4, 5, 6, 7, 1].getD id 0

/-- The results that a report in this cycle does not see yet (R267): those of before the result of the same cycle. -/
def Cw.oldNow (w : Cw) : Option OldResult := w.adc.old.filter fun o => o.cycle = w.cycle

/-- AUX_VALUE of an AUX_ID (R267). -/
def Cw.auxValue (w : Cw) (old : Option OldResult) (id : Nat) : Nat :=
  if id = 8 then w.rd TRIP.TRIPCNT.TRIPS
  else if id = 9 then (w.rd CCLINK.CODEERR.COUNT 0 + w.rd CCLINK.CODEERR.COUNT 1) % 65536
  else match old with
    | some o => if o.ch = auxChannel id then o.last else w.rd ADC.LAST.VALUE (auxChannel id)
    | none => w.rd ADC.LAST.VALUE (auxChannel id)

/-- The VCAP of a report (R267). -/
def Cw.vcapOut (w : Cw) (old : Option OldResult) : Nat :=
  let o := old.getD ⟨0, 0, 0, w.adc.vcap, w.rd ADC.TICKV.VALUE, w.on ADC.TICKV.TVALID⟩
  if !w.on ADC.CFG.REPSRC && o.tvalid then o.tickv else o.vcap

/-- The 48-bit report word with an AUX_ID (R179), `old` as it was when the sweep's header came (R267). -/
def Cw.report (w : Cw) (old : Option OldResult) (id : Nat) : Nat :=
  w.auxValue old id + id * 65536 + w.flags * 1048576 + w.st * 268435456 + w.vcapOut old * 4294967296

/-! ### Firing (R230) -/

/-- The cell fired in this cycle: a second firing of the same instant is the same one (R230). -/
def Cw.firesNow (w : Cw) : Bool :=
  w.fireAt.isSome && decide ((w.rd CCBYP.FIRE_VT_LO.VT + w.rd CCBYP.FIRE_VT_HI.VT * 4294967296) / 16 = w.cycle)

/-- A firing: STATE FAILED_BYPASSED, the outputs off, BYP_FIRE active, the cause bits, FIRE_VT. Its confirmation is its own: those of
an earlier firing are gone (DESIGN CHOICE, log 113). -/
def Cw.fire (w : Cw) (loc cmd : Bool) : Cw :=
  let w := { w with fireArmed := w.on CCBYP.STATUS.ARMED && decide (w.st = 1) }
  let w := w.blockNow.setSt 5
  let w := ((w.set1 CCBYP.STATUS.FIRED).wr CCBYP.STATUS.CONFIRMED 0).wr CCBYP.STATUS.UNCONFIRMED 0
  let w := if loc then w.set1 CCBYP.STATUS.CAUSE_LOCAL else w
  let w := if cmd then w.set1 CCBYP.STATUS.CAUSE_CMD else w
  let w := (w.wr CCBYP.FIRE_VT_LO.VT w.time).wr CCBYP.FIRE_VT_HI.VT (w.time / 4294967296)
  let w := { w.disarm with fireAt := some w.now, bypOn := true }
  w.emit (.bypFire w.string w.place true)

/-- A BYPASS_FIRE command at its EFF_VT (R232); in the instant of a local firing it makes one firing with both causes (R230). -/
def Cw.fireCommand (w : Cw) (code : Nat) : Cw :=
  if w.st = 5 then
    if w.firesNow ∧ w.fireArmed ∧ code = Nat.xor (w.rd CCID.POS.POS) 0xA5 then w.set1 CCBYP.STATUS.CAUSE_CMD else w
  else if w.st ≠ 1 ∨ code ≠ Nat.xor (w.rd CCID.POS.POS) 0xA5 then w.cmdFault.disarm
  else if !w.on CCBYP.STATUS.ARMED then w.set1 CCBYP.STATUS.ARMED
  else w.fire false true

/-- A queued BYPASS_FIRE fires the cell now. -/
def Cw.firesBy (w : Cw) (q : QCmd) : Bool :=
  bits q.word 47 44 = 5 && w.st = 1 && w.on CCBYP.STATUS.ARMED && bits q.word 7 0 = Nat.xor (w.rd CCID.POS.POS) 0xA5

/-! ### Lanes of a cell (R200, R205 to R208) -/

/-- The up (false) or down lane as a link end. -/
def Cw.lnk (w : Cw) (down : Bool) : Lnk :=
  let u := b2n down
  ⟨w.rd CCLINK.LSTAT.BSTATE u, w.rd CCLINK.LSTAT.RATE u, 0, w.rd CCLINK.LSTAT.EQ_SEL u, if down then w.down else w.up⟩

def Cw.putLnk (w : Cw) (down : Bool) (x : Lnk) : Cw :=
  let u := b2n down
  let w := w.wr CCLINK.LSTAT.BSTATE x.bst u
  let w := w.wr CCLINK.LSTAT.RATE x.rate u
  let w := w.wr CCLINK.LSTAT.EQ_SEL x.eqSel u
  if down then { w with down := x.st } else { w with up := x.st }

/-- What the CC brings to its training (R206, R208, R213): its rate limit, 8 entries, FOMMIN 32. -/
def Cw.lnkCfg (w : Cw) : LnkCfg :=
  { node := 3, max := w.rd CCLINK.LSTAT.RLIMIT, nent := 8, fomMin := 32, anyT := true }

/-- A lane of the cell as a link end. -/
def Cw.emitLane (w : Cw) (down : Bool) (e : LinkEnd → Emit) : Cw :=
  if h : w.n / 96 < 48 then w.emit (e (.cc ⟨w.n / 96, h⟩ ⟨w.n % 96, Nat.mod_lt _ (by decide)⟩ down)) else w

/-- The CC's fixed table of entries (R213): TX_PRE, TX_MAIN, TX_POST, RX_CTLE. -/
def ccEntries : List (Nat × Nat × Nat × Nat) :=
  [(0, 56, 4, 3), (0, 52, 8, 4), (2, 50, 8, 5), (2, 46, 12, 6), (4, 44, 12, 7), (4, 40, 16, 8), (6, 38, 16, 10), (6, 34, 20, 12)]

/-- A lane of the cell sets taps and CTLE of an entry (R209, R213); entry 0 is the default one. -/
def Cw.useEntry (w : Cw) (down : Bool) (e : Option Nat) : Cw :=
  let t := ccEntries.getD (e.getD 0) (0, 56, 4, 3)
  w.emitLane down fun x => .taps x t.1 t.2.1 t.2.2.1 t.2.2.2

/-- A step of training at a lane. The CC has no register for a failed choice. -/
def Cw.train (w : Cw) (down : Bool) (o : LnkOut) : Cw :=
  let w := w.putLnk down o.l
  let w := o.entries.foldl (fun w e => w.useEntry down e) w
  match o.frame with
  | some f => w.emitLane down fun e => .train e f
  | none => w

/-- What has become due at a lane in bring-up since its last event (R205). -/
def Cw.settle (w : Cw) (down : Bool) : Cw :=
  if (w.lnk down).st.got = none then w else w.train down ((w.lnk down).settle w.lnkCfg w.now)

/-- A lane is in test (R218, R235). -/
def Cw.inTest (w : Cw) (down : Bool) : Bool :=
  w.on CCLINK.TEST.EN && bit (w.rd CCLINK.TEST.LANES) (b2n down)

/-- The lane is in L0, out of test, so that training runs. -/
def Cw.trains (w : Cw) (down : Bool) : Bool := w.rd CCLINK.LSTAT.PSTATE (b2n down) = 0 && !w.inTest down

def Cw.startLane (w : Cw) (down : Bool) : Cw := w.train down ((w.lnk down).start w.lnkCfg w.now)

/-- The lane carries traffic (R184). -/
def Cw.inUse (w : Cw) (down : Bool) : Bool := (w.lnk down).inUse

/-- UP is left (R184, R207): LOSSCNT, LINK_FAULT. -/
def Cw.loseLane (w : Cw) (down : Bool) : Cw :=
  if (w.lnk down).bst ≠ 7 then w
  else
    let w := w.count CCLINK.LOSSCNT.COUNT (b2n down)
    let w := w.putLnk down ((w.lnk down).lose w.now)
    w.emitLane down fun e => .linkFault e (linkFaultBlock (w.rd CCID.POS.POS))

/-- A training frame taken under R205. -/
def Cw.trainRx (w : Cw) (down : Bool) (f : TrainFrame) (k : Lnk → LnkCfg → Nat → TrainFrame → LnkOut) : Cw :=
  if !w.trains down || !f.valid then w
  else
    let w := w.settle down
    w.train down (k (w.lnk down) w.lnkCfg w.now f)

/-- The rate limit drops to the MAXRATE of a valid CAP (R208): a lane that is UP, or in bring-up toward a higher rate, starts
again; in LOCK_1G that is the rate its CAP frames advertise. -/
def Cw.limitRate (w : Cw) (r : Nat) : Cw :=
  let again (w : Cw) (down : Bool) : Cw :=
    let l := w.lnk down
    if !w.trains down then w
    else if l.bst = 7 ∨ l.bst = 2 ∨ (3 ≤ l.bst ∧ l.bst ≤ 6 ∧ r < l.st.target) then w.startLane down else w
  if r < w.rd CCLINK.LSTAT.RLIMIT then
    let w := (w.wr CCLINK.LSTAT.RLIMIT r 0).wr CCLINK.LSTAT.RLIMIT r 1
    again (again w false) true
  else w

/-- A CAP frame at a cell (R207, R208). -/
def Cw.capRx (w : Cw) (down : Bool) (f : TrainFrame) : Cw :=
  if !w.trains down || !f.valid then w
  else
    let w := w.settle down
    let w := if f.type = 1 then w.limitRate f.maxRate else w
    w.train down ((w.lnk down).cap w.lnkCfg w.now f)

/-- The lane holds of LINK.LCTL (R216, R217, R235): a held lane is in L2, a released one starts its bring-up, and comes back into use
as a lost link does (R184). -/
def Cw.refreshHold (w : Cw) (down : Bool) : Cw :=
  let u := b2n down
  let hold := if down then w.on CCLINK.LCTL.HOLD_DOWN else w.on CCLINK.LCTL.HOLD_UP
  if hold = w.on CCLINK.LSTAT.HELD u then w
  else
    let w := w.wr CCLINK.LSTAT.HELD (b2n hold) u
    let w := w.wr CCLINK.LSTAT.PSTATE (if hold then 2 else 0) u
    if hold then w.putLnk down ((w.lnk down).off w.now)
    else
      let l := w.lnk down
      let w := w.putLnk down { l with st := { l.st with lost := true } }
      if w.inTest down then w else w.startLane down

/-- The lane test begins (R218, R235): its lanes are in L0 at the test's rate and entry, without bring-up. -/
def Cw.testBegin (w : Cw) : Cw :=
  let w := { w with testEnd := some (w.now + w.rd CCLINK.TEST.DUR * 40000000) }
  let one (w : Cw) (down : Bool) : Cw :=
    if !w.inTest down then w
    else
      let l := w.lnk down
      let e := w.rd CCLINK.TEST.EQ_SEL
      let w := (w.wr CCLINK.PRBSERR.COUNT 0 (b2n down)).wr CCLINK.LSTAT.PSTATE 0 (b2n down)
      let w := w.putLnk down { l with
        bst := 10, rate := w.rd CCLINK.TEST.RATE, eqSel := e
        st := { l.st with since := w.now, chkRun := 0, chkWin := [], chkHist := [], lost := false, entry := some e, useAt := w.now, pcs := {} } }
      let w := w.useEntry down (some e)
      if w.on CCLINK.TEST.GEN then
        w.emitLane down fun x => .pattern x (w.rd CCLINK.TEST.PATTERN) (w.on CCLINK.TEST.INV) (w.on CCLINK.TEST.LOOP)
      else w
  (one (one w false) true).wr CCLINK.TEST.CHK_LOCK 0

/-- The lane test ends; its lanes start bring-up from LOCK_1G (R235), or go back into their hold. -/
def Cw.testOver (w : Cw) : Cw :=
  let u := w.inTest false
  let d := w.inTest true
  let w := { (w.wr CCLINK.TEST.EN 0).wr CCLINK.TEST.CHK_LOCK 0 with testEnd := none }
  let one (w : Cw) (was down : Bool) : Cw :=
    if !was then w
    else if w.on CCLINK.LSTAT.HELD (b2n down) then
      (w.wr CCLINK.LSTAT.PSTATE 2 (b2n down)).putLnk down ((w.lnk down).off w.now)
    else w.startLane down
  one (one w u false) d true

/-! ### The core (R223, R226, R234) -/

/-- A core reset (R223): the core restarts in the boot ROM, which checks the kept image again if it was running. -/
def Cw.coreReset (w : Cw) (cause : Nat) : Cw :=
  let w := w.wr CCBOOT.CAUSE.LAST cause
  { w with recheck := w.rd CCBOOT.STATUS.STATE = 3, core := {} }

end Sys2Proof.Machine
end

