-- ==== Sys2Proof/Machine/Gate.lean ====
section
/-!
DEFINITION. Machine/Gate.lean: the gate timing unit and the trip unit of a cell (R237 to R256).
-/
namespace Sys2Proof.Machine
open Reg

/-! ### Placing an edge (R245, R246) -/

/-- The signed skew of output `k` in 125 ps units. -/
def Cw.skew (w : Cw) (k : Nat) : Int :=
  signed 8 (match k with
    | 0 => w.rd GATE.SKEW.SKEW_AH | 1 => w.rd GATE.SKEW.SKEW_AL | 2 => w.rd GATE.SKEW.SKEW_BH | _ => w.rd GATE.SKEW.SKEW_BL)

/-- T of R245: where the edge of output `k` at cell time `t` reaches its pin, in 125 ps units. -/
def Cw.pinTime (w : Cw) (k t : Nat) : Nat := (2 * (t : Int) + w.skew k).toNat

/-- Cycle and tap of an edge of output `k` (R245); on whole cycles when both lines have failed (R246). -/
def Cw.place125 (w : Cw) (k t : Nat) : Nat × Nat :=
  let tt := w.pinTime k t
  if w.on GATE.DLSTAT.FAIL_A k && w.on GATE.DLSTAT.FAIL_B k then ((tt + 16) / 32, 0)
  else
    let m := if w.on GATE.DLSTAT.LINE k then w.rd GATE.DLSTAT.M_B k else w.rd GATE.DLSTAT.M_A k
    (tt / 32, (tt % 32 * m + 16) / 32)

/-- Output `k` takes a level at cell time `t`. -/
def Cw.setOut (w : Cw) (k t : Nat) (level : Bool) : Cw :=
  let o := w.rd GATE.STATUS.OUT
  let w := w.wr GATE.STATUS.OUT (if level then withBit o k else withoutBit o k)
  let g := w.gate
  let w := { w with gate :=
    if level then { g with rise := Tab.set (fun _ => 0) g.rise k (w.pinTime k t) }
    else
      let g := { g with fall := Tab.set (fun _ => 0) g.fall k (w.pinTime k t) }
      if k < 2 then { g with tOffA := t } else { g with tOffB := t } }
  let p := w.place125 k t
  w.emit (.gate w.string w.place k level p.1 p.2)

/-! ### The patterns of the states (R237, R238) -/

/-- The pair of the next bypass entry: true for the upper pair (R238). -/
def Cw.bypUpper (w : Cw) : Bool :=
  match w.rd GATE.CFG.BYP_LEGS with
  | 2 => w.gate.lastPair = some false
  | 1 => true
  | _ => false

/-- The outputs that are on in a state, as bits. -/
def Cw.pattern (w : Cw) (st : Nat) : Nat :=
  if w.on GATE.CFG.BRIDGE then
    match st with
    | 3 => 0b1001 | 4 => 0b0110 | 2 => if w.bypUpper then 0b0101 else 0b1010 | _ => 0
  else match st with
    | 3 => 0b0001 | 2 => 0b0010 | _ => 0

/-- The dead time before output `k` turns on, in 250 ps units (R241). -/
def Cw.dead (w : Cw) (k : Nat) : Nat := 16 * (if k % 2 = 0 then w.rd GATE.DEAD_RISE.TIME else w.rd GATE.DEAD_FALL.TIME)

def Cw.minPulse (w : Cw) : Nat := 16 * w.rd GATE.MINPULSE.TIME

/-- The transition at an edge (R239 to R241): outputs turn off, turn-ons become pending, the state changes. -/
def Cw.transition (w : Cw) (st t : Nat) : Cw :=
  let w := { w with gate := { w.gate with movedTo := none, unknown := none } }
  if st = w.st then w
  else
    let tgt := w.pattern st
    let byp := w.bypUpper
    let outs := w.rd GATE.STATUS.OUT
    let w := { w with gate := { w.gate with pend := [], tOn := none } }
    let w := (List.range 4).foldl (fun w k => if bit outs k && !bit tgt k then w.setOut k t false else w) w
    let w := w.setSt st
    let w := if st = 2 then { w with gate := { w.gate with lastPair := some byp } } else w
    let ons := ((List.range 4).filter fun k => bit tgt k && !bit outs k).map fun k =>
      (k, max t ((if k < 2 then w.gate.tOffA else w.gate.tOffB) + w.dead k))
    if ons = [] then w
    else { w with gate := { w.gate with pend := ons, tOn := some ((ons.map (·.2)).foldl max 0) } }

/-! ### What a command does to the state (R178, R243) -/

/-- A command that is executed as HOLD with CMD_FAULT (R178): a reserved MODE, INSERT_NEG on a half-bridge, EDGE_AT at or
above TQ. -/
def Cw.invalid (w : Cw) (q : QCmd) : Bool :=
  let m := bits q.word 47 44
  decide (5 < m) || (m = 2 && !w.on GATE.CFG.BRIDGE) || (decide (1 ≤ m) && decide (m ≤ 3) && decide (q.tq ≤ bits q.word 43 30))

/-- The state that an INSERT, INSERT_NEG, BYPASS or BLOCK command leads to. -/
def modeTarget (m : Nat) : Option Nat :=
  match m with
  | 1 => some 3 | 2 => some 4 | 3 => some 2 | 4 => some 1 | _ => none

/-- The next state change that the queue holds, from a state: its edge and its state (R243). -/
def Cw.lookAhead (w : Cw) (st : Nat) : Option (Nat × Nat) :=
  w.queue.findSome? fun q =>
    if w.invalid q then none
    else match modeTarget (bits q.word 47 44) with
      | some t => if t = st then none else some (if t = 1 then q.eff else q.eff + bits q.word 43 30, t)
      | none => none

/-- A state whose outputs turn on at `tOn` is short when it ends at `e2` (R243). -/
def Cw.isShort (w : Cw) (tOn e2 : Nat) : Bool := decide (e2 ≤ tOn) || decide (e2 < tOn + w.minPulse)

/-- A short state is stretched: MP_STRETCH and its count. -/
def Cw.stretched (w : Cw) : Cw := (w.set1 GATE.EVSTAT.MP_STRETCH).count GATE.MPCNT.STRETCHES

/-- A short state is dropped: its pending turn-ons are cancelled, MP_DROP and its count. -/
def Cw.dropState (w : Cw) : Cw :=
  let w := { w with gate := { w.gate with pend := [], tOn := none } }
  (w.set1 GATE.EVSTAT.MP_DROP).count GATE.MPCNT.DROPS

/-- STRETCH applies: with MINPULSE 0 a short state is handled as dropped (R243). -/
def Cw.stretches (w : Cw) : Bool := w.on GATE.CFG.MP_POLICY && decide (0 < w.minPulse)

/-- The end of a state that began with its end unknown becomes known (R243): a short one is stretched. -/
def Cw.endKnown (w : Cw) : Cw :=
  match w.gate.unknown with
  | some t =>
    if w.gate.edges ≠ [] ∨ w.gate.movedTo.isSome then w
    else match w.lookAhead w.st with
      | some (e2, st2) =>
        if st2 = 1 then w
        else
          let w := { w with gate := { w.gate with unknown := none } }
          if w.isShort t e2 then
            { w.stretched.set1 GATE.EVSTAT.MP_FORCED with gate := { w.gate with movedTo := some (t + w.minPulse) } }
          else w
      | none => w
  | none => w

/-- The state after the edges that stand. -/
def Cw.lastState (w : Cw) : Nat := match w.gate.edges.getLast? with | some e => e.st | none => w.st

/-- A state-changing command's edge is placed (R240, R244). -/
def Cw.placeEdge (w : Cw) (e st : Nat) : Cw :=
  if st = w.lastState then w
  else match w.gate.edges.getLast? with
    | some x =>
      if x.moved ∧ e ≤ x.at_ then
        let w := { w with gate := { w.gate with edges := w.gate.edges.dropLast ++ [{ x with st := st }] } }
        w.set1 GATE.EVSTAT.EDGE_EMPTY
      else { w with gate := { w.gate with edges := w.gate.edges ++ [⟨e, st, false⟩] } }
    | none =>
      match w.gate.movedTo with
      | some m => { w with gate := { w.gate with edges := [⟨m, st, true⟩], movedTo := none } }
      | none =>
        match w.gate.unknown with
        | some t =>
          let w := { w with gate := { w.gate with unknown := none } }
          if w.isShort t e then
            { w.stretched.set1 GATE.EVSTAT.MP_FORCED with gate := { w.gate with edges := [⟨t + w.minPulse, st, true⟩] } }
          else { w with gate := { w.gate with edges := [⟨e, st, false⟩] } }
        | none => { w with gate := { w.gate with edges := [⟨e, st, false⟩] } }

/-- The minimum-pulse decision of the current state at its turn-on instant (R243). -/
def Cw.pulseDecision (w : Cw) (t : Nat) : Cw :=
  let w := { w with gate := { w.gate with tOn := none } }
  let next := match w.gate.edges with
    | x :: _ => some (x.at_, x.st)
    | [] => w.lookAhead w.st
  match next with
  | none => { w with gate := { w.gate with unknown := some t } }
  | some (e2, st2) =>
    if st2 = 1 ∨ !w.isShort t e2 then w
    else if w.stretches then
      let m := t + w.minPulse
      let g := w.gate
      { w.stretched with gate := match g.edges with
        | x :: xs => { g with edges := { x with at_ := m, moved := true } :: xs }
        | [] => { g with movedTo := some m } }
    else w.dropState

/-- A pending output that turns on before `t` stands first. -/
def Cw.turnOnBefore (w : Cw) (t : Nat) : Bool := w.gate.pend.any fun p => decide (p.2 < t)

/-- GATE_EDGE (R240, R243, R244): the first edge that stands has come. -/
def Cw.gateEdge (w : Cw) : Cw :=
  match w.gate.edges with
  | x :: xs =>
    if w.time < x.at_ ∨ w.turnOnBefore x.at_ then w
    else
    let w := w.keepCycle
    match w.gate.tOn with
      | some t =>
        if w.stretches then
          let g := w.gate
          { w.stretched with gate := { g with tOn := none, edges := { x with at_ := t + w.minPulse, moved := true } :: xs } }
        else
          let w := w.dropState
          { w with gate := { w.gate with edges := xs } }.transition x.st x.at_
      | none => ({ w with gate := { w.gate with edges := xs } }).transition x.st x.at_
  | [] => w

/-- The first pending turn-on: the earliest, the lowest output among equals. -/
def firstPend (ps : List (Nat × Nat)) : Option (Nat × Nat) :=
  ps.foldl (fun b p => match b with | some x => if p.2 < x.2 then some p else some x | none => some p) none

/-- GATE_TURN_ON (R241, R243): the first pending output's time has come; the decision stands before the turn-on. -/
def Cw.gateTurnOn (w : Cw) : Cw :=
  match firstPend w.gate.pend with
  | some (k, t) =>
    if w.time < t ∨ w.gate.edges.any (fun x => decide (x.at_ < t)) then w
    else
      let w := w.keepCycle
      let w := if w.gate.tOn = some t then w.pulseDecision t else w
      if w.gate.pend.contains (k, t) then
        { w with gate := { w.gate with pend := w.gate.pend.filter (· ≠ (k, t)) } }.setOut k t true
      else w
  | none => w

/-- The state changes to come, as far as they are known: the edges that stand, then those of the queue, the first of them where a
moved edge goes (R240, R243). -/
def Cw.comingStates (w : Cw) : List (Nat × Nat) :=
  let qs := w.queue.filterMap fun q =>
    if w.invalid q then none
    else (modeTarget (bits q.word 47 44)).map fun st => (if st = 1 then q.eff else q.eff + bits q.word 43 30, st)
  w.gate.edges.map (fun x => (x.at_, x.st)) ++
    match w.gate.movedTo, qs with
    | some m, (_, st) :: r => (m, st) :: r
    | _, _ => qs

/-- When output `k` changes at the state changes to come, from a state and the latest turn-off of its pair on (R241). -/
def Cw.comingEdges (w : Cw) (k : Nat) : Nat → Nat → List (Nat × Nat) → List Nat
  | _, _, [] => []
  | st, tOff, (t, nx) :: r =>
    let pair (p : Nat) : Bool := bit p k || bit p (if k % 2 = 0 then k + 1 else k - 1)
    let was := w.pattern st
    let is := w.pattern nx
    let tOff := if pair was && was ≠ is then t else tOff
    (if bit was k = bit is k then [] else if bit was k then [t] else [max t (tOff + w.dead k)]) ++ w.comingEdges k nx tOff r

/-- Output `k` has an edge at its pin in this cycle or the next (R246): one placed, a turn-on to come, or one of a state change to
come, whether its command has been executed or still waits in the queue. -/
def Cw.edgeNear (w : Cw) (k : Nat) : Bool :=
  let near (t125 : Nat) : Bool := t125 / 32 = w.cycle || t125 / 32 = w.cycle + 1
  near (Tab.get (fun _ => 0) w.gate.rise k) || near (Tab.get (fun _ => 0) w.gate.fall k) ||
    w.gate.pend.any (fun p => p.1 = k && near (w.pinTime k p.2)) ||
    (w.comingEdges k w.st (if k < 2 then w.gate.tOffA else w.gate.tOffB) w.comingStates).any fun t => near (w.pinTime k t)

/-- DELAY_LINE_CALIBRATION (R246): the calibrating line of output `k` spans `m` elements; the lines swap unless it fails, in a
cycle for which the output has no edge in it or the next. -/
def Cw.calibrate (w : Cw) (k m : Nat) : Cw :=
  if w.on GATE.DLSTAT.FAIL_A k ∨ w.on GATE.DLSTAT.FAIL_B k ∨ w.now < Tab.get (fun _ => 0) w.gate.calAt k + 4000000 ∨ w.edgeNear k then w
  else
    let w := { w with gate := { w.gate with calAt := Tab.set (fun _ => 0) w.gate.calAt k w.now } }
    let inB := w.on GATE.DLSTAT.LINE k
    let w := if inB then w.wr GATE.DLSTAT.M_A m k else w.wr GATE.DLSTAT.M_B m k
    if 24 ≤ m ∧ m ≤ 44 then w.wr GATE.DLSTAT.LINE (b2n (!inB)) k
    else (if inB then w.set1 GATE.DLSTAT.FAIL_A k else w.set1 GATE.DLSTAT.FAIL_B k).set1 GATE.EVSTAT.DL_FAIL

/-! ### Trips (R248 to R252) -/

/-- Trip input `i` is active after its filter. -/
def Cw.active (w : Cw) (i : Nat) : Bool := bit w.pins i != w.on TRIP.TCFG.ACT_LOW i

/-- A clear (R229, R252): inactive inputs' latches and the OV2 latch clear unless their cause stands; whether none stays. An input that
tripped within the 40 ns before it counts as latching after it, and stays (R252, R253). -/
def Cw.clear (w : Cw) : Cw × Bool :=
  let l := w.rd TRIP.LATCH.LATCHED
  let recent (i : Nat) : Bool := (Tab.get (fun _ => none) w.latchAt i).any fun t => decide (w.time < t + 160)
  let stay := maskOf 6 fun i => bit l i && (w.active i || recent i)
  let ovStays := w.ov2 && (decide (w.rd CCBYP.OV2.TH ≤ w.adc.vcap) || decide (w.ov2Cyc = some w.cycle))
  let w := (w.wr TRIP.LATCH.LATCHED stay).wr CCBYP.STATUS.OV2 (b2n ovStays)
  let w := if l ≠ 0 && stay = 0 then w.wr TRIP.TSTAT.FIRST 0xF else w
  if stay ≠ 0 || ovStays then (w.set1 TRIP.TSTAT.TRIP_PERSIST, false) else (w, true)

/-- The firing and the clear of the command of this cycle, for an event that empties the queue before its tick instant is run: they
come first (R253). -/
def Cw.firstSteps (w : Cw) : Cw :=
  match w.queue with
  | q :: _ =>
    if q.eff / 16 ≠ w.cycle then w
    else
      let w := if w.firesBy q then w.fireCommand (bits q.word 7 0) else w
      if bit q.word 25 then w.clear.1 else w
  | [] => w

/-- An input latches (R249, R251). -/
def Cw.trip (w : Cw) (i : Nat) : Cw :=
  if bit (w.rd TRIP.LATCH.LATCHED) i then w
  else
    let w := w.firstSteps
    let w := if w.gateBefore.1.pend ≠ [] then w.set1 TRIP.TSTAT.DURING_DEAD else w
    let w := { w with latchAt := Tab.set (fun _ => none) w.latchAt i (some w.time) }
    let w := if w.tripped then w
      else ((w.wr TRIP.TSTAT.FIRST i).wr TRIP.TRIP_VT_LO.VT w.time).wr TRIP.TRIP_VT_HI.VT (w.time / 4294967296)
    let w := w.blockNow.emptyQueue
    let w := w.wr TRIP.LATCH.LATCHED (withBit (w.rd TRIP.LATCH.LATCHED) i)
    (w.set1 TRIP.TSTAT.TRIPPED).count TRIP.TRIPCNT.TRIPS

/-- The blanking time of an output has passed since its rising edge at the pin (R248). -/
def Cw.blanked (w : Cw) (o : Nat) : Bool :=
  decide (2 * w.time < Tab.get (fun _ => 0) w.gateBefore.1.rise o + 32 * w.rd TRIP.T1.BLANK)

/-- An enabled input that is active is judged (R248, R250), before the edges of its cycle (R253); `fresh` when it has just become
active. -/
def Cw.judge (w : Cw) (i : Nat) (fresh : Bool) : Cw :=
  if !w.on TRIP.TCFG.EN i || !w.active i then w
  else if !w.on TRIP.TCFG.TYPE i then w.trip i
  else
    let o := w.rd TRIP.TCFG.OUTSEL i
    if !bit w.gateBefore.2 o then w
    else if w.blanked o then (if fresh then w.count TRIP.TRIPCNT.BLANKED else w)
    else w.trip i

/-- TRIP_INPUT: input `i` has a new level past its filter T0 (R248). -/
def Cw.tripInput (w : Cw) (i : Nat) (level : Bool) : Cw :=
  if bit w.pins i = level then w
  else { w with pins := if level then withBit w.pins i else withoutBit w.pins i }.judge i true

end Sys2Proof.Machine
end

