-- ==== Sys2Proof/Machine/Adc.lean ====
section
/-!
DEFINITION. Machine/Adc.lean: the converter of a cell (R257 to R268) and the overvoltage levels that its results drive (R228 to
R231).
-/
namespace Sys2Proof.Machine
open Reg

/-! ### Values (R257, R258) -/

/-- VALUE of a VCAP channel under its calibration (R258). -/
def calValue (raw gain offset : Nat) : Nat :=
  (max 0 (min (((raw * gain + 16384) / 32768 : Nat) + signed 16 offset) 65535)).toNat

/-- VALUE of a channel (R257). -/
def Cw.value (w : Cw) (ch raw : Nat) : Nat :=
  match ch with
  | 0 => calValue raw (w.rd ADC.CAL_A.GAIN) (w.rd ADC.CAL_A.OFFSET)
  | 1 => calValue raw (w.rd ADC.CAL_B.GAIN) (w.rd ADC.CAL_B.OFFSET)
  | 4 => (raw + 32768) % 65536
  | 5 => (raw + 32768) % 65536
  | 7 => (raw + 32768) % 65536
  | _ => raw

/-! ### The result queue (R266) -/

/-- A result of a source (0 BG, 1 TICK, 2 BURST, 3 OW) enters the queue when QCFG lets it. -/
def Cw.enqueue (w : Cw) (src ch raw : Nat) : Cw :=
  let a := w.adc
  if !bit (w.rd ADC.QCFG.CH_EN) ch || !bit (w.rd ADC.QCFG.SRC_EN) src then w
  else if 32 ≤ a.queue.length then { w.count ADC.QSTAT.LOST with adc := { a with gap := true } }
  else { w with adc := { a with queue := a.queue ++ [⟨a.gap, src, ch, a.slot % 128, raw⟩], gap := false } }

/-- An entry as QPOP shows it. -/
def QEntry.word (e : QEntry) : Nat :=
  2147483648 + b2n e.gap * 1073741824 + e.src * 134217728 + e.ch * 8388608 + e.stamp * 65536 + e.raw

/-- QPOP_READ: the core takes the oldest entry; an empty queue reads 0. -/
def Cw.qpop (w : Cw) : Cw :=
  match w.adc.queue with
  | e :: es => { w with adc := { w.adc with queue := es } }.emit (.ccRead w.string w.place e.word)
  | [] => w.emit (.ccRead w.string w.place 0)

/-! ### Overvoltage levels (R228) -/

/-- A VCAP result is compared with the three thresholds; an unbroken run at OV3 fires once, and in the instant of a commanded firing
it makes one firing with both causes (R230). -/
def Cw.overvoltage (w : Cw) (v : Nat) : Cw :=
  let over1 := decide (w.rd CCBYP.OV1.TH ≤ v)
  let w := if over1 && !w.on CCBYP.STATUS.OV1 then w.count CCBYP.OVCNT.OV1 else w
  let w := w.wr CCBYP.STATUS.OV1 (b2n over1)
  let w := if w.rd CCBYP.OV2.TH ≤ v ∧ !w.ov2 then
      { (((w.firstSteps.blockNow.emptyQueue).set1 CCBYP.STATUS.OV2).count CCBYP.OVCNT.OV2) with ov2Cyc := some w.cycle }
    else w
  if w.rd CCBYP.OV3.TH ≤ v then
    match w.ov3Since with
    | none => { w with ov3Since := some w.now }
    | some t =>
      if t + 80000 < w.now ∧ !w.ov3Fired then
        let w := { w with ov3Fired := true }
        if w.firesNow then w.set1 CCBYP.STATUS.CAUSE_LOCAL else w.fire true false
      else w
  else { w with ov3Since := none, ov3Fired := false }

/-- The window comparator (R262). -/
def Cw.window (w : Cw) (v : Nat) : Cw :=
  if !w.on ADC.WINCFG.WIN_EN then w
  else if w.rd ADC.WIN.WIN_LO ≤ v ∧ v ≤ w.rd ADC.WIN.WIN_HI then { w with adc := { w.adc with winArmed := true } }
  else if !w.adc.winArmed then w
  else
    let n := w.rd ADC.WINCFG.BURST_N
    let w := (w.set1 ADC.STATUS.WIN_EXIT).count ADC.BURSTCNT.EXITS
    let w := if w.adc.burst = 0 ∧ 0 < n then w.count ADC.BURSTCNT.BURSTS else w
    { w with adc := { w.adc with winArmed := false, burst := n } }

/-- A VCAP result (R228, R259, R262, R267). -/
def Cw.vcapResult (w : Cw) (v : Nat) : Cw :=
  (({ w with adc := { w.adc with vcap := v } }).overvoltage v).window v

/-- A BYP_POS result (R230, R231). -/
def Cw.bypResult (w : Cw) (raw : Nat) : Cw :=
  if raw < w.rd CCBYP.BYPTH.TH then w
  else if !w.on CCBYP.STATUS.FIRED then
    (((w.blockNow).setSt 5).set1 CCBYP.STATUS.FIRED).set1 CCBYP.STATUS.CAUSE_EXT
  else match w.fireAt with
    | some t =>
      if w.now ≤ t + 4000000 * w.rd CCBYP.CFG.CONFIRM_MS then w.set1 CCBYP.STATUS.CONFIRMED
      else w
    | none => w

/-! ### Conversion slots (R259) -/

/-- The channel under open-wire test, if one is. -/
def Cw.owCh (w : Cw) : Option Nat := w.adc.ow.map (·.ch)

/-- The input that gives the VCAP result: VCAP_B while channel 0 is under test, and on until the first even slot after it (R264). -/
def Cw.vcapCh (w : Cw) : Nat := if w.owCh = some 0 || w.adc.subst then 1 else 0

/-- The channel is not converted: 2, 3 and 9 while the reference is unsettled (R260). -/
def Cw.unsettled (w : Cw) (ch : Nat) : Bool := (ch = 2 || ch = 3 || ch = 9) && !w.on ADC.REFCTL.SETTLED

/-- When the slot under way samples its input: 150 ns after its start, a tick sample at its hold (R259, R261). -/
def Cw.sampleAt (w : Cw) : Nat :=
  match w.adc.job with
  | .tick _ at_ => at_
  | _ => w.adc.start + 2000 * w.adc.slot + 600

/-- The channel was under test when the slot under way sampled it (R263, R264). -/
def Cw.testedAt (w : Cw) (ch : Nat) : Bool := w.adc.ow.any fun t => t.ch = ch && decide (t.from_ ≤ w.sampleAt)

/-- A result reaches LAST and what watches its channel; that of a channel under test reaches only the queue, tagged OW (R263). -/
def Cw.deliver (w : Cw) (src ch raw : Nat) (isVcap : Bool) : Cw :=
  if w.unsettled ch then w
  else if w.testedAt ch then w.enqueue 3 ch raw
  else
    let v := w.value ch raw
    let w := (w.wr ADC.LAST.VALUE v ch).wr ADC.LAST.RAW raw ch
    let w := w.enqueue src ch raw
    let w := if ch = 1 ∧ w.owCh ≠ some 0 then
        let a := w.rd ADC.LAST.VALUE 0
        if w.rd ADC.AB_DIFF.DIFF < max a v - min a v then w.set1 ADC.STATUS.AB_MISMATCH else w
      else w
    let w := if ch = 6 then w.bypResult raw else w
    let w := if ch = 9 then w.wr ADC.STATUS.REF_FAULT (b2n (decide (raw < 0xBD00) || decide (0xC300 < raw))) else w
    if isVcap then w.vcapResult v else w

/-- The next background channel from one on (R259): channels 1 to 9 in turn, without a channel under test and without 2, 3
and 9 while the reference is unsettled. -/
def Cw.bgFrom (w : Cw) (c : Nat) : Nat :=
  let ok (ch : Nat) : Bool := w.owCh ≠ some ch && !w.unsettled ch
  (((List.range 9).map fun i => (c - 1 + i) % 9 + 1).find? ok).getD c

/-- What the slot that starts now converts; a test conversion waits while its channel is not converted (R260). -/
def Cw.nextJob (w : Cw) : Cw :=
  let w := if w.adc.slot % 2 = 0 then { w with adc := { w.adc with subst := false } } else w
  let a := w.adc
  let due := (a.ow.filter fun t => !w.unsettled t.ch).bind (·.due)
  if a.slot % 2 = 0 then
    match a.tickPend with
    | some (ch, at_) => { w with adc := { a with job := .tick ch at_, tickPend := none } }
    | none => { w with adc := { a with job := .vcap w.vcapCh } }
  else
    let waited := match due with | some t => decide (t + 4000 ≤ w.now) | none => false
    match a.tickPend, waited with
    | some (ch, at_), false => { w with adc := { a with job := .tick ch at_, tickPend := none } }
    | _, _ =>
      if due.isSome then { w with adc := { a with job := .ow, tickPend := none } }
      else if 0 < a.burst then { w with adc := { a with job := .burst w.vcapCh } }
      else
        let ch := w.bgFrom a.bg
        { w with adc := { a with job := .bg ch, bg := ch % 9 + 1 } }

/-- The open-wire test's conversion: R_PU, then R_PD (R263). -/
def Cw.owResult (w : Cw) (raw : Nat) : Cw :=
  match w.adc.ow.filter fun t => !w.unsettled t.ch with
  | some t =>
    let w := w.enqueue 3 t.ch raw
    let t' := if t.step = 1 then { t with step := 2, since := w.now, due := none, rpu := raw }
      else { t with step := 3, since := w.now, due := none, rpd := raw }
    { w with adc := { w.adc with ow := some t' } }
  | none => w

/-- The channel that the slot under way converts. -/
def Cw.jobCh (w : Cw) : Nat :=
  match w.adc.job with
  | .vcap ch => ch | .tick ch _ => ch | .burst ch => ch | .bg ch => ch
  | .ow => w.owCh.getD 0

/-- What a report of this cycle still shows (R267). -/
def Cw.keepOld (w : Cw) : Cw :=
  let ch := w.jobCh
  { w with adc := { w.adc with
    old := some ⟨w.cycle, ch, w.rd ADC.LAST.VALUE ch, w.adc.vcap, w.rd ADC.TICKV.VALUE, w.on ADC.TICKV.TVALID⟩ } }

/-- ADC_SLOT: a slot ends with a converter code, and the next slot starts (R259). Slots are 500 ns on a grid from release, so that
nothing ends before its time. -/
def Cw.adcSlot (w : Cw) (raw : Nat) : Cw :=
  if w.now < w.adc.start + 2000 * (w.adc.slot + 1) then w
  else
  let w := w.keepOld
  let w := match w.adc.job with
    | .vcap ch => w.deliver 0 ch raw true
    | .tick ch _ =>
      if w.testedAt ch then w.deliver 1 ch raw true
      else
      let w := (w.deliver 1 ch raw true).wr ADC.TICKV.VALUE (w.value ch raw)
      w.set1 ADC.TICKV.TVALID
    | .ow => w.owResult raw
    | .burst ch =>
      let w := { w with adc := { w.adc with burst := w.adc.burst - 1 } }
      w.deliver 2 ch raw true
    | .bg ch => w.deliver 0 ch raw false
  ({ w with adc := { w.adc with slot := w.adc.slot + 1 } }).nextJob

/-- TICK_SAMPLE_HOLD: at the next tick instant less SAMPLE_LEAD, the input is held (R261). -/
def Cw.tickHold (w : Cw) : Cw :=
  match w.nextInst, w.grid with
  | some t, some (_, tq) =>
    let lead := w.rd ADC.CFG.SAMPLE_LEAD
    if !w.ticking || decide (tq ≤ lead) || decide (w.time + lead < t) || w.adc.heldFor = some t then w
    else { w with adc := { w.adc with tickPend := some (w.vcapCh, w.now), heldFor := some t } }
  | _, _ => w

/-! ### Reference buffer (R260) -/

/-- A write of REFCTL.BUF_EN. -/
def Cw.refCtl (w : Cw) (en : Bool) : Cw :=
  let was := w.on ADC.REFCTL.BUF_EN
  let w := w.wr ADC.REFCTL.BUF_EN (b2n en)
  if !en then w.wr ADC.REFCTL.SETTLED 0
  else if was then w else { w with adc := { w.adc with bufSince := w.now } }

/-- REF_SETTLED: the buffer has been enabled without break for 150 µs. -/
def Cw.refSettled (w : Cw) : Cw :=
  if w.on ADC.REFCTL.BUF_EN ∧ w.adc.bufSince + 600000 ≤ w.now then w.set1 ADC.REFCTL.SETTLED else w

/-! ### Open-wire test (R263, R264) -/

/-- A test of channel `c` is refused (R264). -/
def Cw.owRefused (w : Cw) (c : Nat) : Bool :=
  let a := w.rd ADC.LAST.VALUE 0
  let b := w.rd ADC.LAST.VALUE 1
  w.adc.ow.isSome || ((c = 2 || c = 3) && !w.on ADC.REFCTL.SETTLED) ||
    (c = 0 && (w.on ADC.STATUS.AB_MISMATCH || decide (w.rd ADC.AB_DIFF.DIFF < max a b - min a b)))

/-- A write of OWCTL.GO starts a test, or is refused. From then on VCAP_B stands in for a channel 0 not yet sampled (R264). -/
def Cw.owGo (w : Cw) (c settle : Nat) : Cw :=
  if w.owRefused c then w.set1 ADC.OWSTAT.REFUSED
  else
    let w := (w.set1 ADC.OWSTAT.BUSY).wr ADC.OWSTAT.LAST_CH c
    let job := match w.adc.job with
      | .vcap 0 => if c = 0 ∧ w.now ≤ w.sampleAt then .vcap 1 else w.adc.job
      | .burst 0 => if c = 0 ∧ w.now ≤ w.sampleAt then .burst 1 else w.adc.job
      | j => j
    { w with adc := { w.adc with job := job, ow := some { ch := c, step := 1, since := w.now, s := settle * 40000, from_ := w.now } } }

/-- OPEN_WIRE_SETTLE: S of a step has passed: its conversion is due, or after recovery the verdict is given. -/
def Cw.owSettle (w : Cw) : Cw :=
  match w.adc.ow with
  | some t =>
    if t.due.isSome ∨ w.now < t.since + t.s then w
    else if t.step < 3 then { w with adc := { w.adc with ow := some { t with due := some w.now } } }
    else
      let d := t.rpu - t.rpd
      let isOpen := decide (w.rd ADC.OWDELTA.DELTA + t.rpd ≤ t.rpu)
      let o := w.rd ADC.OWSTAT.OPEN
      let w := w.wr ADC.OWSTAT.OPEN (if isOpen then withBit o t.ch else withoutBit o t.ch)
      let w := w.wr ADC.OWSTAT.TESTED (withBit (w.rd ADC.OWSTAT.TESTED) t.ch)
      let w := (w.wr ADC.OWSTAT.LAST_DELTA d).wr ADC.OWSTAT.BUSY 0
      { w with adc := { w.adc with ow := none, subst := w.adc.subst || decide (t.ch = 0) } }
  | none => w

end Sys2Proof.Machine
end

