-- ==== Sys2Proof/Machine/Ring.lean ====
section
/-!
DEFINITION. Machine/Ring.lean: a cell on its ring: sweep copies, acceptance, reports, reflection, flashes, tick instants, the
sweep watchdog, and cell time (R171 to R190, R233, R281).
-/
namespace Sys2Proof.Machine
open Reg

/-! ### Cell time from a header (R281) -/

/-- The clock follows an error ε in 2^-16 units of 250 ps: above 8 ns it is stepped, otherwise steered out within 16 ticks. What an
estimate shows of an error that is still being steered out keeps its time; what it shows beyond that has 16 ticks. -/
def Cw.follow (w : Cw) (e : Int) : Cw :=
  if 2097152 < e.natAbs then w.stepTime e
  else if e = 0 then { w with steer := [] }
  else if w.steer ≠ [] ∧ (e < 0 ↔ w.steerSum < 0) then
    if e.natAbs ≤ w.steerSum.natAbs then { w with steer := steerKeep e.natAbs w.steer }
    else { w with steer := w.steer ++ [(e - w.steerSum, 16)] }
  else { w with steer := [(e, 16)] }

/-- The rule for one copy of a SEQ. -/
def Cw.followOne (w : Cw) : Cw :=
  match w.est with
  | some x =>
    if x.used then w
    else ({ w with est := some { x with used := true } }).follow (if x.dirY then x.e + w.split else x.e - w.split)
  | none => w

/-- A candidate header arrives (R281): the first estimate steps, the second copy of a SEQ completes a pair. -/
def Cw.estimate (w : Cw) (seq launch : Nat) (dirY : Bool) (ago : Nat) : Cw :=
  let tooSoon := w.flashAt.any fun t => decide (t ≤ w.now - ago) && decide (w.now - ago < t + 8000)
  if tooSoon then w
  else
    let path := if dirY then w.rd CCTIME.PATHDLY_Y.DELAY else w.rd CCTIME.PATHDLY_X.DELAY
    let e := signed 80 (unsigned 80 (((launch + path : Nat) : Int) * 65536 - (w.fine - ago * 65536)))
    if !w.timed then
      ({ w.stepTime e with timed := true, split := 0, est := none }).set1 CCTIME.TSTAT.VALID
    else match w.est with
      | some x =>
        if x.seq = seq ∧ x.dirY ≠ dirY then
          let ex := if dirY then x.e else e
          let ey := if dirY then e else x.e
          ({ w with split := w.split + ((ex - ey) / 2 - w.split) / 16, est := none }).follow ((ex + ey) / 2)
        else { w.followOne with est := some ⟨seq, dirY, e, false⟩ }
      | none => { w with est := some ⟨seq, dirY, e, false⟩ }

/-! ### Acceptance (R180, R181) -/

/-- The sweep header as a CC uses it. -/
structure Hdr where
  seq   : Nat
  cells : Nat
  fgen  : Nat
  lc    : Nat
  load  : Option Nat
  launch : Nat
  eff   : Nat
  dirY  : Bool
  tq    : Nat

/-- The header's fields, when its type and CHECK are right (R174). -/
def readHdr (h : List Block) : Option Hdr :=
  if !headerOk h then none
  else match h.map (·.pay.toNat) with
    | [b0, b1, b2, b3] => some
      { seq := bits b0 63 48, cells := bits b0 47 40, fgen := bits b0 39 32, lc := bits b0 21 19
        load := if bit b0 18 then some (bits b0 17 16) else none
        launch := b1, eff := b2, dirY := bit b3 47, tq := bits b3 16 0 }
    | _ => none

/-- The copy is a candidate at this cell (R180); `down` is the lane it arrived on. -/
def Cw.candidate (w : Cw) (h : Hdr) (down : Bool) : Bool :=
  w.on CCID.POS.VALID && decide (1 ≤ h.cells) && decide (h.cells ≤ 96) && decide (w.rd CCID.POS.POS < h.cells) &&
    decide (1 ≤ h.lc) && decide (h.lc ≤ 4) && h.dirY == down &&
    (match w.lastSeq with | some l => decide ((h.seq + 65536 - l) % 65536 ≤ 32767) | none => true)

/-- The candidate's command is accepted (R180). -/
def Cw.accepts (w : Cw) (h : Hdr) (cmd : Block) : Bool :=
  let c := cmd.pay.toNat
  w.lastSeq ≠ some h.seq && !cmd.ctl && c / 281474976710656 = check16 (bitsUp c 0 48) &&
    bits c 22 16 = w.rd CCID.POS.POS && bits c 15 8 = h.seq % 256 && !(w.flashed && w.fgenHold = some h.fgen)

/-- The AUX pointer moves (R179). -/
def nextAux (aux req : Nat) : Nat := if req ≤ 9 then req else (aux + 1) % 10

/-- SAMPLE_LEAD is at least TQ: no tick sample is taken (R261). -/
def Cw.leadCheck (w : Cw) (tq : Nat) : Cw := if tq ≤ w.rd ADC.CFG.SAMPLE_LEAD then w.set1 ADC.STATUS.LEAD_BAD else w

/-- A command is accepted: into the queue, or discarded with CMD_FAULT (R181). -/
def Cw.accept (w : Cw) (h : Hdr) (cmd : Nat) : Cw :=
  let w := { w with
    lastSeq := some h.seq, grid := some (h.eff, h.tq), auxOld := w.aux, aux := nextAux w.aux (bits cmd 29 26)
    wdogOn := true, accepted := true, wdog := false }
  let w := (w.set1 CCTIME.TSTAT.VALID).leadCheck h.tq
  let late := decide (h.eff < w.time + 600)
  let old := match w.queue.getLast? with | some q => decide (h.eff ≤ q.eff) | none => false
  if late || old || decide (4 ≤ w.queue.length) then w.cmdFault
  else ({ w with queue := w.queue ++ [(⟨h.eff, cmd, h.tq, h.load⟩ : QCmd)] }).endKnown

/-- The trailer as a cell leaves it (R182, R186): its counts when the cell wrote its report, REFL and RPOS when it reflects. -/
def trailerOut (t0 t1 : Nat) (wrote : Option (Nat × Bool)) (reflect : Option Nat) : List Nat :=
  let t0 := match wrote with
    | some (flags, acc) =>
      let nw := (bits t0 39 32 + 1) % 256
      let na := (bits t0 31 24 + b2n acc) % 256
      bits t0 15 0 + Nat.lor (bits t0 23 16) flags * 65536 + na * 16777216 + nw * 4294967296 + bits t0 63 40 * 1099511627776
    | none => t0
  let t0 := match reflect with
    | some p => bits t0 39 0 + p % 128 * 1099511627776 + 140737488355328 + bits t0 63 48 * 281474976710656
    | none => t0
  [t0, bits t1 47 0 + trailerCheck t0 t1 * 281474976710656]

/-- The cell turns back what would leave on a lane (R185). -/
def Cw.refl (w : Cw) (down : Bool) : Bool := if down then w.reflDown else w.reflUp

/-- A sweep header that would leave on a lane arrived at a time (R185): from a header that finds the link lost the cell reflects, and
with the first header after its return it stops; a header that came before the change leaves it as it is. -/
def Cw.headerAt (w : Cw) (onward : Bool) (t : Nat) : Cw :=
  if t < (w.lnk onward).st.useAt then w
  else if onward then { w with reflDown := !w.inUse onward } else { w with reflUp := !w.inUse onward }

/-- Blocks that arrive until a time leave a lane by 24 ns after it (R185), in 50 ps. -/
def Cw.passes (w : Cw) (lane : Bool) (until_ : Nat) : Cw :=
  let t := until_ + 480
  if lane then { w with passDown := max t w.passDown } else { w with passUp := max t w.passUp }

/-- A candidate header that arrived at a time (R189): the newest gives the FGEN that a flash records, also a flash that came while
the sweep was passing. The first candidate after the flash with another FGEN clears FLASHED. -/
def Cw.headerFgen (w : Cw) (fgen t : Nat) : Cw :=
  let newest := decide (w.fgenAt ≤ t)
  let w := if newest then { w with lastFgen := some fgen, fgenAt := t } else w
  if w.flashed && w.actedAt.any (fun a => decide (t ≤ a)) then (if newest then { w with fgenHold := some fgen } else w)
  else { w with flashed := w.flashed && w.fgenHold = some fgen }

/-- SWEEP_COPY_RX: a copy reaches the cell on its up or down lane, its header `ago` units of 250 ps before the command. What had
partly left on a link when it was lost is discarded (R185). -/
def Cw.sweepCopy (w : Cw) (down : Bool) (h : List Block) (cmd rep t0 t1 : Block) (ago : Nat) : Cw :=
  if !w.inUse down ∨ (h.map fun b => (b.ctl, b.pay.toNat % 65536)).head? ≠ some (true, 0x6996) then w
  else
    let pos := w.rd CCID.POS.POS
    let w := w.headerAt (!down) (w.now - ago)
    let reflect := if w.refl (!down) then some pos else none
    let leaves := w.refl (!down) || w.inUse (!down)
    let hd := readHdr h
    let w := match hd with
      | some x =>
        let len := (2 * x.cells + 6) * blockTime (w.lnk down).rate
        let w := if reflect.isSome then w.passes down (5 * (w.now - ago) + len)
          else if leaves then w.passes (!down) (5 * (w.now - ago) + len) else w
        let h : SweepAt := ⟨w.now - ago, x.tq, len⟩
        if down then { w with hdrY := some h } else { w with hdrX := some h }
      | none => w
    let r : Cw × Nat × Option (Nat × Bool) := match hd with
      | some x =>
        if !w.candidate x down then (w, rep.pay.toNat, none)
        else
          let old := w.oldNow
          let w := w.estimate x.seq x.launch x.dirY ago
          let w := w.headerFgen x.fgen (w.now - ago)
          let acc := w.accepts x cmd
          let w := if acc then w.accept x (cmd.pay.toNat % 281474976710656) else w
          let rw := w.report old (if w.lastSeq = some x.seq then w.auxOld else w.aux)
          (w, rw + check16 (bitsUp rw 0 48) * 281474976710656, some (w.flags, acc))
      | none => (w, rep.pay.toNat, none)
    let tr := if t0.ctl ∧ t0.pay.toNat % 65536 = 0x56A9 then
        (if r.2.2.isSome ∨ reflect.isSome then trailerOut t0.pay.toNat t1.pay.toNat r.2.2 reflect
         else [t0.pay.toNat, t1.pay.toNat])
      else []
    if leaves then r.1.emit (.sweepOut w.string w.place reflect.isSome ([cmd.pay.toNat, r.2.1] ++ tr)) else r.1

/-! ### The block flash (R143, R189) -/

/-- CC_FLASH_RX: a flash reaches the cell on a lane; it is forwarded at once, and the first good copy is acted on. -/
def Cw.flashRx (w : Cw) (down : Bool) (b : Block) : Cw :=
  let p := b.pay.toNat
  if !w.inUse down ∨ !b.ctl ∨ p % 256 ≠ 0xC3 then w
  else
    let w := if w.inUse (!down) then w.emit (.flashOut w.string w.place p) else w
    let w := { w with flashAt := w.now :: w.flashAt.filter fun t => decide (w.now < t + 400000) }
    let key := (bits p 39 36, bits p 31 24)
    if !flashOk p ∨ w.acted.contains key then w
    else
      let w := ((w.firstSteps.keepCycle.blockNow).emptyQueue).disarm
      { w with acted := w.acted ++ [key], fgenHold := w.lastFgen, flashed := true, actedAt := some w.now }

/-! ### The tick instant (R181, R232, R252, R254) -/

/-- A BLOCK command at its EFF_VT: every output off at EFF_VT plus its SKEW (R242). -/
def Cw.blockCommand (w : Cw) (eff : Nat) : Cw :=
  let outs := w.rd GATE.STATUS.OUT
  let w := (List.range 4).foldl (fun w k => if bit outs k then w.setOut k eff false else w) w
  w.allOff eff

/-- A command's own MODE (R178). In BOOT, while a latch holds, or after a firing it is HOLD without CMD_FAULT. -/
def Cw.mode (w : Cw) (q : QCmd) : Cw :=
  let m := bits q.word 47 44
  if w.st = 0 ∨ w.st = 5 ∨ w.tripped ∨ w.ov2 then w
  else if w.invalid q then w.cmdFault
  else match modeTarget m with
    | some 1 => if w.st = 1 ∧ w.gate.edges = [] then w else w.blockCommand q.eff
    | some st => w.placeEdge (q.eff + bits q.word 43 30) st
    | none => w

/-- SAMPLE_LEAD and SYNC_OUT's enable count from a load on (R233, R261). -/
def Cw.loadedTime (w : Cw) : Cw :=
  let w := match w.grid with | some g => w.leadCheck g.2 | none => w
  if w.on CCTIME.SYNCCFG.EN then w else w.syncLow

/-- What follows a load (R254, R268): inputs newly enabled while active trip, and a changed BRIDGE outside BOOT and BLOCKED
blocks the cell. -/
def Cw.loaded (w : Cw) (eff bridge : Nat) : Cw × Bool :=
  let w := (List.range 6).foldl (fun w i => w.judge i false) w
  if w.rd GATE.CFG.BRIDGE ≠ bridge ∧ w.st ≠ 0 ∧ w.st ≠ 1 then
    ((w.blockCommand eff).set1 GATE.EVSTAT.BRIDGE_BLOCK, true)
  else (w, false)

/-- The settings load of a command (R195, R254): the shadows become active; whether it blocked the cell for its BRIDGE. -/
def Cw.load (w : Cw) (q : QCmd) : Cw × Bool :=
  match q.load with
  | none => (w, false)
  | some g =>
    if w.lgen = some g then (w, false)
    else (({ w.loadShadows with lgen := some g, lpar := g % 2 }).tickingFrom w.ticking).loadedTime.loaded q.eff (w.rd GATE.CFG.BRIDGE)

/-- A queued command at its EFF_VT, in the order of R253: its firing, its clear, its load with the trips that follow, its edges. -/
def Cw.execute (w : Cw) (q : QCmd) : Cw :=
  let isFire := decide (bits q.word 47 44 = 5)
  let fires := w.firesBy q
  let w := if isFire then (if fires then w.fireCommand (bits q.word 7 0) else w) else w.disarm.keepCycle
  let cl := if bit q.word 25 then w.clear else (w, true)
  let ld := cl.1.load q
  let w := ld.1
  if ld.2 then w.cmdFault
  else if isFire then (if fires then w else w.fireCommand (bits q.word 7 0))
  else if !cl.2 then w
  else w.mode q

/-- SYNC_OUT at a tick instant (R233): a pulse that would still be high at its rising edge, as after a load of a smaller OFFSET, ends
4 ns before it, or at once where that time is past. -/
def Cw.syncOut (w : Cw) (t tq : Nat) : Cw :=
  let o := w.rd CCTIME.SYNCCFG.OFFSET
  let full := w.rd CCTIME.SYNCCFG.WIDTH * 16
  let width := if tq ≤ full then tq - 16 else full
  if w.on CCTIME.SYNCCFG.EN ∧ w.on CCTIME.TSTAT.VALID ∧ w.st ≠ 0 ∧ o < tq then
    let w := match w.syncEnd with
      | some e => if t + o ≤ e then w.emit (.syncCut w.string w.place (max w.time (t + o - 16))) else w
      | none => w
    { w with syncEnd := some (t + o + width) }.emit (.syncOut w.string w.place (t + o) width)
  else w

/-- CELL_TICK_INSTANT: the next tick instant of cell time has come (R181, R190, R233). -/
def Cw.tickInstant (w : Cw) : Cw :=
  match w.nextInst, w.grid with
  | some t, some (_, tq) =>
    if w.time < t then w
    else
      let w := w.followOne.steerTick tq
      let w := { w with lastInst := max t w.lastInst, faultFor := w.faultFor - 1 }
      let w := if w.accepted ∨ !w.wdogOn then w.wr CCWDOG.WSTAT.MISSED 0
        else w.wr CCWDOG.WSTAT.MISSED (sat 7 (w.rd CCWDOG.WSTAT.MISSED + 1))
      let w := { w with accepted := false }
      let w := match w.queue with
        | q :: qs => if q.eff ≤ t then ({ w with queue := qs }).execute q else w
        | [] => w
      (w.leadCheck tq).syncOut t tq
  | _, _ => w

/-- CELL_SWEEP_WATCHDOG: WDOG_TICKS tick instants have passed without an accepted command (R190). The count stops until a
command is accepted again. -/
def Cw.sweepWatchdog (w : Cw) : Cw :=
  if !w.wdogOn ∨ w.rd CCWDOG.WSTAT.MISSED < w.rd CCWDOG.SWEEP.WDOG_TICKS then w
  else { (w.firstSteps.blockNow.emptyQueue).disarm with wdog := true, wdogOn := false }

end Sys2Proof.Machine
end

