-- ==== Sys2Proof/Machine/CellMsg.lean ====
section
/-!
DEFINITION. Machine/CellMsg.lean: cell messages at a cell, its register access, the image loader and its core (R191 to R198,
R222 to R227, R234 to R236).
-/
namespace Sys2Proof.Machine
open Reg

/-! ### Register access (R235) -/

/-- The value of a read-only field that shows state held elsewhere. -/
def Cw.live (w : Cw) (f : Fld) : Option Nat :=
  if f = CCID.PART.GRADE then some (if Config.devGrade (w.n + 1) then 0xD else 0xF)
  else if f = CCID.UID_LO.UID then some (Config.cellUid w.n 0).toNat
  else if f = CCID.UID_HI.UID then some (Config.cellUid w.n 1).toNat
  else if f = CCTIME.NOW_LO.VT then some (w.time % 4294967296)
  else if f = CCTIME.NOW_HI.VT then some (w.time / 4294967296)
  else if f = GATE.STATUS.PEND then some (b2n (w.gate.pend ≠ []))
  else if f = GATE.STATUS.BYP_NEXT then some (b2n (w.gate.lastPair = some false))
  else if f = TRIP.LATCH.ACTIVE then some (maskOf 6 w.active)
  else if f = ADC.QSTAT.COUNT then some w.adc.queue.length
  else if f = ADC.STATUS.BURST then some (b2n (decide (0 < w.adc.burst)))
  else if f = ADC.STATUS.SUBST then some (b2n (w.owCh = some 0))
  else none

/-- The register at an address, as a read gives it; reserved and write-only fields read 0. -/
def Cw.word (w : Cw) (addr : Nat) : Nat :=
  match findRow ccRows addr with
  | some (r, i, _) =>
    r.parts.foldl (fun a p =>
      if p.acc = .wo then a else a + bits ((w.live p.f).getD (w.rd p.f i)) (p.sh + p.w - 1) p.sh * 2 ^ p.lo) 0
  | none => 0

/-- A write leaves the read-only fields of a register 0 (R235); bits of no field are reserved, and ignored (R6). -/
def Row.writable (r : Row) (v : Nat) : Bool := r.parts.all fun p => p.acc ≠ .ro || p.bitsOf v = 0

/-- A write of TEST.EN, BOOT.CTRL and the rest is allowed in the cell's states of R235. -/
def Cw.idle (w : Cw) : Bool := w.st = 0 || w.st = 1

/-- Why a write to a register is refused (R235): the NACK reason, 0 when it is not. -/
def Cw.refuses (w : Cw) (byCore : Bool) (addr v : Nat) : Nat :=
  match findRow ccRows addr with
  | none => 1
  | some (r, _, _) =>
    let locked := (match r.lockF with | some f => w.on f | none => false) && r.parts.any fun p => p.acc = .rwl
    if !r.writable v || locked || !r.takes v then 2
    else match r.tag with
      | .cctest => if bit v 31 && !w.idle then 4 else 0
      | .ccbootctl => if bits v 31 16 ≠ 0xA55A then 2 else if w.idle || w.st = 5 then 0 else 4
      | .tripctl => if bits v 31 16 ≠ 0x5AC3 then 2 else 0
      | .owctl => if bit v 31 && w.owRefused (bits v 1 0) then 4 else 0
      | .kick => if !byCore then 4 else if bits v 31 16 ≠ 0x3CA5 then 2 else 0
      | _ => 0

/-- A core kick (R235): the watchdog runs anew, FW_FAULT is the core's verdict. -/
def Cw.kick (w : Cw) (fault : Bool) : Cw := { w with kickAt := some w.now, expired := false, fwFault := fault }

/-- One field takes its part of a word. -/
def Cw.putPart (w : Cw) (p : Part) (v i : Nat) : Cw :=
  if p.f.shadow then w.wrShadow p.f (p.bitsOf v) i
  else match p.acc with
    | .rw => w.wr p.f (p.bitsOf v) i
    | .rwl => w.wr p.f (p.bitsOf v) i
    | .lock => if p.bitsOf v ≠ 0 then w.set1 p.f i else w
    | .w1c => w.wr p.f (clearBits p.f.w (w.rd p.f i) (p.bitsOf v)) i
    | _ => w

/-- A write that is not refused (R235), with what it starts. -/
def Cw.write (w : Cw) (addr v : Nat) : Cw :=
  match findRow ccRows addr with
  | none => w
  | some (r, i, _) =>
    let put (w : Cw) : Cw := r.parts.foldl (fun w p => w.putPart p v i) w
    match r.tag with
    | .lctl => ((put w).refreshHold false).refreshHold true
    | .cctest =>
      let w := put (if w.on CCLINK.TEST.EN then w.testOver else w)
      if bit v 31 then w.testBegin else w
    | .ccbootctl => if bit v 0 then w.coreReset 3 else w
    | .tripctl => if bit v 0 then w.clear.1 else w
    | .owctl => if bit v 31 then (put w).owGo (bits v 1 0) (bits v 15 8) else put w
    | .refctl => w.refCtl (bit v 31)
    | .kick => w.kick (bit v 0)
    | _ =>
      let wasWin := w.on ADC.WINCFG.WIN_EN
      let w := put w
      let w := if !wasWin && w.on ADC.WINCFG.WIN_EN then { w with adc := { w.adc with winArmed := true } } else w
      if addr = 0x604 ∨ addr = 0x608 then { w with timed := false } else w

/-- The shadow thresholds stay in order: OV1 ≤ OV2 ≤ OV3 (R228). -/
def Cw.ovOrdered (w : Cw) : Bool :=
  decide (w.rdShadow CCBYP.OV1.TH 0 ≤ w.rdShadow CCBYP.OV2.TH 0) &&
    decide (w.rdShadow CCBYP.OV2.TH 0 ≤ w.rdShadow CCBYP.OV3.TH 0)

/-- A list of register writes, all or none: the NACK reason, or 0 and the state after (R235). A test is judged as the words before
its own leave the cell (R264). -/
def Cw.writeAll (w : Cw) (byCore : Bool) (ws : List (Nat × Nat)) : Cw × Nat :=
  let before (k : Nat) : Cw := (ws.take k).foldl (fun w a => w.write a.1 a.2) w
  let rs := ((List.range ws.length).zip ws).map fun x => ((if x.2.1 = 0x41C then before x.1 else w).refuses byCore x.2.1 x.2.2)
  let no (w : Cw) (r : Nat) : Cw × Nat :=
    let ow := ((List.range ws.length).zip ws).any fun x => x.2.1 = 0x41C && bit x.2.2 31 && (before x.1).owRefused (bits x.2.2 1 0)
    (if r = 4 && ow then w.set1 ADC.OWSTAT.REFUSED else w, r)
  if rs.contains 1 then no w 1
  else if rs.contains 2 then no w 2
  else
    let ov := ws.filter fun a => a.1 = 0x504 || a.1 = 0x508 || a.1 = 0x50C
    if ov ≠ [] && !(ov.foldl (fun w a => w.write a.1 a.2) w).ovOrdered then no w 2
    else if rs.contains 4 then no w 4
    else (ws.foldl (fun w a => w.write a.1 a.2) w, 0)

/-- Every field of the register at an address is read-only. -/
def readOnlyAt (addr : Nat) : Bool :=
  match findRow ccRows addr with
  | some (r, _, _) => r.parts.all fun p => p.acc = .ro
  | none => false

/-- The core runs: it is neither halted nor held in reset (R226, R234). -/
def Cw.coreRuns (w : Cw) : Bool := !w.halted && !w.held

/-- A write by the core (R222): a refused write, or one of a read-only register, traps in the core and changes nothing. A halted or
held core writes nothing. -/
def Cw.coreWrite (w : Cw) (addr v : Nat) : Cw :=
  if !w.coreRuns then w
  else
    let r := w.writeAll true [(addr, v)]
    if r.2 ≠ 0 ∨ readOnlyAt addr then { r.1 with core := r.1.core.take 7 (0x20000000 + addr) } else r.1

/-! ### Messages at a cell (R185, R191, R192) -/

/-- The lane on which a message that would leave on a lane leaves: back on the other one while the cell reflects, none while the link
is lost and no sweep header has come since (R185). -/
def Cw.exit (w : Cw) (lane : Bool) : Option Bool :=
  if w.refl lane then some (!lane) else if w.inUse lane then some lane else none

/-- Until when a lane sends a response and what waits behind it (R193). -/
def Cw.sendEnd (w : Cw) (lane : Bool) : Nat := if lane then w.sendDown else w.sendUp

/-- So many blocks leave on a lane behind what it still sends (R193). -/
def Cw.sendBlocks (w : Cw) (lane : Bool) (blocks : Nat) : Cw :=
  let t := max (5 * w.now) (w.sendEnd lane) + blocks * blockTime (w.lnk lane).rate
  if lane then { w with sendDown := t } else { w with sendUp := t }

/-- A message goes on. While the lane sends a response of the cell's own, it waits in the buffer and follows (R193). -/
def Cw.forward (w : Cw) (down : Bool) (m0 : Nat) (payload : List Nat) (check : Nat) : Cw :=
  match w.exit (!down) with
  | some lane =>
    let w := if 5 * w.now < w.sendEnd lane then w.sendBlocks lane (payload.length + 2) else w.passes lane (5 * w.now)
    w.emit (.ccMsg w.string w.place lane m0 payload check)
  | none => w

/-- A message passes the cell: discarded on a lost link or with a wrong BTYPE_INV, discarded when its OP is reserved or it is a
broadcast READ (R191, R192), otherwise forwarded. -/
def Cw.pass (w : Cw) (down : Bool) (m : MsgFrame) : Cw :=
  if !w.inUse down ∨ !m.m0.ctl ∨ m.m0.pay.toNat % 65536 ≠ 0xC53A then w
  else if m.ok && (decide (8 ≤ m.op) || (m.op = 0 && m.dest = 0x7F)) then w
  else w.forward down m.m0.pay.toNat (m.payload.map BitVec.toNat) m.check.toNat

/-- The cell acts on the message (R191, R192): valid, of an OP, and with another TAG than the last acted on. -/
def Cw.actsOn (w : Cw) (down : Bool) (m : MsgFrame) (op : Nat) : Bool :=
  w.inUse down && m.ok && m.op = op && w.lastTag ≠ some m.tag

/-- The message is addressed to this cell by its position. -/
def Cw.mine (w : Cw) (m : MsgFrame) : Bool := w.on CCID.POS.VALID && m.dest = w.rd CCID.POS.POS

/-- A response waits for its lane, in the direction of the request (R192). -/
def Cw.respond (w : Cw) (down : Bool) (m : MsgFrame) (op : Nat) (payload : List Nat) : Cw :=
  { w with resps := w.resps ++ [⟨!down, msgHead (w.rd CCID.POS.POS) m.tag m.addr 0x7F payload.length op, payload⟩] }

/-- CC_MSG_READ (R192, R235). -/
def Cw.msgRead (w : Cw) (down : Bool) (m : MsgFrame) : Cw :=
  let w := w.pass down m
  if !w.actsOn down m 0 || !w.mine m then w
  else
    let w := { w with lastTag := some m.tag }
    let addrs := (List.range (2 * m.len)).map fun k => m.addr + 4 * k
    if m.len = 0 then w.respond down m 4 [3]
    else if addrs.any fun a => (findRow ccRows a).isNone then w.respond down m 4 [1]
    else if addrs.contains 0x434 then w.respond down m 4 [4]
    else w.respond down m 2 ((List.range m.len).map fun k =>
      w.word (m.addr + 8 * k) + w.word (m.addr + 8 * k + 4) * 4294967296)

/-- CC_MSG_WRITE (R192, R235): a broadcast is acted on by every cell and not answered. -/
def Cw.msgWrite (w : Cw) (down : Bool) (m : MsgFrame) : Cw :=
  let w := w.pass down m
  if !w.actsOn down m 1 || !(w.mine m || m.dest = 0x7F) then w
  else
    let w := { w with lastTag := some m.tag }
    let answer (w : Cw) (op : Nat) (p : List Nat) : Cw := if m.dest = 0x7F then w else w.respond down m op p
    if m.len = 0 then answer w 4 [3]
    else
      let ws := (m.payload.map BitVec.toNat).flatMap fun b => [b % 4294967296, b / 4294967296]
      let r := w.writeAll false (((List.range ws.length).zip ws).map fun a => (m.addr + 4 * a.1, a.2))
      if r.2 = 0 then answer r.1 3 [] else answer r.1 4 [r.2]

/-- CC_MSG_ASSIGN (R197, R226): the position is taken in direction X and sent on with ADDR + 1. -/
def Cw.msgAssign (w : Cw) (down : Bool) (m : MsgFrame) : Cw :=
  if down || !(w.inUse down) || !m.ok || m.op ≠ 5 then w.pass down m
  else
    let m0 := msgHead m.src m.tag (m.addr + 1) m.dest m.len 5
    let p := m.payload.map BitVec.toNat
    let w := w.forward down m0 p (msgCheck m0 p)
    let w := (w.wr CCID.POS.POS m.addr).set1 CCID.POS.VALID
    { w with lastSeq := none, lastTag := none, armed := true, wdogOn := false }

/-- CC_MSG_CAL_START (R198): D is 0 until the measurement gives one; 16 PROBEs on the link the cell feeds in direction X. -/
def Cw.msgCalStart (w : Cw) (down : Bool) (m : MsgFrame) : Cw :=
  let w := w.pass down m
  if !w.actsOn down m 6 || !(w.mine m || m.dest = 0x7F) then w
  else
    let w := { w with lastTag := some m.tag, calVals := some [] }.wr CCTIME.LINKDLY.D 0
    if w.inUse true then (List.range 16).foldl (fun w k => w.emitLane true fun e => .probe e (probeBlock k)) w else w

/-- An ECHO for the cell's measurement: one sample; 16 give D (R198). -/
def Cw.echoRx (w : Cw) (down : Bool) (num turn rttPs : Nat) : Cw :=
  match w.calVals with
  | some vs =>
    if !down ∨ !w.inUse down ∨ vs.any (fun v => v.1 = num) ∨ 15 < num then w
    else
      let vs := vs ++ [(num, (rttPs : Int) - 250 * turn)]
      if vs.length < 16 then { w with calVals := some vs }
      else
        let w := { w with calVals := none }
        if spreads (vs.map (·.2)) then w else w.wr CCTIME.LINKDLY.D (linkDelay (vs.map (·.2)))
  | none => w

/-- Until when forwarded blocks leave on a lane (R193). -/
def Cw.passEnd (w : Cw) (lane : Bool) : Nat := if lane then w.passDown else w.passUp

/-- CC_RESPONSE_SEND (R193): the first waiting response leaves if no forwarded block waits for its lane and it ends at least 4 block
times before the next header. Once that header's predicted time is past, a sweep may be passing for as long as the last took. -/
def Cw.sendResponse (w : Cw) : Cw :=
  match w.resps with
  | r :: rs =>
    let lane := (w.exit r.down).getD r.down
    let bt := blockTime (w.lnk lane).rate
    let hdr := if r.down then w.hdrX else w.hdrY
    let fits := match hdr with
      | some h => decide (5 * (h.at_ + h.tq) + h.len + 480 ≤ 5 * w.now) ||
          decide (5 * w.now + (r.payload.length + 6) * bt ≤ 5 * (h.at_ + h.tq))
      | none => true
    if !w.inUse lane || decide (5 * w.now < max (w.sendEnd lane) (w.passEnd lane)) || !fits then w
    else ({ w with resps := rs }.sendBlocks lane (r.payload.length + 2)).emit (.ccMsg w.string w.place lane r.m0 r.payload (msgCheck r.m0 r.payload))
  | [] => w

/-! ### The image loader (R225, R226) -/

/-- The first accepted FW_BLOCK after ASSIGN: the core is held, the block record cleared, STATE BOOT. -/
def Cw.loadBegin (w : Cw) : Cw :=
  let w := { w with armed := false, blks := [], recheck := false, held := true }
  let w := (w.wr CCBOOT.STATUS.STATE 1).wr CCBOOT.IMGVER.VERSION 0
  if w.st = 5 then w else w.blockNow.setSt 0

/-- Image bytes of a block message (R225). -/
def Cw.loadBlock (w : Cw) (n : Nat) (payload : List DWord) : Cw :=
  let new := payload.flatMap fun b => (List.range 8).map fun i => b.extractLsb' (8 * i) 8
  let old := Tab.get (fun _ => []) w.img n
  { w with img := Tab.set (fun _ => []) w.img n (new ++ old.drop new.length)
           blks := Tab.set (fun _ => false) w.blks n true }

/-- The final message (R226). -/
def Cw.loadFinal (w : Cw) (payload : List DWord) : Cw :=
  let p := payload.map BitVec.toNat
  let len := p.getD 4 0 % 4294967296
  if len = 0 ∨ 49152 < len then w.wr CCBOOT.STATUS.STATE 5
  else match (List.range (ceilDiv len 64)).find? fun n => !Tab.get (fun _ => false) w.blks n with
    | some n => w.wr CCBOOT.STATUS.MISSING n
    | none =>
      let w := (w.wr CCBOOT.STATUS.MISSING 0xFFFF).wr CCBOOT.STATUS.STATE 2
      { w with digest := (p.take 4).flatMap fun b => bytesOf b 8, imgLen := len, imgVer := p.getD 4 0 / 4294967296 }

/-- CC_MSG_FW_BLOCK (R225, R226). -/
def Cw.msgFwBlock (w : Cw) (down : Bool) (m : MsgFrame) : Cw :=
  let w := w.pass down m
  if !w.actsOn down m 7 || !(w.mine m || m.dest = 0x7F) then w
  else
    let w := { w with lastTag := some m.tag }
    if !(w.idle || w.st = 5) then w.count CCBOOT.CNT.REFUSED
    else
      let isBlock := decide (m.addr < 768) && decide (1 ≤ m.len)
      let isFinal := m.addr = 0xFFFF && m.len = 5
      if !isBlock && !isFinal then w
      else
        let w := if w.armed then w.loadBegin else w
        if w.rd CCBOOT.STATUS.STATE ≠ 1 then w
        else if isBlock then w.loadBlock m.addr m.payload else w.loadFinal m.payload

/-- A block of the image area with one of its bytes set. -/
def Cw.imgSet (w : Cw) (a v : Nat) : Cw :=
  let old := Tab.get (fun _ => []) w.img (a / 64)
  let full := (List.range 64).map fun i => (old[i]?).getD (Config.freeByte (1000000 + w.n) (a - a % 64 + i))
  { w with img := Tab.set (fun _ => []) w.img (a / 64) (full.set (a % 64) (BitVec.ofNat 8 v)) }

/-- The image as the SM3 check reads it: bytes never written are the SRAM's own, which the spec does not state (log 20). -/
def Cw.image (w : Cw) : List Byte :=
  ((List.range (ceilDiv w.imgLen 64)).flatMap fun n =>
    let b := Tab.get (fun _ => []) w.img n
    (List.range 64).map fun i => (b[i]?).getD (Config.freeByte (1000000 + w.n) (64 * n + i))).take w.imgLen

/-- SM3 over the image as the SRAM holds it gives the digest received. -/
def Cw.imageGood (w : Cw) : Bool := decide (sm3 (w.image.map BitVec.toNat) = w.digest)

/-- The image is found bad (R226): the core does not run, and STATE is BOOT unless FAILED_BYPASSED. -/
def Cw.badHash (w : Cw) : Cw :=
  let w := (({ w with recheck := false }).wr CCBOOT.STATUS.STATE 4).wr CCBOOT.IMGVER.VERSION 0
  if w.st = 5 ∨ w.st = 0 then w else w.blockNow.setSt 0

/-- SM3_CHECK_DONE (R226): after a load the core is released at 0x0000_0000 or the image is bad; after a core reset it restarts.
`flips` are bytes of the image area that have changed of themselves since it was written. -/
def Cw.sm3Done (w : Cw) (flips : List (Fin 49152 × Byte)) : Cw :=
  let w := flips.foldl (fun w f => w.imgSet f.1 f.2.toNat) w
  let st := w.rd CCBOOT.STATUS.STATE
  if w.halted then w
  else if st = 2 then
    if w.imageGood then
      let w := ((w.wr CCBOOT.STATUS.STATE 3).count CCBOOT.CNT.LOADS).wr CCBOOT.IMGVER.VERSION w.imgVer
      let w := { w with held := false, core := {} }
      if w.st = 5 then w else w.setSt 1
    else w.badHash
  else if st = 3 ∧ w.recheck then
    if w.imageGood then { w with recheck := false, core := {} } else w.badHash
  else w

/-! ### The core (R223, R234, R235) -/

/-- CORE_WATCHDOG_EXPIRY: the timeout has passed since the last kick. -/
def Cw.coreExpiry (w : Cw) : Cw :=
  match w.kickAt with
  | some t =>
    if w.now < t + 4000 * w.rd CCWDOG.CORE.TIMEOUT_US then w
    else
      let w := { w with expired := true, kickAt := none }.count CCWDOG.WSTAT.EXPIRIES
      if w.on CCWDOG.CORE.EN then w.coreReset 2 else w
  | none => w

/-- DEBUG_HALT (R234): the TAP of a development-grade part alone. -/
def Cw.debugHalt (w : Cw) (halt : Bool) : Cw := if Config.devGrade (w.n + 1) then { w with halted := halt } else w

/-! ### The rest of the firing's timing (R230) -/

/-- BYP_FIRE_PULSE_END. -/
def Cw.pulseEnd (w : Cw) : Cw :=
  match w.fireAt with
  | some t =>
    if w.bypOn ∧ t + 4000000 * w.rd CCBYP.CFG.PULSE_MS ≤ w.now then
      { w with bypOn := false }.emit (.bypFire w.string w.place false)
    else w
  | none => w

/-- BYPASS_CONFIRM_TIMEOUT. -/
def Cw.confirmTimeout (w : Cw) : Cw :=
  match w.fireAt with
  | some t =>
    if !w.on CCBYP.STATUS.CONFIRMED ∧ t + 4000000 * w.rd CCBYP.CFG.CONFIRM_MS ≤ w.now then w.set1 CCBYP.STATUS.UNCONFIRMED
    else w
  | none => w

/-! ### Lanes beside their training -/

/-- The up or down lane's variables. -/
def Cw.laneSt (w : Cw) (down : Bool) : LaneSt := if down then w.down else w.up
def Cw.putLaneSt (w : Cw) (down : Bool) (x : LaneSt) : Cw := if down then { w with down := x } else { w with up := x }

/-- One bit of the pattern at the checker of a lane in test (R218, R235). -/
def Cw.testBit (w : Cw) (down : Bool) (t : Nat × Nat) (b : Bool) : Cw :=
  let r := (w.laneSt down).check (w.on CCLINK.TEST.CHK_LOCK) t b
  let w := (w.putLaneSt down r.1).wr CCLINK.TEST.CHK_LOCK (b2n r.2.1)
  if r.2.2 = some true then w.count CCLINK.PRBSERR.COUNT (b2n down) else w

/-- CC_LINK_TEST_END (R218, R235): the bits received during the test, then the end of the test at DUR. -/
def Cw.linkTestEnd (w : Cw) (upBits downBits : List Bool) : Cw :=
  let feed (w : Cw) (down : Bool) (bs : List Bool) : Cw :=
    match prbsTaps (w.rd CCLINK.TEST.PATTERN) with
    | some t =>
      if w.inTest down && w.on CCLINK.TEST.CHK then
        let g := (w.laneSt down).testInput t (w.on CCLINK.TEST.GEN) (w.on CCLINK.TEST.LOOP) (w.on CCLINK.TEST.INV) bs
        g.2.foldl (fun w b => w.testBit down t b) (w.putLaneSt down g.1)
      else w
    | none => w
  let w := feed (feed w false upBits) true downBits
  match w.testEnd with
  | some t => if t ≤ w.now then w.testOver else w
  | none => w

/-- CC_RATE_LIMIT_RESET (R208): neither receiver has had signal for 10 ms. -/
def Cw.rateLimitReset (w : Cw) : Cw := (w.wr CCLINK.LSTAT.RLIMIT 2 0).wr CCLINK.LSTAT.RLIMIT 2 1

/-- FOM_MEASURE at a cell's lane (R214). -/
def Cw.fom (w : Cw) (down : Bool) (fom : Nat) : Cw :=
  if (w.lnk down).bst = 7 then w.wr CCLINK.LSTAT.FOM fom (b2n down) else w

/-- CODE_ERROR at a cell's lane (R203, R235). -/
def Cw.codeError (w : Cw) (down : Bool) : Cw := w.count CCLINK.CODEERR.COUNT (b2n down)

/-! ### Resets (R223, R224) -/

/-- CC_RESET_RELEASE: the cell leaves cold reset in STATE BOOT, and both lanes start their bring-up. -/
def Cw.release (w : Cw) : Cw :=
  if w.run then w
  else
    let w := { w with run := true, kickAt := some w.now, off := -((w.now : Int) * 65536), adc := { w.adc with bufSince := w.now, start := w.now } }
    (w.startLane false).startLane true

end Sys2Proof.Machine
end

