-- ==== Sys2Proof/Machine/ScMap.lean ====
section
/-!
DEFINITION. Machine/ScMap.lean: the 8-bit registers of a safety companion, from the register map of R354.
-/
namespace Sys2Proof.Machine

/-! ### SC (R354, spec/16_safety_companion.md) -/

/-- SC.ID.GRADE [7:4] -/
def Reg.SC.ID.GRADE : Fld := ⟨765, 4, 15, 15, false, false⟩
/-- SC.ID.REV [3:0] -/
def Reg.SC.ID.REV : Fld := ⟨766, 4, 1, 1, false, false⟩
/-- SC.MODE.STATE [7:6] -/
def Reg.SC.MODE.STATE : Fld := ⟨767, 2, 2, 2, false, false⟩
/-- SC.MODE.CONFIRM_PEND [5:5] -/
def Reg.SC.MODE.CONFIRM_PEND : Fld := ⟨768, 1, 0, 0, false, false⟩
/-- SC.MODE.REQ [1:0] -/
def Reg.SC.MODE.REQ : Fld := ⟨769, 2, 0, 0, false, false⟩
/-- SC.STATUS.PERMIT [7:7] -/
def Reg.SC.STATUS.PERMIT : Fld := ⟨770, 1, 0, 0, false, false⟩
/-- SC.STATUS.PQ_OK [6:6] -/
def Reg.SC.STATUS.PQ_OK : Fld := ⟨771, 1, 0, 0, false, false⟩
/-- SC.STATUS.ISO_OK [5:5] -/
def Reg.SC.STATUS.ISO_OK : Fld := ⟨772, 1, 0, 0, false, false⟩
/-- SC.STATUS.SAG [4:4] -/
def Reg.SC.STATUS.SAG : Fld := ⟨773, 1, 0, 0, false, false⟩
/-- SC.STATUS.ESW_BUSY [2:2] -/
def Reg.SC.STATUS.ESW_BUSY : Fld := ⟨774, 1, 0, 0, false, false⟩
/-- SC.STATUS.EARTHED [1:1] -/
def Reg.SC.STATUS.EARTHED : Fld := ⟨775, 1, 0, 0, false, false⟩
/-- SC.STATUS.DOORS_OK [0:0] -/
def Reg.SC.STATUS.DOORS_OK : Fld := ⟨776, 1, 0, 0, false, false⟩
/-- SC.LOCKOUT.GENERAL [7:7] -/
def Reg.SC.LOCKOUT.GENERAL : Fld := ⟨777, 1, 1, 1, false, false⟩
/-- SC.LOCKOUT.ACC [6:6] -/
def Reg.SC.LOCKOUT.ACC : Fld := ⟨778, 1, 0, 0, false, false⟩
/-- SC.LOCKOUT.ESW [5:5] -/
def Reg.SC.LOCKOUT.ESW : Fld := ⟨779, 1, 0, 0, false, false⟩
/-- SC.GENCAUSE.POWER_UP [7:7] -/
def Reg.SC.GENCAUSE.POWER_UP : Fld := ⟨780, 1, 1, 1, false, false⟩
/-- SC.GENCAUSE.CONFIG [6:6] -/
def Reg.SC.GENCAUSE.CONFIG : Fld := ⟨781, 1, 0, 0, false, false⟩
/-- SC.GENCAUSE.SUPPLY_LOW [5:5] -/
def Reg.SC.GENCAUSE.SUPPLY_LOW : Fld := ⟨782, 1, 0, 0, false, false⟩
/-- SC.GENCAUSE.ISO [4:4] -/
def Reg.SC.GENCAUSE.ISO : Fld := ⟨783, 1, 0, 0, false, false⟩
/-- SC.GENCAUSE.PQ [3:3] -/
def Reg.SC.GENCAUSE.PQ : Fld := ⟨784, 1, 0, 0, false, false⟩
/-- SC.GENCAUSE.PERMIT_RB [2:2] -/
def Reg.SC.GENCAUSE.PERMIT_RB : Fld := ⟨785, 1, 0, 0, false, false⟩
/-- SC.GENCAUSE.OUTPUT [1:1] -/
def Reg.SC.GENCAUSE.OUTPUT : Fld := ⟨786, 1, 0, 0, false, false⟩
/-- SC.FUNCCAUSE.ACC_DISC [7:7] -/
def Reg.SC.FUNCCAUSE.ACC_DISC : Fld := ⟨787, 1, 0, 0, false, false⟩
/-- SC.FUNCCAUSE.ACC_WB [6:6] -/
def Reg.SC.FUNCCAUSE.ACC_WB : Fld := ⟨788, 1, 0, 0, false, false⟩
/-- SC.FUNCCAUSE.ACC_FORCED [5:5] -/
def Reg.SC.FUNCCAUSE.ACC_FORCED : Fld := ⟨789, 1, 0, 0, false, false⟩
/-- SC.FUNCCAUSE.ESW_DISC [4:4] -/
def Reg.SC.FUNCCAUSE.ESW_DISC : Fld := ⟨790, 1, 0, 0, false, false⟩
/-- SC.FUNCCAUSE.ESW_WB [3:3] -/
def Reg.SC.FUNCCAUSE.ESW_WB : Fld := ⟨791, 1, 0, 0, false, false⟩
/-- SC.FUNCCAUSE.ESW_FB [2:2] -/
def Reg.SC.FUNCCAUSE.ESW_FB : Fld := ⟨792, 1, 0, 0, false, false⟩
/-- SC.FUNCCAUSE.ESW_LIVE [1:1] -/
def Reg.SC.FUNCCAUSE.ESW_LIVE : Fld := ⟨793, 1, 0, 0, false, false⟩
/-- SC.RSTSTAT.STUCK [7:7] -/
def Reg.SC.RSTSTAT.STUCK : Fld := ⟨794, 1, 0, 0, false, false⟩
/-- SC.RSTSTAT.REFUSED [6:6] -/
def Reg.SC.RSTSTAT.REFUSED : Fld := ⟨795, 1, 0, 0, false, false⟩
/-- SC.RSTSTAT.STUCK_SEEN [5:5] -/
def Reg.SC.RSTSTAT.STUCK_SEEN : Fld := ⟨796, 1, 0, 0, false, false⟩
/-- SC.RSTSTAT.DONE [4:4] -/
def Reg.SC.RSTSTAT.DONE : Fld := ⟨797, 1, 0, 0, false, false⟩
/-- SC.INCFG.EN [7:7] -/
def Reg.SC.INCFG.EN : Fld := ⟨798, 1, 0, 0, false, false⟩
/-- SC.INCFG.TYPE [6:6] -/
def Reg.SC.INCFG.TYPE : Fld := ⟨799, 1, 1, 1, false, false⟩
/-- SC.INCFG.WB_EN [5:5] -/
def Reg.SC.INCFG.WB_EN : Fld := ⟨800, 1, 0, 0, false, false⟩
/-- SC.INCFG.FILT [3:0] -/
def Reg.SC.INCFG.FILT : Fld := ⟨801, 4, 3, 3, false, false⟩
/-- SC.PAIRCFG.EN [7:7] -/
def Reg.SC.PAIRCFG.EN : Fld := ⟨802, 1, 0, 0, false, false⟩
/-- SC.PAIRCFG.ANTI [6:6] -/
def Reg.SC.PAIRCFG.ANTI : Fld := ⟨803, 1, 0, 0, false, false⟩
/-- SC.PAIRCFG.ROLE [2:0] -/
def Reg.SC.PAIRCFG.ROLE : Fld := ⟨804, 3, 0, 0, false, false⟩
/-- SC.DISC_TIME.TIME [7:0] -/
def Reg.SC.DISC_TIME.TIME : Fld := ⟨805, 8, 50, 50, false, false⟩
/-- SC.INSTATE.IN [7:0] -/
def Reg.SC.INSTATE.IN : Fld := ⟨806, 8, 255, 255, false, false⟩
/-- SC.PAIRACT.ACT [7:0] -/
def Reg.SC.PAIRACT.ACT : Fld := ⟨807, 8, 0, 0, false, false⟩
/-- SC.PAIRDIS.DIS [7:0] -/
def Reg.SC.PAIRDIS.DIS : Fld := ⟨808, 8, 0, 0, false, false⟩
/-- SC.DISCCNT.CNT [7:0] -/
def Reg.SC.DISCCNT.CNT : Fld := ⟨809, 8, 0, 0, false, false⟩
/-- SC.OUTCFG.EN [7:7] -/
def Reg.SC.OUTCFG.EN : Fld := ⟨810, 1, 0, 0, false, false⟩
/-- SC.OUTCFG.FUNC [6:4] -/
def Reg.SC.OUTCFG.FUNC : Fld := ⟨811, 3, 0, 0, false, false⟩
/-- SC.OUTCFG.OW_EN [3:3] -/
def Reg.SC.OUTCFG.OW_EN : Fld := ⟨812, 1, 0, 0, false, false⟩
/-- SC.OUTSTATE.OUT [7:0] -/
def Reg.SC.OUTSTATE.OUT : Fld := ⟨813, 8, 0, 0, false, false⟩
/-- SC.TEST_PERIOD.P [7:0] -/
def Reg.SC.TEST_PERIOD.P : Fld := ⟨814, 8, 10, 10, false, false⟩
/-- SC.PULSE.P [7:0] -/
def Reg.SC.PULSE.P : Fld := ⟨815, 8, 30, 30, false, false⟩
/-- SC.OUTFORCE.FORCE [7:0] -/
def Reg.SC.OUTFORCE.FORCE : Fld := ⟨816, 8, 0, 0, false, false⟩
/-- SC.OUTDIAG.LOCKED [7:7] -/
def Reg.SC.OUTDIAG.LOCKED : Fld := ⟨817, 1, 0, 0, false, false⟩
/-- SC.OUTDIAG.SHORT_FS [6:6] -/
def Reg.SC.OUTDIAG.SHORT_FS : Fld := ⟨818, 1, 0, 0, false, false⟩
/-- SC.OUTDIAG.CROSS [5:5] -/
def Reg.SC.OUTDIAG.CROSS : Fld := ⟨819, 1, 0, 0, false, false⟩
/-- SC.OUTDIAG.OVERLOAD [4:4] -/
def Reg.SC.OUTDIAG.OVERLOAD : Fld := ⟨820, 1, 0, 0, false, false⟩
/-- SC.OUTDIAG.OVERTEMP [3:3] -/
def Reg.SC.OUTDIAG.OVERTEMP : Fld := ⟨821, 1, 0, 0, false, false⟩
/-- SC.OUTDIAG.OPEN_WIRE [2:2] -/
def Reg.SC.OUTDIAG.OPEN_WIRE : Fld := ⟨822, 1, 0, 0, false, false⟩
/-- SC.OUTDIAG.SW_FAIL [1:1] -/
def Reg.SC.OUTDIAG.SW_FAIL : Fld := ⟨823, 1, 0, 0, false, false⟩
/-- SC.ESWCFG.FBTIME [7:4] -/
def Reg.SC.ESWCFG.FBTIME : Fld := ⟨824, 4, 12, 12, false, false⟩
/-- SC.ESWCFG.DELAY [3:0] -/
def Reg.SC.ESWCFG.DELAY : Fld := ⟨825, 4, 5, 5, false, false⟩
/-- SC.ESWREQ.REQ [7:0] -/
def Reg.SC.ESWREQ.REQ : Fld := ⟨826, 8, 0, 0, false, false⟩
/-- SC.ESWSTAT.STATE [7:5] -/
def Reg.SC.ESWSTAT.STATE : Fld := ⟨827, 3, 0, 0, false, false⟩
/-- SC.ESWSTAT.REFUSED [4:4] -/
def Reg.SC.ESWSTAT.REFUSED : Fld := ⟨828, 1, 0, 0, false, false⟩
/-- SC.FSV.V [7:0] -/
def Reg.SC.FSV.V : Fld := ⟨829, 8, 0, 0, false, false⟩
/-- SC.SUPSTAT.SAG [7:7] -/
def Reg.SC.SUPSTAT.SAG : Fld := ⟨830, 1, 0, 0, false, false⟩
/-- SC.SUPSTAT.SAG_SEEN [6:6] -/
def Reg.SC.SUPSTAT.SAG_SEEN : Fld := ⟨831, 1, 0, 0, false, false⟩
/-- SC.SUPSTAT.LOW_SEEN [5:5] -/
def Reg.SC.SUPSTAT.LOW_SEEN : Fld := ⟨832, 1, 0, 0, false, false⟩
/-- SC.ISOCNT.CNT [7:0] -/
def Reg.SC.ISOCNT.CNT : Fld := ⟨833, 8, 0, 0, false, false⟩
/-- SC.SECSTAT.UNLOCKED [7:7] -/
def Reg.SC.SECSTAT.UNLOCKED : Fld := ⟨834, 1, 0, 0, false, false⟩
/-- SC.SECSTAT.BARRED [6:6] -/
def Reg.SC.SECSTAT.BARRED : Fld := ⟨835, 1, 0, 0, false, false⟩
/-- SC.SECSTAT.LOG_FULL [5:5] -/
def Reg.SC.SECSTAT.LOG_FULL : Fld := ⟨836, 1, 0, 0, false, false⟩
/-- SC.SECSTAT.CRC_BAD [4:4] -/
def Reg.SC.SECSTAT.CRC_BAD : Fld := ⟨837, 1, 0, 0, false, false⟩
/-- SC.SECSTAT.TRIES [1:0] -/
def Reg.SC.SECSTAT.TRIES : Fld := ⟨838, 2, 0, 0, false, false⟩
/-- SC.UNLOCK.B [7:0] -/
def Reg.SC.UNLOCK.B : Fld := ⟨839, 8, 0, 0, false, false⟩
/-- SC.SECCTL.RELOCK [0:0] -/
def Reg.SC.SECCTL.RELOCK : Fld := ⟨840, 1, 0, 0, false, false⟩
/-- SC.PWD.B [7:0] -/
def Reg.SC.PWD.B : Fld := ⟨841, 8, 0, 0, false, false⟩
/-- SC.CRC.B [7:0] -/
def Reg.SC.CRC.B : Fld := ⟨842, 8, 0, 0, false, false⟩
/-- SC.CONFIRM.B [7:0] -/
def Reg.SC.CONFIRM.B : Fld := ⟨843, 8, 0, 0, false, false⟩
/-- SC.LOGCOUNT.B [7:0] -/
def Reg.SC.LOGCOUNT.B : Fld := ⟨844, 8, 0, 0, false, false⟩
/-- SC.LOGIDX.B [7:0] -/
def Reg.SC.LOGIDX.B : Fld := ⟨845, 8, 0, 0, false, false⟩
/-- SC.LOGDATA.B [7:0] -/
def Reg.SC.LOGDATA.B : Fld := ⟨846, 8, 0, 0, false, false⟩

def rowsScSc0 : List Row := [
  ⟨0x0, 1, 0x0, 1, 0x0, .plain, none, false, .none, [⟨4, 4, Reg.SC.ID.GRADE, 0, .ro, []⟩, ⟨0, 4, Reg.SC.ID.REV, 0, .ro, []⟩]⟩,
  ⟨0x1, 1, 0x0, 1, 0x0, .mode, none, false, .none, [⟨6, 2, Reg.SC.MODE.STATE, 0, .ro, []⟩, ⟨5, 1, Reg.SC.MODE.CONFIRM_PEND, 0, .ro, []⟩, ⟨0, 2, Reg.SC.MODE.REQ, 0, .wo, []⟩]⟩,
  ⟨0x2, 1, 0x0, 1, 0x0, .plain, none, false, .none, [⟨7, 1, Reg.SC.STATUS.PERMIT, 0, .ro, []⟩, ⟨6, 1, Reg.SC.STATUS.PQ_OK, 0, .ro, []⟩, ⟨5, 1, Reg.SC.STATUS.ISO_OK, 0, .ro, []⟩, ⟨4, 1, Reg.SC.STATUS.SAG, 0, .ro, []⟩, ⟨2, 1, Reg.SC.STATUS.ESW_BUSY, 0, .ro, []⟩, ⟨1, 1, Reg.SC.STATUS.EARTHED, 0, .ro, []⟩, ⟨0, 1, Reg.SC.STATUS.DOORS_OK, 0, .ro, []⟩]⟩,
  ⟨0x3, 1, 0x0, 1, 0x0, .plain, none, false, .none, [⟨7, 1, Reg.SC.LOCKOUT.GENERAL, 0, .ro, []⟩, ⟨6, 1, Reg.SC.LOCKOUT.ACC, 0, .ro, []⟩, ⟨5, 1, Reg.SC.LOCKOUT.ESW, 0, .ro, []⟩]⟩,
  ⟨0x4, 1, 0x0, 1, 0x0, .plain, none, false, .none, [⟨7, 1, Reg.SC.GENCAUSE.POWER_UP, 0, .ro, []⟩, ⟨6, 1, Reg.SC.GENCAUSE.CONFIG, 0, .ro, []⟩, ⟨5, 1, Reg.SC.GENCAUSE.SUPPLY_LOW, 0, .ro, []⟩, ⟨4, 1, Reg.SC.GENCAUSE.ISO, 0, .ro, []⟩, ⟨3, 1, Reg.SC.GENCAUSE.PQ, 0, .ro, []⟩, ⟨2, 1, Reg.SC.GENCAUSE.PERMIT_RB, 0, .ro, []⟩, ⟨1, 1, Reg.SC.GENCAUSE.OUTPUT, 0, .ro, []⟩]⟩,
  ⟨0x5, 1, 0x0, 1, 0x0, .plain, none, false, .none, [⟨7, 1, Reg.SC.FUNCCAUSE.ACC_DISC, 0, .ro, []⟩, ⟨6, 1, Reg.SC.FUNCCAUSE.ACC_WB, 0, .ro, []⟩, ⟨5, 1, Reg.SC.FUNCCAUSE.ACC_FORCED, 0, .ro, []⟩, ⟨4, 1, Reg.SC.FUNCCAUSE.ESW_DISC, 0, .ro, []⟩, ⟨3, 1, Reg.SC.FUNCCAUSE.ESW_WB, 0, .ro, []⟩, ⟨2, 1, Reg.SC.FUNCCAUSE.ESW_FB, 0, .ro, []⟩, ⟨1, 1, Reg.SC.FUNCCAUSE.ESW_LIVE, 0, .ro, []⟩]⟩,
  ⟨0x6, 1, 0x0, 1, 0x0, .plain, none, false, .none, [⟨7, 1, Reg.SC.RSTSTAT.STUCK, 0, .ro, []⟩, ⟨6, 1, Reg.SC.RSTSTAT.REFUSED, 0, .w1c, []⟩, ⟨5, 1, Reg.SC.RSTSTAT.STUCK_SEEN, 0, .w1c, []⟩, ⟨4, 1, Reg.SC.RSTSTAT.DONE, 0, .w1c, []⟩]⟩,
  ⟨0x10, 16, 0x1, 1, 0x0, .plain, none, false, .none, [⟨7, 1, Reg.SC.INCFG.EN, 0, .prm, []⟩, ⟨6, 1, Reg.SC.INCFG.TYPE, 0, .prm, []⟩, ⟨5, 1, Reg.SC.INCFG.WB_EN, 0, .prm, []⟩, ⟨0, 4, Reg.SC.INCFG.FILT, 0, .prm, [(1, 15)]⟩]⟩,
  ⟨0x20, 8, 0x1, 1, 0x0, .plain, none, false, .none, [⟨7, 1, Reg.SC.PAIRCFG.EN, 0, .prm, []⟩, ⟨6, 1, Reg.SC.PAIRCFG.ANTI, 0, .prm, []⟩, ⟨0, 3, Reg.SC.PAIRCFG.ROLE, 0, .prm, [(0, 4)]⟩]⟩,
  ⟨0x28, 8, 0x1, 1, 0x0, .plain, none, false, .none, [⟨0, 8, Reg.SC.DISC_TIME.TIME, 0, .prm, [(2, 255)]⟩]⟩,
  ⟨0x30, 4, 0x1, 1, 0x0, .plain, none, false, .none, [⟨0, 8, Reg.SC.INSTATE.IN, 0, .ro, []⟩]⟩,
  ⟨0x34, 1, 0x0, 1, 0x0, .plain, none, false, .none, [⟨0, 8, Reg.SC.PAIRACT.ACT, 0, .ro, []⟩]⟩]

def rowsScSc1 : List Row := [
  ⟨0x35, 1, 0x0, 1, 0x0, .plain, none, false, .none, [⟨0, 8, Reg.SC.PAIRDIS.DIS, 0, .ro, []⟩]⟩,
  ⟨0x38, 8, 0x1, 1, 0x0, .plain, none, false, .none, [⟨0, 8, Reg.SC.DISCCNT.CNT, 0, .ro, []⟩]⟩,
  ⟨0x40, 8, 0x1, 1, 0x0, .plain, none, false, .none, [⟨7, 1, Reg.SC.OUTCFG.EN, 0, .prm, []⟩, ⟨4, 3, Reg.SC.OUTCFG.FUNC, 0, .prm, [(0, 4)]⟩, ⟨3, 1, Reg.SC.OUTCFG.OW_EN, 0, .prm, []⟩]⟩,
  ⟨0x48, 1, 0x0, 1, 0x0, .plain, none, false, .none, [⟨0, 8, Reg.SC.OUTSTATE.OUT, 0, .ro, []⟩]⟩,
  ⟨0x49, 1, 0x0, 1, 0x0, .plain, none, false, .none, [⟨0, 8, Reg.SC.TEST_PERIOD.P, 0, .prm, [(1, 255)]⟩]⟩,
  ⟨0x4a, 1, 0x0, 1, 0x0, .plain, none, false, .none, [⟨0, 8, Reg.SC.PULSE.P, 0, .prm, [(10, 90)]⟩]⟩,
  ⟨0x4b, 1, 0x0, 1, 0x0, .outforce, none, false, .none, [⟨0, 8, Reg.SC.OUTFORCE.FORCE, 0, .rw, []⟩]⟩,
  ⟨0x50, 8, 0x1, 1, 0x0, .plain, none, false, .none, [⟨7, 1, Reg.SC.OUTDIAG.LOCKED, 0, .ro, []⟩, ⟨6, 1, Reg.SC.OUTDIAG.SHORT_FS, 0, .w1c, []⟩, ⟨5, 1, Reg.SC.OUTDIAG.CROSS, 0, .w1c, []⟩, ⟨4, 1, Reg.SC.OUTDIAG.OVERLOAD, 0, .w1c, []⟩, ⟨3, 1, Reg.SC.OUTDIAG.OVERTEMP, 0, .w1c, []⟩, ⟨2, 1, Reg.SC.OUTDIAG.OPEN_WIRE, 0, .w1c, []⟩, ⟨1, 1, Reg.SC.OUTDIAG.SW_FAIL, 0, .w1c, []⟩]⟩,
  ⟨0x60, 1, 0x0, 1, 0x0, .plain, none, false, .none, [⟨4, 4, Reg.SC.ESWCFG.FBTIME, 0, .prm, [(1, 15)]⟩, ⟨0, 4, Reg.SC.ESWCFG.DELAY, 0, .prm, [(1, 15)]⟩]⟩,
  ⟨0x61, 1, 0x0, 1, 0x0, .eswreq, none, false, .none, [⟨0, 8, Reg.SC.ESWREQ.REQ, 0, .wo, []⟩]⟩,
  ⟨0x62, 1, 0x0, 1, 0x0, .plain, none, false, .none, [⟨5, 3, Reg.SC.ESWSTAT.STATE, 0, .ro, []⟩, ⟨4, 1, Reg.SC.ESWSTAT.REFUSED, 0, .w1c, []⟩]⟩,
  ⟨0x70, 1, 0x0, 1, 0x0, .plain, none, false, .none, [⟨0, 8, Reg.SC.FSV.V, 0, .ro, []⟩]⟩]

def rowsScSc2 : List Row := [
  ⟨0x71, 1, 0x0, 1, 0x0, .plain, none, false, .none, [⟨7, 1, Reg.SC.SUPSTAT.SAG, 0, .ro, []⟩, ⟨6, 1, Reg.SC.SUPSTAT.SAG_SEEN, 0, .w1c, []⟩, ⟨5, 1, Reg.SC.SUPSTAT.LOW_SEEN, 0, .w1c, []⟩]⟩,
  ⟨0x72, 1, 0x0, 1, 0x0, .plain, none, false, .none, [⟨0, 8, Reg.SC.ISOCNT.CNT, 0, .ro, []⟩]⟩,
  ⟨0x80, 1, 0x0, 1, 0x0, .plain, none, false, .none, [⟨7, 1, Reg.SC.SECSTAT.UNLOCKED, 0, .ro, []⟩, ⟨6, 1, Reg.SC.SECSTAT.BARRED, 0, .ro, []⟩, ⟨5, 1, Reg.SC.SECSTAT.LOG_FULL, 0, .ro, []⟩, ⟨4, 1, Reg.SC.SECSTAT.CRC_BAD, 0, .w1c, []⟩, ⟨0, 2, Reg.SC.SECSTAT.TRIES, 0, .ro, []⟩]⟩,
  ⟨0x81, 4, 0x1, 1, 0x0, .unlock, none, false, .none, [⟨0, 8, Reg.SC.UNLOCK.B, 0, .wo, []⟩]⟩,
  ⟨0x85, 1, 0x0, 1, 0x0, .secctl, none, false, .none, [⟨0, 1, Reg.SC.SECCTL.RELOCK, 0, .wo, []⟩]⟩,
  ⟨0x86, 4, 0x1, 1, 0x0, .pwd, none, false, .none, [⟨0, 8, Reg.SC.PWD.B, 0, .wo, []⟩]⟩,
  ⟨0x8a, 4, 0x1, 1, 0x0, .crc, none, false, .none, [⟨0, 8, Reg.SC.CRC.B, 0, .ro, []⟩]⟩,
  ⟨0x8e, 4, 0x1, 1, 0x0, .confirm, none, false, .none, [⟨0, 8, Reg.SC.CONFIRM.B, 0, .wo, []⟩]⟩,
  ⟨0x92, 2, 0x1, 1, 0x0, .plain, none, false, .none, [⟨0, 8, Reg.SC.LOGCOUNT.B, 0, .ro, []⟩]⟩,
  ⟨0x94, 2, 0x1, 1, 0x0, .logidx, none, false, .none, [⟨0, 8, Reg.SC.LOGIDX.B, 0, .rw, []⟩]⟩,
  ⟨0xa0, 16, 0x1, 1, 0x0, .logdata, none, false, .none, [⟨0, 8, Reg.SC.LOGDATA.B, 0, .ro, []⟩]⟩]

/-- Every row of the map. -/
def scRows : List Row :=
  rowsScSc0 ++ rowsScSc1 ++ rowsScSc2

end Sys2Proof.Machine
end

