-- ==== Sys2Proof/Machine/StateSc.lean ====
section
/-!
DEFINITION. Machine/StateSc.lean: the state of one safety companion as plain data (R328 to R354).
-/
namespace Sys2Proof.Machine

/-- An input's value (R331): BREAK, OPEN or CLOSED, in the encoding of INSTATE. -/
inductive InVal where
  | brk | opn | closed
deriving DecidableEq, Repr

/-- An input beside its setting: the value of its newest sample, whether the present cycle has been sampled and has shown
two values, for how many whole cycles the value has stood, and the filtered state once there is one (R332). -/
structure InSt where
  raw    : InVal := .opn
  seen   : Bool := false
  mixed  : Bool := false
  cycles : Nat := 0
  filt   : Option InVal := none
deriving DecidableEq, Repr

/-- An OFF test under way (R336): the output, whether its high-side switch is opened, since when, and the terminals OUTj_P as
they read before the pulse (R337). -/
structure OffTest where
  k     : Nat
  high  : Bool
  since : Nat
  outP  : Nat
deriving DecidableEq, Repr

/-- A copy of the parameters in non-volatile memory (R347): sequence number, the 43 bytes of the set, CRC-32C. The default is the
blank memory, which is no valid copy. -/
structure ParamCopy where
  seq : Nat := 0
  set : List Nat := []
  crc : Nat := 0
deriving DecidableEq, Repr

/-- One change log entry (R349). -/
structure LogEntry where
  kind    : Nat
  addr    : Nat
  old     : Nat
  new     : Nat
  seconds : Nat
  setCrc  : Nat
deriving DecidableEq, Repr

/-- The state of one SC. The non-volatile part comes first; what is below `power` is as at power-up. -/
structure Sc where
  /-- the two parameter copies in non-volatile memory (R347) -/
  copyA    : ParamCopy := {}
  copyB    : ParamCopy := {}
  pwd      : List Nat := [0, 0, 0, 0]
  log      : List LogEntry := []
  /-- operating seconds before the last power-up -/
  seconds  : Nat := 0
  /-- the logic side has power -/
  power    : Bool := false
  poweredAt : Nat := 0
  /-- registers that are not parameters -/
  regs     : Tab Nat := []
  /-- the active and the staged parameter set, by address (R347) -/
  active   : Tab Nat := []
  staged   : Tab Nat := []
  inputs   : Tab InSt := []
  /-- consecutive DISCREPANT cycle ends of each pair (R334) -/
  disc     : Tab Nat := []
  /-- pairs that set the lock-outs DISC and WB of ACC and of ESW (R344) -/
  accDisc  : Nat := 0
  accWb    : Nat := 0
  eswDisc  : Nat := 0
  eswWb    : Nat := 0
  /-- ESWREQ written and not yet acted on; since when the ESW state stands (R341) -/
  req      : Nat := 0
  eswSince : Nat := 0
  /-- output commands of P and of Q; the switches that the field die holds closed (R328, R335) -/
  cmdP     : Nat := 0
  cmdQ     : Nat := 0
  high     : Nat := 0
  low      : Nat := 0
  /-- outputs locked out by SW_FAIL, bit per output (R344) -/
  swFail   : Nat := 0
  test     : Option OffTest := none
  /-- outputs that did not fall in their high-side pulse, each with the outputs whose pulse is still awaited (R337) -/
  stuck    : List (Nat × Nat) := []
  /-- since when an off output has read energised without a dip -/
  hotSince : Tab Nat := []
  /-- terminals OUTk_P and OUTk_N as last read back -/
  outP     : Nat := 0
  outN     : Nat := 0
  /-- the load currents of the outputs as the last valid frame gave them (R338) -/
  loads    : List Nat := []
  /-- the permit commands of P and of Q (R342) -/
  permitP  : Bool := false
  permitQ  : Bool := false
  /-- cycles in a row with a P and Q difference; the pins (A in bit 0, B in bit 1) at permit while commanded absent in the last
  cycle; cycles in a row with both pins absent while commanded absent -/
  pqRun    : Nat := 0
  rbRun    : Nat := 0
  absentOk : Nat := 0
  /-- the last valid and the last failed isolation frame at each die, and what stands of their loss (R338) -/
  fieldAt  : Nat := 0
  logicAt  : Nat := 0
  badAt    : Option Nat := none
  fieldDead : Bool := false
  logicDead : Bool := false
  /-- since when the supply is below 16.0 V, and its latch (R339) -/
  lowSince : Option Nat := none
  supLow   : Bool := false
  /-- bytes written to UNLOCK, PWD and CONFIRM, and the ends of UNLOCKED, BARRED and CONFIRM_PEND (R348, R350) -/
  unlockB  : List Nat := [0, 0, 0, 0]
  pwdB     : List Nat := [0, 0, 0, 0]
  confirmB : List Nat := [0, 0, 0, 0]
  unlockEnd : Nat := 0
  barEnd   : Nat := 0
  pendSet  : Tab Nat := []
  pendEnd  : Nat := 0
  /-- SEQ of the request last executed, and its response (R351) -/
  lastReq  : Option (Nat × Nat × Nat) := none
deriving DecidableEq, Repr

end Sys2Proof.Machine
end

