-- ==== Sys2Proof/Machine/Sc.lean ====
section
/-!
DEFINITION. Machine/Sc.lean: the safety companion (R328 to R354).
-/
namespace Sys2Proof.Machine
open Reg

/-- A companion during a command: its state, its port, the common time in 250 ps units, and what it sends. -/
structure Sw extends Sc where
  n    : Nat
  now  : Nat
  out  : List Emit := []

/-! ### Registers and parameters (R347, R350, R354) -/

def Sw.rd (w : Sw) (f : Fld) (i : Nat := 0) : Nat := Tab.get (fun _ => f.reset 0) w.regs (f.key i 0)
def Sw.wr (w : Sw) (f : Fld) (v : Nat) (i : Nat := 0) : Sw :=
  { w with regs := Tab.set (fun _ => f.reset 0) w.regs (f.key i 0) (v % 2 ^ f.w) }
def Sw.on (w : Sw) (f : Fld) (i : Nat := 0) : Bool := w.rd f i ≠ 0
def Sw.set1 (w : Sw) (f : Fld) (i : Nat := 0) : Sw := w.wr f 1 i
def Sw.emit (w : Sw) (e : Emit) : Sw := { w with out := w.out ++ [e] }

/-- The reset value of a parameter byte (R354). -/
def paramReset (a : Nat) : Nat :=
  if a < 0x20 then 0x43 else if a < 0x28 then 0 else if a < 0x30 then 0x32 else if a < 0x48 then 0
  else if a = 0x49 then 0x0A else if a = 0x4A then 0x1E else 0xC5

/-- The addresses of the parameter set (R350). -/
def setAddrs : List Nat := (List.range 32).map (· + 0x10) ++ (List.range 8).map (· + 0x40) ++ [0x49, 0x4A, 0x60]

/-- A set as its 43 bytes, and back. -/
def paramBytes (t : Tab Nat) : List Nat := setAddrs.map (Tab.get paramReset t)
def ofSet (bs : List Nat) : Tab Nat := (setAddrs.zip bs).foldl (fun t ab => Tab.set paramReset t ab.1 ab.2) []

/-- An active parameter byte, and the fields of the settings. -/
def Sw.par (w : Sw) (a : Nat) : Nat := Tab.get paramReset w.active a
def Sw.inCfg (w : Sw) (i : Nat) : Nat := w.par (0x10 + i)
def Sw.pairCfg (w : Sw) (j : Nat) : Nat := w.par (0x20 + j)
def Sw.outCfg (w : Sw) (k : Nat) : Nat := w.par (0x40 + k)

/-- The mode (R347): 0 RECOVERY, 1 COMMISSION, 2 RUN. -/
def Sw.mode (w : Sw) : Nat := w.rd SC.MODE.STATE
def Sw.staging (w : Sw) : Bool := w.mode ≠ 2

/-- The set that CRC shows, and its CRC-32C (R350). -/
def Sw.shownSet (w : Sw) : Tab Nat := if w.staging then w.staged else w.active
def setCrc (t : Tab Nat) : Nat := crc32c (paramBytes t)

/-! ### Lock-outs (R344) -/

/-- The lock-outs, from their causes. -/
def Sw.general (w : Sw) : Bool :=
  w.on SC.GENCAUSE.POWER_UP || w.on SC.GENCAUSE.CONFIG || w.on SC.GENCAUSE.SUPPLY_LOW || w.on SC.GENCAUSE.ISO ||
    w.on SC.GENCAUSE.PQ || w.on SC.GENCAUSE.PERMIT_RB || w.on SC.GENCAUSE.OUTPUT
def Sw.acc (w : Sw) : Bool := w.on SC.FUNCCAUSE.ACC_DISC || w.on SC.FUNCCAUSE.ACC_WB || w.on SC.FUNCCAUSE.ACC_FORCED
def Sw.esw (w : Sw) : Bool :=
  w.on SC.FUNCCAUSE.ESW_DISC || w.on SC.FUNCCAUSE.ESW_WB || w.on SC.FUNCCAUSE.ESW_FB || w.on SC.FUNCCAUSE.ESW_LIVE

/-! ### Pairs (R333) -/

/-- The enabled pairs of a role: 1 DOOR, 2 DEENERG, 3 ES_CLOSED, 4 ES_OPEN. -/
def Sw.pairs (w : Sw) (role : Nat) : List Nat :=
  (List.range 8).filter fun j => bit (w.pairCfg j) 7 && bits (w.pairCfg j) 2 0 = role

def Sw.pairActive (w : Sw) (j : Nat) : Bool := bit (w.rd SC.PAIRACT.ACT) j
def Sw.allActive (w : Sw) (role : Nat) : Bool := (w.pairs role).all w.pairActive

/-- A filtered state; a disabled input has none. -/
def Sw.filt (w : Sw) (i : Nat) : Option InVal :=
  if bit (w.inCfg i) 7 then (Tab.get (fun _ => ({} : InSt)) w.inputs i).filt else none

def InVal.invert : InVal → InVal
  | .opn => .closed
  | .closed => .opn
  | .brk => .brk

/-- The two values of a pair, the second inverted under ANTI. -/
def Sw.pairVals (w : Sw) (j : Nat) : Option (InVal × InVal) :=
  match w.filt (2 * j), w.filt (2 * j + 1) with
  | some a, some b => some (a, if bit (w.pairCfg j) 6 then b.invert else b)
  | _, _ => none

/-- A pair whose values are both OPEN. -/
def Sw.pairInactive (w : Sw) (j : Nat) : Bool := w.pairVals j = some (.opn, .opn)

/-- Consistent feedback of the earthing switch (R341). -/
def Sw.fb (w : Sw) (yes no : Nat) : Bool :=
  w.pairs yes ≠ [] && w.pairs no ≠ [] && w.allActive yes && (w.pairs no).all w.pairInactive
def Sw.fbOpen (w : Sw) : Bool := w.fb 4 3
def Sw.fbClosed (w : Sw) : Bool := w.fb 3 4

/-! ### Outputs and permit (R335, R340 to R342) -/

/-- Outputs of a function among the enabled ones, as bits. -/
def Sw.funcOuts (w : Sw) (func : Nat) : Nat := maskOf 8 fun k => bit (w.outCfg k) 7 && bits (w.outCfg k) 6 4 = func

def Sw.eswState (w : Sw) : Nat := w.rd SC.ESWSTAT.STATE

/-- The permit's conditions (R342); a logic die without valid frames withdraws it (R338). -/
def Sw.mayPermit (w : Sw) : Bool :=
  w.mode = 2 && !w.general && !w.acc && !w.esw && w.allActive 1 && w.eswState = 0 && !w.logicDead

/-- The outputs that may be on and are demanded (R335, R340, R341). -/
def Sw.wanted (w : Sw) (permit : Bool) : Nat :=
  let demand (k : Nat) : Bool :=
    if w.staging then bit (w.rd SC.OUTFORCE.FORCE) k
    else match bits (w.outCfg k) 6 4 with
      | 1 => w.eswState = 3 && w.allActive 2 && !w.acc && !w.general
      | 2 => w.eswState = 2
      | 3 => w.eswState = 4
      | 4 => permit
      | _ => false
  if w.supLow || w.fieldDead || w.logicDead || w.on SC.GENCAUSE.PQ then 0
  else maskOf 8 fun k => bit (w.outCfg k) 7 && !w.on SC.OUTDIAG.LOCKED k && demand k

/-- Switches of the outputs in a mask open. -/
def clearMask (a m : Nat) : Nat := maskOf 8 fun k => bit a k && !bit m k

/-- Outputs go off at once. -/
def Sw.off (w : Sw) (m : Nat) : Sw :=
  { w with cmdP := clearMask w.cmdP m, cmdQ := clearMask w.cmdQ m, high := clearMask w.high m, low := clearMask w.low m }

/-- The permit is withdrawn. -/
def Sw.withdraw (w : Sw) : Sw := { w with permitP := false, permitQ := false }.wr SC.STATUS.PERMIT 0

/-- Output `k` goes off and locks out (R335, R337). -/
def Sw.lockOut (w : Sw) (k : Nat) (flag : Fld) : Sw :=
  let w := if flag = SC.OUTDIAG.SW_FAIL then { w with swFail := withBit w.swFail k } else w
  let w := ((w.set1 flag k).set1 SC.OUTDIAG.LOCKED k).set1 SC.GENCAUSE.OUTPUT
  (w.off (2 ^ k)).withdraw

/-- Output `k` is on: both of its switches are closed. -/
def Sw.isOn (w : Sw) (k : Nat) : Bool := bit w.high k && bit w.low k

/-! ### Earthing switch (R341) -/

/-- The ESW state changes at a time. -/
def Sw.eswTo (w : Sw) (st : Nat) : Sw :=
  let w := { w with eswSince := w.now }.wr SC.ESWSTAT.STATE st
  if st = 0 then w else w.withdraw

/-- The motor outputs and the ESW lock-out with a cause (R341). -/
def Sw.eswFail (w : Sw) (cause : Fld) : Sw :=
  let w := w.off (Nat.lor (w.funcOuts 2) (w.funcOuts 3))
  (w.set1 cause).eswTo 5

def Sw.eswRefuse (w : Sw) : Sw := w.set1 SC.ESWSTAT.REFUSED

/-- CLOSE is acted on. -/
def Sw.eswClose (w : Sw) : Sw :=
  if w.req ≠ 1 then w
  else
    let w := { w with req := 0 }
    let st := w.eswState
    if st = 0 ∧ w.mode = 2 ∧ !w.esw ∧ !w.general then w.eswTo 1
    else if st = 0 ∨ st = 3 then w.eswRefuse else w

/-- OPEN is acted on. -/
def Sw.eswOpen (w : Sw) : Sw :=
  if w.req ≠ 2 then w
  else
    let w := { w with req := 0 }
    let st := w.eswState
    if st = 3 ∧ w.allActive 1 ∧ !w.esw ∧ !w.general then (w.off (w.funcOuts 1)).eswTo 4
    else if st = 0 ∨ st = 3 then w.eswRefuse else w

/-- ABORT is acted on. -/
def Sw.eswAbort (w : Sw) : Sw :=
  if w.req ≠ 3 then w
  else
    let w := { w with req := 0 }
    match w.eswState with
    | 1 => w.eswRefuse.eswTo 0
    | 2 => w.eswFail SC.FUNCCAUSE.ESW_FB
    | 4 => w.eswFail SC.FUNCCAUSE.ESW_FB
    | _ => w

/-- ESW_DELAY_EXPIRY: DELAY has passed in WAIT. -/
def Sw.eswDelay (w : Sw) : Sw :=
  if w.eswState ≠ 1 ∨ w.now < w.eswSince + 4000000000 * bits (w.par 0x60) 3 0 then w
  else if w.allActive 2 then w.eswTo 2
  else w.eswRefuse.eswTo 0

/-- ESW_FB_TIMEOUT: FBTIME has passed in CLOSING or OPENING. -/
def Sw.eswFbTimeout (w : Sw) : Sw :=
  if (w.eswState = 2 ∨ w.eswState = 4) ∧ w.eswSince + 4000000000 * bits (w.par 0x60) 7 4 ≤ w.now then
    w.eswFail SC.FUNCCAUSE.ESW_FB
  else w

/-- What the feedback and the DEENERG pairs do at a cycle end. -/
def Sw.eswFeedback (w : Sw) : Sw :=
  match w.eswState with
  | 0 => if w.fbOpen then w else w.eswFail SC.FUNCCAUSE.ESW_FB
  | 2 => if w.fbClosed then (w.off (w.funcOuts 2)).eswTo 3
    else if w.allActive 2 then w else w.eswFail SC.FUNCCAUSE.ESW_LIVE
  | 3 => if w.fbClosed then w else w.eswFail SC.FUNCCAUSE.ESW_FB
  | 4 => if w.fbOpen then (w.off (w.funcOuts 3)).eswTo 0 else w
  | 5 => if w.esw then w else if w.fbOpen then w.eswTo 0 else if w.fbClosed then w.eswTo 3 else w
  | _ => w

/-! ### The safety cycle (R328 to R334, R340, R342) -/

/-- The value a sample gives (R331, R394). -/
def inValue (cfg : Nat) (prev : InVal) (ua : Nat) : InVal :=
  if bit cfg 5 && decide (ua < 300) then .brk
  else if 2000 ≤ ua then .closed
  else if ua ≤ (if bit cfg 6 then 1500 else 500) then .opn
  else prev

/-- A sample of an input: another value ends the count of whole cycles, and is mixed with an earlier sample of its cycle. -/
def InSt.sample (x : InSt) (cfg ua : Nat) : InSt :=
  let v := inValue cfg x.raw ua
  if v = x.raw then { x with seen := true } else { x with raw := v, mixed := x.seen, seen := true, cycles := 0 }

/-- The cycle ends for an input (R332). -/
def InSt.cycleEnd (x : InSt) (cfg : Nat) : InSt :=
  let c := if x.mixed then 0 else min 15 (x.cycles + 1)
  { x with mixed := false, seen := false, cycles := c
           filt := if !bit cfg 7 then none else if cfg % 16 ≤ c then some x.raw else x.filt }

/-- The filters of every input, and INSTATE. -/
def Sw.filterInputs (w : Sw) : Sw :=
  let w := (List.range 16).foldl (fun (w : Sw) i =>
    let x := (Tab.get (fun _ => ({} : InSt)) w.inputs i).cycleEnd (w.inCfg i)
    { w with inputs := Tab.set (fun _ => ({} : InSt)) w.inputs i x }) w
  let code (i : Nat) : Nat := match w.filt i with | some .brk => 0 | some .opn => 1 | some .closed => 2 | none => 3
  (List.range 4).foldl (fun w q =>
    w.wr SC.INSTATE.IN (code (4 * q) + 4 * code (4 * q + 1) + 16 * code (4 * q + 2) + 64 * code (4 * q + 3)) q) w

/-- A pair's function locks out: ACC for DOOR, ESW for the others but NONE (R333, R334). -/
def Sw.pairLock (w : Sw) (j : Nat) (wb : Bool) : Sw :=
  match bits (w.pairCfg j) 2 0 with
  | 0 => w
  | 1 => if wb then { w with accWb := withBit w.accWb j }.set1 SC.FUNCCAUSE.ACC_WB
    else { w with accDisc := withBit w.accDisc j }.set1 SC.FUNCCAUSE.ACC_DISC
  | _ => if wb then { w with eswWb := withBit w.eswWb j }.set1 SC.FUNCCAUSE.ESW_WB
    else { w with eswDisc := withBit w.eswDisc j }.set1 SC.FUNCCAUSE.ESW_DISC

/-- One pair at a cycle end (R333, R334, R340). -/
def Sw.judgePair (w : Sw) (j : Nat) : Sw :=
  let on := bit (w.pairCfg j) 7
  let v := if on then w.pairVals j else none
  let broken := match v with | some (a, b) => a = .brk || b = .brk | none => false
  let act := v = some (.closed, .closed)
  let dis := broken || (match v with | some (a, b) => a ≠ b | none => false)
  let was := w.pairActive j
  let w := w.wr SC.PAIRACT.ACT (if act then withBit (w.rd SC.PAIRACT.ACT) j else withoutBit (w.rd SC.PAIRACT.ACT) j)
  let w := w.wr SC.PAIRDIS.DIS (if dis then withBit (w.rd SC.PAIRDIS.DIS) j else withoutBit (w.rd SC.PAIRDIS.DIS) j)
  let n := Tab.get (fun _ => 0) w.disc j
  let limit := w.par (0x28 + j)
  let set (w : Sw) (c : Nat) : Sw := { w with disc := Tab.set (fun _ => 0) w.disc j c }
  let w :=
    if broken then (set w 0).pairLock j true
    else if dis then
      let w := set w (min 255 (n + 1))
      if n + 1 = limit then w.pairLock j false else w
    else
      let w := set w 0
      if 0 < n ∧ n < limit then w.wr SC.DISCCNT.CNT (sat 8 (w.rd SC.DISCCNT.CNT j + 1)) j else w
  let released := w.funcOuts 1
  if was && !act && on && bits (w.pairCfg j) 2 0 = 1 && Nat.land w.cmdP released = 0 then
    w.set1 SC.FUNCCAUSE.ACC_FORCED
  else w

/-- A test period in 250 ps units, in steps of 100 ms (R336). -/
def Sw.testPeriod (w : Sw) : Nat := w.par 0x49 * 400000000

/-- Outputs whose terminal reads energised while they are off for a whole test period, and high-side pulses that no awaited
output answers any more, give their verdicts (R337). -/
def Sw.settle (w : Sw) : Sw :=
  let w : Sw := { w with stuck := w.stuck.map fun (x : Nat × Nat) => (x.1, maskOf 8 fun k => bit x.2 k && w.isOn k) }
  let done := (w.stuck.filter fun (x : Nat × Nat) => x.2 = 0).map (·.1)
  let w := { w with stuck := w.stuck.filter fun (x : Nat × Nat) => x.2 ≠ 0 }
  let w := done.foldl (fun (w : Sw) k => w.lockOut k SC.OUTDIAG.SHORT_FS) w
  let hot := w.hotSince.filter fun (x : Nat × Nat) => decide (x.2 + w.testPeriod ≤ w.now + 1)
  let w := { w with hotSince := w.hotSince.filter fun (x : Nat × Nat) => !decide (x.2 + w.testPeriod ≤ w.now + 1) }
  hot.foldl (fun (w : Sw) (x : Nat × Nat) => w.lockOut x.1 SC.OUTDIAG.SHORT_FS) w

/-- The logic die reads both permit pins back (R342). -/
def Sw.readPins (w : Sw) (c : ScCycle) : Sw :=
  let pinA := c.pinA.getD w.permitP
  let pinB := c.pinB.getD w.permitQ
  let rb := b2n (pinA && !w.permitP) + 2 * b2n (pinB && !w.permitQ)
  let absent := !w.permitP && !w.permitQ && !pinA && !pinB
  let again := Nat.land rb w.rbRun ≠ 0
  let w : Sw := { w with rbRun := rb, absentOk := if absent then w.absentOk + 1 else 0 }
  if again then w.set1 SC.GENCAUSE.PERMIT_RB else w

/-- The inputs, the pairs and the functions at a cycle end. -/
def Sw.functions (w : Sw) : Sw :=
  let w := (List.range 8).foldl Sw.judgePair w.filterInputs
  w.eswClose.eswOpen.eswAbort.eswFeedback.settle

/-- P and Q compare, and command the switches and the permit (R328): with outputs `o` and permit `p` judged by P, and what Q
gives. -/
def Sw.compare (w : Sw) (o : Nat) (p : Bool) (qo : Nat) (qp qLock : Bool) : Sw :=
  let differ := qo ≠ o || qp ≠ p || qLock
  let w : Sw := { w with pqRun := if differ then w.pqRun + 1 else 0 }
  let w := if 2 ≤ w.pqRun then w.set1 SC.GENCAUSE.PQ else w
  let pq := w.on SC.GENCAUSE.PQ
  let stop := pq || differ
  let w : Sw := { w with cmdP := if pq then 0 else o, cmdQ := if pq then 0 else qo
                         permitP := p && !stop, permitQ := qp && !stop }
  w.wr SC.STATUS.PQ_OK (b2n (!stop))

/-- SAFETY_CYCLE: the end of a 1 ms cycle. -/
def Sw.cycle (w : Sw) (c : ScCycle) : Sw :=
  let w := (w.readPins c).functions
  let p := w.mayPermit
  let o := w.wanted p
  let w := w.compare o p (match c.qOuts with | some b => b.toNat | none => o) (c.qPermit.getD p) c.qLock
  let w := w.wr SC.STATUS.PERMIT (b2n (w.permitP && w.permitQ))
  let w := w.wr SC.STATUS.ISO_OK (b2n (!w.fieldDead && !w.logicDead))
  w.wr SC.STATUS.DOORS_OK (b2n (w.allActive 1))

/-! ### Isolation link and supply (R338, R339) -/

/-- The field die measures the field supply (R339); the logic die, while it has power, shows it in FSV. -/
def Sw.supply (w : Sw) (v : Nat) : Sw :=
  let w : Sw := { w with lowSince := if v < 128 then some (w.lowSince.getD w.now) else none }
  if w.power then w.wr SC.FSV.V v else w

/-- A readback of the output terminals (R335, R337). -/
def Sw.readback (w : Sw) (p n : Nat) : Sw :=
  let w := { w with outP := p, outN := n }
  if w.test.isSome then w
  else { w with hotSince := ((List.range 8).filter fun k => bit p k && !w.isOn k).map fun k =>
    (k, ((w.hotSince.find? fun (x : Nat × Nat) => x.1 = k).map (·.2)).getD w.now) }

/-- ISO_FRAME_RX: a frame reaches a die, its CRC good or not. The field die works whether the logic side has power. -/
def Sw.isoFrame (w : Sw) (good : Bool) (f : IsoFrame) : Sw :=
  if !good then
    if w.power then { w with badAt := some w.now }.wr SC.ISOCNT.CNT (sat 8 (w.rd SC.ISOCNT.CNT + 1)) else w
  else match f with
    | .toField =>
      if !w.power then w
      else
        let free := maskOf 8 fun k => !w.supLow && !w.on SC.OUTDIAG.LOCKED k
        { w with fieldAt := w.now, fieldDead := false, high := Nat.land w.cmdP free, low := Nat.land w.cmdQ free }
    | .toLogic cur p n loads fsv =>
      if !w.power then w.supply fsv.toNat
      else
        let w := { w with logicAt := w.now, logicDead := false, loads := loads.map BitVec.toNat }
        let w := ((List.range 16).zip cur).foldl (fun (w : Sw) ic =>
          let x := (Tab.get (fun _ => ({} : InSt)) w.inputs ic.1).sample (w.inCfg ic.1) ic.2.toNat
          { w with inputs := Tab.set (fun _ => ({} : InSt)) w.inputs ic.1 x }) w
        (w.readback p.toNat n.toNat).supply fsv.toNat

/-- ISO_TIMEOUT: a die has had no valid frame for more than 1 ms. -/
def Sw.isoTimeout (w : Sw) (field : Bool) : Sw :=
  if field then
    if w.now ≤ w.fieldAt + 4000000 then w
    else
      let w := { w with fieldDead := true, high := 0, low := 0 }
      if w.power then w.withdraw.set1 SC.GENCAUSE.ISO else w
  else if !w.power ∨ w.now ≤ w.logicAt + 4000000 then w
  else ({ w with logicDead := true }.withdraw).set1 SC.GENCAUSE.ISO

/-- FIELD_SUPPLY_SAG: below 18.0 V. -/
def Sw.sag (w : Sw) (v : Nat) : Sw :=
  let w := w.supply v
  if w.power && decide (v < 144) then ((w.set1 SC.SUPSTAT.SAG).set1 SC.SUPSTAT.SAG_SEEN).set1 SC.STATUS.SAG else w

/-- FIELD_SUPPLY_SAG_END: above 18.5 V. -/
def Sw.sagEnd (w : Sw) (v : Nat) : Sw :=
  let w := w.supply v
  if w.power && decide (148 < v) then (w.wr SC.SUPSTAT.SAG 0).wr SC.STATUS.SAG 0 else w

/-- SUPPLY_LOW: below 16.0 V for more than 2 ms without break. The off state latches in the field die, whether the logic side has
power. -/
def Sw.supplyLow (w : Sw) : Sw :=
  match w.lowSince with
  | some t =>
    if t + 8000000 < w.now then
      let w := { w with supLow := true, high := 0, low := 0 }
      if w.power then (((w.off 255).withdraw).set1 SC.GENCAUSE.SUPPLY_LOW).set1 SC.SUPSTAT.LOW_SEEN else w
    else w
  | none => w

/-! ### Output faults and OFF tests (R335 to R337) -/

def Sw.overload (w : Sw) (k : Nat) : Sw := if w.isOn k then w.lockOut k SC.OUTDIAG.OVERLOAD else w
def Sw.overtemp (w : Sw) (k : Nat) : Sw := w.lockOut k SC.OUTDIAG.OVERTEMP
def Sw.openWire (w : Sw) (k : Nat) : Sw :=
  if w.isOn k && bit (w.outCfg k) 3 then w.set1 SC.OUTDIAG.OPEN_WIRE k else w

/-- The slot of output `k` starts now: the periods count from power-up (log 117). -/
def Sw.slotStart (w : Sw) (k : Nat) : Bool := decide ((w.now - w.poweredAt) % w.testPeriod = k * (w.testPeriod / 8))

/-- Which side this period tests: high-side and low-side alternate, the high side first (log 117). -/
def Sw.testHigh (w : Sw) : Bool := decide ((w.now - w.poweredAt) / w.testPeriod % 2 = 0)

/-- OFF_TEST: at the start of its slot, the switch of this period's side of an output that is on is opened for PULSE. -/
def Sw.offTest (w : Sw) (k : Nat) (high : Bool) : Sw :=
  if w.isOn k && decide (w.test = none) && w.slotStart k && high = w.testHigh then
    { w with test := some ⟨k, high, w.now, w.outP⟩ }
  else w

/-- OFF_TEST_END: the pulse ends with what was read during it: the terminals OUTj_P that read energised, and whether OUTk_N
rose to within 3 V of OUTk_P. -/
def Sw.offTestEnd (w : Sw) (during : Nat) (nUp : Bool) : Sw :=
  match w.test with
  | none => w
  | some t =>
    if w.now < t.since + 40000 * w.par 0x4A then w
    else
      let w := { w with test := none }
      if !t.high then if nUp then w else w.lockOut t.k SC.OUTDIAG.SW_FAIL
      else
        let dips := (List.range 8).filter fun j => j ≠ t.k && !w.isOn j && bit t.outP j && !bit during j
        let w := { w with hotSince := w.hotSince.filter fun (x : Nat × Nat) => !dips.contains x.1 }
        let w := dips.foldl (fun (w : Sw) j => (w.lockOut j SC.OUTDIAG.CROSS).lockOut t.k SC.OUTDIAG.CROSS) w
        let w :=
          if !bit during t.k then
            { w with stuck := w.stuck.map fun (x : Nat × Nat) => (x.1, withoutBit x.2 t.k) }
          else match w.stuck.find? fun (x : Nat × Nat) => x.1 ≠ t.k && bit x.2 t.k with
            | some x =>
              let w := { w with stuck := w.stuck.filter fun (y : Nat × Nat) => y.1 ≠ x.1 }
              (w.lockOut x.1 SC.OUTDIAG.SHORT_FS).lockOut t.k SC.OUTDIAG.SHORT_FS
            | none =>
              if dips ≠ [] then w
              else { w with stuck := (w.stuck.filter fun (y : Nat × Nat) => y.1 ≠ t.k) ++
                [(t.k, maskOf 8 fun j => j ≠ t.k && w.isOn j)] }
        w.settle

/-! ### The change log and the parameter copies (R347, R349) -/

/-- SC operating seconds. -/
def Sw.secondsNow (w : Sw) : Nat := w.seconds + (w.now - w.poweredAt) / 4000000000

def Sw.logFull (w : Sw) : Bool := decide (4096 ≤ w.log.length)

/-- An entry is appended; SETCRC is that of the active set after the change. -/
def Sw.append (w : Sw) (kind addr old new : Nat) : Sw :=
  { w with log := w.log ++ [⟨kind, addr, old, new, w.secondsNow, setCrc w.active⟩] }

/-- The CRC-32C of a parameter copy, over its sequence number and its set (log 118). -/
def copyCrc (seq : Nat) (set : List Nat) : Nat := crc32c (bytesOfWords [seq] ++ set)

/-- A copy is valid: its set is whole and its CRC right. -/
def ParamCopy.valid (c : ParamCopy) : Bool := c.set.length = 43 && c.crc = copyCrc c.seq c.set

/-- The sequence number of a valid copy, 0 of another. -/
def ParamCopy.validSeq (c : ParamCopy) : Nat := if c.valid then c.seq else 0

/-- The active set is stored in both copies with the next sequence number. -/
def Sw.store (w : Sw) : Sw :=
  let seq := max w.copyA.validSeq w.copyB.validSeq + 1
  let c : ParamCopy := ⟨seq, paramBytes w.active, copyCrc seq (paramBytes w.active)⟩
  { w with copyA := c, copyB := c }

/-- The set of the valid copy with the higher sequence number, `none` with no valid copy. -/
def Sw.storedSet (w : Sw) : Option (List Nat) :=
  if w.copyA.valid && (!w.copyB.valid || decide (w.copyB.seq ≤ w.copyA.seq)) then some w.copyA.set
  else if w.copyB.valid then some w.copyB.set else none

/-- RUN is entered with the GENERAL lock-out set, cause CONFIG; OUTFORCE is cleared (R347, R354). -/
def Sw.enterRun (w : Sw) : Sw :=
  (((w.wr SC.MODE.STATE 2).set1 SC.GENCAUSE.CONFIG).wr SC.OUTFORCE.FORCE 0).withdraw.off 255

/-! ### Reset (R344, R345) -/

/-- An output's lock-out at a reset: cleared when it is off and its terminals read de-energised; never for SW_FAIL. -/
def Sw.resetOutput (w : Sw) (k : Nat) : Sw :=
  if w.on SC.OUTDIAG.LOCKED k && !bit w.swFail k && !w.isOn k && !bit w.outP k && !bit w.outN k then
    w.wr SC.OUTDIAG.LOCKED 0 k
  else w

/-- A lock-out cause clears when its cause is gone. -/
def Sw.release (w : Sw) (f : Fld) (gone : Bool) : Sw := if gone then w.wr f 0 else w

/-- The pairs of a mask are each ACTIVE or INACTIVE. -/
def Sw.pairsClean (w : Sw) (m : Nat) : Bool := (List.range 8).all fun j => !bit m j || w.pairActive j || w.pairInactive j

/-- The lock-outs at a reset (R344). -/
def Sw.clearLocks (w : Sw) : Sw :=
  let w := (List.range 8).foldl Sw.resetOutput w
  let w := (w.release SC.GENCAUSE.POWER_UP true).release SC.GENCAUSE.CONFIG true
  let supOk := decide (154 ≤ w.rd SC.FSV.V)
  let w := { w.release SC.GENCAUSE.SUPPLY_LOW supOk with supLow := w.supLow && !supOk }
  let quiet := match w.badAt with | some t => decide (t + 40000000 ≤ w.now) | none => true
  let w := w.release SC.GENCAUSE.ISO (quiet && !w.fieldDead && !w.logicDead)
  let w := w.release SC.GENCAUSE.PERMIT_RB (decide (10 ≤ w.absentOk))
  let w := w.release SC.GENCAUSE.OUTPUT ((List.range 8).all fun k => !w.on SC.OUTDIAG.LOCKED k)
  let w := w.release SC.FUNCCAUSE.ACC_DISC (w.pairsClean w.accDisc)
  let w := w.release SC.FUNCCAUSE.ACC_WB (w.pairsClean w.accWb)
  let w := w.release SC.FUNCCAUSE.ACC_FORCED (w.allActive 1)
  let w := w.release SC.FUNCCAUSE.ESW_DISC (w.pairsClean w.eswDisc)
  let w := w.release SC.FUNCCAUSE.ESW_WB (w.pairsClean w.eswWb)
  let w := w.release SC.FUNCCAUSE.ESW_FB (w.fbOpen || w.fbClosed)
  let w := w.release SC.FUNCCAUSE.ESW_LIVE (w.allActive 2 || w.fbOpen)
  { w with
    accDisc := if w.on SC.FUNCCAUSE.ACC_DISC then w.accDisc else 0
    accWb := if w.on SC.FUNCCAUSE.ACC_WB then w.accWb else 0
    eswDisc := if w.on SC.FUNCCAUSE.ESW_DISC then w.eswDisc else 0
    eswWb := if w.on SC.FUNCCAUSE.ESW_WB then w.eswWb else 0 }

/-- A reset press with CONFIRM_PEND stores the confirmed set and enters RUN (R350), unless the log has no place (R349). -/
def Sw.confirmPress (w : Sw) : Sw :=
  if !w.on SC.MODE.CONFIRM_PEND || decide (w.pendEnd < w.now) || w.logFull then w
  else
    let kind := if w.mode = 0 then 4 else 2
    let w := { w with active := w.pendSet, staged := w.pendSet }.wr SC.MODE.CONFIRM_PEND 0
    (w.store.append kind 0 0 0).enterRun

/-- RESET_BUTTON: a press of `ms` milliseconds is released (R345). -/
def Sw.resetButton (w : Sw) (ms : Nat) : Sw :=
  if w.on SC.RSTSTAT.STUCK ∨ ms < 100 ∨ 3000 < ms then w
  else
    let w := w.clearLocks
    let w := if w.general || w.acc || w.esw || (List.range 8).any (fun k => w.on SC.OUTDIAG.LOCKED k) then
        w.set1 SC.RSTSTAT.REFUSED else w
    (w.set1 SC.RSTSTAT.DONE).confirmPress

/-- RST_STUCK and RST_STUCK_CLEAR (R345). -/
def Sw.rstStuck (w : Sw) : Sw := (w.set1 SC.RSTSTAT.STUCK).set1 SC.RSTSTAT.STUCK_SEEN
def Sw.rstStuckClear (w : Sw) : Sw := w.wr SC.RSTSTAT.STUCK 0

/-! ### Power (R346, R347, R386) -/

/-- SC_POWER_UP: the logic side starts; `btn` says that RST_BTN reads closed. A restart by RST_N keeps the operating seconds;
the off state of a low supply stays latched in the field die (R339). -/
def Sw.powerUp (w : Sw) (btn : Bool) : Sw :=
  let secs := if w.power then w.secondsNow else w.seconds
  let best := w.storedSet
  let set := match best with | some b => ofSet b | none => []
  let sc : Sc := { copyA := w.copyA, copyB := w.copyB, pwd := w.pwd, log := w.log, seconds := secs, power := true,
                   poweredAt := w.now, active := set, staged := set, fieldAt := w.now, logicAt := w.now, lowSince := w.lowSince, supLow := w.supLow }
  let w : Sw := { toSc := sc, n := w.n, now := w.now, out := w.out }
  let w := if best.isSome then w else w.wr SC.MODE.STATE 0
  let w := w.wr SC.ESWSTAT.STATE 5
  if btn then w.rstStuck else w

/-- SC_UNPOWERED: VDDL falls below 2.5 V, and both permit pins sink current. -/
def Sw.unpower (w : Sw) : Sw :=
  if !w.power then w
  else { w with power := false, seconds := w.secondsNow, permitP := false, permitQ := false, cmdP := 0, cmdQ := 0 }

/-! ### Access by the companion link (R347 to R351, R354) -/

/-- A byte of a change log entry (R349). -/
def LogEntry.byte (e : LogEntry) (index i : Nat) : Nat :=
  let ws := [e.kind + index * 256, e.new * 256 + e.old * 65536 + e.addr * 16777216, e.seconds % 4294967296, e.setCrc]
  (bytesOfWords ws).getD i 0

/-- A field that shows other state. -/
def Sw.live (w : Sw) (f : Fld) (i : Nat) : Option Nat :=
  if f = SC.ID.GRADE then some (if Config.devGrade (1000000 + w.n) then 0xD else 0xF)
  else if f = SC.LOCKOUT.GENERAL then some (b2n w.general)
  else if f = SC.LOCKOUT.ACC then some (b2n w.acc)
  else if f = SC.LOCKOUT.ESW then some (b2n w.esw)
  else if f = SC.STATUS.ESW_BUSY then some (b2n (w.eswState = 1 || w.eswState = 2 || w.eswState = 4))
  else if f = SC.STATUS.EARTHED then some (b2n (w.eswState = 3))
  else if f = SC.OUTSTATE.OUT then some (maskOf 8 w.isOn)
  else if f = SC.SECSTAT.LOG_FULL then some (b2n w.logFull)
  else if f = SC.LOGCOUNT.B then some (w.log.length / 256 ^ i % 256)
  else if f = SC.LOGDATA.B then
    let k := w.rd SC.LOGIDX.B 0 + 256 * w.rd SC.LOGIDX.B 1
    some (match w.log[k]? with | some e => e.byte k i | none => 0)
  else if f = SC.CRC.B then some (setCrc w.shownSet / 256 ^ i % 256)
  else none

/-- A register as a read gives it, `none` where nothing is mapped. -/
def Sw.byte (w : Sw) (a : Nat) : Option Nat :=
  match findRow scRows a with
  | none => none
  | some (r, i, _) =>
    if r.parts.any fun p => p.acc = .prm then some (Tab.get paramReset w.shownSet a)
    else some (r.parts.foldl (fun x p =>
      if p.acc = .wo then x else x + ((w.live p.f i).getD (w.rd p.f i)) % 2 ^ p.w * 2 ^ p.lo) 0)

/-- INSTATE as the 32 bits of a response. -/
def Sw.inState (w : Sw) : Nat := ofBytes ((List.range 4).map fun q => w.rd SC.INSTATE.IN q)

/-- The set is consistent (R350). -/
def consistent (t : Tab Nat) : Bool :=
  let b (a : Nat) : Nat := Tab.get paramReset t a
  let pairOn (j : Nat) : Bool := bit (b (0x20 + j)) 7
  let role (r : Nat) : Nat := ((List.range 8).filter fun j => pairOn j && bits (b (0x20 + j)) 2 0 = r).length
  let motor := (List.range 8).any fun k => bit (b (0x40 + k)) 7 &&
    (bits (b (0x40 + k)) 6 4 = 2 || bits (b (0x40 + k)) 6 4 = 3)
  ((List.range 8).all fun j => !pairOn j || (bit (b (0x10 + 2 * j)) 7 && bit (b (0x11 + 2 * j)) 7)) &&
    (!motor || (role 3 = 1 && role 4 = 1 && decide (1 ≤ role 2)))

/-- The write of UNLOCK[3] compares the attempt (R348). -/
def Sw.unlock (w : Sw) : Sw :=
  if w.unlockB = w.pwd then
    { (w.set1 SC.SECSTAT.UNLOCKED).wr SC.SECSTAT.TRIES 0 with unlockEnd := w.now + 2400000000000 }
  else if w.rd SC.SECSTAT.TRIES = 2 then
    { (w.set1 SC.SECSTAT.BARRED).wr SC.SECSTAT.TRIES 3 with barEnd := w.now + 2400000000000 }
  else w.wr SC.SECSTAT.TRIES (w.rd SC.SECSTAT.TRIES + 1)

/-- The write of CONFIRM[3] checks the value and the set (R350). -/
def Sw.confirm (w : Sw) : Sw :=
  if ofBytes w.confirmB = setCrc w.staged && consistent w.staged then
    { w.set1 SC.MODE.CONFIRM_PEND with pendSet := w.staged, pendEnd := w.now + 120000000000 }
  else w.set1 SC.SECSTAT.CRC_BAD

/-- A parameter write (R347): staged in COMMISSION and RECOVERY; in RUN it needs UNLOCKED, is logged, and takes effect at
once with the GENERAL lock-out. The result is a code of R351. -/
def Sw.writeParam (w : Sw) (a v : Nat) : Sw × Nat :=
  if decide (a < 0x20) && bit v 5 && !bit v 6 then (w, 2)
  else if w.staging then ({ w with staged := Tab.set paramReset w.staged a v }, 0)
  else if !w.on SC.SECSTAT.UNLOCKED || w.logFull then (w, 2)
  else
    let old := w.par a
    let t := Tab.set paramReset w.active a v
    let w := { w with active := t, staged := t }
    (((w.store.append 1 a old v).set1 SC.GENCAUSE.CONFIG).withdraw, 0)

/-- A write that no rule restricts: W1C and RW fields. -/
def Sw.putRow (w : Sw) (r : Row) (v i : Nat) : Sw :=
  r.parts.foldl (fun w p => match p.acc with
    | .rw => w.wr p.f (p.bitsOf v) i
    | .w1c => w.wr p.f (clearBits p.f.w (w.rd p.f i) (p.bitsOf v)) i
    | _ => w) w

/-- A WRITE request's effect and RESULT (R351). -/
def Sw.write (w : Sw) (a v : Nat) : Sw × Nat :=
  match findRow scRows a with
  | none => (w, 1)
  | some (r, i, _) =>
    let roHit := r.parts.all (fun p => p.acc = .ro) || r.parts.any (fun p => p.acc = .ro && p.bitsOf v ≠ 0)
    if roHit || !r.takes v then (w, 2)
    else if r.parts.any fun p => p.acc = .prm then w.writeParam a (r.parts.foldl (fun x p => x + p.bitsOf v * 2 ^ p.lo) 0)
    else match r.tag with
      | .mode =>
        if v % 4 = 1 then
          if w.mode = 2 ∧ w.on SC.SECSTAT.UNLOCKED then
            (({ w.wr SC.MODE.STATE 1 with staged := w.active }.withdraw).off 255, 0)
          else (w, 2)
        else if v % 4 = 2 then (if w.mode = 1 then ((w.wr SC.MODE.CONFIRM_PEND 0).enterRun, 0) else (w, 2))
        else (w, 2)
      | .eswreq => if 1 ≤ v ∧ v ≤ 3 then ({ w with req := v }, 0) else (w, 2)
      | .outforce => if w.staging then (w.wr SC.OUTFORCE.FORCE v, 0) else (w, 2)
      | .unlock =>
        if w.on SC.SECSTAT.BARRED then (w, 2)
        else
          let w := { w with unlockB := w.unlockB.set i v }
          (if i = 3 then w.unlock else w, 0)
      | .secctl => (if bit v 0 then w.wr SC.SECSTAT.UNLOCKED 0 else w, 0)
      | .pwd =>
        if (w.mode ≠ 0 && !w.on SC.SECSTAT.UNLOCKED) || (i = 3 && w.logFull) then (w, 2)
        else
          let w := { w with pwdB := w.pwdB.set i v }
          (if i = 3 then { w with pwd := w.pwdB }.append 3 0 0 0 else w, 0)
      | .confirm =>
        if !w.staging || (i = 3 && w.logFull) then (w, 2)
        else
          let w := { w with confirmB := w.confirmB.set i v }
          (if i = 3 then w.confirm else w, 0)
      | .logidx => if i = 1 ∧ 16 ≤ v then (w, 2) else (w.putRow r v i, 0)
      | _ => (w.putRow r v i, 0)

/-- A response is formed and sent (R351). -/
def Sw.answer (w : Sw) (q result data : Nat) : Sw :=
  let w1 := w.inState * 4294967296 + maskOf 8 w.isOn * 16777216 + w.rd SC.FSV.V * 65536 +
    (w.byte 3).getD 0 * 256 + (w.byte 2).getD 0
  let low := 0x1E + bits q 15 8 * 256 + bits q 23 16 * 65536 + result * 16777216 + bits q 39 32 * 4294967296 +
    data * 1099511627776
  let w0 := low + check16 (bitsUp low 0 48 ++ bitsUp w1 0 64) * 281474976710656
  { w with lastReq := some (bits q 23 16, w0, w1) }.emit (.scResponse w.n (compBytes [w0, w1]))

/-- A request whose CHECK and FTYPE are right, of an OP (R351). -/
def requestOk (q op : Nat) : Bool :=
  q % 256 = 0xE1 && bits q 15 8 = op && q / 281474976710656 = check16 (bitsUp q 0 48)

/-- A new request is executed and answered (R351). -/
def Sw.perform (w : Sw) (q op a v : Nat) : Sw :=
  match op with
  | 0 => w.answer q 0 0
  | 1 => match w.byte a with
    | some b => w.answer q 0 b
    | none => w.answer q 1 0
  | _ => (w.write a v).1.answer q (w.write a v).2 v

/-- A request is served: executed when its SEQ is new, otherwise the last response is repeated (R351). `takes` says which
accesses a command stands for. -/
def Sw.serve (w : Sw) (q op : Nat) (takes : Nat → Nat → Bool) : Sw :=
  let a := bits q 39 32
  let v := bits q 47 40
  if !requestOk q op || !takes a v then w
  else match w.lastReq with
    | some (seq, w0, w1) =>
      if seq = bits q 23 16 then w.emit (.scResponse w.n (compBytes [w0, w1])) else w.perform q op a v
    | none => w.perform q op a v

/-- UNLOCK_EXPIRY: UNLOCKED or BARRED runs out (R348). -/
def Sw.unlockExpiry (w : Sw) : Sw :=
  let w := if w.unlockEnd ≤ w.now then w.wr SC.SECSTAT.UNLOCKED 0 else w
  if w.on SC.SECSTAT.BARRED ∧ w.barEnd ≤ w.now then (w.wr SC.SECSTAT.BARRED 0).wr SC.SECSTAT.TRIES 0 else w

/-- CONFIRM_TIMEOUT: 30 s have passed without a reset press (R350). -/
def Sw.confirmTimeout (w : Sw) : Sw := if w.pendEnd ≤ w.now then w.wr SC.MODE.CONFIRM_PEND 0 else w

end Sys2Proof.Machine
end

