-- ==== Sys2Proof/Machine/Start.lean ====
section
/-!
DEFINITION. Machine/Start.lean: the start after a reset (R361, R366 to R371): its steps, their alternatives, the failure of a
step, and HALTED; and the commands that reset the VC.
-/
namespace Sys2Proof.Machine
open Reg

/-- An alternative of this start is in force (R370). -/
def altFlds : List (Nat × Fld) :=
  [(1, BOOT.ALT.FLASH_SDR), (2, BOOT.ALT.PREV_IMAGE), (3, BOOT.ALT.DIE_HELD), (4, BOOT.ALT.SETTINGS_DEFAULT),
   (5, BOOT.ALT.NO_LEDGER), (6, BOOT.ALT.NO_PTP), (7, BOOT.ALT.NO_COMPANION), (8, BOOT.ALT.DEFAULT_EQ), (9, BOOT.ALT.LOW_RATE)]

/-- No string runs (R371): the facets of one that is not OFF leave service, and it is OFF. -/
def Vc.stringHalt (s : Vc) (n : Nat) : Vc := if s.rd STRING.STATUS.STATE n = 0 then s else (s.stringLeaves n 6).strEnter n 0

/-- The boot controller stops at HALTED (R370 to R372): FATAL, interrupt source 11. No slot is running, so none is under trial; the valve
is blocked, and no string or lane runs. -/
def Vc.bootHalt (s : Vc) : Vc :=
  let s : Vc := { (s.wr BOOT.STATUS.STATE 2).wr BOOT.STATUS.TRIAL 0 with boot := { s.boot with running := false } }
  let s := (s.set1 BOOT.ERRSTAT.HALT).irq 11
  let s := s.event (fatalRecs 0x0C0A 0 s.bootErrWord)
  let s := if s.blocked then s else s.hostBlock
  forN 108 (forN 48 s Vc.stringHalt) Vc.refreshLane

/-- Step `n` is marked FAILED: a warm reset, or HALTED when it failed with its alternative applied (R367, R370). -/
def Vc.stepFailed (s : Vc) (n : Nat) : Vc :=
  let s := ({ s with boot := { s.boot with failed := withBit s.boot.failed n } } : Vc).markEntry 4 n
  let again := match n with
    | 0 => true
    | 1 => s.boot.flashFail || decide (1 ≤ s.stepFails 1)
    | 2 => s.on BOOT.ALT.PREV_IMAGE
    | 3 => s.on BOOT.ALT.PREV_IMAGE
    | 4 => s.on BOOT.ALT.DIE_HELD
    | 5 => s.on BOOT.ALT.SETTINGS_DEFAULT
    | _ => false
  let s : Vc := if n = 1 then { s with boot := { s.boot with flashFail := true } } else s
  if again then s.bootHalt else s.warmReset 4

/-! ### Step IMAGE (R359, R361, R362) -/

/-- The trial ends: TRIAL_EN and TRIALS 0, TRIAL_REVERT. -/
def Vc.trialRevert (s : Vc) : Vc :=
  let w := s.ptrWord
  (s.ptrWrite (ptrBits (ptrPrimary w) 0 0 (ptrStaged w))).bootErr BOOT.ERRSTAT.TRIAL_REVERT 4

/-- One valid pointer copy: the other is rewritten (R359), CORRECTED. -/
def Vc.ptrRepair (s : Vc) : Vc :=
  if (s.ptrCopy 0).isSome = (s.ptrCopy 1).isSome then s
  else ((s.ptrWrite s.ptrWord).set1 BOOT.ERRSTAT.POINTER_REPAIR).corrected 4

/-- A slot is booted; the other one, where a trial of it just ended, is no longer shown RUNNING. -/
def Vc.bootSlot (s : Vc) (slot : Nat) (trial fallback : Bool) : Vc :=
  let s := s.wr BOOT.STATUS.RUN_SLOT slot
  let s := s.wr BOOT.STATUS.TRIAL (b2n trial)
  let s := s.wr BOOT.STATUS.FALLBACK (b2n fallback)
  let other := s.rd BOOT.SLOT_STATE.STATE (1 - slot)
  (s.wr BOOT.SLOT_STATE.STATE (if other = 3 then 0 else other) (1 - slot)).wr BOOT.SLOT_STATE.STATE 3 slot

/-- The first slot of a list whose image is valid; each that fails is shown BAD. -/
def Vc.firstValid (s : Vc) : List Nat → Vc × Option Nat
  | [] => (s, none)
  | k :: ks =>
    let c := s.imageCheck k
    if c = 0 then (s, some k) else Vc.firstValid (s.imageBad k c) ks

/-- Step IMAGE without a pointer copy: PRIMARY is A, and the first valid slot runs; with PREV_IMAGE the other one is tried first (R359,
R370; log 46). -/
def Vc.imageFallback (s : Vc) : Vc × Bool :=
  match s.firstValid (if s.on BOOT.ALT.PREV_IMAGE then [1, 0] else [0, 1]) with
  | (s, some k) => ((s.bootSlot k false true).showPtr, true)
  | (s, none) => (s.set1 BOOT.STATUS.FALLBACK, false)

/-- A start began a step and did not end it, and its FAILED bit is not marked. -/
def openAtStep (w : List Nat) (n : Nat) : Bool := !bit (w.getD 2 0) n && bit (w.getD 3 0) n && bit (w.getD 4 0) n

/-- The cause of the reset that ended the last start of the record (R368). -/
def Vc.endedBy (s : Vc) : Nat := s.boot.endCause.getD (s.rd GLOBAL.RESETCAUSE.CAUSE)

/-- The start before this one ended in a firmware or boot-controller warm reset within one of these steps, and its entry satisfies a
test (R368). -/
def Vc.brokeAt (s : Vc) (steps : List Nat) (p : List Nat → Nat → Bool) : Bool :=
  (s.endedBy = 3 || s.endedBy = 4) &&
    (ringEntries s.flash).any fun e => !bit (e.2.getD 1 0) 26 && e.2.getD 0 0 + 1 = s.rd BOOT.STARTNO.START_NO &&
      steps.any fun n => openAtStep e.2 n && p e.2 n

/-- A trial start is counted, or the trial is reverted: after three, or when the start before failed step IMAGE or LOAD of the trial
(R361). -/
def Vc.countTrial (s : Vc) : Vc :=
  let w := s.ptrWord
  if !ptrTrialEn w then s
  else if ptrTrials w = 3 || s.brokeAt [2, 3] (fun e _ => bit (e.getD 1 0) 27) then s.trialRevert
  else s.ptrWrite (ptrBits (ptrPrimary w) 1 (ptrTrials w + 1) (ptrStaged w))

/-- The lowest SVN that may run follows the primary slot's image when that is valid. -/
def Vc.raisePrimary (s : Vc) (prim : Nat) : Vc := if s.imageCheck prim = 0 then s.raiseSvn (s.slotSvn prim) else s

/-- The trial's image is bad: the trial is reverted, and the primary slot runs. -/
def Vc.imageRevert (s : Vc) (prim : Nat) : Vc × Bool :=
  let s := s.trialRevert
  let c := s.imageCheck prim
  if c = 0 then ((s.bootSlot prim false false).raisePrimary prim, true) else (s.imageBad prim c, false)

/-- Step IMAGE by the pointer: the slot it selects, or the other with PREV_IMAGE. -/
def Vc.imageSelect (s : Vc) : Vc × Bool :=
  let prim := ptrPrimary s.ptrWord
  let trial := ptrTrialEn s.ptrWord
  let sel := if trial then 1 - prim else prim
  let prev := s.on BOOT.ALT.PREV_IMAGE
  let slot := if prev then 1 - sel else sel
  let c := s.imageCheck slot
  if c = 0 then ((s.bootSlot slot (trial && slot ≠ prim) (slot ≠ sel)).raisePrimary prim, true)
  else if trial && !prev then (s.imageBad slot c).imageRevert prim
  else (s.imageBad slot c, false)

/-- Step IMAGE: the state after it, and whether a valid slot was found. -/
def Vc.imageStep (s : Vc) : Vc × Bool :=
  if s.pointer.isNone then s.imageFallback else s.ptrRepair.showPtr.countTrial.imageSelect

/-! ### Step FLASH: the record of past starts (R368 to R370) -/

/-- The counts of past failures, with a failure of FLASH held over warm resets. -/
def Vc.pastFails (s : Vc) (n : Nat) : Nat := min 7 (s.stepFails n + if n = 1 then b2n s.boot.flashFail else 0)

/-- Alternatives that the counts call for. -/
def Vc.altDue (s : Vc) (b : Nat) : Bool :=
  match b with
  | 1 => decide (1 ≤ s.pastFails 1)
  | 2 => decide (1 ≤ s.pastFails 2) || decide (1 ≤ s.pastFails 3)
  | 3 => decide (1 ≤ s.pastFails 4)
  | 4 => decide (1 ≤ s.pastFails 5)
  | 5 => decide (1 ≤ s.pastFails 6)
  | 6 => decide (1 ≤ s.pastFails 7)
  | 7 => decide (1 ≤ s.pastFails 8)
  | 8 => decide (1 ≤ s.pastFails 9)
  | _ => decide (2 ≤ s.pastFails 9)

/-- The previous start failed at a step. -/
def Vc.lastFailed (s : Vc) : Bool :=
  let prev := match s.newestEntry with | some e => e.2.getD 0 0 | none => 0
  s.boot.flashFail || ((ringEntries s.flash).any fun e => !bit (e.2.getD 1 0) 26 && e.2.getD 0 0 = prev &&
    (List.range 10).any fun n => failedAt e.2 s.endedBy n)

/-- The previous start failed by a reset at a step whose alternative it had applied (R370): HALTED. -/
def Vc.failedAgain (s : Vc) : Bool :=
  s.brokeAt [2, 3, 4, 5] fun e n =>
    bit (e.getD 1 0) (16 + match n with | 2 => 2 | 3 => 2 | 4 => 3 | _ => 4) && failedAt e s.endedBy n

/-- The alternatives that failures of past starts make due (R370), with their flags. -/
def Vc.altsDue (s : Vc) : List (Nat × Fld) := altFlds.filter fun a => s.altDue a.1

/-- Counts of failed steps, the alternatives due, and the number of this start. -/
def Vc.startCounts (s : Vc) : Vc :=
  let counts := (List.range 10).foldl (fun a n => a + s.pastFails n * 8 ^ n) 0
  let no := match s.newestEntry with | some e => e.2.getD 0 0 + 1 | none => 1
  (s.altsDue.foldl (fun s a => s.set1 a.2) (s.wr BOOT.STEPFAIL.COUNT counts)).wr BOOT.STARTNO.START_NO no

/-- Word 1 of the new entry. Its SLOT and TRIAL are those that step IMAGE will find (log 46). -/
def Vc.entryWord (s : Vc) : Nat :=
  let p := s.imageStep.1
  s.rd GLOBAL.RESETCAUSE.CAUSE * 536870912 + p.rd BOOT.STATUS.RUN_SLOT * 268435456 + p.rd BOOT.STATUS.TRIAL * 134217728 +
    bits (s.word 0x150008) 9 0 * 65536

/-- The new entry, with the steps begun and done so far. -/
def Vc.openEntry (s : Vc) : Vc :=
  let (s, a) := s.newEntry (s.rd BOOT.STARTNO.START_NO) s.entryWord
  ((({ s with boot := { s.boot with entry := some a } } : Vc).markEntry 2 0).markEntry 3 0).markEntry 2 1

/-- A failure of step FLASH at the start before is marked in this one's entry. -/
def Vc.markFlashFail (s : Vc) : Vc :=
  if s.boot.flashFail then ({ s with boot := { s.boot with flashFail := false } } : Vc).markEntry 4 1 else s

/-- Step FLASH is done: counts, alternatives, the new entry with the steps so far, and their records. -/
def Vc.recordStart (s : Vc) : Vc :=
  let failed := s.lastFailed
  let due := s.altsDue
  let s := s.startCounts
  let again := s.failedAgain
  let s := s.openEntry.markFlashFail
  let s := if failed then s.bootErr BOOT.ERRSTAT.STEP_FAIL 0 else s
  let s := (due.filter fun a => a.1 ≠ 4).foldl (fun s a => s.event [stRec 0x0C00 4 2 a.1 (s.word 0x150008)]) s
  if again then s.bootHalt else s

/-! ### Steps DIES, SETTINGS (R366, R367, R370) -/

/-- A die is held before its self-test: HELD_OUT, or under DIE_HELD one whose last had not passed (R42, R370). -/
def Vc.dieHeld (s : Vc) (d : Nat) : Bool := s.dieState d = 4 || (s.on BOOT.ALT.DIE_HELD && s.boot.tested && !bit s.boot.passed d)

/-- Which self-tests have passed is kept. -/
def Vc.diesSeen (s : Vc) (pass : Nat) : Vc :=
  let ok := (List.range 3).filter fun d => !s.dieHeld d && bit pass d
  { s with boot := { s.boot with tested := true, passed := ok.foldl (fun m d => m + 2 ^ d) 0 } }

/-- Step DIES: which dies are held, the self-tests of the others. -/
def Vc.diesStep (s : Vc) (pass : Nat) : Vc × Bool :=
  let held := s.dieHeld
  let fails := (List.range 3).filter fun d => !held d && !bit pass d
  let s := s.diesSeen pass
  if 2 ≤ fails.length then (s, false)
  else
    let out := (List.range 3).filter fun d => held d || fails.contains d
    let s := out.foldl (fun s d => s.setDie d 4) s
    let s := s.wr VOTER.STATUS.MODE (min out.length 2)
    (fails.foldl (fun s d =>
      let s := s.set1 VOTER.ERRSTAT.REALIGN_FAIL
      s.event [stRec 0x0106 3 3 d s.voterErr d, stRec 0x0106 4 2 d s.voterErr d]) s, true)

/-- The settings copy in force for a slot: its number, SEQ, FORMAT and records. -/
def Vc.settingsFor (s : Vc) (slot : Nat) : Option (Nat × Nat × Nat × List (Nat × Nat)) :=
  let c (k : Nat) : Option (Nat × Nat × Nat × List (Nat × Nat)) :=
    match s.settings k with
    | some (seq, fmt, rs) => if s.reads slot fmt then some (k, seq, fmt, rs) else none
    | none => none
  match c 0, c 1 with
  | some a, some b => if a.2.1 < b.2.1 then some b else some a
  | some a, none => some a
  | none, b => b

/-- SETTINGS_DEFAULT: no record applied. -/
def Vc.settingsDefault (s : Vc) : Vc := s.bootErr BOOT.ERRSTAT.SETTINGS_DEFAULT 6

/-- One record of a settings copy: a refused one is counted; after a record that resets the VC none is applied. -/
def Vc.settingsRecord (s : Vc) (r : Nat × Nat) : Vc :=
  if !s.boot.running then s
  else if (s.applyRecord r.1 r.2).2 then (s.applyRecord r.1 r.2).1.count BOOT.SETSTAT.REC_ERR
  else (s.applyRecord r.1 r.2).1

/-- Settings that a trial image cannot use end the trial. -/
def Vc.settingsUnfit (s : Vc) : Vc :=
  let s := s.bootErr BOOT.ERRSTAT.SETTINGS_INCOMPATIBLE 5
  let s := s.ptrWrite (ptrBits (ptrPrimary s.ptrWord) 0 0 1)
  ({ s with boot := { s.boot with incompat := true } } : Vc).warmReset 4

/-- Step SETTINGS. -/
def Vc.settingsStep (s : Vc) : Vc :=
  if s.on BOOT.ALT.SETTINGS_DEFAULT then s.settingsDefault
  else
    match s.settingsFor (s.rd BOOT.STATUS.RUN_SLOT) with
    | some (k, seq, fmt, rs) =>
      let s := (s.wr BOOT.SETSTAT.FORMAT fmt).wr BOOT.SETSTAT.COPY k
      let s := s.wr BOOT.SETSTAT.OTHER_VALID (b2n (s.settings (1 - k)).isSome)
      rs.foldl Vc.settingsRecord (s.wr BOOT.SETSEQ.SEQ seq)
    | none => if s.on BOOT.STATUS.TRIAL then s.settingsUnfit else s.settingsDefault

/-! ### The run of the steps (R367) -/

/-- A step whose alternative is to skip it. -/
def Vc.skipped (s : Vc) (n : Nat) : Bool :=
  match n with
  | 6 => s.on BOOT.ALT.NO_LEDGER
  | 7 => s.on BOOT.ALT.NO_PTP
  | 8 => s.on BOOT.ALT.NO_COMPANION
  | _ => false

/-- The work of step `n`, and whether it succeeds. -/
def Vc.stepWork (s : Vc) (n : Nat) (r : BootRes) : Vc × Bool :=
  match n with
  | 0 =>
    if s.boot.fresh then
      let s : Vc := { s with boot := { s.boot with fresh := false } }
      (s.event [stRec 0x0D03 0 0 0 (s.rd GLOBAL.RESETCAUSE.CAUSE)], true)
    else (s, true)
  | 1 => (s.recordStart, true)
  | 2 =>
    let s : Vc := if s.boot.incompat then
        ({ s with boot := { s.boot with incompat := false } } : Vc).bootErr BOOT.ERRSTAT.SETTINGS_INCOMPATIBLE 5
      else s
    s.imageStep
  | 4 => s.diesStep r.diePass.toNat
  | 5 => (s.settingsStep, true)
  | 6 => (s.ledgerBoot.xKick, true)
  | 8 => (s.companionRequest, true)
  | _ => (s, true)

/-- Step COMPANION is done: READY. -/
def Vc.bootReady (s : Vc) : Vc := { s.wr BOOT.STATUS.STATE 1 with boot := { s.boot with running := false } }

/-- Runs the last `k` of steps 0 to 8. -/
def Vc.runSteps (r : BootRes) : Nat → Vc → Vc
  | 0, s => s.bootReady
  | k + 1, s =>
    let n := 8 - k
    if s.skipped n then
      Vc.runSteps r k (if n = 6 then s.wr LEDGER.STATUS.STATE 2 else s)
    else
      let s := s.stepBegin n
      if r.hang.map (·.val) = some n then (if n = 4 then s.diesSeen r.diePass.toNat else s)
      else
        match s.stepWork n r with
        | (s, true) => if s.boot.running then Vc.runSteps r k (s.stepDone n) else s
        | (s, false) => s.stepFailed n

/-- BOOT_START: a start begins at release of a reset. -/
def Vc.bootStart (s : Vc) (r : BootRes) : Vc :=
  if s.rd BOOT.STATUS.STATE ≠ 0 ∨ s.boot.running then s
  else Vc.runSteps r 9 { s with boot := { s.boot with
    running := true, begun := 0, done := 0, failed := 0, entry := none, ptrBad := r.ptrBad } }

/-- The limit of a step in ms (R367). -/
def stepLimit (n : Nat) : Nat := [1, 2, 150, 40, 2, 30, 100, 1, 10].getD n 0

/-- Step `n` did not end within its limit. A trial slot is reverted at once and the start goes on (R361). -/
def Vc.stepTimeout (s : Vc) (n : Nat) (r : BootRes) : Vc :=
  if (n = 2 ∧ ptrTrialEn s.ptrWord) ∨ (n = 3 ∧ s.on BOOT.STATUS.TRIAL) then
    match s.trialRevert.imageStep with
    | (s, true) => Vc.runSteps r 6 (s.stepDone 2)
    | (s, false) => s.stepFailed 2
  else s.stepFailed n

/-- BOOT_STEP_TIMEOUT: the limit of the step in progress passes. -/
def Vc.bootTimeout (s : Vc) (r : BootRes) : Vc :=
  let n := s.rd BOOT.STATUS.STEP
  let due : Bool := s.boot.running && decide (s.boot.since + stepLimit n * 4000000 ≤ s.now)
  let s : Vc := { s with boot := { s.boot with ptrBad := r.ptrBad } }
  let s := if due && n = 4 then s.diesSeen r.diePass.toNat else s
  if due then s.stepTimeout n r else s

/-! ### Resets (R48, R383) -/

/-- COLD_RESET: RESET_N below 100 ns is ignored, from 1 µs it resets, and between the two it may (R383). -/
def Vc.coldResetBy (s : Vc) (c : ColdCause) : Vc :=
  match c with
  | .power _ => s.coldReset true
  | .pin ns =>
    if ns < 100 then s
    else if 1000 ≤ ns then s.coldReset false
    else if Config.freeBit s.free then { s with free := s.free + 1 }.coldReset false
    else { s with free := s.free + 1 }

end Sys2Proof.Machine
end

