-- ==== Sys2Proof/Machine/State.lean ====
section
/-!
DEFINITION. Machine/State.lean: the state of the whole chipset as plain data, its reset, and the reasons a step can stop.
-/
namespace Sys2Proof.Machine

/-- Nothing of this hardware stops the model: every command runs (log 1). The constructor is there because the interface
asks for a type; no command raises it, so it is neither safe nor unsafe. -/
inductive Fault where
  | unreachable
deriving DecidableEq, Repr

/-- Why a command is refused. -/
inductive Refusal where
  /-- raised only by exec for a command not modelled yet; safe: nothing can be proved of what it does -/
  | notModelled (mnemonic : String)
deriving DecidableEq, Repr

/-- A TAP (R395): the instruction that stands in it, and the update latches of its boundary-scan register. -/
structure Tap where
  ir    : TapInstr := .idcode
  latch : List Bool := []
deriving DecidableEq, Repr

/-- The state of the chipset: the commands waiting, one VC, the cell controllers of its strings (numbered string × 96 +
position), and its safety companions (numbered by companion port). A part not listed is as it is at power-up. -/
structure State where
  /-- commands waiting, first in first out -/
  pending : List Instr := []
  vc      : Vc := {}
  cells   : Tab Cell := []
  scs     : Tab Sc := []
  /-- the TAPs, by `tapKey` -/
  taps    : Tab Tap := []
deriving DecidableEq, Repr

/-- The parts right after a cold reset. -/
def State.reset : State := {}

end Sys2Proof.Machine
end

