-- ==== Sys2Proof/Machine/Tick.lean ====
section
/-!
DEFINITION. Machine/Tick.lean: one valve tick (R22, R23): input cut-off, facet commit, scheduler, Lens, selection, vote, launch,
and what goes with them.
-/
namespace Sys2Proof.Machine
open Reg

/-- The end of selection (R116, R132): at most 72 ns after its start, which follows the critical Lens time (log 20). -/
def Vc.prismTiming (s : Vc) : Vc :=
  let e := sat 16 (40 + max 128 s.lens.crit + Config.freeNat s.free % 73)
  let s := ({ s with free := s.free + 1 } : Vc).wr PRISM.TIMING.LAST_END_NS e
  s.wr PRISM.TIMING.MAX_END_NS (max e (s.rd PRISM.TIMING.MAX_END_NS))

/-- The facet commit of a tick (R23, R108): the facets of the chipset in ascending ID, those of other VCs by their slices (R115,
R127), and what the homes of other arms told. -/
def Vc.facetCommit (s : Vc) : Vc :=
  let sl := sortBy (·.1) s.casc.slices.reverse
  let notes := s.casc.notes
  let s := s.cascVals
  let s := s.sliceCommit (sl.filter fun e => decide (e.1 / 4608 < s.vcId))
  let s := forN 48 s Vc.strCommit
  let s := s.sliceCommit (sl.filter fun e => decide (s.vcId ≤ e.1 / 4608))
  (notes.foldl Vc.noteCommit s).apFacets

/-- Prism's selection in every formed arm, and the commands of all of them (R116, R126). -/
def Vc.selectAll (s : Vc) : Vc × List Issue :=
  (List.range 12).foldl (fun (acc : Vc × List Issue) a =>
    let r := acc.1.selectArmTick a
    (r.1, acc.2 ++ r.2)) (s, [])

/-- A member reports its conditions to its lead every tick (R305). -/
def Vc.memberReport (s : Vc) : Vc :=
  if s.rd CASCADE.CFG.ROLE = 2 && s.cascState = 3 then s.emit (.cascade 7 [s.vcId, s.deblockFails]) else s

/-! ### The tick boundary (R37, R300) -/

/-- Item control by a core at its tick boundary (R157, R164). -/
def Vc.coreCtlNow (s : Vc) (op j : Nat) : Vc :=
  match op with
  | 1 => s.itemArm j false
  | 2 => s.itemCancel j false
  | _ => s.itemFree j false

/-- A core's write of the work-item table at its tick boundary, dropped where the item has been armed before it. -/
def Vc.tableNow (s : Vc) (addr w : Nat) : Vc :=
  match findRow (vcRows 6) addr with
  | some (r, i, j) => if s.itemIdle i then s.putRow r w i j else s
  | none => s

/-- One change that has waited takes effect. -/
def Vc.heldNow (s : Vc) (h : Held) : Vc :=
  match h with
  | .host req be addr w => s.writeNow req be addr w
  | .core op j => s.coreCtlNow op j
  | .table addr w => s.tableNow addr w

/-- A descriptor takes effect by its TYPE. -/
def Vc.typeNow (s : Vc) (d : Desc) (buf : HostBuf) : Vc :=
  match d.type with
  | 1 => s.facetNow d buf
  | 2 => s.coefNow d buf
  | 3 => s.swapNow d
  | 9 => s.snapNow d
  | 10 => s.valveNow d
  | _ => s.clearNow d

/-- A descriptor that has waited takes effect; with the boot controller HALTED it ends with BAD_STATE (R371). -/
def Vc.descNow (s : Vc) (id : Nat) : Vc :=
  match s.desc? id with
  | some d =>
    match d.bound with
    | some buf =>
      let s := s.modDesc id fun e => { e with waiting := false, bound := none }
      if s.bootHalted then s.finish id 4 else s.typeNow d buf
    | none => s
  | none => s

/-- The tick boundary, at the facet commit and after the faults it finds (R131): the writes that have waited, in the order of their
arrival, then the descriptors, in ascending SQ number and in fetch order within one SQ (R300; log 108). A host block set since the
last boundary has had its say on a deblock (R305). -/
def Vc.boundary (s : Vc) : Vc :=
  let hs := s.held
  let s := hs.foldl Vc.heldNow { s with held := [] }
  let s := s.heldDescs.foldl Vc.descNow s
  { s with prot := { s.prot with blkTick := none } }

/-- TICK (R22): `dies` is what each control die delivers where it deviates from the reference, `ups` the upsets of the comparator
instances' copies since the last tick (R137). -/
def Vc.tick (s : Vc) (dies : List DieData) (ups : List CmpUpset) : Vc :=
  let s := (s.toRelease.toTick).copyCheck ups
  let s := (s.facetCommit).boundary
  let s := (s.fireTick).copyTick
  let k := s.tickNo
  let s := (s.schedCommit k).lensTick k
  let (s, iss) := s.selectAll
  let s := s.prismTiming
  let s := s.apSamplePoint
  let (s, reqs) := s.takeBlockReqs
  let s := s.voteTick dies reqs ((iss.filter fun i => i.gid / 4608 ≠ s.vcId).map (·.gid))
  let s := s.cascIssue iss
  let extra := 4 * (s.lens.crit - 128)
  let s := forN 48 s fun s n => s.launch n extra
  ((s.fireAdvance.cascSlices).memberReport).pump

end Sys2Proof.Machine
end

