-- ==== Sys2Proof/Machine/Units.lean ====
section
/-!
DEFINITION. Machine/Units.lean: how a command reaches one part of the chipset: the VC, a cell, a companion, or an end of a
serial link. `dt` units of 250 ps have passed since the command before it (log 2).
-/
namespace Sys2Proof.Machine
open Reg

/-- A command to the VC. While a cold reset holds it nothing happens but that time passes (R383). -/
def State.vcCmd (s : State) (dt : Nat) (f : Vc → Vc) : State :=
  let v := s.vc.elapse dt
  { s with vc := if v.inReset then v else f v }

/-- The cell of a string and position. -/
def State.cell (s : State) (n : Nat) : Cell := Tab.get (fun _ => {}) s.cells n

/-- A cell as a command finds it at the time of a VC. -/
def State.cw (s : State) (v : Vc) (n : Nat) : Cw := { toCell := s.cell n, n := n, now := v.now, free := v.free }

/-- The state with a cell as a command leaves it. -/
def State.putCw (s : State) (v : Vc) (w : Cw) : State :=
  { s with vc := { v with out := w.out, free := w.free }, cells := Tab.set (fun _ => {}) s.cells w.n w.toCell }

/-- A command to the cell at a position of a string. A cell held in cold reset does nothing (R223, log 47). -/
def State.cellCmd (s : State) (dt st p : Nat) (f : Cw → Cw) : State :=
  let v := s.vc.elapse dt
  let w := s.cw v (96 * st + p)
  if w.run then s.putCw v { f w with n := w.n } else { s with vc := v }

/-- CC_RESET_RELEASE reaches the cell held in cold reset. -/
def State.cellRelease (s : State) (dt st p : Nat) : State :=
  let v := s.vc.elapse dt
  s.putCw v { (s.cw v (96 * st + p)).release with n := 96 * st + p }

/-- The VC's holds of a cell's inner links end with the cell's cold reset (R216): the cell has lost its part of them, and the cell at
the other end of each is told. -/
def Vc.dropHolds (s : Vc) (n p : Nat) : Vc :=
  let cells := s.rd STRING.CFG.CELLS n
  let x := s.str n
  let gone (i : Nat) : Bool := (i = p || i = p + 1) && decide (0 < i) && decide (i < cells) && x.held.contains i
  let held := x.held.filter fun i => !gone i
  let s := s.setStr n { x with held := held, onsets := x.onsets.filter fun o => !gone o.1 }
  let s := if gone p then s.queueMsg n (holdMsg cells held (p - 1)) else s
  if gone (p + 1) then s.queueMsg n (holdMsg cells held (p + 1)) else s

/-- CC_COLD_RESET (R223, R224): every function of the cell resets, its gates and BYP_FIRE are inactive, and it is held until
CC_RESET_RELEASE. RST_N resets when low for at least 10 µs. Where VDDIO is out of its range, its pins are at high impedance until it has
reached that (R385). -/
def State.cellReset (s : State) (dt st p : Nat) (c : ColdCause) : State :=
  let v := s.vc.elapse dt
  let n := 96 * st + p
  let reset (cause : Nat) (highZ : Bool) : State :=
    let w : Cw := { n := n, now := v.now, free := v.free }
    let w := if highZ then w.emit (.ccHighZ st p) else w
    let w := (w.wr CCBOOT.CAUSE.LAST cause).emit (.gatesLow st p)
    let w := if highZ || (s.cell n).bypOn then w.emit (.bypFire st p false) else w
    let w := if highZ || (s.cell n).syncEnd.isSome then w.emit (.syncLow st p) else w
    s.putCw (v.dropHolds st p) w
  match c with
  | .power vddio => reset 0 (!vddio)
  | .pin ns => if 10000 ≤ ns then reset 1 false else { s with vc := v }

/-- The safety companion on a port. -/
def State.sc (s : State) (n : Nat) : Sc := Tab.get (fun _ => {}) s.scs n

/-- The switches an SC's field die holds closed, less one that a test holds open, and the permits. -/
def Sc.pins (x : Sc) : Nat × Nat × Bool × Bool :=
  let h := match x.test with | some t => if t.high then withoutBit x.high t.k else x.high | none => x.high
  let l := match x.test with | some t => if t.high then x.low else withoutBit x.low t.k | none => x.low
  (h, l, x.permitP, x.permitQ)

/-- A command to a companion: `always` says that its logic side need not have power. Its outputs are told when they
change. -/
def State.scCmd (s : State) (dt n : Nat) (f : Sw → Sw) (always : Bool := false) : State :=
  let v := s.vc.elapse dt
  let x := s.sc n
  if !x.power && !always then { s with vc := v }
  else
    let w := f { toSc := x, n := n, now := v.now }
    let p := w.toSc.pins
    let out := w.out ++ if p = x.pins then [] else [.scOut n p.1 p.2.1 p.2.2.1 p.2.2.2]
    { s with vc := { v with out := out }, scs := Tab.set (fun _ => {}) s.scs n w.toSc }

/-! ### The TAPs (R234, R383, R395) -/

/-- Which TAP: the VC's, a cell's, a companion's. -/
def tapKey (p : TapPart) (n : Nat) : Nat :=
  match p with
  | .vc => 0
  | .cell => n + 1
  | .sc k => k + 4609

/-- Which kind of part has a TAP. -/
def tapKind (p : TapPart) : Nat :=
  match p with
  | .vc => 0
  | .cell => 1
  | .sc _ => 2

/-- The identification code of a part. -/
def tapIdcode (p : TapPart) : BitVec 32 :=
  match p with
  | .vc => 0x14608B47
  | .cell => 0x10100B47
  | .sc _ => 0x15100B47

/-- The part is held in reset. -/
def State.tapHeld (s : State) (p : TapPart) (n : Nat) : Bool :=
  match p with
  | .vc => s.vc.inReset
  | .cell => !(s.cell n).run
  | .sc k => !(s.sc k).power

/-- The instruction that acts: with the part's reset input high none but BYPASS and IDCODE, so that boundary scan takes no pin from a
running part. -/
def tapActing (i : TapInstr) (low : Bool) : TapInstr :=
  match i with
  | .bypass | .other => .bypass
  | .idcode => .idcode
  | .sample | .extest | .highz => if low then i else .bypass

/-- The bits that the data register of an instruction captures, the first one out first. What stands at the pins is free. -/
def State.tapCapture (s : State) (p : TapPart) (i : TapInstr) : List Bool :=
  match i with
  | .idcode => (List.range 32).map (tapIdcode p).getLsbD
  | .sample | .extest => (List.range (Config.bsrLen (tapKind p))).map fun k => Config.freeBit (s.vc.free + k)
  | .bypass | .highz | .other => [false]

/-- What an instruction that becomes the acting one does to the pins. -/
def tapPins (i : TapInstr) (k : Nat) (latch : List Bool) : List Emit :=
  match i with
  | .extest => [.tapPins k latch]
  | .highz => [.tapHighZ k]
  | .bypass | .idcode | .sample | .other => []

/-- A TAP after an operation, with what leaves the part. -/
def State.tapAct (s : State) (p : TapPart) (n : Nat) (a : TapAct) : Tap × List Emit :=
  let k := tapKey p n
  let t : Tap := Tab.get (fun _ => {}) s.taps k
  match a with
  | .halt _ => (t, [])
  | .reset => ({ t with ir := .idcode }, [])
  | .loadIr low i =>
    let i := tapActing i (low && s.tapHeld p n)
    ({ t with ir := i }, tapPins i k t.latch)
  | .scanDr low tdi =>
    let i := tapActing t.ir (low && s.tapHeld p n)
    let cap := s.tapCapture p i
    let all := cap ++ tdi
    let tdo : Emit := .tdo k (if p = .vc && s.vc.inReset then none else some (all.take tdi.length))
    match i with
    | .sample | .extest =>
      let latch := all.drop tdi.length
      ({ ir := i, latch := latch }, tdo :: tapPins i k latch)
    | .bypass | .idcode | .highz | .other => ({ t with ir := i }, [tdo])

/-- DEBUG_HALT and the other operations of a TAP. The whole TAP of a production-grade cell controller is disabled: it ignores its
inputs, and TDO stays at high impedance (log 92). -/
def State.tapCmd (s : State) (dt st p : Nat) (c : TapOp) : State :=
  let n := 96 * st + p
  let s' : State := { s with vc := s.vc.elapse dt }
  if c.part = .cell && !Config.devGrade (n + 1) then { s' with vc := s'.vc.emit (.tdo (tapKey .cell n) none) }
  else
    match c.part, c.act with
    | .cell, .halt on => s.cellCmd dt st p fun w => w.debugHalt on
    | q, a =>
      let r := s'.tapAct q n a
      { s' with
        vc := { s'.vc with out := r.2, free := s'.vc.free + Config.bsrLen (tapKind q) }
        taps := Tab.set (fun _ => {}) s'.taps (tapKey q n) r.1 }

/-- A command at an end of a serial link: a VC lane or a cell's lane. -/
def State.linkCmd (s : State) (dt : Nat) (e : LinkEnd) (fv : Vc → Nat → Vc) (fc : Cw → Bool → Cw) : State :=
  match e with
  | .vc l => s.vcCmd dt fun v => fv v l
  | .cc st p down => s.cellCmd dt st p fun w => fc w down

/-- A host write of a register that has a command of its own, when the word asks for that command. -/
def Vc.hostWr (s : Vc) (req : BitVec 16) (addr : Nat) (w : Word) (asks : Bool) : Vc :=
  if asks then s.barWrite req.toNat addr 15 w.toNat else s

/-! ### What reaches an end of a link (R184, R198, R203, R207) -/

/-- A lane end of the VC is in use again: a string that trains may go on (R184, R196). -/
def Vc.laneBack (s : Vc) (l : Nat) : Vc := if isStrLane l then s.trainDone (l / 2) else s

/-- BLOCK_LOCK_ACQUIRED. -/
def Vc.blockLock (s : Vc) (l : Nat) : Vc :=
  let s := s.settle l
  (s.putLnk l ((s.lnk l).blockLock s.now)).laneBack l
def Cw.blockLock (w : Cw) (down : Bool) : Cw :=
  let w := w.settle down
  w.putLnk down ((w.lnk down).blockLock w.now)

/-- LINK_RETURN. -/
def Vc.linkReturn (s : Vc) (l : Nat) : Vc := (s.putLnk l ((s.lnk l).back s.now)).laneBack l
def Cw.linkReturn (w : Cw) (down : Bool) : Cw := w.putLnk down ((w.lnk down).back w.now)

/-- Loss of sync, or no progress for 1 ms, in bring-up: BACKOFF, while a measurement lane repeats its slots (R207, R211). -/
def Vc.noProgress (s : Vc) (l : Nat) : Vc :=
  if isMeasLane l then (if s.rd LANE.STATUS.BSTATE l = 4 then s.bringUp l else s)
  else
    let s := s.settle l
    s.putLnk l ((s.lnk l).bringupTimeout s.now)

/-- No progress for 1 ms, or loss of sync, at a cell's lane (R207). -/
def Cw.noProgress (w : Cw) (down : Bool) : Cw :=
  let w := w.settle down
  w.putLnk down ((w.lnk down).bringupTimeout w.now)

/-- No block lock within 20 µs of the switch (R207). -/
def Vc.finalTimeout (s : Vc) (l : Nat) : Vc :=
  let s := s.settle l
  s.putLnk l ((s.lnk l).finalTimeout s.now)
def Cw.finalTimeout (w : Cw) (down : Bool) : Cw :=
  let w := w.settle down
  w.putLnk down ((w.lnk down).finalTimeout w.now)

/-- A loss of lock at a VC lane: of a string, of the cascade, or of measurement (R32, R203, R211). -/
def Vc.lockLost (s : Vc) (l : Nat) : Vc :=
  if isStrLane l then s.strLaneLoss l
  else if s.rd LANE.STATUS.BSTATE l ≠ 7 then s.noProgress l
  else
    let s := s.loseLane l
    if isMeasLane l then s.event [s.lossRec l] else s.cascLaneLost l (s.lossRec l)

/-- A loss of lock at a cell's lane: in UP a loss, in bring-up BACKOFF (R207). -/
def Cw.lockLost (w : Cw) (down : Bool) : Cw :=
  if (w.lnk down).bst = 7 then w.loseLane down else w.noProgress down

/-- CODE_ERROR at a lane (R203): the received words go through the lane's receiver; errors that do not cost the lock are counted, and
a lock lost has its effects (R184, R207). -/
def Vc.codeRx (s : Vc) (l : Nat) (rx : RxWords) : Vc :=
  if s.rd LANE.STATUS.PSTATE l ≠ 0 then s
  else
    let s := s.settle l
    let r := (s.lane l).pcs.receive (s.rd LANE.STATUS.RATE l) s.now (s.inTest l) rx
    let s := forN r.2.1 (s.setLane l { s.lane l with pcs := r.1 }) fun s _ => s.codeError l
    if r.2.2 then s.lockLost l else s
def Cw.codeRx (w : Cw) (down : Bool) (rx : RxWords) : Cw :=
  if w.rd CCLINK.LSTAT.PSTATE (b2n down) ≠ 0 then w
  else
    let w := w.settle down
    let x := w.lnk down
    let r := x.st.pcs.receive x.rate w.now (w.inTest down) rx
    let w := (List.range r.2.1).foldl (fun w _ => w.codeError down) (w.putLnk down { x with st := { x.st with pcs := r.1 } })
    if r.2.2 then w.lockLost down else w

/-- A LINK_FAULT block is valid (R172, R184). -/
def faultOk (b : Block) : Bool :=
  b.ctl && b.pay.toNat % 65536 = 0xA35C && b.pay.toNat / 281474976710656 = check16 (bitsUp b.pay.toNat 0 48)

/-- LINK_FAULT_RX: acted on in UP alone. -/
def Vc.linkFault (s : Vc) (l : Nat) (b : Block) : Vc :=
  if faultOk b && s.rd LANE.STATUS.BSTATE l = 7 && !isMeasLane l then s.lockLost l else s
def Cw.linkFault (w : Cw) (down : Bool) (b : Block) : Cw :=
  if faultOk b && (w.lnk down).bst = 7 then w.loseLane down else w

/-- A PROBE block: its NUM (R198). -/
def probeNum (b : Block) : Option Nat :=
  if b.ctl && b.pay.toNat % 65536 = 0x936C then some (bits b.pay.toNat 23 16) else none

/-- PROBE_RX: the ECHO carries the time from the PROBE's arrival to its own start. -/
def Vc.probeRx (s : Vc) (l : Nat) (b : Block) (turn : Nat) : Vc :=
  match probeNum b with
  | some k => if (s.lnk l).inUse then s.emitLane l fun e => .echo e (echoBlock k turn) else s
  | none => s
def Cw.probeRx (w : Cw) (down : Bool) (b : Block) (turn : Nat) : Cw :=
  match probeNum b with
  | some k => if w.inUse down then w.emitLane down fun e => .echo e (echoBlock k turn) else w
  | none => w

/-- An ECHO block: NUM and TURN. -/
def echoOf (b : Block) : Option (Nat × Nat) :=
  if b.ctl && b.pay.toNat % 65536 = 0x8E71 then some (bits b.pay.toNat 23 16, bits b.pay.toNat 39 24) else none

/-- ECHO_RX: one sample of the link that the end measures; the VC measures at the X end of a string. -/
def Vc.echoBlockRx (s : Vc) (l : Nat) (b : Block) (rttPs : Nat) : Vc :=
  match echoOf b with
  | some (k, t) => if isStrLane l && l % 2 = 0 && (s.lnk l).inUse then s.echoRx (l / 2) k t rttPs else s
  | none => s
def Cw.echoBlockRx (w : Cw) (down : Bool) (b : Block) (rttPs : Nat) : Cw :=
  match echoOf b with
  | some (k, t) => w.echoRx down k t rttPs
  | none => w

/-- The cell's link measurement has not ended within 100 µs: LINKDLY stays (R198). -/
def Cw.echoTimeout (w : Cw) : Cw := { w with calVals := none }

/-- FAULT_TX_EXPIRY (8,000 units) and BACKOFF_EXPIRY (4,000,000). -/
def Vc.startAgain (s : Vc) (l bst wait : Nat) : Vc :=
  if isMeasLane l || s.rd LANE.STATUS.PSTATE l ≠ 0 || s.inTest l then s
  else s.train l ((s.lnk l).again (s.lnkCfg l) s.now bst wait)
def Cw.startAgain (w : Cw) (down : Bool) (bst wait : Nat) : Cw :=
  if w.trains down then w.train down ((w.lnk down).again w.lnkCfg w.now bst wait) else w

/-- TRAIN_FRAME_ERROR: the frame fails R204, and ends a run of frames (R205). A cell has no register for it. -/
def Vc.frameError (s : Vc) (l : Nat) (f : TrainFrame) : Vc :=
  if f.valid || isMeasLane l || s.rd LANE.STATUS.PSTATE l ≠ 0 || s.inTest l then s else s.trainError l
def Cw.frameError (w : Cw) (down : Bool) (f : TrainFrame) : Cw :=
  if f.valid || !w.trains down then w else w.putLnk down (w.lnk down).otherFrame

/-- TRIAL_SLOTS_DONE. -/
def Vc.trialSlots (s : Vc) (l : Nat) (foms : List (Option Nat)) : Vc :=
  if isMeasLane l || s.rd LANE.STATUS.PSTATE l ≠ 0 || s.inTest l then s
  else
    let s := s.settle l
    s.train l ((s.lnk l).trialDone (s.lnkCfg l) s.now foms)
def Cw.trialSlots (w : Cw) (down : Bool) (foms : List (Option Nat)) : Cw :=
  if w.trains down then
    let w := w.settle down
    w.train down ((w.lnk down).trialDone w.lnkCfg w.now foms)
  else w

/-! ### Others -/

/-- CASCADE_COMMAND_FRAME: the commands, what a home tells of its arms, and the lead's deblock, which goes with the frames (R113,
R128, R305, log 42, log 99). -/
def Vc.commandFrame (s : Vc) (dest : Nat) (cmds : List (Nat × Nat)) (deblock : Bool) (notes : List ArmNote) (bad : Nat) : Vc :=
  let s := (s.cascCommands dest cmds bad).armNotes notes bad
  if deblock && decide (bad ≠ 3) && s.rd CASCADE.CFG.ROLE = 2 && s.cascState = 3 then s.deblock else s

/-- QPOP_READ by a core that runs (R266). -/
def Cw.qpopByCore (w : Cw) : Cw := if w.coreRuns then w.qpop else w

/-- A read that latches the high half of a 64-bit register (R9). -/
def lowHalf (addr : Nat) : Bool :=
  match findRow (vcRows (addr / 65536)) addr with
  | some (r, _, _) => r.half = .low
  | none => false

end Sys2Proof.Machine
end

