-- ==== Sys2Proof/Machine/CascadeCmds.lean ====
section
/-!
DEFINITION. Machine/CascadeCmds.lean: the meanings of the commands of the cascade (R28 to R36, R81, R127, R128, R144, R305).
-/
namespace Sys2Proof.Machine

/-- CASCADE_START: CASCADE.CTRL.START (R34, R36). -/
def execCascadeStart (dt : Nat) (req : BitVec 16) (w : Word) (s : State) : Host.Outcome State Fault Refusal :=
  .next (s.vcCmd dt fun v => v.hostWr req 0x130004 w (bit w.toNat 0))

/-- CASCADE_STOP: CASCADE.CTRL.STOP (R34, R36). -/
def execCascadeStop (dt : Nat) (req : BitVec 16) (w : Word) (s : State) : Host.Outcome State Fault Refusal :=
  .next (s.vcCmd dt fun v => v.hostWr req (0x130004) w (bit w.toNat 1))

/-- ENUMERATION_FRAME: an enumeration frame at a member (R34). -/
def execEnumerationFrame (dt : Nat) (id : BitVec 8) (count : BitVec 8) (bad : BitVec 2) (s : State) : Host.Outcome State Fault Refusal :=
  .next (s.vcCmd dt fun v => (v.enumFrame id.toNat count.toNat bad.toNat).refreshCasc)

/-- ENUM_ACKNOWLEDGE: the acknowledgements of the members (R34). -/
def execEnumAcknowledge (dt : Nat) (acks : List (BitVec 8 × BitVec 8)) (bad : BitVec 2) (s : State) : Host.Outcome State Fault Refusal :=
  .next (s.vcCmd dt fun v => (v.enumAck (acks.map fun a => (a.1.toNat, a.2.toNat)) bad.toNat).refreshCasc)

/-- ENUM_TIMEOUT: 10 ms from START without enumeration (R34). -/
def execEnumTimeout (dt : Nat) (s : State) : Host.Outcome State Fault Refusal :=
  .next (s.vcCmd dt fun v => v.enumTimeout.refreshCasc)

/-- TICK_ALIGNMENT_DONE: the two-way exchange completes (R29, R30). -/
def execTickAlignmentDone (dt : Nat) (delay : Nat) (vt tickNo : DWord) (tickOfs : BitVec 24) (s : State) : Host.Outcome State Fault Refusal :=
  .next (s.vcCmd dt fun v => (v.tickAlign delay vt.toNat tickNo.toNat tickOfs.toNat).refreshCasc)

/-- CASCADE_READY: every member reports ready (R34). -/
def execCascadeReady (dt : Nat) (s : State) : Host.Outcome State Fault Refusal :=
  .next (s.vcCmd dt fun v => v.cascReady)

/-- CASCADE_BLOCK_RX: a cascade block on the UP or the DN pair (R144). -/
def execCascadeBlockRx (dt : Nat) (down : Bool) (blk : Block) (s : State) : Host.Outcome State Fault Refusal :=
  .next (s.vcCmd dt fun v => v.cascadeBlock (b2n down) blk)

/-- CASCADE_COMMAND_FRAME: voted commands for remote facets (R128), and what a home tells of its arms (R113). -/
def execCascadeCommandFrame (dt : Nat) (dest : Fin 16) (cmds : List (Fin 4608 × BitVec 48)) (notes : FrameNotes) (bad : BitVec 2) (s : State) :
    Host.Outcome State Fault Refusal :=
  .next (s.vcCmd dt fun v => v.commandFrame dest (cmds.map fun c => (c.1.val, c.2.toNat)) notes.deblock notes.arms bad.toNat)

/-- FACET_SLICE_RX: a facet slice of a remote string (R127). -/
def execFacetSliceRx (dt : Nat) (home vc : Fin 16) (str : Fin 48) (ws : List Word) (bad : BitVec 2) (s : State) : Host.Outcome State Fault Refusal :=
  .next (s.vcCmd dt fun v => v.sliceRx home vc str (ws.map BitVec.toNat) bad.toNat)

/-- CASC_VALUE_RX: a CASC_OUT value (R81). -/
def execCascValueRx (dt : Nat) (origin : Fin 16) (slot : Fin 64) (value : Word) (period : Nat) (bad : BitVec 2) (s : State) : Host.Outcome State Fault Refusal :=
  .next (s.vcCmd dt fun v => v.cascValue origin slot value.toNat period bad.toNat)

/-- MEMBER_STATUS_RX: a member's status of the tick (R305). -/
def execMemberStatusRx (dt : Nat) (vc : Fin 16) (conds : BitVec 4) (strs : List RemStr) (bad : BitVec 2) (s : State) : Host.Outcome State Fault Refusal :=
  .next (s.vcCmd dt fun v => v.memberStatus vc conds.toNat strs bad.toNat)

end Sys2Proof.Machine
end

