-- ==== Sys2Proof/Machine/CellCmds.lean ====
section
/-!
DEFINITION. Machine/CellCmds.lean: the meanings of the commands of the cell controller: reset, core, bypass, converter (R222 to R236, R259 to R266).
-/
namespace Sys2Proof.Machine

/-- CC_COLD_RESET: a supply drop or RST_N low (R223). -/
def execCcColdReset (dt : Nat) (st : Fin 48) (p : Fin 96) (c : ColdCause) (s : State) : Host.Outcome State Fault Refusal :=
  .next (s.cellReset dt st p c)

/-- CC_RESET_RELEASE: the CC leaves cold reset (R223). -/
def execCcResetRelease (dt : Nat) (st : Fin 48) (p : Fin 96) (s : State) : Host.Outcome State Fault Refusal :=
  .next (s.cellRelease dt st p)

/-- CORE_RST: the core writes BOOT.CTRL.CORE_RST (R223). -/
def execCoreRst (dt : Nat) (st : Fin 48) (p : Fin 96) (v : Word) (s : State) : Host.Outcome State Fault Refusal :=
  .next (s.cellCmd dt st p fun w => if bit v.toNat 0 then w.coreWrite 0x808 v.toNat else w)

/-- CORE_WATCHDOG_EXPIRY: the core watchdog expires (R234). -/
def execCoreWatchdogExpiry (dt : Nat) (st : Fin 48) (p : Fin 96) (s : State) : Host.Outcome State Fault Refusal :=
  .next (s.cellCmd dt st p fun w => w.coreExpiry)

/-- KICK: the core writes WDOG.KICK (R235). -/
def execKick (dt : Nat) (st : Fin 48) (p : Fin 96) (v : Word) (s : State) : Host.Outcome State Fault Refusal :=
  .next (s.cellCmd dt st p fun w => w.coreWrite 0x708 v.toNat)

/-- DEBUG_HALT: the TAP halts the core of a cell, or lets it run (R234); with it the other operations of a TAP (R395). -/
def execDebugHalt (dt : Nat) (st : Fin 48) (p : Fin 96) (op : TapOp) (s : State) : Host.Outcome State Fault Refusal :=
  .next (s.tapCmd dt st p op)

/-- SM3_CHECK_DONE: the image digest check completes (R226). -/
def execSm3CheckDone (dt : Nat) (st : Fin 48) (p : Fin 96) (kept : List (Fin 49152 × Byte)) (s : State) : Host.Outcome State Fault Refusal :=
  .next (s.cellCmd dt st p fun w => w.sm3Done kept)

/-- BYP_FIRE_PULSE_END: BYP_FIRE has been active for PULSE_MS (R230). -/
def execBypFirePulseEnd (dt : Nat) (st : Fin 48) (p : Fin 96) (s : State) : Host.Outcome State Fault Refusal :=
  .next (s.cellCmd dt st p fun w => w.pulseEnd)

/-- BYPASS_CONFIRM_TIMEOUT: CONFIRM_MS passes (R230). -/
def execBypassConfirmTimeout (dt : Nat) (st : Fin 48) (p : Fin 96) (s : State) : Host.Outcome State Fault Refusal :=
  .next (s.cellCmd dt st p fun w => w.confirmTimeout)

/-- ADC_SLOT: a conversion slot completes (R259). -/
def execAdcSlot (dt : Nat) (st : Fin 48) (p : Fin 96) (raw : BitVec 16) (s : State) : Host.Outcome State Fault Refusal :=
  .next (s.cellCmd dt st p fun w => w.adcSlot raw.toNat)

/-- TICK_SAMPLE_HOLD: the tick track-and-hold holds (R261). -/
def execTickSampleHold (dt : Nat) (st : Fin 48) (p : Fin 96) (s : State) : Host.Outcome State Fault Refusal :=
  .next (s.cellCmd dt st p fun w => w.tickHold)

/-- REF_SETTLED: the reference buffer has been on for 150 µs (R260). -/
def execRefSettled (dt : Nat) (st : Fin 48) (p : Fin 96) (s : State) : Host.Outcome State Fault Refusal :=
  .next (s.cellCmd dt st p fun w => w.refSettled)

/-- OPEN_WIRE_TEST: the core writes OWCTL.GO (R263). -/
def execOpenWireTest (dt : Nat) (st : Fin 48) (p : Fin 96) (v : Word) (s : State) : Host.Outcome State Fault Refusal :=
  .next (s.cellCmd dt st p fun w => if bit v.toNat 31 then w.coreWrite 0x41C v.toNat else w)

/-- OPEN_WIRE_SETTLE: the settling time of a test step ends (R263). -/
def execOpenWireSettle (dt : Nat) (st : Fin 48) (p : Fin 96) (s : State) : Host.Outcome State Fault Refusal :=
  .next (s.cellCmd dt st p fun w => w.owSettle)

/-- QPOP_READ: the core reads QPOP (R266). -/
def execQpopRead (dt : Nat) (st : Fin 48) (p : Fin 96) (s : State) : Host.Outcome State Fault Refusal :=
  .next (s.cellCmd dt st p fun w => w.qpopByCore)

/-- CELL_CORE_REGISTER_WRITE: the core writes a CC register (R222). -/
def execCellCoreRegisterWrite (dt : Nat) (st : Fin 48) (p : Fin 96) (addr : BitVec 16) (v : Word) (s : State) : Host.Outcome State Fault Refusal :=
  .next (s.cellCmd dt st p fun w => w.coreWrite addr.toNat v.toNat)

end Sys2Proof.Machine
end

