-- ==== Sys2Proof/Machine/GateCmds.lean ====
section
/-!
DEFINITION. Machine/GateCmds.lean: the meanings of the commands of gate timing and trips (R240 to R252).
-/
namespace Sys2Proof.Machine

/-- GATE_EDGE: the next edge arrives (R240). -/
def execGateEdge (dt : Nat) (st : Fin 48) (p : Fin 96) (s : State) : Host.Outcome State Fault Refusal :=
  .next (s.cellCmd dt st p fun w => w.gateEdge)

/-- GATE_TURN_ON: a pending output's dead time ends (R241). -/
def execGateTurnOn (dt : Nat) (st : Fin 48) (p : Fin 96) (s : State) : Host.Outcome State Fault Refusal :=
  .next (s.cellCmd dt st p fun w => w.gateTurnOn)

/-- DELAY_LINE_CALIBRATION: the delay line of an output is calibrated: the length found (R246). -/
def execDelayLineCalibration (dt : Nat) (st : Fin 48) (p : Fin 96) (k : Fin 4) (m : Nat) (s : State) : Host.Outcome State Fault Refusal :=
  .next (s.cellCmd dt st p fun w => w.calibrate k m)

/-- TRIP_INPUT: the filtered level of a trip input (R249). -/
def execTripInput (dt : Nat) (st : Fin 48) (p : Fin 96) (pin : Fin 6) (level : Bool) (s : State) : Host.Outcome State Fault Refusal :=
  .next (s.cellCmd dt st p fun w => w.tripInput pin level)

/-- DESAT_BLANKING_END: blanking T1 ends (R250). -/
def execDesatBlankingEnd (dt : Nat) (st : Fin 48) (p : Fin 96) (pin : Fin 6) (s : State) : Host.Outcome State Fault Refusal :=
  .next (s.cellCmd dt st p fun w => w.judge pin false)

/-- TRIP_CLEAR: the core writes TRIP.CTRL.CLEAR (R252). -/
def execTripClear (dt : Nat) (st : Fin 48) (p : Fin 96) (v : Word) (s : State) : Host.Outcome State Fault Refusal :=
  .next (s.cellCmd dt st p fun w => if bit v.toNat 0 then w.coreWrite 0x324 v.toNat else w)

end Sys2Proof.Machine
end

