-- ==== Sys2Proof/Machine/LedgerCmds.lean ====
section
/-!
DEFINITION. Machine/LedgerCmds.lean: the meanings of the commands of flash, the event ledger and the Aperture recorder (R312 to R327, R355).
-/
namespace Sys2Proof.Machine

/-- FLASH_OPERATION_DONE: an xSPI operation completes, or fails (R355). -/
def execFlashOperationDone (dt : Nat) (ok readOk : Bool) (s : State) : Host.Outcome State Fault Refusal :=
  .next (s.vcCmd dt fun v => v.flashDone ok readOk)

/-- LEDGER_FLASH_WRITE: the next queued record is programmed, or the write fails (R312). -/
def execLedgerFlashWrite (dt : Nat) (ok : Bool) (s : State) : Host.Outcome State Fault Refusal :=
  .next (s.vcCmd dt fun v => v.ledgerFlashWrite ok)

/-- STATS_WRITE: the statistics are written (R317). -/
def execStatsWrite (dt : Nat) (ok : Bool) (s : State) : Host.Outcome State Fault Refusal :=
  .next (s.vcCmd dt fun v => v.statsWrite ok)

/-- HOURS_SAVE: HOURS is kept in flash (R315). -/
def execHoursSave (dt : Nat) (ok : Bool) (s : State) : Host.Outcome State Fault Refusal :=
  .next (s.vcCmd dt fun v => v.hoursSave ok)

/-- HOURS_SECOND: a whole second out of cold reset (R315). -/
def execHoursSecond (dt : Nat) (s : State) : Host.Outcome State Fault Refusal :=
  .next (s.vcCmd dt fun v => v.hoursSecond)

/-- FLUSH: LEDGER.CTRL.FLUSH (R326). -/
def execFlush (dt : Nat) (req : BitVec 16) (w : Word) (s : State) : Host.Outcome State Fault Refusal :=
  .next (s.vcCmd dt fun v => v.hostWr req (0x110004) w (bit w.toNat 1))

/-- UNIT_RST: LEDGER.CTRL.UNIT_RST (R326). -/
def execUnitRst (dt : Nat) (req : BitVec 16) (w : Word) (s : State) : Host.Outcome State Fault Refusal :=
  .next (s.vcCmd dt fun v => v.hostWr req (0x110004) w (bit w.toNat 2))

/-- CLR_STATS: LEDGER.CTRL.CLR_STATS (R317). -/
def execClrStats (dt : Nat) (req : BitVec 16) (w : Word) (s : State) : Host.Outcome State Fault Refusal :=
  .next (s.vcCmd dt fun v => v.hostWr req (0x110004) w (bit w.toNat 0))

/-- FORMAT: LEDGER.CTRL.FORMAT (R316). -/
def execFormat (dt : Nat) (req : BitVec 16) (w : Word) (s : State) : Host.Outcome State Fault Refusal :=
  .next (s.vcCmd dt fun v => v.hostWr req (0x110004) w (bit w.toNat 3))

/-- LEDGER_FORMAT_DONE: formatting ends (R316). -/
def execLedgerFormatDone (dt : Nat) (s : State) : Host.Outcome State Fault Refusal :=
  .next (s.vcCmd dt fun v => v.formatDone)

/-- APERTURE_START: APERTURE.CTRL.START (R324). -/
def execApertureStart (dt : Nat) (req : BitVec 16) (w : Word) (s : State) : Host.Outcome State Fault Refusal :=
  .next (s.vcCmd dt fun v => v.hostWr req (0x12000C) w (bit w.toNat 0))

/-- APERTURE_STOP: APERTURE.CTRL.STOP (R324). -/
def execApertureStop (dt : Nat) (req : BitVec 16) (w : Word) (s : State) : Host.Outcome State Fault Refusal :=
  .next (s.vcCmd dt fun v => v.hostWr req (0x12000C) w (bit w.toNat 1))

/-- FORCE: APERTURE.CTRL.FORCE (R323). -/
def execForce (dt : Nat) (req : BitVec 16) (w : Word) (s : State) : Host.Outcome State Fault Refusal :=
  .next (s.vcCmd dt fun v => v.hostWr req (0x12000C) w (bit w.toNat 2))

/-- APERTURE_AREA_COMPLETE: the post part fills, or POSTMAX ticks pass (R322). -/
def execApertureAreaComplete (dt : Nat) (s : State) : Host.Outcome State Fault Refusal :=
  .next (s.vcCmd dt fun v => v.apAreaComplete)

/-- HOLDOFF_END: hold-off ends (R324). -/
def execHoldoffEnd (dt : Nat) (s : State) : Host.Outcome State Fault Refusal :=
  .next (s.vcCmd dt fun v => v.holdoffEnd)

/-- COMPANION_REQUEST: requests go out on the enabled companion ports (R351). -/
def execCompanionRequest (dt : Nat) (s : State) : Host.Outcome State Fault Refusal :=
  .next (s.vcCmd dt fun v => v.companionRequest)

/-- COMPANION_RESPONSE_RX: a response of an SC (R352). -/
def execCompanionResponseRx (dt : Nat) (p : Fin 2) (w0 w1 : DWord) (s : State) : Host.Outcome State Fault Refusal :=
  .next (s.vcCmd dt fun v => v.companionResponse p w0.toNat w1.toNat)

/-- COMPANION_ACCESS: PORT.ACC (R353). -/
def execCompanionAccess (dt : Nat) (p : Fin 2) (req : BitVec 16) (w : Word) (s : State) : Host.Outcome State Fault Refusal :=
  .next (s.vcCmd dt fun v => v.hostWr req (0x14010C + 0x40 * p) w (true))

/-- PERMIT_MISMATCH: the BLKREQ pins and the reported permits (R352). -/
def execPermitMismatch (dt : Nat) (s : State) : Host.Outcome State Fault Refusal :=
  .next (s.vcCmd dt fun v => v.permitCheck)

end Sys2Proof.Machine
end

