-- ==== Sys2Proof/Machine/LensCmds.lean ====
section
/-!
DEFINITION. Machine/LensCmds.lean: the meanings of the commands of the Lens engine (R70, R74, R84, R85, R88, R89, R101).
-/
namespace Sys2Proof.Machine

/-- CTX_START: CTXCTRL.START (R84). -/
def execCtxStart (dt : Nat) (c : Fin 16) (req : BitVec 16) (w : Word) (s : State) : Host.Outcome State Fault Refusal :=
  .next (s.vcCmd dt fun v => v.hostWr req (0x3100C + 0x800 * c) w (bit w.toNat 0))

/-- CTX_STOP: CTXCTRL.STOP (R85). -/
def execCtxStop (dt : Nat) (c : Fin 16) (req : BitVec 16) (w : Word) (s : State) : Host.Outcome State Fault Refusal :=
  .next (s.vcCmd dt fun v => v.hostWr req (0x3100C + 0x800 * c) w (bit w.toNat 1))

/-- SETPOINT_WRITE: a host write of LENS.SETPT (R74). -/
def execSetpointWrite (dt : Nat) (n : Fin 64) (req : BitVec 16) (w : Word) (s : State) : Host.Outcome State Fault Refusal :=
  .next (s.vcCmd dt fun v => v.hostWr req (0x30100 + 4 * n) w (true))

/-- CLR_LOAD: LENS.CTRL.CLR_LOAD (R89). -/
def execClrLoad (dt : Nat) (req : BitVec 16) (w : Word) (s : State) : Host.Outcome State Fault Refusal :=
  .next (s.vcCmd dt fun v => v.hostWr req (0x30014) w (bit w.toNat 0))

/-- SV_FRAME: a sampled-value frame (R70). -/
def execSvFrame (dt : Nat) (f : SvFrame) (s : State) : Host.Outcome State Fault Refusal :=
  .next (s.vcCmd dt fun v => v.svFrame f)

/-- COEF_LOAD: COEF_LOAD with DIR 0 (R88). -/
def execCoefLoad (dt : Nat) (id : Nat) (buf : HostBuf) (s : State) : Host.Outcome State Fault Refusal :=
  .next (s.vcCmd dt fun v => v.coefLoad id false buf)

/-- COEF_READBACK: COEF_LOAD with DIR 1 (R88). -/
def execCoefReadback (dt : Nat) (id : Nat) (buf : HostBuf) (s : State) : Host.Outcome State Fault Refusal :=
  .next (s.vcCmd dt fun v => v.coefLoad id true buf)

/-- COEF_SWAP: COEF_SWAP (R101). -/
def execCoefSwap (dt : Nat) (id : Nat) (s : State) : Host.Outcome State Fault Refusal :=
  .next (s.vcCmd dt fun v => v.coefSwap id)

end Sys2Proof.Machine
end

