-- ==== Sys2Proof/Machine/LinkCmds.lean ====
section
/-!
DEFINITION. Machine/LinkCmds.lean: the meanings of the commands of serial links: bring-up, loss and return, tests (R184, R198, R203 to R220).
-/
namespace Sys2Proof.Machine

/-- PROBE_RX: a PROBE, answered with TURN (R198). -/
def execProbeRx (dt : Nat) (e : LinkEnd) (blk : Block) (turn : BitVec 16) (s : State) : Host.Outcome State Fault Refusal :=
  .next (s.linkCmd dt e (fun v l => v.probeRx l blk turn.toNat) (fun w d => w.probeRx d blk turn.toNat))

/-- ECHO_RX: an ECHO, with the RTT taken in ps (R198). -/
def execEchoRx (dt : Nat) (e : LinkEnd) (blk : Block) (rttPs : Nat) (s : State) : Host.Outcome State Fault Refusal :=
  .next (s.linkCmd dt e (fun v l => v.echoBlockRx l blk rttPs) (fun w d => w.echoBlockRx d blk rttPs))

/-- ECHO_TIMEOUT: 100 µs of a link measurement: of the VC's X end, or of a cell (R198). -/
def execEchoTimeout (dt : Nat) (st : Fin 48) (p : Option (Fin 96)) (s : State) : Host.Outcome State Fault Refusal :=
  match p with
  | none => .next (s.vcCmd dt fun v => v.echoTimeout st)
  | some p => .next (s.cellCmd dt st p fun w => w.echoTimeout)

/-- LINK_FAULT_RX: LINK_FAULT (R184). -/
def execLinkFaultRx (dt : Nat) (e : LinkEnd) (blk : Block) (s : State) : Host.Outcome State Fault Refusal :=
  .next (s.linkCmd dt e (fun v l => v.linkFault l blk) (fun w d => w.linkFault d blk))

/-- LINK_RETURN: both receivers have held lock for 1 ms (R184). -/
def execLinkReturn (dt : Nat) (e : LinkEnd) (s : State) : Host.Outcome State Fault Refusal :=
  .next (s.linkCmd dt e (fun v l => v.linkReturn l) (fun w d => w.linkReturn d))

/-- LOSS_OF_LOCK: a receiver loses lock (R203). -/
def execLossOfLock (dt : Nat) (e : LinkEnd) (s : State) : Host.Outcome State Fault Refusal :=
  .next (s.linkCmd dt e (fun v l => v.lockLost l) (fun w d => w.lockLost d))

/-- FAULT_TX_EXPIRY: 2 µs in FAULT_TX (R207). -/
def execFaultTxExpiry (dt : Nat) (e : LinkEnd) (s : State) : Host.Outcome State Fault Refusal :=
  .next (s.linkCmd dt e (fun v l => v.startAgain l 1 8000) (fun w d => w.startAgain d 1 8000))

/-- BACKOFF_EXPIRY: 1 ms in BACKOFF (R207). -/
def execBackoffExpiry (dt : Nat) (e : LinkEnd) (s : State) : Host.Outcome State Fault Refusal :=
  .next (s.linkCmd dt e (fun v l => v.startAgain l 8 4000000) (fun w d => w.startAgain d 8 4000000))

/-- BRINGUP_TIMEOUT: no progress for 1 ms, or loss of sync (R207). -/
def execBringupTimeout (dt : Nat) (e : LinkEnd) (s : State) : Host.Outcome State Fault Refusal :=
  .next (s.linkCmd dt e Vc.noProgress Cw.noProgress)

/-- CAP_RX: a CAP frame (R207). -/
def execCapRx (dt : Nat) (e : LinkEnd) (f : TrainFrame) (s : State) : Host.Outcome State Fault Refusal :=
  .next (s.linkCmd dt e (fun v l => v.trainRx l f fun x c now f => x.cap c now f) (fun w d => w.capRx d f))

/-- STEP_RX: a STEP frame (R207). -/
def execStepRx (dt : Nat) (e : LinkEnd) (f : TrainFrame) (s : State) : Host.Outcome State Fault Refusal :=
  .next (s.linkCmd dt e (fun v l => v.trainRx l f fun x c now f => x.step c now f) (fun w d => w.trainRx d f fun x c now f => x.step c now f))

/-- TRIAL_SLOTS_DONE: the trial slots have run, with the FOM of each in which the receiver was locked (R209). -/
def execTrialSlotsDone (dt : Nat) (e : LinkEnd) (foms : List (Option Byte)) (s : State) : Host.Outcome State Fault Refusal :=
  .next (s.linkCmd dt e (fun v l => v.trialSlots l (foms.map fun (m : Option Byte) => m.map BitVec.toNat)) (fun w d => w.trialSlots d (foms.map fun (m : Option Byte) => m.map BitVec.toNat)))

/-- RESULT_RX: a RESULT frame (R209). -/
def execResultRx (dt : Nat) (e : LinkEnd) (f : TrainFrame) (s : State) : Host.Outcome State Fault Refusal :=
  .next (s.linkCmd dt e (fun v l => v.trainRx l f fun x c now f => x.result c now f) (fun w d => w.trainRx d f fun x c now f => x.result c now f))

/-- GO_RX: a GO frame (R207). -/
def execGoRx (dt : Nat) (e : LinkEnd) (f : TrainFrame) (s : State) : Host.Outcome State Fault Refusal :=
  .next (s.linkCmd dt e (fun v l => v.trainRx l f fun x _ now f => x.go now f) (fun w d => w.trainRx d f fun x _ now f => x.go now f))

/-- BLOCK_LOCK_ACQUIRED: block lock in FINAL (R207). -/
def execBlockLockAcquired (dt : Nat) (e : LinkEnd) (s : State) : Host.Outcome State Fault Refusal :=
  .next (s.linkCmd dt e (fun v l => v.blockLock l) (fun w d => w.blockLock d))

/-- FINAL_LOCK_TIMEOUT: no block lock within 20 µs (R207). -/
def execFinalLockTimeout (dt : Nat) (e : LinkEnd) (s : State) : Host.Outcome State Fault Refusal :=
  .next (s.linkCmd dt e Vc.finalTimeout Cw.finalTimeout)

/-- TRAIN_FRAME_ERROR: a training frame that fails R204 (R204). -/
def execTrainFrameError (dt : Nat) (e : LinkEnd) (f : TrainFrame) (s : State) : Host.Outcome State Fault Refusal :=
  .next (s.linkCmd dt e (fun v l => v.frameError l f) (fun w d => w.frameError d f))

/-- CODE_ERROR: words with an invalid code group, sync header or line error among them (R203). -/
def execCodeError (dt : Nat) (r : LineRx) (s : State) : Host.Outcome State Fault Refusal :=
  .next (s.linkCmd dt r.e (fun v l => v.codeRx l r.words) (fun w d => w.codeRx d r.words))

/-- CC_RATE_LIMIT_RESET: neither receiver has had signal for 10 ms (R208). -/
def execCcRateLimitReset (dt : Nat) (st : Fin 48) (p : Fin 96) (s : State) : Host.Outcome State Fault Refusal :=
  .next (s.cellCmd dt st p fun w => w.rateLimitReset)

/-- MLANE_EQ_SLOTS_DONE: the CTLE slots of a measurement lane have run (R211). -/
def execMlaneEqSlotsDone (dt : Nat) (l : Fin 8) (foms : List (Option Byte)) (s : State) : Host.Outcome State Fault Refusal :=
  .next (s.vcCmd dt fun v => v.mlaneSlots (96 + l) (foms.map fun (m : Option Byte) => m.map BitVec.toNat))

/-- FOM_MEASURE: the FOM of the millisecond (R214). -/
def execFomMeasure (dt : Nat) (e : LinkEnd) (fom : Byte) (s : State) : Host.Outcome State Fault Refusal :=
  .next (s.linkCmd dt e (fun v l => v.fomMeasure l fom.toNat) (fun w d => w.fom d fom.toNat))

/-- LANE_RETRAIN: LANE.CTRL.RETRAIN (R207, R220). -/
def execLaneRetrain (dt : Nat) (l : Fin 108) (req : BitVec 16) (w : Word) (s : State) : Host.Outcome State Fault Refusal :=
  .next (s.vcCmd dt fun v => v.hostWr req (0xC0004 + 0x200 * l) w (bit w.toNat 0))

/-- LANE_RELEASE: LANE.CTRL.RELEASE (R216, R220). -/
def execLaneRelease (dt : Nat) (l : Fin 108) (req : BitVec 16) (w : Word) (s : State) : Host.Outcome State Fault Refusal :=
  .next (s.vcCmd dt fun v => v.hostWr req (0xC0004 + 0x200 * l) w (bit w.toNat 1))

/-- CLR_FOMMIN: LANE.CTRL.CLR_FOMMIN (R220). -/
def execClrFommin (dt : Nat) (l : Fin 108) (req : BitVec 16) (w : Word) (s : State) : Host.Outcome State Fault Refusal :=
  .next (s.vcCmd dt fun v => v.hostWr req (0xC0004 + 0x200 * l) w (bit w.toNat 2))

/-- LANE_TEST: the bits received in the test under way, then a write of LANE.TEST (R218). -/
def execLaneTest (dt : Nat) (l : Fin 108) (rx : List Bool) (req : BitVec 16) (w : Word) (s : State) : Host.Outcome State Fault Refusal :=
  .next (s.vcCmd dt fun v => (v.testBits l rx).hostWr req (0xC0080 + 0x200 * l) w true)

/-- ALIGN_SLIP: ALIGN.SLIP (R219). -/
def execAlignSlip (dt : Nat) (l : Fin 108) (req : BitVec 16) (w : Word) (s : State) : Host.Outcome State Fault Refusal :=
  .next (s.vcCmd dt fun v => v.hostWr req (0xC0060 + 0x200 * l) w (bit w.toNat 0))

/-- CC_LINK_TEST_END: the bits received at the lanes of a test, then its end at DUR (R235). -/
def execCcLinkTestEnd (dt : Nat) (st : Fin 48) (p : Fin 96) (upBits downBits : List Bool) (s : State) : Host.Outcome State Fault Refusal :=
  .next (s.cellCmd dt st p fun w => w.linkTestEnd upBits downBits)

end Sys2Proof.Machine
end

