-- ==== Sys2Proof/Machine/PrismCmds.lean ====
section
/-!
DEFINITION. Machine/PrismCmds.lean: the meanings of the commands of the Prism table (R113, R114, R131, R132).
-/
namespace Sys2Proof.Machine

/-- ARM_FORM: ARMCTL.FORM (R114). -/
def execArmForm (dt : Nat) (a : Fin 12) (req : BitVec 16) (w : Word) (s : State) : Host.Outcome State Fault Refusal :=
  .next (s.vcCmd dt fun v => v.hostWr req (0x4101C + 0x100 * a) w (bit w.toNat 0))

/-- ARM_RELEASE: ARMCTL.RELEASE (R113). -/
def execArmRelease (dt : Nat) (a : Fin 12) (req : BitVec 16) (w : Word) (s : State) : Host.Outcome State Fault Refusal :=
  .next (s.vcCmd dt fun v => v.hostWr req (0x4101C + 0x100 * a) w (bit w.toNat 1))

/-- CLR_TIMING: PRISM.CTRL.CLR_TIMING (R132). -/
def execClrTiming (dt : Nat) (req : BitVec 16) (w : Word) (s : State) : Host.Outcome State Fault Refusal :=
  .next (s.vcCmd dt fun v => v.hostWr req (0x40008) w (bit w.toNat 0))

/-- FACET_SET_TRIM: FACET_CTL SET_TRIM (R131). -/
def execFacetSetTrim (dt : Nat) (id : Nat) (buf : HostBuf) (s : State) : Host.Outcome State Fault Refusal :=
  .next (s.vcCmd dt fun v => v.facetCtl id 0 buf)

/-- FACET_RETURN: FACET_CTL RETURN (R131). -/
def execFacetReturn (dt : Nat) (id : Nat) (buf : HostBuf) (s : State) : Host.Outcome State Fault Refusal :=
  .next (s.vcCmd dt fun v => v.facetCtl id 1 buf)

/-- FACET_REMOVE: FACET_CTL REMOVE (R131). -/
def execFacetRemove (dt : Nat) (id : Nat) (buf : HostBuf) (s : State) : Host.Outcome State Fault Refusal :=
  .next (s.vcCmd dt fun v => v.facetCtl id 2 buf)

/-- FACET_CLEAR_COUNTS: FACET_CTL CLEAR_COUNTS (R131). -/
def execFacetClearCounts (dt : Nat) (id : Nat) (buf : HostBuf) (s : State) : Host.Outcome State Fault Refusal :=
  .next (s.vcCmd dt fun v => v.facetCtl id 3 buf)

end Sys2Proof.Machine
end

