-- ==== Sys2Proof/Machine/ProtCmds.lean ====
section
/-!
DEFINITION. Machine/ProtCmds.lean: the meanings of the commands of fast protection (R134 to R140, R150 to R152, R404).
-/
namespace Sys2Proof.Machine

/-- MEAS_FRAME_RX: a sample frame of a measurement lane; for each channel, a bit for each comparator instance that judges its
sample wrongly (R134, R137). -/
def execMeasFrameRx (dt : Nat) (l : Fin 8) (bs : List Block) (bad : BitVec 12) (s : State) : Host.Outcome State Fault Refusal :=
  .next (s.vcCmd dt fun v => v.measFrame l bs bad.toNat)

/-- MEAS_MISS: a channel has had no valid sample for its MISS time (R135). -/
def execMeasMiss (dt : Nat) (l : Fin 8) (ch : Fin 4) (s : State) : Host.Outcome State Fault Refusal :=
  .next (s.vcCmd dt fun v => v.measMiss l ch)

/-- BLOCK_PERMIT_CHANGE: a BLKREQ pin has held a level for a time, and its filter acts on it (R140). -/
def execBlockPermitChange (dt : Nat) (pinB : Bool) (x : PinLevel) (s : State) : Host.Outcome State Fault Refusal :=
  .next (s.vcCmd dt fun v => v.permitChange pinB x.level x.ns)

/-- PROT_CLEAR: PROT.CTRL.CLEAR (R139). -/
def execProtClear (dt : Nat) (req : BitVec 16) (w : Word) (s : State) : Host.Outcome State Fault Refusal :=
  .next (s.vcCmd dt fun v => v.hostWr req (0x5000C) w (bit w.toNat 1))

/-- PROT_HOST_BLOCK: PROT.CTRL.BLOCK (R139). -/
def execProtHostBlock (dt : Nat) (req : BitVec 16) (w : Word) (s : State) : Host.Outcome State Fault Refusal :=
  .next (s.vcCmd dt fun v => v.hostWr req (0x5000C) w (bit w.toNat 0))

/-- PROT_TEST_GO: PROT.TEST.GO (R404). -/
def execProtTestGo (dt : Nat) (req : BitVec 16) (w : Word) (s : State) : Host.Outcome State Fault Refusal :=
  .next (s.vcCmd dt fun v => v.hostWr req (0x5002C) w (bit w.toNat 15))

/-- TOKEN_GRANT: TOKCFG with a COUNT (R150). -/
def execTokenGrant (dt : Nat) (a : Fin 12) (req : BitVec 16) (w : Word) (s : State) : Host.Outcome State Fault Refusal :=
  .next (s.vcCmd dt fun v => v.hostWr req (0x50400 + 0x10 * a) w (bits w.toNat 15 12 ≠ 0))

/-- TOKEN_REVOKE: TOKCFG with COUNT 0 (R150). -/
def execTokenRevoke (dt : Nat) (a : Fin 12) (req : BitVec 16) (w : Word) (s : State) : Host.Outcome State Fault Refusal :=
  .next (s.vcCmd dt fun v => v.hostWr req (0x50400 + 0x10 * a) w (bits w.toNat 15 12 = 0))

/-- TOKEN_EXPIRY: a token's time runs out (R150). -/
def execTokenExpiry (dt : Nat) (a : Fin 12) (s : State) : Host.Outcome State Fault Refusal :=
  .next (s.vcCmd dt fun v => v.tokenExpiry a)

/-- BYPASS_FIRE_REQUEST: PROT.FIRE (R151). -/
def execBypassFireRequest (dt : Nat) (req : BitVec 16) (w : Word) (s : State) : Host.Outcome State Fault Refusal :=
  .next (s.vcCmd dt fun v => v.hostWr req (0x50500) w (true))

/-- FIRING_END: a firing ends (R152). -/
def execFiringEnd (dt : Nat) (s : State) : Host.Outcome State Fault Refusal := .next (s.vcCmd dt fun v => v.firingEnd)

end Sys2Proof.Machine
end

