-- ==== Sys2Proof/Machine/QueueCmds.lean ====
section
/-!
DEFINITION. Machine/QueueCmds.lean: the meanings of the commands of host queues and interrupts (R286 to R309).
-/
namespace Sys2Proof.Machine

/-- SQ_DOORBELL: SQDB (R288). -/
def execSqDoorbell (dt : Nat) (q : Fin 16) (req : BitVec 16) (w : Word) (s : State) : Host.Outcome State Fault Refusal :=
  .next (s.vcCmd dt fun v => v.hostWr req (0x18000 + 8 * q) w true)

/-- CQ_DOORBELL: CQDB (R288). -/
def execCqDoorbell (dt : Nat) (q : Fin 16) (req : BitVec 16) (w : Word) (s : State) : Host.Outcome State Fault Refusal :=
  .next (s.vcCmd dt fun v => v.hostWr req (0x18004 + 8 * q) w true)

/-- DESCRIPTOR_FETCH: a descriptor is fetched: its 16 words, or a failed read (R289). -/
def execDescriptorFetch (dt : Nat) (ws : Option (List Word)) (s : State) : Host.Outcome State Fault Refusal :=
  .next (s.vcCmd dt fun v => v.fetchDesc (ws.map fun x => x.map BitVec.toNat))

/-- COALESCE_TIMEOUT: COAL_US passes (R291). -/
def execCoalesceTimeout (dt : Nat) (c : Fin 16) (s : State) : Host.Outcome State Fault Refusal :=
  .next (s.vcCmd dt fun v => v.coalesce c)

/-- SQ_ENABLE: SQ CFG with EN 1 (R303). -/
def execSqEnable (dt : Nat) (q : Fin 16) (req : BitVec 16) (w : Word) (s : State) : Host.Outcome State Fault Refusal :=
  .next (s.vcCmd dt fun v => v.hostWr req (0x11008 + 0x40 * q) w (bit w.toNat 31))

/-- SQ_DISABLE: SQ CFG with EN 0 (R303). -/
def execSqDisable (dt : Nat) (q : Fin 16) (req : BitVec 16) (w : Word) (s : State) : Host.Outcome State Fault Refusal :=
  .next (s.vcCmd dt fun v => v.hostWr req (0x11008 + 0x40 * q) w (!bit w.toNat 31))

/-- CQ_ENABLE: CQ CFG with EN 1 (R309). -/
def execCqEnable (dt : Nat) (q : Fin 16) (req : BitVec 16) (w : Word) (s : State) : Host.Outcome State Fault Refusal :=
  .next (s.vcCmd dt fun v => v.hostWr req (0x12008 + 0x40 * q) w (bit w.toNat 31))

/-- SQ_RESUME: SQ CTRL.RESUME (R303). -/
def execSqResume (dt : Nat) (q : Fin 16) (req : BitVec 16) (w : Word) (s : State) : Host.Outcome State Fault Refusal :=
  .next (s.vcCmd dt fun v => v.hostWr req (0x1100C + 0x40 * q) w (bit w.toNat 31))

/-- SQ_ABORT: SQ CTRL.ABORT (R304). -/
def execSqAbort (dt : Nat) (q : Fin 16) (req : BitVec 16) (w : Word) (s : State) : Host.Outcome State Fault Refusal :=
  .next (s.vcCmd dt fun v => v.hostWr req (0x1100C + 0x40 * q) w (bit w.toNat 30))

/-- FUNCTION_LEVEL_RESET: a Function Level Reset (R286). -/
def execFunctionLevelReset (dt : Nat) (s : State) : Host.Outcome State Fault Refusal :=
  .next (s.vcCmd dt fun v => v.hostqReset)

/-- PCIE_LINK_DOWN: link-down, hot reset, PERST_N or D3hot (R286). -/
def execPcieLinkDown (dt : Nat) (s : State) : Host.Outcome State Fault Refusal :=
  .next (s.vcCmd dt fun v => v.hostqReset)

/-- BUS_MASTER_CLEAR: Bus Master Enable is cleared (R286). -/
def execBusMasterClear (dt : Nat) (s : State) : Host.Outcome State Fault Refusal :=
  .next (s.vcCmd dt fun v => v.bmeClear)

/-- BUS_MASTER_SET: Bus Master Enable is set (R286). -/
def execBusMasterSet (dt : Nat) (s : State) : Host.Outcome State Fault Refusal := .next (s.vcCmd dt fun v => v.bmeSet)

/-- NOP: NOP (R295). -/
def execNopDescriptor (dt : Nat) (id : Nat) (s : State) : Host.Outcome State Fault Refusal :=
  .next (s.vcCmd dt fun v => v.nopDesc id)

/-- VALVE_CTL_DEBLOCK: VALVE_CTL DEBLOCK (R305). -/
def execValveCtlDeblock (dt : Nat) (id : Nat) (s : State) : Host.Outcome State Fault Refusal :=
  .next (s.vcCmd dt fun v => v.valveCtl id 1)

/-- VALVE_CTL_BLOCK: VALVE_CTL BLOCK (R305). -/
def execValveCtlBlock (dt : Nat) (id : Nat) (s : State) : Host.Outcome State Fault Refusal :=
  .next (s.vcCmd dt fun v => v.valveCtl id 2)

/-- CELL_CLEAR: CELL_CLEAR (R306). -/
def execCellClear (dt : Nat) (id : Nat) (s : State) : Host.Outcome State Fault Refusal :=
  .next (s.vcCmd dt fun v => v.cellClear id)

/-- CELL_CLEAR_DONE: every facet has reported, or 16 ticks pass (R306). -/
def execCellClearDone (dt : Nat) (id : Nat) (s : State) : Host.Outcome State Fault Refusal :=
  .next (s.vcCmd dt fun v => v.cellClearDone id)

/-- CELL_MSG_READ: CELL_MSG READ (R307). -/
def execCellMsgRead (dt : Nat) (id : Nat) (buf : HostBuf) (s : State) : Host.Outcome State Fault Refusal :=
  .next (s.vcCmd dt fun v => v.cellMsg id 0 buf)

/-- CELL_MSG_WRITE: CELL_MSG WRITE (R307). -/
def execCellMsgWrite (dt : Nat) (id : Nat) (buf : HostBuf) (s : State) : Host.Outcome State Fault Refusal :=
  .next (s.vcCmd dt fun v => v.cellMsg id 1 buf)

/-- SNAPSHOT: SNAPSHOT (R308). -/
def execSnapshot (dt : Nat) (id : Nat) (s : State) : Host.Outcome State Fault Refusal :=
  .next (s.vcCmd dt fun v => v.snapshot id)

/-- LEDGER_READ: LEDGER_READ; `ok` says that the flash could be read (R318). -/
def execLedgerRead (dt : Nat) (id : Nat) (ok : Bool) (s : State) : Host.Outcome State Fault Refusal :=
  .next (s.vcCmd dt fun v => v.ledgerRead id ok)

/-- APERTURE_READ: APERTURE_READ (R325). -/
def execApertureRead (dt : Nat) (id : Nat) (s : State) : Host.Outcome State Fault Refusal :=
  .next (s.vcCmd dt fun v => v.apRead id)

/-- CONFIG_WRITE: CONFIG_WRITE (R365). -/
def execConfigWrite (dt : Nat) (id : Nat) (buf : HostBuf) (s : State) : Host.Outcome State Fault Refusal :=
  .next (s.vcCmd dt fun v => v.configWrite id buf)

/-- FW_WRITE: FW_BLOCK WRITE (R360). -/
def execFwWrite (dt : Nat) (id : Nat) (buf : HostBuf) (s : State) : Host.Outcome State Fault Refusal :=
  .next (s.vcCmd dt fun v => v.fwBlock id 0 buf)

/-- FW_VERIFY: FW_BLOCK VERIFY (R360). -/
def execFwVerify (dt : Nat) (id : Nat) (buf : HostBuf) (s : State) : Host.Outcome State Fault Refusal :=
  .next (s.vcCmd dt fun v => v.fwBlock id 1 buf)

/-- FW_ACTIVATE: FW_BLOCK ACTIVATE (R360). -/
def execFwActivate (dt : Nat) (id : Nat) (buf : HostBuf) (s : State) : Host.Outcome State Fault Refusal :=
  .next (s.vcCmd dt fun v => v.fwBlock id 2 buf)

end Sys2Proof.Machine
end

