-- ==== Sys2Proof/Machine/RingCmds.lean ====
section
/-!
DEFINITION. Machine/RingCmds.lean: the meanings of the commands of sweeps, flashes and messages at a cell (R180 to R198, R226).
-/
namespace Sys2Proof.Machine

/-- SWEEP_COPY_RX: a sweep copy passes a cell (R180). -/
def execSweepCopyRx (dt : Nat) (st : Fin 48) (p : Fin 96) (down : Bool) (hdr : List Block) (cmd rep t0 t1 : Block) (ago : Nat) (s : State) : Host.Outcome State Fault Refusal :=
  .next (s.cellCmd dt st p fun w => w.sweepCopy down hdr cmd rep t0 t1 ago)

/-- CC_FLASH_RX: a block flash at a cell (R189). -/
def execCcFlashRx (dt : Nat) (st : Fin 48) (p : Fin 96) (down : Bool) (blk : Block) (s : State) : Host.Outcome State Fault Refusal :=
  .next (s.cellCmd dt st p fun w => w.flashRx down blk)

/-- CELL_TICK_INSTANT: an effective tick of cell time (R181). -/
def execCellTickInstant (dt : Nat) (st : Fin 48) (p : Fin 96) (s : State) : Host.Outcome State Fault Refusal :=
  .next (s.cellCmd dt st p fun w => w.tickInstant)

/-- CELL_SWEEP_WATCHDOG: tick instants without an accepted command (R190). -/
def execCellSweepWatchdog (dt : Nat) (st : Fin 48) (p : Fin 96) (s : State) : Host.Outcome State Fault Refusal :=
  .next (s.cellCmd dt st p fun w => w.sweepWatchdog)

/-- CC_MSG_READ: READ at a cell (R192). -/
def execCcMsgRead (dt : Nat) (st : Fin 48) (p : Fin 96) (down : Bool) (m : MsgFrame) (s : State) : Host.Outcome State Fault Refusal :=
  .next (s.cellCmd dt st p fun w => w.msgRead down m)

/-- CC_MSG_WRITE: WRITE at a cell (R235). -/
def execCcMsgWrite (dt : Nat) (st : Fin 48) (p : Fin 96) (down : Bool) (m : MsgFrame) (s : State) : Host.Outcome State Fault Refusal :=
  .next (s.cellCmd dt st p fun w => w.msgWrite down m)

/-- CC_MSG_ASSIGN: ASSIGN at a cell (R197). -/
def execCcMsgAssign (dt : Nat) (st : Fin 48) (p : Fin 96) (down : Bool) (m : MsgFrame) (s : State) : Host.Outcome State Fault Refusal :=
  .next (s.cellCmd dt st p fun w => w.msgAssign down m)

/-- CC_MSG_CAL_START: CAL_START at a cell (R198). -/
def execCcMsgCalStart (dt : Nat) (st : Fin 48) (p : Fin 96) (down : Bool) (m : MsgFrame) (s : State) : Host.Outcome State Fault Refusal :=
  .next (s.cellCmd dt st p fun w => w.msgCalStart down m)

/-- CC_MSG_FW_BLOCK: FW_BLOCK at a cell (R226). -/
def execCcMsgFwBlock (dt : Nat) (st : Fin 48) (p : Fin 96) (down : Bool) (m : MsgFrame) (s : State) : Host.Outcome State Fault Refusal :=
  .next (s.cellCmd dt st p fun w => w.msgFwBlock down m)

/-- CC_RESPONSE_SEND: a response leaves when it fits (R193). -/
def execCcResponseSend (dt : Nat) (st : Fin 48) (p : Fin 96) (s : State) : Host.Outcome State Fault Refusal :=
  .next (s.cellCmd dt st p fun w => w.sendResponse)

end Sys2Proof.Machine
end

