-- ==== Sys2Proof/Machine/SafetyCmds.lean ====
section
/-!
DEFINITION. Machine/SafetyCmds.lean: the meanings of the commands of the safety companion (R328 to R354, R386).
-/
namespace Sys2Proof.Machine

/-- SAFETY_CYCLE: the end of a 1 ms cycle (R328). -/
def execSafetyCycle (dt : Nat) (n : Fin 2) (c : ScCycle) (s : State) : Host.Outcome State Fault Refusal :=
  .next (s.scCmd dt n fun w => w.cycle c)

/-- ISO_FRAME_RX: an isolation frame (R338). -/
def execIsoFrameRx (dt : Nat) (n : Fin 2) (good : Bool) (f : IsoFrame) (s : State) : Host.Outcome State Fault Refusal :=
  .next (s.scCmd dt n (always := true) fun w => w.isoFrame good f)

/-- ISO_TIMEOUT: no valid isolation frame for 1 ms, at the field or the logic die (R338). -/
def execIsoTimeout (dt : Nat) (n : Fin 2) (field : Bool) (s : State) : Host.Outcome State Fault Refusal :=
  .next (s.scCmd dt n (always := true) fun w => w.isoTimeout field)

/-- FIELD_SUPPLY_SAG: the field supply falls below 18.0 V, in 0.125 V (R339). -/
def execFieldSupplySag (dt : Nat) (n : Fin 2) (x : Byte) (s : State) : Host.Outcome State Fault Refusal :=
  .next (s.scCmd dt n (always := true) fun w => w.sag x.toNat)

/-- FIELD_SUPPLY_SAG_END: the field supply rises above 18.5 V (R339). -/
def execFieldSupplySagEnd (dt : Nat) (n : Fin 2) (x : Byte) (s : State) : Host.Outcome State Fault Refusal :=
  .next (s.scCmd dt n (always := true) fun w => w.sagEnd x.toNat)

/-- SUPPLY_LOW: below 16.0 V for 2 ms (R339). -/
def execSupplyLow (dt : Nat) (n : Fin 2) (s : State) : Host.Outcome State Fault Refusal :=
  .next (s.scCmd dt n (always := true) fun w => w.supplyLow)

/-- OUTPUT_OVERLOAD: limited for 5 ms (R335). -/
def execOutputOverload (dt : Nat) (n : Fin 2) (k : Fin 8) (s : State) : Host.Outcome State Fault Refusal :=
  .next (s.scCmd dt n fun w => w.overload k)

/-- OUTPUT_OVERTEMP: a switch above 160 °C (R335). -/
def execOutputOvertemp (dt : Nat) (n : Fin 2) (k : Fin 8) (s : State) : Host.Outcome State Fault Refusal :=
  .next (s.scCmd dt n fun w => w.overtemp k)

/-- OUTPUT_OPEN_WIRE: under 10 mA for 100 ms (R335). -/
def execOutputOpenWire (dt : Nat) (n : Fin 2) (k : Fin 8) (s : State) : Host.Outcome State Fault Refusal :=
  .next (s.scCmd dt n fun w => w.openWire k)

/-- OFF_TEST: a switch is opened for PULSE (R336). -/
def execOffTest (dt : Nat) (n : Fin 2) (k : Fin 8) (high : Bool) (s : State) : Host.Outcome State Fault Refusal :=
  .next (s.scCmd dt n fun w => w.offTest k high)

/-- OFF_TEST_END: the readbacks of a pulse (R337). -/
def execOffTestEnd (dt : Nat) (n : Fin 2) (during : BitVec 8) (nUp : Bool) (s : State) : Host.Outcome State Fault Refusal :=
  .next (s.scCmd dt n fun w => w.offTestEnd during.toNat nUp)

/-- RESET_BUTTON: RST_BTN released (R345). -/
def execResetButton (dt : Nat) (n : Fin 2) (ms : Nat) (s : State) : Host.Outcome State Fault Refusal :=
  .next (s.scCmd dt n fun w => w.resetButton ms)

/-- RST_STUCK: a press passes 3 s (R345). -/
def execRstStuck (dt : Nat) (n : Fin 2) (s : State) : Host.Outcome State Fault Refusal :=
  .next (s.scCmd dt n fun w => w.rstStuck)

/-- RST_STUCK_CLEAR: RST_BTN open for 1 s (R345). -/
def execRstStuckClear (dt : Nat) (n : Fin 2) (s : State) : Host.Outcome State Fault Refusal :=
  .next (s.scCmd dt n fun w => w.rstStuckClear)

/-- SC_POWER_UP: power-up or RST_N (R346). -/
def execScPowerUp (dt : Nat) (n : Fin 2) (btn : Bool) (s : State) : Host.Outcome State Fault Refusal :=
  .next (s.scCmd dt n (always := true) fun w => w.powerUp btn)

/-- ESW_CLOSE: the request CLOSE written to ESWREQ (R341). -/
def execEswClose (dt : Nat) (n : Fin 2) (s : State) : Host.Outcome State Fault Refusal :=
  .next (s.scCmd dt n fun w => if w.req = 1 then w.eswClose else w)

/-- ESW_OPEN: the request OPEN (R341). -/
def execEswOpen (dt : Nat) (n : Fin 2) (s : State) : Host.Outcome State Fault Refusal :=
  .next (s.scCmd dt n fun w => if w.req = 2 then w.eswOpen else w)

/-- ESW_ABORT: the request ABORT (R341). -/
def execEswAbort (dt : Nat) (n : Fin 2) (s : State) : Host.Outcome State Fault Refusal :=
  .next (s.scCmd dt n fun w => if w.req = 3 then w.eswAbort else w)

/-- ESW_DELAY_EXPIRY: DELAY passes in WAIT (R341). -/
def execEswDelayExpiry (dt : Nat) (n : Fin 2) (s : State) : Host.Outcome State Fault Refusal :=
  .next (s.scCmd dt n fun w => w.eswDelay)

/-- ESW_FB_TIMEOUT: FBTIME passes (R341). -/
def execEswFbTimeout (dt : Nat) (n : Fin 2) (s : State) : Host.Outcome State Fault Refusal :=
  .next (s.scCmd dt n fun w => w.eswFbTimeout)

/-- MODE_ENTER: a WRITE of MODE.REQ ENTER (R347). -/
def execModeEnter (dt : Nat) (n : Fin 2) (q : DWord) (s : State) : Host.Outcome State Fault Refusal :=
  .next (s.scCmd dt n fun w => w.serve q.toNat 2 fun a v => a = 0x01 && v % 4 = 1)

/-- MODE_LEAVE: a WRITE of MODE.REQ LEAVE (R347). -/
def execModeLeave (dt : Nat) (n : Fin 2) (q : DWord) (s : State) : Host.Outcome State Fault Refusal :=
  .next (s.scCmd dt n fun w => w.serve q.toNat 2 fun a v => a = 0x01 && v % 4 = 2)

/-- SC_UNLOCK: a WRITE of UNLOCK[3] (R348). -/
def execScUnlock (dt : Nat) (n : Fin 2) (q : DWord) (s : State) : Host.Outcome State Fault Refusal :=
  .next (s.scCmd dt n fun w => w.serve q.toNat 2 fun a _ => a = 0x84)

/-- RELOCK: a WRITE of SECCTL.RELOCK (R348). -/
def execRelock (dt : Nat) (n : Fin 2) (q : DWord) (s : State) : Host.Outcome State Fault Refusal :=
  .next (s.scCmd dt n fun w => w.serve q.toNat 2 fun a v => a = 0x85 && bit v 0)

/-- UNLOCK_EXPIRY: UNLOCKED or BARRED runs out (R348). -/
def execUnlockExpiry (dt : Nat) (n : Fin 2) (s : State) : Host.Outcome State Fault Refusal :=
  .next (s.scCmd dt n fun w => w.unlockExpiry)

/-- PASSWORD_CHANGE: a WRITE of PWD[3] (R348). -/
def execPasswordChange (dt : Nat) (n : Fin 2) (q : DWord) (s : State) : Host.Outcome State Fault Refusal :=
  .next (s.scCmd dt n fun w => w.serve q.toNat 2 fun a _ => a = 0x89)

/-- SC_PARAMETER_WRITE: a WRITE of a parameter (R347). -/
def execScParameterWrite (dt : Nat) (n : Fin 2) (q : DWord) (s : State) : Host.Outcome State Fault Refusal :=
  .next (s.scCmd dt n fun w => w.serve q.toNat 2 fun a _ => setAddrs.contains a)

/-- SC_CONFIRM: a WRITE of CONFIRM[3] (R350). -/
def execScConfirm (dt : Nat) (n : Fin 2) (q : DWord) (s : State) : Host.Outcome State Fault Refusal :=
  .next (s.scCmd dt n fun w => w.serve q.toNat 2 fun a _ => a = 0x91)

/-- CONFIRM_TIMEOUT: 30 s without a reset press (R350). -/
def execConfirmTimeout (dt : Nat) (n : Fin 2) (s : State) : Host.Outcome State Fault Refusal :=
  .next (s.scCmd dt n fun w => w.confirmTimeout)

/-- SC_POLL: a POLL request (R351). -/
def execScPoll (dt : Nat) (n : Fin 2) (q : DWord) (s : State) : Host.Outcome State Fault Refusal :=
  .next (s.scCmd dt n fun w => w.serve q.toNat 0 fun _ _ => true)

/-- SC_READ: a READ request (R351). -/
def execScRead (dt : Nat) (n : Fin 2) (q : DWord) (s : State) : Host.Outcome State Fault Refusal :=
  .next (s.scCmd dt n fun w => w.serve q.toNat 1 fun _ _ => true)

/-- SC_WRITE: a WRITE request (R351). -/
def execScWrite (dt : Nat) (n : Fin 2) (q : DWord) (s : State) : Host.Outcome State Fault Refusal :=
  .next (s.scCmd dt n fun w => w.serve q.toNat 2 fun _ _ => true)

/-- SC_UNPOWERED: VDDL below 2.5 V (R386). -/
def execScUnpowered (dt : Nat) (n : Fin 2) (s : State) : Host.Outcome State Fault Refusal :=
  .next (s.scCmd dt n fun w => w.unpower)

end Sys2Proof.Machine
end

