-- ==== Sys2Proof/Machine/SchedCmds.lean ====
section
/-!
DEFINITION. Machine/SchedCmds.lean: the meanings of the commands of the work scheduler (R157 to R169).
-/
namespace Sys2Proof.Machine

/-- ITEM_ARM: ITEMCTL ARM of the host, or of a core for an item (R157). -/
def execItemArm (dt : Nat) (req : BitVec 16) (w : Word) (by_ : Option (Fin 256)) (s : State) : Host.Outcome State Fault Refusal :=
  .next (s.vcCmd dt fun v => match by_ with
    | none => v.hostWr req 0x60008 w (bits w.toNat 31 28 = 1)
    | some j => v.hold (.core 1 j))

/-- ITEM_CANCEL: ITEMCTL CANCEL of the host, or of a core (R164). -/
def execItemCancel (dt : Nat) (req : BitVec 16) (w : Word) (by_ : Option (Fin 256)) (s : State) : Host.Outcome State Fault Refusal :=
  .next (s.vcCmd dt fun v => match by_ with
    | none => v.hostWr req 0x60008 w (bits w.toNat 31 28 = 2)
    | some j => v.hold (.core 2 j))

/-- ITEM_FREE: ITEMCTL FREE of the host, or of a core (R157). -/
def execItemFree (dt : Nat) (req : BitVec 16) (w : Word) (by_ : Option (Fin 256)) (s : State) : Host.Outcome State Fault Refusal :=
  .next (s.vcCmd dt fun v => match by_ with
    | none => v.hostWr req 0x60008 w (bits w.toNat 31 28 = 3)
    | some j => v.hold (.core 3 j))

/-- ITEM_COMPLETE: a core returns from its item with a result (R159). -/
def execItemComplete (dt : Nat) (core : Fin 8) (x : ItemEnd) (s : State) : Host.Outcome State Fault Refusal :=
  .next (s.vcCmd dt fun v => v.coreEnds core x.value.toNat none x.late x.odd)

/-- ITEM_TRAP: an item traps (R159, R165). -/
def execItemTrap (dt : Nat) (core : Fin 8) (cause : BitVec 5) (x : ItemEnd) (s : State) : Host.Outcome State Fault Refusal :=
  .next (s.vcCmd dt fun v => v.coreEnds core 0 (some (cause.toNat, x.value.toNat)) x.late x.odd)

/-- CORE_SETPOINT_WRITE: a core writes a set-point port (R169). -/
def execCoreSetpointWrite (dt : Nat) (core : Fin 8) (sp : Fin 64) (x : Word) (s : State) : Host.Outcome State Fault Refusal :=
  .next (s.vcCmd dt fun v => v.coreSetpoint core sp x.toNat)

/-- DEADLINE_MISS: an item's completion has not been applied by its deadline (R163). -/
def execDeadlineMiss (dt : Nat) (j : Fin 256) (s : State) : Host.Outcome State Fault Refusal :=
  .next (s.vcCmd dt fun v => v.deadlineMiss j)

end Sys2Proof.Machine
end

