-- ==== Sys2Proof/Machine/StartCmds.lean ====
section
/-!
DEFINITION. Machine/StartCmds.lean: the meanings of the commands of resets, the start, and BAR0 accesses (R5 to R9, R48 to R56, R109, R362 to R371, R383).
-/
namespace Sys2Proof.Machine

/-- COLD_RESET: the VC enters cold reset (R383). -/
def execColdReset (c : ColdCause) (s : State) : Host.Outcome State Fault Refusal :=
  .next { s with vc := { s.vc with out := [] }.coldResetBy c }

/-- BOOT_START: the start runs its steps (R367). -/
def execBootStart (dt : Nat) (r : BootRes) (s : State) : Host.Outcome State Fault Refusal :=
  .next (s.vcCmd dt fun v => v.bootStart r)

/-- BOOT_STEP_TIMEOUT: the limit of a start step passes (R367). -/
def execBootStepTimeout (dt : Nat) (r : BootRes) (s : State) : Host.Outcome State Fault Refusal :=
  .next (s.vcCmd dt fun v => v.bootTimeout r)

/-- START_DONE: BOOT.CTRL.START_DONE (R367, R371). -/
def execStartDone (dt : Nat) (req : BitVec 16) (w : Word) (s : State) : Host.Outcome State Fault Refusal :=
  .next (s.vcCmd dt fun v => v.hostWr req (0x150004) w (bit w.toNat 2))

/-- CONFIRM: BOOT.CTRL.CONFIRM (R362, R371). -/
def execConfirmImage (dt : Nat) (req : BitVec 16) (w : Word) (s : State) : Host.Outcome State Fault Refusal :=
  .next (s.vcCmd dt fun v => v.hostWr req (0x150004) w (bit w.toNat 0))

/-- CLR_HISTORY: BOOT.CTRL.CLR_HISTORY (R370, R371). -/
def execClrHistory (dt : Nat) (req : BitVec 16) (w : Word) (s : State) : Host.Outcome State Fault Refusal :=
  .next (s.vcCmd dt fun v => v.hostWr req (0x150004) w (bit w.toNat 1))

/-- WARM_RESET: a warm reset asked for by the host (0), firmware (1) or the boot controller (2) (R48). -/
def execWarmReset (dt : Nat) (by_ : Fin 3) (s : State) : Host.Outcome State Fault Refusal :=
  .next (s.vcCmd dt fun v => v.warmReset (by_ + 2))

/-- REGISTER_WRITE: a BAR0 write (R5, R8, R53), or one of BAR2 or configuration space (R284). -/
def execRegisterWrite (dt : Nat) (req : BitVec 16) (addr : PcieAddr) (be : BitVec 4) (w : Word) (s : State) : Host.Outcome State Fault Refusal :=
  .next (s.vcCmd dt fun v => v.pcieWrite req.toNat addr be.toNat w.toNat)

/-- LATCHED_HIGH_WORD_READ: a read of the low word of a 64-bit register (R9). -/
def execLatchedRead (dt : Nat) (req : BitVec 16) (addr : BitVec 22) (s : State) : Host.Outcome State Fault Refusal :=
  .next (s.vcCmd dt fun v => if lowHalf addr.toNat then v.barRead req.toNat addr.toNat 15 else v)

/-- FACET_WINDOW_READ: a read of word 0 of a facet window entry (R109). -/
def execFacetWindowRead (dt : Nat) (req : BitVec 16) (n : Fin 4608) (s : State) : Host.Outcome State Fault Refusal :=
  .next (s.vcCmd dt fun v => v.barRead req.toNat (0x200000 + 32 * n) 15)

/-- CLR_SUMMARY: ERR.CTRL.CLR_SUMMARY (R56). -/
def execClrSummary (dt : Nat) (req : BitVec 16) (w : Word) (s : State) : Host.Outcome State Fault Refusal :=
  .next (s.vcCmd dt fun v => v.hostWr req (0x16001C) w (bit w.toNat 0))

/-- REGISTER_READ: a BAR0 read (R8, R53), or one of BAR2 or configuration space (R284). -/
def execRegisterRead (dt : Nat) (req : BitVec 16) (addr : PcieAddr) (be : BitVec 4) (s : State) : Host.Outcome State Fault Refusal :=
  .next (s.vcCmd dt fun v => v.pcieRead req.toNat addr be.toNat)

end Sys2Proof.Machine
end

