-- ==== Sys2Proof/Machine/StringCmds.lean ====
section
/-!
DEFINITION. Machine/StringCmds.lean: the meanings of the commands of strings: start, stop, load, messages and sweeps at the VC (R183, R192 to R198, R227).
-/
namespace Sys2Proof.Machine

/-- STRING_START: STRING.CTRL.START (R196). -/
def execStringStart (dt : Nat) (n : Fin 48) (req : BitVec 16) (w : Word) (s : State) : Host.Outcome State Fault Refusal :=
  .next (s.vcCmd dt fun v => v.hostWr req (0x80004 + 0x400 * n) w (bit w.toNat 0))

/-- STRING_STOP: STRING.CTRL.STOP (R196). -/
def execStringStop (dt : Nat) (n : Fin 48) (req : BitVec 16) (w : Word) (s : State) : Host.Outcome State Fault Refusal :=
  .next (s.vcCmd dt fun v => v.hostWr req (0x80004 + 0x400 * n) w (bit w.toNat 1))

/-- STOP_SWEEPS_END: the BLOCK sweeps after STOP have been sent (R196). -/
def execStopSweepsEnd (dt : Nat) (n : Fin 48) (s : State) : Host.Outcome State Fault Refusal :=
  .next (s.vcCmd dt fun v => v.stopEnd n)

/-- STRING_LOAD: STRING.CTRL.LOAD (R195). -/
def execStringLoad (dt : Nat) (n : Fin 48) (req : BitVec 16) (w : Word) (s : State) : Host.Outcome State Fault Refusal :=
  .next (s.vcCmd dt fun v => v.hostWr req (0x80004 + 0x400 * n) w (bit w.toNat 2))

/-- LOAD_END: every cell confirms, or 8 sweeps have passed (R195). -/
def execLoadEnd (dt : Nat) (n : Fin 48) (s : State) : Host.Outcome State Fault Refusal :=
  .next (s.vcCmd dt fun v => v.loadEnd n)

/-- STRING_TRAIN_TIMEOUT: 100 ms in TRAIN (R196). -/
def execStringTrainTimeout (dt : Nat) (n : Fin 48) (s : State) : Host.Outcome State Fault Refusal :=
  .next (s.vcCmd dt fun v => v.trainTimeout n)

/-- ASSIGN_REPEAT: 1 ms in ASSIGN (R196). -/
def execAssignRepeat (dt : Nat) (n : Fin 48) (s : State) : Host.Outcome State Fault Refusal :=
  .next (s.vcCmd dt fun v => v.assignRepeat n)

/-- ASSIGN_RETURN: ASSIGN at the Y end (R196). -/
def execAssignReturn (dt : Nat) (n : Fin 48) (m : MsgFrame) (s : State) : Host.Outcome State Fault Refusal :=
  .next (s.vcCmd dt fun v => v.assignReturn n m)

/-- ASSIGN_TIMEOUT: 100 ms in ASSIGN (R196). -/
def execAssignTimeout (dt : Nat) (n : Fin 48) (s : State) : Host.Outcome State Fault Refusal :=
  .next (s.vcCmd dt fun v => v.assignTimeout n)

/-- CALIBRATION_DONE: all link delays are measured and read (R198). -/
def execCalibrationDone (dt : Nat) (n : Fin 48) (s : State) : Host.Outcome State Fault Refusal :=
  .next (s.vcCmd dt fun v => v.calibrationDone n)

/-- IMAGE_LOAD_DONE: 8 ms after the final message: each cell's BOOT.STATUS and IMGVER, and at which attempt it acknowledged its path delays (R227, R280). -/
def execImageLoadDone (dt : Nat) (n : Fin 48) (rx : List Nat) (replies : List (Option (Word × Word))) (acks : List Nat) (s : State) : Host.Outcome State Fault Refusal :=
  .next (s.vcCmd dt fun v => v.imageLoadDone n rx (replies.map fun r => r.map fun x => (x.1.toNat, x.2.toNat)) acks)

/-- SYNC_COMPLETE: 16 clean ticks in SYNC (R196). -/
def execSyncComplete (dt : Nat) (n : Fin 48) (s : State) : Host.Outcome State Fault Refusal :=
  .next (s.vcCmd dt fun v => (v.syncComplete n).lanesDone)

/-- STRING_SYNC_TIMEOUT: 256 ticks in SYNC (R196). -/
def execStringSyncTimeout (dt : Nat) (n : Fin 48) (s : State) : Host.Outcome State Fault Refusal :=
  .next (s.vcCmd dt fun v => v.syncTimeout n)

/-- STRING_DOWN: both lane ends lost, or no report for WDOG_TICKS ticks (R196). -/
def execStringDown (dt : Nat) (n : Fin 48) (s : State) : Host.Outcome State Fault Refusal :=
  .next (s.vcCmd dt fun v => v.strDown n)

/-- SWEEP_RETURN: a piece of a returning sweep copy (R183). -/
def execSweepReturn (dt : Nat) (n : Fin 48) (endY : Bool) (hdr : List Block) (start : Fin 96) (reps : List DWord) (tr : Option (Block × Block)) (s : State) : Host.Outcome State Fault Refusal :=
  .next (s.vcCmd dt fun v => v.sweepReturn n endY hdr start reps tr)

/-- CELL_MSG_SEND: a queued cell message leaves when it fits (R193). -/
def execCellMsgSend (dt : Nat) (n : Fin 48) (s : State) : Host.Outcome State Fault Refusal :=
  .next (s.vcCmd dt fun v => v.cellMsgSend n)

/-- MSG_RESPONSE_RX: a response reaches a lane end (R192). -/
def execMsgResponseRx (dt : Nat) (n : Fin 48) (endY : Bool) (m : MsgFrame) (s : State) : Host.Outcome State Fault Refusal :=
  .next (s.vcCmd dt fun v => v.msgResponse n (b2n endY) m)

/-- MSG_TIMEOUT: no response within the message time (R192). -/
def execMsgTimeout (dt : Nat) (n : Fin 48) (s : State) : Host.Outcome State Fault Refusal :=
  .next (s.vcCmd dt fun v => v.msgTimeout n)

end Sys2Proof.Machine
end

