-- ==== Sys2Proof/Machine/TickCmds.lean ====
section
/-!
DEFINITION. Machine/TickCmds.lean: the meanings of the commands of the tick and the vote (R22, R38 to R44, R55, R96).
-/
namespace Sys2Proof.Machine

/-- TICK: one valve tick (R22). -/
def execTick (dies : List DieData) (cmpCrc : List CmpUpset) (s : State) : Host.Outcome State Fault Refusal :=
  .next { s with vc := s.vc.tick dies cmpCrc }

/-- STEP_OVERRUN: a Lens step has not committed by its next due tick (R96). -/
def execStepOverrun (dt : Nat) (c : Fin 16) (s : State) : Host.Outcome State Fault Refusal :=
  .next (s.vcCmd dt fun v => v.stepOverrun c)

/-- FLIT_RX: a flit on an in-package channel (R38). -/
def execFlitRx (dt : Nat) (d : Fin 3) (data : BitVec 256) (crc : BitVec 16) (replay : Bool) (s : State) : Host.Outcome State Fault Refusal :=
  .next (s.vcCmd dt fun v => v.flitRx d data.toNat crc.toNat replay)

/-- VOTER_ASIDE: VOTER.CTRL.ASIDE (R42, R55). -/
def execVoterAside (dt : Nat) (req : BitVec 16) (w : Word) (s : State) : Host.Outcome State Fault Refusal :=
  .next (s.vcCmd dt fun v => v.hostWr req (0x20004) w (bits w.toNat 6 4 ≠ 0))

/-- VOTER_REALIGN: VOTER.CTRL.REALIGN (R42, R55). -/
def execVoterRealign (dt : Nat) (req : BitVec 16) (w : Word) (s : State) : Host.Outcome State Fault Refusal :=
  .next (s.vcCmd dt fun v => v.hostWr req (0x20004) w (bits w.toNat 2 0 ≠ 0))

/-- DIE_SELF_TEST_DONE: a resetting die's self-test ends (R42). -/
def execDieSelfTestDone (dt : Nat) (d : Fin 3) (pass : Bool) (s : State) : Host.Outcome State Fault Refusal :=
  .next (s.vcCmd dt fun v => v.selfTestDone d pass)

/-- REALIGN_COPY_COMPLETE: copy tick 64 (R43). -/
def execRealignCopyComplete (dt : Nat) (d : Fin 3) (agrees : Bool) (s : State) : Host.Outcome State Fault Refusal :=
  .next (s.vcCmd dt fun v => v.copyDone d agrees)

/-- DIE_ERROR: a control die reports an error above CORRECTED (R42). -/
def execDieError (dt : Nat) (d : Fin 3) (s : State) : Host.Outcome State Fault Refusal :=
  .next (s.vcCmd dt fun v => v.dieFault d)

end Sys2Proof.Machine
end

