-- ==== Sys2Proof/Machine/TimeCmds.lean ====
section
/-!
DEFINITION. Machine/TimeCmds.lean: the meanings of the commands of network time (R272 to R283).
-/
namespace Sys2Proof.Machine

/-- PTP_SYNC: a Sync (R274). -/
def execPtpSync (dt : Nat) (m : PtpMsg) (s : State) : Host.Outcome State Fault Refusal :=
  .next (s.vcCmd dt fun v => v.ptpSync m)

/-- PTP_FOLLOW_UP: a Follow_Up (R272). -/
def execPtpFollowUp (dt : Nat) (m : PtpMsg) (s : State) : Host.Outcome State Fault Refusal :=
  .next (s.vcCmd dt fun v => v.ptpFollowUp m)

/-- PTP_ANNOUNCE: an Announce (R276). -/
def execPtpAnnounce (dt : Nat) (m : PtpMsg) (g : GmData) (s : State) : Host.Outcome State Fault Refusal :=
  .next (s.vcCmd dt fun v => v.ptpAnnounce m g)

/-- PDELAY_REQ_SEND: Pdelay_Req is sent (R272). -/
def execPdelayReqSend (dt : Nat) (s : State) : Host.Outcome State Fault Refusal :=
  .next (s.vcCmd dt fun v => v.pdelaySend)

/-- PDELAY_REQ_RX: a Pdelay_Req (R272). -/
def execPdelayReqRx (dt : Nat) (m : PtpMsg) (s : State) : Host.Outcome State Fault Refusal :=
  .next (s.vcCmd dt fun v => v.pdelayReqRx m)

/-- PDELAY_RESP_RX: a Pdelay_Resp, or its Follow_Up (R272). -/
def execPdelayRespRx (dt : Nat) (m : PtpMsg) (followUp : Bool) (s : State) : Host.Outcome State Fault Refusal :=
  .next (s.vcCmd dt fun v => v.pdelayResp m followUp)

/-- PDELAY_TIMEOUT: no response within 1 s (R277). -/
def execPdelayTimeout (dt : Nat) (s : State) : Host.Outcome State Fault Refusal :=
  .next (s.vcCmd dt fun v => v.pdelayTimeout)

/-- PTP_SYNC_TIMEOUT: no Sync within three intervals (R276). -/
def execPtpSyncTimeout (dt : Nat) (s : State) : Host.Outcome State Fault Refusal :=
  .next (s.vcCmd dt fun v => v.syncTimeout1588)

/-- ANNOUNCE_TIMEOUT: no Announce within ANN_TO intervals (R276). -/
def execAnnounceTimeout (dt : Nat) (s : State) : Host.Outcome State Fault Refusal :=
  .next (s.vcCmd dt fun v => v.announceTimeout)

/-- STEP_APPLY: a held step is applied (R275). -/
def execStepApply (dt : Nat) (s : State) : Host.Outcome State Fault Refusal := .next (s.vcCmd dt fun v => v.stepApply)

/-- PTP_ENABLE: TIME.CFG with PTP_EN (R276). -/
def execPtpEnable (dt : Nat) (req : BitVec 16) (w : Word) (s : State) : Host.Outcome State Fault Refusal :=
  .next (s.vcCmd dt fun v => v.hostWr req (0x100000) w (true))

/-- REARM: TIME.CTRL.REARM (R276). -/
def execRearm (dt : Nat) (req : BitVec 16) (w : Word) (s : State) : Host.Outcome State Fault Refusal :=
  .next (s.vcCmd dt fun v => v.hostWr req (0x100010) w (bit w.toNat 1))

/-- LOADVT: TIME.CTRL.LOADVT (R278). -/
def execLoadvt (dt : Nat) (req : BitVec 16) (w : Word) (s : State) : Host.Outcome State Fault Refusal :=
  .next (s.vcCmd dt fun v => v.hostWr req (0x100010) w (bit w.toNat 0))

end Sys2Proof.Machine
end

