-- ==== Sys2Proof/Machine/Dispatch.lean ====
section
/-!
DEFINITION. Machine/Dispatch.lean: which meaning each command has.
-/
namespace Sys2Proof.Machine

def exec (i : Instr) (s : State) : Host.Outcome State Fault Refusal :=
  match i with
  | .coldReset c => Sys2Proof.Machine.execColdReset c s
  | .bootStart dt r => Sys2Proof.Machine.execBootStart dt r s
  | .bootStepTimeout dt r => Sys2Proof.Machine.execBootStepTimeout dt r s
  | .startDone dt req w => Sys2Proof.Machine.execStartDone dt req w s
  | .confirmImage dt req w => Sys2Proof.Machine.execConfirmImage dt req w s
  | .clrHistory dt req w => Sys2Proof.Machine.execClrHistory dt req w s
  | .warmReset dt by_ => Sys2Proof.Machine.execWarmReset dt by_ s
  | .registerWrite dt req addr be w => Sys2Proof.Machine.execRegisterWrite dt req addr be w s
  | .latchedRead dt req addr => Sys2Proof.Machine.execLatchedRead dt req addr s
  | .facetWindowRead dt req n => Sys2Proof.Machine.execFacetWindowRead dt req n s
  | .clrSummary dt req w => Sys2Proof.Machine.execClrSummary dt req w s
  | .registerRead dt req addr be => Sys2Proof.Machine.execRegisterRead dt req addr be s
  | .tick dies cmpCrc => Sys2Proof.Machine.execTick dies cmpCrc s
  | .stepOverrun dt c => Sys2Proof.Machine.execStepOverrun dt c s
  | .flitRx dt d data crc replay => Sys2Proof.Machine.execFlitRx dt d data crc replay s
  | .voterAside dt req w => Sys2Proof.Machine.execVoterAside dt req w s
  | .voterRealign dt req w => Sys2Proof.Machine.execVoterRealign dt req w s
  | .dieSelfTestDone dt d pass => Sys2Proof.Machine.execDieSelfTestDone dt d pass s
  | .realignCopyComplete dt d agrees => Sys2Proof.Machine.execRealignCopyComplete dt d agrees s
  | .dieError dt d => Sys2Proof.Machine.execDieError dt d s
  | .cascadeStart dt req w => Sys2Proof.Machine.execCascadeStart dt req w s
  | .cascadeStop dt req w => Sys2Proof.Machine.execCascadeStop dt req w s
  | .enumerationFrame dt id count bad => Sys2Proof.Machine.execEnumerationFrame dt id count bad s
  | .enumAcknowledge dt acks bad => Sys2Proof.Machine.execEnumAcknowledge dt acks bad s
  | .enumTimeout dt => Sys2Proof.Machine.execEnumTimeout dt s
  | .tickAlignmentDone dt delay vt tickNo tickOfs => Sys2Proof.Machine.execTickAlignmentDone dt delay vt tickNo tickOfs s
  | .cascadeReady dt => Sys2Proof.Machine.execCascadeReady dt s
  | .cascadeBlockRx dt down blk => Sys2Proof.Machine.execCascadeBlockRx dt down blk s
  | .cascadeCommandFrame dt dest cmds notes bad => Sys2Proof.Machine.execCascadeCommandFrame dt dest cmds notes bad s
  | .facetSliceRx dt home vc str ws bad => Sys2Proof.Machine.execFacetSliceRx dt home vc str ws bad s
  | .cascValueRx dt origin slot value period bad => Sys2Proof.Machine.execCascValueRx dt origin slot value period bad s
  | .memberStatusRx dt vc conds strs bad => Sys2Proof.Machine.execMemberStatusRx dt vc conds strs bad s
  | .ctxStart dt c req w => Sys2Proof.Machine.execCtxStart dt c req w s
  | .ctxStop dt c req w => Sys2Proof.Machine.execCtxStop dt c req w s
  | .setpointWrite dt n req w => Sys2Proof.Machine.execSetpointWrite dt n req w s
  | .clrLoad dt req w => Sys2Proof.Machine.execClrLoad dt req w s
  | .svFrame dt f => Sys2Proof.Machine.execSvFrame dt f s
  | .coefLoad dt id buf => Sys2Proof.Machine.execCoefLoad dt id buf s
  | .coefReadback dt id buf => Sys2Proof.Machine.execCoefReadback dt id buf s
  | .coefSwap dt id => Sys2Proof.Machine.execCoefSwap dt id s
  | .armForm dt a req w => Sys2Proof.Machine.execArmForm dt a req w s
  | .armRelease dt a req w => Sys2Proof.Machine.execArmRelease dt a req w s
  | .clrTiming dt req w => Sys2Proof.Machine.execClrTiming dt req w s
  | .facetSetTrim dt id buf => Sys2Proof.Machine.execFacetSetTrim dt id buf s
  | .facetReturn dt id buf => Sys2Proof.Machine.execFacetReturn dt id buf s
  | .facetRemove dt id buf => Sys2Proof.Machine.execFacetRemove dt id buf s
  | .facetClearCounts dt id buf => Sys2Proof.Machine.execFacetClearCounts dt id buf s
  | .measFrameRx dt l bs bad => Sys2Proof.Machine.execMeasFrameRx dt l bs bad s
  | .measMiss dt l ch => Sys2Proof.Machine.execMeasMiss dt l ch s
  | .blockPermitChange dt pinB x => Sys2Proof.Machine.execBlockPermitChange dt pinB x s
  | .protClear dt req w => Sys2Proof.Machine.execProtClear dt req w s
  | .protHostBlock dt req w => Sys2Proof.Machine.execProtHostBlock dt req w s
  | .protTestGo dt req w => Sys2Proof.Machine.execProtTestGo dt req w s
  | .tokenGrant dt a req w => Sys2Proof.Machine.execTokenGrant dt a req w s
  | .tokenRevoke dt a req w => Sys2Proof.Machine.execTokenRevoke dt a req w s
  | .tokenExpiry dt a => Sys2Proof.Machine.execTokenExpiry dt a s
  | .bypassFireRequest dt req w => Sys2Proof.Machine.execBypassFireRequest dt req w s
  | .firingEnd dt => Sys2Proof.Machine.execFiringEnd dt s
  | .itemArm dt req w by_ => Sys2Proof.Machine.execItemArm dt req w by_ s
  | .itemCancel dt req w by_ => Sys2Proof.Machine.execItemCancel dt req w by_ s
  | .itemFree dt req w by_ => Sys2Proof.Machine.execItemFree dt req w by_ s
  | .itemComplete dt core x => Sys2Proof.Machine.execItemComplete dt core x s
  | .itemTrap dt core cause x => Sys2Proof.Machine.execItemTrap dt core cause x s
  | .coreSetpointWrite dt core sp x => Sys2Proof.Machine.execCoreSetpointWrite dt core sp x s
  | .deadlineMiss dt j => Sys2Proof.Machine.execDeadlineMiss dt j s
  | .stringStart dt n req w => Sys2Proof.Machine.execStringStart dt n req w s
  | .stringStop dt n req w => Sys2Proof.Machine.execStringStop dt n req w s
  | .stopSweepsEnd dt n => Sys2Proof.Machine.execStopSweepsEnd dt n s
  | .stringLoad dt n req w => Sys2Proof.Machine.execStringLoad dt n req w s
  | .loadEnd dt n => Sys2Proof.Machine.execLoadEnd dt n s
  | .stringTrainTimeout dt n => Sys2Proof.Machine.execStringTrainTimeout dt n s
  | .assignRepeat dt n => Sys2Proof.Machine.execAssignRepeat dt n s
  | .assignReturn dt n m => Sys2Proof.Machine.execAssignReturn dt n m s
  | .assignTimeout dt n => Sys2Proof.Machine.execAssignTimeout dt n s
  | .calibrationDone dt n => Sys2Proof.Machine.execCalibrationDone dt n s
  | .imageLoadDone dt n rx replies acks => Sys2Proof.Machine.execImageLoadDone dt n rx replies acks s
  | .syncComplete dt n => Sys2Proof.Machine.execSyncComplete dt n s
  | .stringSyncTimeout dt n => Sys2Proof.Machine.execStringSyncTimeout dt n s
  | .stringDown dt n => Sys2Proof.Machine.execStringDown dt n s
  | .sweepReturn dt n endY hdr start reps tr => Sys2Proof.Machine.execSweepReturn dt n endY hdr start reps tr s
  | .cellMsgSend dt n => Sys2Proof.Machine.execCellMsgSend dt n s
  | .msgResponseRx dt n endY m => Sys2Proof.Machine.execMsgResponseRx dt n endY m s
  | .msgTimeout dt n => Sys2Proof.Machine.execMsgTimeout dt n s
  | .sweepCopyRx dt st p down hdr cmd rep t0 t1 ago => Sys2Proof.Machine.execSweepCopyRx dt st p down hdr cmd rep t0 t1 ago s
  | .ccFlashRx dt st p down blk => Sys2Proof.Machine.execCcFlashRx dt st p down blk s
  | .cellTickInstant dt st p => Sys2Proof.Machine.execCellTickInstant dt st p s
  | .cellSweepWatchdog dt st p => Sys2Proof.Machine.execCellSweepWatchdog dt st p s
  | .ccMsgRead dt st p down m => Sys2Proof.Machine.execCcMsgRead dt st p down m s
  | .ccMsgWrite dt st p down m => Sys2Proof.Machine.execCcMsgWrite dt st p down m s
  | .ccMsgAssign dt st p down m => Sys2Proof.Machine.execCcMsgAssign dt st p down m s
  | .ccMsgCalStart dt st p down m => Sys2Proof.Machine.execCcMsgCalStart dt st p down m s
  | .ccMsgFwBlock dt st p down m => Sys2Proof.Machine.execCcMsgFwBlock dt st p down m s
  | .ccResponseSend dt st p => Sys2Proof.Machine.execCcResponseSend dt st p s
  | .probeRx dt e blk turn => Sys2Proof.Machine.execProbeRx dt e blk turn s
  | .echoRx dt e blk rttPs => Sys2Proof.Machine.execEchoRx dt e blk rttPs s
  | .echoTimeout dt st p => Sys2Proof.Machine.execEchoTimeout dt st p s
  | .linkFaultRx dt e blk => Sys2Proof.Machine.execLinkFaultRx dt e blk s
  | .linkReturn dt e => Sys2Proof.Machine.execLinkReturn dt e s
  | .lossOfLock dt e => Sys2Proof.Machine.execLossOfLock dt e s
  | .faultTxExpiry dt e => Sys2Proof.Machine.execFaultTxExpiry dt e s
  | .backoffExpiry dt e => Sys2Proof.Machine.execBackoffExpiry dt e s
  | .bringupTimeout dt e => Sys2Proof.Machine.execBringupTimeout dt e s
  | .capRx dt e f => Sys2Proof.Machine.execCapRx dt e f s
  | .stepRx dt e f => Sys2Proof.Machine.execStepRx dt e f s
  | .trialSlotsDone dt e foms => Sys2Proof.Machine.execTrialSlotsDone dt e foms s
  | .resultRx dt e f => Sys2Proof.Machine.execResultRx dt e f s
  | .goRx dt e f => Sys2Proof.Machine.execGoRx dt e f s
  | .blockLockAcquired dt e => Sys2Proof.Machine.execBlockLockAcquired dt e s
  | .finalLockTimeout dt e => Sys2Proof.Machine.execFinalLockTimeout dt e s
  | .trainFrameError dt e f => Sys2Proof.Machine.execTrainFrameError dt e f s
  | .codeError dt e => Sys2Proof.Machine.execCodeError dt e s
  | .ccRateLimitReset dt st p => Sys2Proof.Machine.execCcRateLimitReset dt st p s
  | .mlaneEqSlotsDone dt l foms => Sys2Proof.Machine.execMlaneEqSlotsDone dt l foms s
  | .fomMeasure dt e fom => Sys2Proof.Machine.execFomMeasure dt e fom s
  | .laneRetrain dt l req w => Sys2Proof.Machine.execLaneRetrain dt l req w s
  | .laneRelease dt l req w => Sys2Proof.Machine.execLaneRelease dt l req w s
  | .clrFommin dt l req w => Sys2Proof.Machine.execClrFommin dt l req w s
  | .laneTest dt l rx req w => Sys2Proof.Machine.execLaneTest dt l rx req w s
  | .alignSlip dt l req w => Sys2Proof.Machine.execAlignSlip dt l req w s
  | .ccLinkTestEnd dt st p upBits downBits => Sys2Proof.Machine.execCcLinkTestEnd dt st p upBits downBits s
  | .ccColdReset dt st p c => Sys2Proof.Machine.execCcColdReset dt st p c s
  | .ccResetRelease dt st p => Sys2Proof.Machine.execCcResetRelease dt st p s
  | .coreRst dt st p v => Sys2Proof.Machine.execCoreRst dt st p v s
  | .coreWatchdogExpiry dt st p => Sys2Proof.Machine.execCoreWatchdogExpiry dt st p s
  | .kick dt st p v => Sys2Proof.Machine.execKick dt st p v s
  | .debugHalt dt st p op => Sys2Proof.Machine.execDebugHalt dt st p op s
  | .sm3CheckDone dt st p kept => Sys2Proof.Machine.execSm3CheckDone dt st p kept s
  | .bypFirePulseEnd dt st p => Sys2Proof.Machine.execBypFirePulseEnd dt st p s
  | .bypassConfirmTimeout dt st p => Sys2Proof.Machine.execBypassConfirmTimeout dt st p s
  | .adcSlot dt st p raw => Sys2Proof.Machine.execAdcSlot dt st p raw s
  | .tickSampleHold dt st p => Sys2Proof.Machine.execTickSampleHold dt st p s
  | .refSettled dt st p => Sys2Proof.Machine.execRefSettled dt st p s
  | .openWireTest dt st p v => Sys2Proof.Machine.execOpenWireTest dt st p v s
  | .openWireSettle dt st p => Sys2Proof.Machine.execOpenWireSettle dt st p s
  | .qpopRead dt st p => Sys2Proof.Machine.execQpopRead dt st p s
  | .cellCoreRegisterWrite dt st p addr v => Sys2Proof.Machine.execCellCoreRegisterWrite dt st p addr v s
  | .gateEdge dt st p => Sys2Proof.Machine.execGateEdge dt st p s
  | .gateTurnOn dt st p => Sys2Proof.Machine.execGateTurnOn dt st p s
  | .delayLineCalibration dt st p k m => Sys2Proof.Machine.execDelayLineCalibration dt st p k m s
  | .tripInput dt st p pin level => Sys2Proof.Machine.execTripInput dt st p pin level s
  | .desatBlankingEnd dt st p pin => Sys2Proof.Machine.execDesatBlankingEnd dt st p pin s
  | .tripClear dt st p v => Sys2Proof.Machine.execTripClear dt st p v s
  | .ptpSync dt m => Sys2Proof.Machine.execPtpSync dt m s
  | .ptpFollowUp dt m => Sys2Proof.Machine.execPtpFollowUp dt m s
  | .ptpAnnounce dt m g => Sys2Proof.Machine.execPtpAnnounce dt m g s
  | .pdelayReqSend dt => Sys2Proof.Machine.execPdelayReqSend dt s
  | .pdelayReqRx dt m => Sys2Proof.Machine.execPdelayReqRx dt m s
  | .pdelayRespRx dt m followUp => Sys2Proof.Machine.execPdelayRespRx dt m followUp s
  | .pdelayTimeout dt => Sys2Proof.Machine.execPdelayTimeout dt s
  | .ptpSyncTimeout dt => Sys2Proof.Machine.execPtpSyncTimeout dt s
  | .announceTimeout dt => Sys2Proof.Machine.execAnnounceTimeout dt s
  | .stepApply dt => Sys2Proof.Machine.execStepApply dt s
  | .ptpEnable dt req w => Sys2Proof.Machine.execPtpEnable dt req w s
  | .rearm dt req w => Sys2Proof.Machine.execRearm dt req w s
  | .loadvt dt req w => Sys2Proof.Machine.execLoadvt dt req w s
  | .sqDoorbell dt q req w => Sys2Proof.Machine.execSqDoorbell dt q req w s
  | .cqDoorbell dt q req w => Sys2Proof.Machine.execCqDoorbell dt q req w s
  | .descriptorFetch dt ws => Sys2Proof.Machine.execDescriptorFetch dt ws s
  | .coalesceTimeout dt c => Sys2Proof.Machine.execCoalesceTimeout dt c s
  | .sqEnable dt q req w => Sys2Proof.Machine.execSqEnable dt q req w s
  | .sqDisable dt q req w => Sys2Proof.Machine.execSqDisable dt q req w s
  | .cqEnable dt q req w => Sys2Proof.Machine.execCqEnable dt q req w s
  | .sqResume dt q req w => Sys2Proof.Machine.execSqResume dt q req w s
  | .sqAbort dt q req w => Sys2Proof.Machine.execSqAbort dt q req w s
  | .functionLevelReset dt => Sys2Proof.Machine.execFunctionLevelReset dt s
  | .pcieLinkDown dt => Sys2Proof.Machine.execPcieLinkDown dt s
  | .busMasterClear dt => Sys2Proof.Machine.execBusMasterClear dt s
  | .busMasterSet dt => Sys2Proof.Machine.execBusMasterSet dt s
  | .nopDescriptor dt id => Sys2Proof.Machine.execNopDescriptor dt id s
  | .valveCtlDeblock dt id => Sys2Proof.Machine.execValveCtlDeblock dt id s
  | .valveCtlBlock dt id => Sys2Proof.Machine.execValveCtlBlock dt id s
  | .cellClear dt id => Sys2Proof.Machine.execCellClear dt id s
  | .cellClearDone dt id => Sys2Proof.Machine.execCellClearDone dt id s
  | .cellMsgRead dt id buf => Sys2Proof.Machine.execCellMsgRead dt id buf s
  | .cellMsgWrite dt id buf => Sys2Proof.Machine.execCellMsgWrite dt id buf s
  | .snapshot dt id => Sys2Proof.Machine.execSnapshot dt id s
  | .ledgerRead dt id ok => Sys2Proof.Machine.execLedgerRead dt id ok s
  | .apertureRead dt id => Sys2Proof.Machine.execApertureRead dt id s
  | .configWrite dt id buf => Sys2Proof.Machine.execConfigWrite dt id buf s
  | .fwWrite dt id buf => Sys2Proof.Machine.execFwWrite dt id buf s
  | .fwVerify dt id buf => Sys2Proof.Machine.execFwVerify dt id buf s
  | .fwActivate dt id buf => Sys2Proof.Machine.execFwActivate dt id buf s
  | .flashOperationDone dt ok readOk => Sys2Proof.Machine.execFlashOperationDone dt ok readOk s
  | .ledgerFlashWrite dt ok => Sys2Proof.Machine.execLedgerFlashWrite dt ok s
  | .statsWrite dt ok => Sys2Proof.Machine.execStatsWrite dt ok s
  | .hoursSave dt ok => Sys2Proof.Machine.execHoursSave dt ok s
  | .hoursSecond dt => Sys2Proof.Machine.execHoursSecond dt s
  | .flush dt req w => Sys2Proof.Machine.execFlush dt req w s
  | .unitRst dt req w => Sys2Proof.Machine.execUnitRst dt req w s
  | .clrStats dt req w => Sys2Proof.Machine.execClrStats dt req w s
  | .format dt req w => Sys2Proof.Machine.execFormat dt req w s
  | .ledgerFormatDone dt => Sys2Proof.Machine.execLedgerFormatDone dt s
  | .apertureStart dt req w => Sys2Proof.Machine.execApertureStart dt req w s
  | .apertureStop dt req w => Sys2Proof.Machine.execApertureStop dt req w s
  | .force dt req w => Sys2Proof.Machine.execForce dt req w s
  | .apertureAreaComplete dt => Sys2Proof.Machine.execApertureAreaComplete dt s
  | .holdoffEnd dt => Sys2Proof.Machine.execHoldoffEnd dt s
  | .companionRequest dt => Sys2Proof.Machine.execCompanionRequest dt s
  | .companionResponseRx dt p w0 w1 => Sys2Proof.Machine.execCompanionResponseRx dt p w0 w1 s
  | .companionAccess dt p req w => Sys2Proof.Machine.execCompanionAccess dt p req w s
  | .permitMismatch dt => Sys2Proof.Machine.execPermitMismatch dt s
  | .safetyCycle dt n c => Sys2Proof.Machine.execSafetyCycle dt n c s
  | .isoFrameRx dt n good f => Sys2Proof.Machine.execIsoFrameRx dt n good f s
  | .isoTimeout dt n field => Sys2Proof.Machine.execIsoTimeout dt n field s
  | .fieldSupplySag dt n x => Sys2Proof.Machine.execFieldSupplySag dt n x s
  | .fieldSupplySagEnd dt n x => Sys2Proof.Machine.execFieldSupplySagEnd dt n x s
  | .supplyLow dt n => Sys2Proof.Machine.execSupplyLow dt n s
  | .outputOverload dt n k => Sys2Proof.Machine.execOutputOverload dt n k s
  | .outputOvertemp dt n k => Sys2Proof.Machine.execOutputOvertemp dt n k s
  | .outputOpenWire dt n k => Sys2Proof.Machine.execOutputOpenWire dt n k s
  | .offTest dt n k high => Sys2Proof.Machine.execOffTest dt n k high s
  | .offTestEnd dt n during nUp => Sys2Proof.Machine.execOffTestEnd dt n during nUp s
  | .resetButton dt n ms => Sys2Proof.Machine.execResetButton dt n ms s
  | .rstStuck dt n => Sys2Proof.Machine.execRstStuck dt n s
  | .rstStuckClear dt n => Sys2Proof.Machine.execRstStuckClear dt n s
  | .scPowerUp dt n btn => Sys2Proof.Machine.execScPowerUp dt n btn s
  | .eswClose dt n => Sys2Proof.Machine.execEswClose dt n s
  | .eswOpen dt n => Sys2Proof.Machine.execEswOpen dt n s
  | .eswAbort dt n => Sys2Proof.Machine.execEswAbort dt n s
  | .eswDelayExpiry dt n => Sys2Proof.Machine.execEswDelayExpiry dt n s
  | .eswFbTimeout dt n => Sys2Proof.Machine.execEswFbTimeout dt n s
  | .modeEnter dt n q => Sys2Proof.Machine.execModeEnter dt n q s
  | .modeLeave dt n q => Sys2Proof.Machine.execModeLeave dt n q s
  | .scUnlock dt n q => Sys2Proof.Machine.execScUnlock dt n q s
  | .relock dt n q => Sys2Proof.Machine.execRelock dt n q s
  | .unlockExpiry dt n => Sys2Proof.Machine.execUnlockExpiry dt n s
  | .passwordChange dt n q => Sys2Proof.Machine.execPasswordChange dt n q s
  | .scParameterWrite dt n q => Sys2Proof.Machine.execScParameterWrite dt n q s
  | .scConfirm dt n q => Sys2Proof.Machine.execScConfirm dt n q s
  | .confirmTimeout dt n => Sys2Proof.Machine.execConfirmTimeout dt n s
  | .scPoll dt n q => Sys2Proof.Machine.execScPoll dt n q s
  | .scRead dt n q => Sys2Proof.Machine.execScRead dt n q s
  | .scWrite dt n q => Sys2Proof.Machine.execScWrite dt n q s
  | .scUnpowered dt n => Sys2Proof.Machine.execScUnpowered dt n s

end Sys2Proof.Machine
end

