-- ==== Sys2Proof/Machine/CellCore.lean ====
section
/-!
DEFINITION. Machine/CellCore.lean: what a cell's core runs: one instruction of the cell image, with the address map of R222 and its
traps (R222, R223, R226, R234).
-/
namespace Sys2Proof.Machine
open Reg

/-! ### The SRAM (R222, R225) -/

/-- A byte of the SRAM: the image area, then the data area; what nothing has written is free (log 20). -/
def Cw.sramByte (w : Cw) (a : Nat) : Nat :=
  if a < 49152 then (((Tab.get (fun _ => []) w.img (a / 64))[a % 64]?).getD (Config.freeByte (1000000 + w.n) a)).toNat
  else (Tab.get (fun _ => none) w.sram a).getD (Config.freeByte (1000000 + w.n) a).toNat

def Cw.sramSet (w : Cw) (a v : Nat) : Cw :=
  if a < 49152 then w.imgSet a v else { w with sram := Tab.set (fun _ => none) w.sram a (some (v % 256)) }

/-! ### The address map (R222) -/

/-- A byte that the core can read or execute: SRAM, then the boot ROM. -/
def Cw.coreByte (w : Cw) (a : Nat) : Option Nat :=
  if a < 0x10000 then some (w.sramByte a)
  else if 0x10000000 ≤ a ∧ a < 0x10004000 then some (Config.bootRom (a - 0x10000000)).toNat
  else none

/-- `size` bytes from an address on. -/
def Cw.coreBytes (w : Cw) (a size : Nat) : Option Nat :=
  if (List.range size).all fun i => (w.coreByte (a + i)).isSome then
    some (ofBytes ((List.range size).map fun i => (w.coreByte (a + i)).getD 0))
  else none

/-- The address of a CC register (R222): whole words alone (log 10). -/
def ccRegAddr (a size : Nat) : Option Nat :=
  if 0x20000000 ≤ a ∧ a ≤ 0x200008FC ∧ size = 4 ∧ (findRow ccRows (a - 0x20000000)).isSome then some (a - 0x20000000) else none

/-- A load: the value, and the cell after it, since a read of ADC.QPOP takes an entry (R266); none for an access fault. -/
def Cw.coreLoad (w : Cw) (a size : Nat) : Option (Nat × Cw) :=
  match ccRegAddr a size with
  | some r =>
    if r = 0x434 then some (match w.adc.queue with | e :: _ => e.word | [] => 0, w.qpop) else some (w.word r, w)
  | none => (w.coreBytes a size).map fun v => (v, w)

/-- A store, and whether it is an access fault: the SRAM, or a register whose access code and state allow the write (R222, R235). What
a refused write sets stays (R264). -/
def Cw.coreStore (w : Cw) (a size v : Nat) : Cw × Bool :=
  match ccRegAddr a size with
  | some r =>
    let x := w.writeAll true [(r, v)]
    (x.1, x.2 ≠ 0 || readOnlyAt r)
  | none =>
    if a + size ≤ 0x10000 then ((List.range size).foldl (fun w i => w.sramSet (a + i) (v / 256 ^ i % 256)) w, false) else (w, true)

/-! ### One instruction -/

/-- The instruction at an address. -/
def Cw.coreFetch (w : Cw) (pc : Nat) : Option Nat :=
  match w.coreBytes pc 2 with
  | some lo => if lo % 4 ≠ 3 then some lo else (w.coreBytes (pc + 2) 2).map fun hi => lo + 65536 * hi
  | none => none

/-- The core takes an exception (R222). -/
def Cw.coreTrap (w : Cw) (cause tval : Nat) : Cw := { w with core := w.core.take cause tval }

/-- The image runs: STATE is RUNNING, no check of it is under way, and the core is neither halted nor held (R226, R234). -/
def Cw.coreActive (w : Cw) : Bool := w.run && w.coreRuns && w.rd CCBOOT.STATUS.STATE = 3 && !w.recheck

/-- What an instruction asks of the core is done. What a store to a register does finds the core past the instruction, since it may
reset it (R223). -/
def Cw.coreAct (w : Cw) (a : HartAct) : Cw :=
  match a with
  | .done h => { w with core := h.retire }
  | .load h a size sext fp rd =>
    match w.coreLoad a size with
    | some (v, w) => { w with core := (h.loaded size sext fp rd v).retire }
    | none => w.coreTrap 5 a
  | .store h a size v =>
    let r := ({ w with core := h.retire } : Cw).coreStore a size v
    if r.2 then ({ r.1 with core := w.core } : Cw).coreTrap 7 a else r.1
  | .trap c v => w.coreTrap c v

/-- One instruction of the cell's core. -/
def Cw.coreStep (w : Cw) : Cw :=
  if !w.coreActive then w
  else
    match w.coreFetch w.core.pc with
    | none => w.coreTrap 1 (fetchFaultAt (w.coreBytes w.core.pc 2).isSome w.core.pc)
    | some i => w.coreAct (w.core.run ⟨false, none, 0⟩ i)

end Sys2Proof.Machine
end

