-- ==== Sys2Proof/Machine/Cores.lean ====
section
/-!
DEFINITION. Machine/Cores.lean: what the control cores run: one instruction of each core that has an item, with the address map of
R155, the item's end at the scheduler's exit, its traps and its set-point writes (R154 to R156, R165, R169).
-/
namespace Sys2Proof.Machine
open Reg

/-! ### The address map (R155) -/

/-- The TCM byte at an address as core `n` sees it, by 131,072 × core + offset. -/
def tcmKey (n a : Nat) : Option Nat :=
  if a < 0x20000 then some (131072 * n + a)
  else if 0x10000000 ≤ a ∧ a < 0x10100000 then some (a - 0x10000000)
  else none

/-- A byte of the TCMs: what was written, or what the firmware of this start left there. -/
def Vc.tcmByte (s : Vc) (k : Nat) : Nat :=
  (Tab.get (fun _ => none) s.sched.tcm k).getD (Config.tcm (s.rd BOOT.STARTNO.START_NO) (k / 131072) (k % 131072)).toNat

/-- `size` bytes of the TCMs from a key on. -/
def Vc.tcmRead (s : Vc) (k size : Nat) : Nat := ofBytes ((List.range size).map fun i => s.tcmByte (k + i))

def Vc.tcmWrite (s : Vc) (k size v : Nat) : Vc :=
  { s with sched := { s.sched with
      tcm := (List.range size).foldl (fun t i => Tab.set (fun _ => none) t (k + i) (some (v / 256 ^ i % 256))) s.sched.tcm } }

/-- The word at a multiple of 4 of a read-only window, or of the work-item table. -/
def Vc.windowWord (s : Vc) (a : Nat) : Option Nat :=
  let v := s.sched.view
  let smp (k : Nat) : Nat := Tab.get (fun _ => 0) v.samples k
  if 0x20000000 ≤ a ∧ a < 0x20024000 then
    let d := a - 0x20000000
    some ((Tab.get (fun _ => ({} : Facet).entry) v.facets (d / 32)).getD (d % 32 / 4) 0)
  else if 0x21000000 ≤ a ∧ a < 0x21000040 then
    let k := (a - 0x21000000) / 2
    some (smp k % 65536 + smp (k + 1) % 65536 * 65536)
  else if a = 0x21000040 then some v.valid
  else if 0x21000100 ≤ a ∧ a < 0x21000300 then some (Tab.get (fun _ => 0) v.sv ((a - 0x21000100) / 4))
  else if 0x21000300 ≤ a ∧ a < 0x21000320 then some (Tab.get (fun _ => 0) v.svValid ((a - 0x21000300) / 4))
  else if 0x22000000 ≤ a ∧ a < 0x22002000 then
    let c := (a - 0x22000000) / 0x200
    let o := (a - 0x22000000) % 0x200 / 4
    let x : List Nat × List Nat × List Nat := Tab.get (fun _ => ([], [], [])) v.ctxs c
    if o < 16 then some (x.1.getD o 0)
    else if o < 48 then some (x.2.1.getD (o - 16) 0)
    else if o < 64 then some (x.2.2.getD (o - 48) 0)
    else none
  else if 0x31000000 ≤ a ∧ a < 0x31002000 then some (s.word (0x61000 + (a - 0x31000000)))
  else none

/-- What core `n` loads, or none for an access fault. The address is a multiple of the size. -/
def Vc.coreLoad (s : Vc) (n a size : Nat) : Option Nat :=
  match tcmKey n a with
  | some k => some (s.tcmRead k size)
  | none => (s.windowWord (a - a % 4)).map fun w => w / 256 ^ (a % 4) % 256 ^ size

/-- A write of the work-item table under the rules of BAR0, or none where BAR0 would refuse it: it takes effect at the next tick
boundary, as the host's does (R155, R157). -/
def Vc.itemTableWrite (s : Vc) (addr v : Nat) : Option Vc :=
  match findRow (vcRows 6) addr with
  | some (r, i, _) => if s.itemIdle i ∧ r.takes v then some (s.hold (.table addr v)) else none
  | none => none

/-- Item control by a core (R155, R164, R170): ARM, CANCEL or FREE, at the next tick boundary; another OP is an access fault. -/
def Vc.coreItemCtl (s : Vc) (v : Nat) : Option Vc :=
  if 1 ≤ bits v 31 28 ∧ bits v 31 28 ≤ 3 then some (s.hold (.core (bits v 31 28) (bits v 7 0))) else none

/-- What a store of core `n`, which runs item `j`, does, or none for an access fault. Beside the TCMs only whole words are written
(log 10). -/
def Vc.coreStore (s : Vc) (n j a size v : Nat) : Option Vc :=
  match tcmKey n a with
  | some k => some (s.tcmWrite k size v)
  | none =>
    if size ≠ 4 then none
    else if 0x30000000 ≤ a ∧ a < 0x30000100 then
      let p := (a - 0x30000000) / 4
      if bit (s.rd SCHED.SETPT_OWN.OWN (p / 32)) (p % 32) then
        some { s with sched := { s.sched with setBuf := s.sched.setBuf ++ [(j, p, v)] } }
      else none
    else if 0x31000000 ≤ a ∧ a < 0x31002000 then s.itemTableWrite (0x61000 + (a - 0x31000000)) v
    else if a = 0x31002000 then s.coreItemCtl v
    else none

/-! ### One instruction -/

/-- The instruction at an address of a TCM: two half-words, the second only where the first asks for it. -/
def Vc.coreFetch (s : Vc) (n pc : Nat) : Option Nat :=
  match tcmKey n pc with
  | some k =>
    let lo := s.tcmRead k 2
    if lo % 4 ≠ 3 then some lo else (tcmKey n (pc + 2)).map fun k2 => lo + 65536 * s.tcmRead k2 2
  | none => none

/-- What a control core is (R154): the F extension, the time of the current tick instant, which no step of valve time changes within
the tick, its number. -/
def Vc.hartKind (s : Vc) (n : Nat) : HartKind := ⟨true, some (s.sched.view.vt.getD s.vt), n⟩

/-- A core has executed an instruction: its registers; at the scheduler's exit the item completes with a0 (R156). -/
def Vc.coreNext (s : Vc) (n : Nat) (h : Hart) : Vc :=
  let s := s.setHart n h.retire
  if h.pc = schedExit then s.coreEnds n (h.reg 10) none else s

/-- An exception in an item: the core's trap registers, and the notice (R165). -/
def Vc.coreTrap (s : Vc) (n cause tval : Nat) : Vc :=
  (s.setHart n ((s.hart n).take cause tval)).coreEnds n 0 (some (cause, tval))

/-- What an instruction of item `j` asks of core `n` is done. -/
def Vc.coreAct (s : Vc) (n j : Nat) (a : HartAct) : Vc :=
  match a with
  | .done h => s.coreNext n h
  | .load h a size sext fp rd =>
    match s.coreLoad n a size with
    | some v => s.coreNext n (h.loaded size sext fp rd v)
    | none => s.coreTrap n 5 a
  | .store h a size v =>
    match s.coreStore n j a size v with
    | some s => s.coreNext n h
    | none => s.coreTrap n 7 a
  | .trap c v => s.coreTrap n c v

/-- One instruction of the item on core `n`; an idle core has stopped its clock (R155). -/
def Vc.coreStep (s : Vc) (n : Nat) : Vc :=
  match s.run? n with
  | none => s
  | some r =>
    match s.coreFetch n (s.hart n).pc with
    | none => s.coreTrap n 1 (fetchFaultAt (tcmKey n (s.hart n).pc).isSome (s.hart n).pc)
    | some w => s.coreAct n r.item ((s.hart n).run (s.hartKind n) w)

/-- A control core has an item. -/
def Vc.coresRun (s : Vc) : Bool := (List.range 8).any fun n => (s.run? n).isSome

/-- Every control core that has an item executes one instruction of it, in ascending number (log 10). -/
def Vc.runCores (s : Vc) : Vc := forN 8 { s with out := [] } Vc.coreStep

end Sys2Proof.Machine
end

