-- ==== Sys2Proof/Machine/Idle.lean ====
section
/-!
DEFINITION. Machine/Idle.lean: what the chipset does while no command waits: its RISC-V cores execute (R154, R222; log 3, log 10).
-/
namespace Sys2Proof.Machine

/-- A core of the chipset runs: a control core with an item, or the core of a cell with its image. -/
def State.coresRun (s : State) : Bool := s.vc.coresRun || s.cells.any fun e => (s.cw s.vc e.1).coreActive

/-- One instruction of a cell's core, and what it sends. -/
def State.cellCore (s : State) (n : Nat) : State :=
  let w := (s.cw s.vc n).coreStep
  s.putCw s.vc { w with n := n, out := s.vc.out ++ w.out }

/-- Every core that runs executes one instruction: the control cores, then the cells' in ascending number. No valve time passes: it is
the commands that tell it (log 2). -/
def State.runCores (s : State) : State :=
  let s := { s with vc := s.vc.runCores }
  (s.cells.map (·.1)).foldl State.cellCore s

/-- What a step does on an empty queue: the cores execute, or the chipset idles. -/
def State.idle (s : State) : State := if s.coresRun then s.runCores else s

end Sys2Proof.Machine
end

