-- ==== Sys2Proof/Safety.lean ====
section
/-!
DEFINITION. Safety.lean: what a sound state of the chipset is, in the terms the statements use.
-/
namespace Sys2Proof.Machine
open Reg

/-- The memory and the tables of units are in their one canonical form. -/
def State.Canon (s : State) : Prop :=
  Memory.wf s.vc.flash = true ∧ Tab.wf (fun _ => ({} : Cell)) s.cells = true ∧ Tab.wf (fun _ => ({} : Sc)) s.scs = true ∧
    Tab.wf (fun _ => ({} : Tap)) s.taps = true

/-- The identities of the fields that an access violation may write: the ERR block, the ledger's flags and lost count, and the pending
interrupts (R45, R53, R56, R292, R314). -/
def violationFields : List Nat :=
  [ERR.SUMMARY.UNIT.id, ERR.SUMMARY.CLUSTER.id, ERR.SUMMARY.REGION.id, ERR.SUMMARY.DIE.id, ERR.SUMMARY.PACKAGE.id, ERR.SUMMARY.SYSTEM.id,
   ERR.LAST.LEVEL.id, ERR.LAST.CLASS.id, ERR.LAST.DIE.id, ERR.LAST.REGION.id, ERR.LAST.LADDER.id, ERR.LAST.CODE.id, ERR.LAST_VT.VT.id,
   LEDGER.ERRSTAT.IRQ_REC.id, LEDGER.ERRSTAT.LOST.id, LEDGER.LOSTCNT.VALUE.id, HOSTQ.IRQSTAT.PEND.id, ERR.VIOL_CNT.COUNT.id,
   ERR.VIOL_ADDR.ADDR.id, ERR.VIOL_INFO.REQ_ID.id, ERR.VIOL_INFO.INTERNAL.id, ERR.VIOL_INFO.BYTE_EN.id, ERR.VIOL_INFO.WRITE.id,
   ERR.VIOL_INFO.CAUSE.id, ERR.VIOL_INFO.OVERFLOW.id, ERR.VIOL_INFO.VALID.id]

/-- What a field of a register holds after a write of a word to it, by its access code (R5, R6): RW and RWL fields, and those that survive a
warm reset, take their bits of the word; a W1C field loses the bits that the word has at 1; a LOCK stays set; RO and WO fields keep theirs. -/
def Part.Written (p : Part) (old new w : Nat) : Prop :=
  match p.acc with
  | .rw | .rwl | .prm => ∀ b < p.f.w, bit new b = if p.sh ≤ b ∧ b < p.sh + p.w then bit w (p.lo + (b - p.sh)) else bit old b
  | .w1c => ∀ b < p.f.w, bit new b = (bit old b && !(decide (b < p.w) && bit w (p.lo + b)))
  | .lock => new = if p.bitsOf w = 0 then old else 1
  | .ro | .wo => new = old

/-- An access violation has been logged (R53, R56): counted, the first one with its cause, address and direction, a later one as OVERFLOW;
no register but those that a violation writes has changed. -/
def Vc.Violated (s t : Vc) (cause addr : Nat) (write : Bool) : Prop :=
  t.rd ERR.VIOL_CNT.COUNT = sat 32 (s.rd ERR.VIOL_CNT.COUNT + 1) ∧
  (s.rd ERR.VIOL_INFO.VALID = 0 → t.rd ERR.VIOL_INFO.CAUSE = cause ∧ t.rd ERR.VIOL_ADDR.ADDR = addr ∧
    t.rd ERR.VIOL_INFO.WRITE = b2n write ∧ t.rd ERR.VIOL_INFO.VALID = 1) ∧
  (s.rd ERR.VIOL_INFO.VALID ≠ 0 → t.rd ERR.VIOL_INFO.OVERFLOW = 1 ∧ t.rd ERR.VIOL_INFO.CAUSE = s.rd ERR.VIOL_INFO.CAUSE ∧
    t.rd ERR.VIOL_ADDR.ADDR = s.rd ERR.VIOL_ADDR.ADDR) ∧
  ∀ (g : Fld) (i j : Nat), g.id ∉ violationFields → t.rd g i j = s.rd g i j

/-- A descriptor that has started, of a type, in flight and not yet at its end, while the boot controller is not HALTED. -/
def Vc.Started (s : Vc) (d : Desc) (type : Nat) : Prop :=
  s.desc? d.id = some d ∧ d.stage = .started ∧ d.type = type ∧ d.waiting = false ∧ d.orphan = false ∧ s.rd BOOT.STATUS.STATE ≠ 2

/-- A descriptor has ended with a status and a DETAIL at a tick: its completion is written to its CQ (R290), or it waits for the
completions before it (R298) or for Bus Master Enable (R286). -/
def Vc.Answered (s : Vc) (d : Desc) (status detail tick : Nat) : Prop :=
  (∃ c tail ph, Emit.cqEntry c tail (d.tag * 65536 + status * 256 + d.sq) (d.slot * 65536 + ph) detail (tick % 4294967296) ∈ s.out) ∨
  s.desc? d.id = some { d with stage := .done status detail tick, waiting := false, bound := none }

/-- A host write waits for the tick boundary (R37), and nothing else has changed. -/
def Vc.WriteWaits (s t : Vc) (req addr w : Nat) : Prop :=
  t.held = s.held ++ [.host req 15 addr w] ∧ t.regs = s.regs ∧ t.lens = s.lens ∧ t.sched = s.sched ∧ t.arms = s.arms ∧
    t.facets = s.facets ∧ t.ap = s.ap ∧ t.out = []

/-- A descriptor waits for the tick boundary with its buffer as it was read, none while Bus Master Enable is 0 (R37, R286, R300), and
nothing else has changed. -/
def Vc.DescWaits (s t : Vc) (d : Desc) (buf : HostBuf) : Prop :=
  t.desc? d.id = some { d with waiting := true, bound := some (if s.host.bme then buf else .failed) } ∧ t.regs = s.regs ∧
    t.lens = s.lens ∧ t.arms = s.arms ∧ t.facets = s.facets ∧ t.strs = s.strs ∧ t.out = []

/-- A descriptor of a type that has waited, at its tick boundary. -/
def Vc.Due (v : Vc) (d : Desc) (type : Nat) (buf : HostBuf) : Prop :=
  v.desc? d.id = some d ∧ d.stage = .started ∧ d.type = type ∧ d.bound = some buf ∧ d.orphan = false ∧ v.rd BOOT.STATUS.STATE ≠ 2

/-- The cell at a position of a string as it stands, and as a command finds it that comes `dt` units later. -/
def State.cellAt (s : State) (st p : Nat) : Cw := s.cw s.vc (96 * st + p)
def State.cellIn (s : State) (dt st p : Nat) : Cw := s.cw (s.vc.elapse dt) (96 * st + p)

/-- An end of a serial link, what it brings to its training, and whether it can be reached: a cell in cold reset cannot. -/
def State.linkEnd (s : State) : LinkEnd → Lnk
  | .vc l => s.vc.lnk l
  | .cc st p down => (s.cellAt st p).lnk down
def State.linkCfg (s : State) : LinkEnd → LnkCfg
  | .vc l => s.vc.lnkCfg l
  | .cc st p _ => (s.cellAt st p).lnkCfg
def State.linkThere (s : State) : LinkEnd → Bool
  | .vc _ => !s.vc.inReset
  | .cc st p _ => (s.cellAt st p).run

/-- The end trains: it is in L0, as its owner wants, out of test, and no measurement lane (R205, R211, R217, R218). -/
def State.linkTrains (s : State) : LinkEnd → Bool
  | .vc l => !s.vc.inReset && !isMeasLane l && decide (s.vc.rd LANE.STATUS.PSTATE l = 0) && decide (s.vc.lanePower l = 0) && !s.vc.inTest l
  | .cc st p down => (s.cellAt st p).run && (s.cellAt st p).trains down

/-- A companion as it stands, and as a command finds it that comes `dt` units later. -/
def State.swAt (s : State) (n : Nat) : Sw := { toSc := s.sc n, n := n, now := s.vc.now }
def State.swIn (s : State) (dt n : Nat) : Sw := { toSc := s.sc n, n := n, now := (s.vc.elapse dt).now }

/-- A request that the companion has not executed yet: its SEQ differs from that of the request last executed (R351). -/
def Sc.fresh (x : Sc) (q : Nat) : Prop := ∀ r, x.lastReq = some r → r.1 ≠ bits q 23 16

/-- The companion on port `n` has executed the request and answered it with a RESULT (R351). -/
def State.ScAnswered (s : State) (n q result : Nat) : Prop :=
  ∃ w0 w1, (s.sc n).lastReq = some (bits q 23 16, w0, w1) ∧ bits w0 31 24 = result ∧
    Emit.scResponse n (compBytes [w0, w1]) ∈ s.vc.out

/-- The bits that a parameter byte has, and the values it takes (R354). -/
def paramMask (a : Nat) : Nat := if a < 0x20 then 0xEF else if a < 0x28 then 0xC7 else if 0x40 ≤ a ∧ a < 0x48 then 0xF8 else 0xFF
def paramTakes (a v : Nat) : Bool :=
  if a < 0x20 then decide (1 ≤ v % 16) && (!bit v 5 || bit v 6)
  else if a < 0x28 then decide (v % 8 ≤ 4)
  else if a < 0x30 then decide (2 ≤ v)
  else if a < 0x48 then decide (bits v 6 4 ≤ 4)
  else if a = 0x49 then decide (1 ≤ v)
  else if a = 0x4A then decide (10 ≤ v) && decide (v ≤ 90)
  else decide (1 ≤ v / 16) && decide (1 ≤ v % 16)

/-! ### What each command may change -/

/-- The groups of registers of BAR0 (R51). -/
inductive RegGroup where
  | global | voter | err | cascade | lens | svsub | ctx | sup | prism | arm | prot | mlane | token | sched
  | item | string | lane | time | tport | hostq | sq | cq | ledger | aperture | companion | cport | boot
deriving DecidableEq, Repr

/-- The last field identity of each run of a group's fields, in order. -/
def groupEnds : List (Nat × RegGroup) :=
  [(10, .global), (29, .voter), (52, .err), (70, .cascade), (79, .lens), (94, .svsub), (143, .ctx), (165, .sup),
   (168, .lens), (176, .prism), (220, .arm), (251, .prot), (263, .mlane), (270, .token), (276, .prot), (308, .sched),
   (323, .item), (366, .string), (416, .lane), (448, .time), (454, .tport), (459, .hostq), (475, .sq), (485, .cq),
   (487, .hostq), (509, .ledger), (534, .aperture), (536, .companion), (556, .cport), (604, .boot)]

/-- The group of a field. -/
def Fld.group (f : Fld) : RegGroup := ((groupEnds.find? fun e => decide (f.id ≤ e.1)).map (·.2)).getD .boot

/-- The host writes that wait for a tick boundary are of control-die state or of APERTURE.CTRL (R37, R324). -/
def Vc.HeldOk (v : Vc) : Prop := ∀ req be a w, Held.host req be a w ∈ v.held → atBoundary a = true

/-- The pointers of submission queue `q` (R287, R288, R303): a size of R287, one of the four states, DISABLED exactly while it is not
enabled, and the head and the tail of an enabled queue inside it. -/
def Vc.SqOk (v : Vc) (q : Nat) : Prop :=
  4 ≤ v.rd SQ.CFG.LOG2SIZE q ∧ v.rd SQ.CFG.LOG2SIZE q ≤ 12 ∧ v.rd SQ.STATUS.STATE q ≤ 3 ∧
    (v.rd SQ.CFG.EN q = 0 ↔ v.rd SQ.STATUS.STATE q = 0) ∧
    (v.rd SQ.CFG.EN q ≠ 0 → v.rd SQ.STATUS.HEAD q < v.sqSize q ∧ v.sqTail q < v.sqSize q)

/-- The pointers of completion queue `q` (R287, R288, R309). -/
def Vc.CqOk (v : Vc) (q : Nat) : Prop :=
  4 ≤ v.rd CQ.CFG.LOG2SIZE q ∧ v.rd CQ.CFG.LOG2SIZE q ≤ 12 ∧
    (v.rd CQ.CFG.EN q ≠ 0 → v.rd CQ.STATUS.HEAD q < v.cqSize q ∧ v.rd CQ.STATUS.TAIL q < v.cqSize q)

/-- The special registers show nothing that the spec does not give them: RESETCAUSE one of its causes, a later violation only beside a
first one (R56), VOTER.STATUS.MODE one of its three modes, the queues their pointers; and what waits for the tick boundary is what takes
effect there. -/
def Vc.Sound (v : Vc) : Prop :=
  v.HeldOk ∧ v.rd GLOBAL.RESETCAUSE.CAUSE ≤ 4 ∧ (v.rd ERR.VIOL_INFO.OVERFLOW ≠ 0 → v.rd ERR.VIOL_INFO.VALID ≠ 0) ∧
    v.rd VOTER.STATUS.MODE ≤ 2 ∧ ∀ q, q < 16 → v.SqOk q ∧ v.CqOk q

/-- The groups of registers that a command may change, beside the fields that any event or access violation writes
(`violationFields`); `none` for the commands that may change any register: resets, the start, and a write of a BAR0 address. -/
def groupsOf (c : Instr) : Option (List RegGroup) :=
  match c with
  | .latchedRead .. | .facetWindowRead .. | .clrSummary .. | .registerRead .. | .setpointWrite .. | .clrLoad .. | .clrTiming ..
  | .ctxStart .. | .ctxStop .. | .armForm .. | .armRelease .. | .itemArm .. | .itemCancel .. | .itemFree ..
  | .apertureStart .. | .apertureStop .. | .force .. | .tokenGrant .. | .tokenRevoke .. | .tokenExpiry ..
  | .bypassFireRequest .. | .sweepCopyRx .. | .ccFlashRx .. | .cellTickInstant .. | .cellSweepWatchdog ..
  | .ccMsgRead .. | .ccMsgWrite .. | .ccMsgAssign .. | .ccMsgCalStart .. | .ccMsgFwBlock .. | .ccResponseSend .. | .probeRx ..
  | .echoTimeout .. | .ccRateLimitReset .. | .ccLinkTestEnd .. | .ccColdReset .. | .ccResetRelease .. | .coreRst ..
  | .coreWatchdogExpiry .. | .kick .. | .debugHalt .. | .sm3CheckDone .. | .bypFirePulseEnd .. | .bypassConfirmTimeout .. | .adcSlot ..
  | .tickSampleHold .. | .refSettled .. | .openWireTest .. | .openWireSettle .. | .qpopRead .. | .cellCoreRegisterWrite .. | .gateEdge ..
  | .gateTurnOn .. | .delayLineCalibration .. | .tripInput .. | .desatBlankingEnd .. | .tripClear .. | .pdelayReqRx ..
  | .sqDoorbell .. | .coalesceTimeout .. | .safetyCycle .. | .isoFrameRx .. | .isoTimeout .. | .fieldSupplySag .. | .fieldSupplySagEnd ..
  | .supplyLow .. | .outputOverload .. | .outputOvertemp .. | .outputOpenWire .. | .offTest .. | .offTestEnd .. | .resetButton ..
  | .rstStuck .. | .rstStuckClear .. | .scPowerUp .. | .eswClose .. | .eswOpen .. | .eswAbort .. | .eswDelayExpiry .. | .eswFbTimeout ..
  | .modeEnter .. | .modeLeave .. | .scUnlock .. | .relock .. | .unlockExpiry .. | .passwordChange .. | .scParameterWrite ..
  | .scConfirm .. | .confirmTimeout .. | .scPoll .. | .scRead .. | .scWrite .. | .scUnpowered .. => some []
  | .dieSelfTestDone .. | .realignCopyComplete .. => some [.voter]
  | .cascadeReady .. | .facetSliceRx .. | .cascValueRx .. | .memberStatusRx .. => some [.cascade]
  | .svFrame .. => some [.svsub]
  | .protTestGo .. | .firingEnd .. => some [.prot]
  | .itemComplete .. | .itemTrap .. | .coreSetpointWrite .. => some [.item]
  | .sweepReturn .. | .echoRx .. | .assignRepeat .. => some [.string]
  | .faultTxExpiry .. | .backoffExpiry .. | .bringupTimeout .. | .capRx .. | .stepRx .. | .trialSlotsDone .. | .resultRx .. | .goRx ..
  | .finalLockTimeout .. | .trainFrameError .. | .mlaneEqSlotsDone .. | .fomMeasure .. | .laneRetrain .. | .laneRelease ..
  | .clrFommin .. | .laneTest .. | .alignSlip .. => some [.lane]
  | .ptpAnnounce .. | .ptpSyncTimeout .. | .announceTimeout .. | .stepApply .. | .ptpEnable .. | .rearm .. | .loadvt .. => some [.time]
  | .pdelayRespRx .. => some [.tport]
  | .cqDoorbell .. | .cqEnable .. => some [.cq]
  | .sqEnable .. | .sqDisable .. | .busMasterClear .. => some [.sq]
  | .ledgerFlashWrite .. | .statsWrite .. | .hoursSave .. | .hoursSecond .. => some [.ledger]
  | .holdoffEnd .. => some [.aperture]
  | .companionRequest .. | .companionResponseRx .. | .companionAccess .. => some [.cport]
  | .permitMismatch .. => some [.companion]
  | .coefLoad .. | .coefReadback .. | .descriptorFetch .. | .busMasterSet .. | .nopDescriptor .. | .cellClear .. | .cellClearDone ..
  | .cellMsgRead .. | .cellMsgWrite .. | .ledgerRead .. | .coefSwap .. | .snapshot .. | .facetSetTrim .. | .facetReturn .. | .facetRemove ..
  | .facetClearCounts .. | .valveCtlBlock .. | .valveCtlDeblock .. => some [.sq, .cq]
  | .deadlineMiss .. => some [.sched, .item]
  | .ptpSync .. | .ptpFollowUp .. | .pdelayReqSend .. | .pdelayTimeout .. => some [.time, .tport]
  | .startDone .. | .confirmImage .. | .clrHistory .. | .configWrite .. | .fwWrite .. | .fwVerify .. | .fwActivate ..
  | .flashOperationDone .. | .flush .. | .unitRst .. | .clrStats .. | .format .. | .ledgerFormatDone .. => some [.sq, .cq, .ledger, .boot]
  | .enumerationFrame .. | .enumAcknowledge .. | .enumTimeout .. => some [.cascade, .lane, .time]
  | .cascadeBlockRx .. => some [.global, .cascade, .prot, .string]
  | .measMiss .. | .blockPermitChange .. | .protClear .. | .protHostBlock .. => some [.global, .prot, .string]
  | .cascadeCommandFrame .. => some [.global, .cascade, .prot]
  | .sqResume .. | .sqAbort .. => some [.sup, .sq, .cq]
  | .cellMsgSend .. | .msgResponseRx .. | .msgTimeout .. => some [.string, .sq, .cq]
  | .functionLevelReset .. | .pcieLinkDown .. => some [.hostq, .sq, .cq]
  | .apertureRead .. | .apertureAreaComplete .. => some [.sq, .cq, .aperture]
  | .flitRx .. | .voterAside .. | .voterRealign .. | .dieError .. => some [.global, .voter, .prot, .string]
  | .tickAlignmentDone .. => some [.cascade, .lens, .lane, .time]
  | .loadEnd .. => some [.global, .arm, .prot, .string]
  | .measFrameRx .. => some [.global, .prot, .mlane, .string]
  | .stringTrainTimeout .. | .assignReturn .. | .assignTimeout .. | .calibrationDone .. | .imageLoadDone ..
  | .linkReturn .. | .blockLockAcquired .. => some [.string, .lane, .sq, .cq]
  | .stepOverrun .. => some [.lens, .ctx, .sup, .sq, .cq]
  | .linkFaultRx .. | .lossOfLock .. | .codeError .. => some [.global, .cascade, .prot, .string, .lane]
  | .cascadeStart .. | .cascadeStop .. => some [.global, .cascade, .prot, .string, .lane, .time]
  | .stringDown .. | .stringSyncTimeout .. | .stopSweepsEnd .. | .syncComplete .. => some [.global, .arm, .prot, .string, .lane, .sq, .cq]
  | .stringStart .. | .stringStop .. | .stringLoad .. => some [.global, .arm, .prot, .string, .lane, .sq, .cq, .boot]
  | .tick .. => some [.global, .voter, .lens, .svsub, .ctx, .sup, .prism, .arm, .prot, .sched, .item, .string, .lane, .sq, .cq, .aperture]
  | .coldReset .. | .bootStart .. | .bootStepTimeout .. | .warmReset .. | .registerWrite .. => none

/-- The commands that may program or erase the flash: the ledger's, the xSPI unit's, the start's and its marks, the resets, which cut what is
in progress, and a write of a BAR0 address. -/
def mayProgram (c : Instr) : Bool :=
  match c with
  | .coldReset .. | .bootStart .. | .bootStepTimeout .. | .startDone .. | .confirmImage .. | .clrHistory .. | .warmReset ..
  | .registerWrite .. | .stringStart .. | .stringStop .. | .stringLoad .. | .syncComplete .. | .flashOperationDone ..
  | .ledgerFlashWrite .. | .ledgerFormatDone .. | .configWrite .. | .fwWrite .. | .fwVerify .. | .fwActivate .. | .statsWrite ..
  | .hoursSave .. | .flush .. | .unitRst .. | .clrStats .. | .format .. => true
  | .latchedRead .. | .facetWindowRead .. | .clrSummary .. | .registerRead .. | .tick .. | .stepOverrun .. | .flitRx .. | .voterAside ..
  | .voterRealign .. | .dieSelfTestDone .. | .realignCopyComplete .. | .dieError .. | .cascadeStart .. | .cascadeStop ..
  | .enumerationFrame .. | .enumAcknowledge .. | .enumTimeout .. | .tickAlignmentDone .. | .cascadeReady .. | .cascadeBlockRx ..
  | .cascadeCommandFrame .. | .facetSliceRx .. | .cascValueRx .. | .memberStatusRx .. | .ctxStart .. | .ctxStop .. | .setpointWrite ..
  | .clrLoad .. | .svFrame .. | .coefLoad .. | .coefReadback .. | .coefSwap .. | .armForm .. | .armRelease .. | .clrTiming ..
  | .facetSetTrim .. | .facetReturn .. | .facetRemove .. | .facetClearCounts .. | .measFrameRx .. | .measMiss .. | .blockPermitChange ..
  | .protClear .. | .protHostBlock .. | .protTestGo .. | .tokenGrant .. | .tokenRevoke .. | .tokenExpiry .. | .bypassFireRequest ..
  | .firingEnd .. | .itemArm .. | .itemCancel .. | .itemFree .. | .itemComplete .. | .itemTrap .. | .coreSetpointWrite ..
  | .deadlineMiss .. | .stopSweepsEnd .. | .loadEnd .. | .stringTrainTimeout .. | .assignRepeat .. | .assignReturn .. | .assignTimeout ..
  | .calibrationDone .. | .imageLoadDone .. | .stringSyncTimeout .. | .stringDown .. | .sweepReturn .. | .cellMsgSend ..
  | .msgResponseRx .. | .msgTimeout .. | .sweepCopyRx .. | .ccFlashRx .. | .cellTickInstant .. | .cellSweepWatchdog .. | .ccMsgRead ..
  | .ccMsgWrite .. | .ccMsgAssign .. | .ccMsgCalStart .. | .ccMsgFwBlock .. | .ccResponseSend .. | .probeRx .. | .echoRx ..
  | .echoTimeout .. | .linkFaultRx .. | .linkReturn .. | .lossOfLock .. | .faultTxExpiry .. | .backoffExpiry .. | .bringupTimeout ..
  | .capRx .. | .stepRx .. | .trialSlotsDone .. | .resultRx .. | .goRx .. | .blockLockAcquired .. | .finalLockTimeout ..
  | .trainFrameError .. | .codeError .. | .ccRateLimitReset .. | .mlaneEqSlotsDone .. | .fomMeasure .. | .laneRetrain .. | .laneRelease ..
  | .clrFommin .. | .laneTest .. | .alignSlip .. | .ccLinkTestEnd .. | .ccColdReset .. | .ccResetRelease .. | .coreRst ..
  | .coreWatchdogExpiry .. | .kick .. | .debugHalt .. | .sm3CheckDone .. | .bypFirePulseEnd .. | .bypassConfirmTimeout .. | .adcSlot ..
  | .tickSampleHold .. | .refSettled .. | .openWireTest .. | .openWireSettle .. | .qpopRead .. | .cellCoreRegisterWrite .. | .gateEdge ..
  | .gateTurnOn .. | .delayLineCalibration .. | .tripInput .. | .desatBlankingEnd .. | .tripClear .. | .ptpSync .. | .ptpFollowUp ..
  | .ptpAnnounce .. | .pdelayReqSend .. | .pdelayReqRx .. | .pdelayRespRx .. | .pdelayTimeout .. | .ptpSyncTimeout .. | .announceTimeout ..
  | .stepApply .. | .ptpEnable .. | .rearm .. | .loadvt .. | .sqDoorbell .. | .cqDoorbell .. | .descriptorFetch .. | .coalesceTimeout ..
  | .sqEnable .. | .sqDisable .. | .cqEnable .. | .sqResume .. | .sqAbort .. | .functionLevelReset .. | .pcieLinkDown ..
  | .busMasterClear .. | .busMasterSet .. | .nopDescriptor .. | .valveCtlDeblock .. | .valveCtlBlock .. | .cellClear .. | .cellClearDone ..
  | .cellMsgRead .. | .cellMsgWrite .. | .snapshot .. | .ledgerRead .. | .apertureRead ..
  | .hoursSecond ..
  | .apertureStart .. | .apertureStop .. | .force .. | .apertureAreaComplete .. | .holdoffEnd .. | .companionRequest ..
  | .companionResponseRx .. | .companionAccess .. | .permitMismatch .. | .safetyCycle .. | .isoFrameRx .. | .isoTimeout ..
  | .fieldSupplySag .. | .fieldSupplySagEnd .. | .supplyLow .. | .outputOverload .. | .outputOvertemp .. | .outputOpenWire .. | .offTest ..
  | .offTestEnd .. | .resetButton .. | .rstStuck .. | .rstStuckClear .. | .scPowerUp .. | .eswClose .. | .eswOpen .. | .eswAbort ..
  | .eswDelayExpiry .. | .eswFbTimeout .. | .modeEnter .. | .modeLeave .. | .scUnlock .. | .relock .. | .unlockExpiry ..
  | .passwordChange .. | .scParameterWrite .. | .scConfirm .. | .confirmTimeout .. | .scPoll .. | .scRead .. | .scWrite ..
  | .scUnpowered .. => false

end Sys2Proof.Machine
end

