-- ==== Sys2Proof/Certificates/Slice0/Obligations.lean ====
section
/-!
DEFINITION. Certificates/Slice0/Obligations.lean: the statements for the provers.
-/
open Sys2Proof Sys2Proof.Machine Sys2Proof.Machine.Reg


/-! ### The queue -/

/-- One step runs the command at the front of the queue on the state with the queue's rest. On an empty queue the RISC-V cores that run
execute one instruction each (R154, R222), and with none running the chipset idles: both are the model's choice (log 3). No word spells a
command, for the spec gives its commands no bits. -/
def Obligations.StepRunsFrontCommand : Prop :=
  (∀ (c : Instr) (rest : List Instr) (s : State), step { s with pending := c :: rest } = exec c { s with pending := rest }) ∧
  ∀ (s : State) (n w : Nat), decodeTableWord n w = none ∧ s.withFetchWord n w = s ∧ (s.pending = [] → step s = .next s.idle) ∧
    (s.coresRun = true → s.idle = s.runCores) ∧ (s.coresRun = false → s.idle = s)

/-! ### Resets and the start -/

/-- R271, whole: what a warm reset, out of cold reset, and a cold reset do to valve time. -/
def Obligations.ValveTimeThroughResets : Prop :=
  (∀ (s : State) (dt : Nat) (b : Fin 3), s.vc.inReset = false → ∃ t, exec (.warmReset dt b) s = .next t ∧
    t.vc.vt = (s.vc.elapse dt).vt ∧ t.vc.rd TIME.RATE.RATE = s.vc.rd TIME.RATE.RATE ∧
    t.vc.rd TIME.STATUS.STEP_ARM = s.vc.rd TIME.STATUS.STEP_ARM ∧
    t.vc.rd TIME.STATUS.STATE = (if t.vc.rd TIME.CFG.PTP_EN = 0 then 0 else 1)) ∧
  ∀ (s : State) (c : ColdCause), ((∃ b, c = .power b) ∨ ∃ ns, 1000 ≤ ns ∧ c = .pin ns) → ∃ t, exec (.coldReset c) s = .next t ∧
    t.vc.vt = 0 ∧ t.vc.rd TIME.RATE.RATE = 0 ∧ t.vc.rd TIME.STATUS.STEP_ARM = 1 ∧
    t.vc.rd TIME.STATUS.STATE = (if t.vc.rd TIME.CFG.PTP_EN = 0 then 0 else 1)

/-- Resets (R7, R48, R54, R383): the cause read afterwards, and the strings, lanes, facets and contexts at their reset state; the WRITEs
that end the holds of inner links are still sent (the model's choice, log 107), and flash programming is cut by a cold reset alone. RESET_N
resets from 1 µs, below 100 ns it is ignored, and between the two it may reset. The cold reset holds the VC for 1 ms, in which a command to
it does nothing but let time pass. -/
def Obligations.ResetsOfTheController : Prop :=
  (∀ (s : State) (dt : Nat) (b : Fin 3), s.vc.inReset = false → ∃ t, exec (.warmReset dt b) s = .next t ∧
    t.vc.rd GLOBAL.RESETCAUSE.CAUSE = b.val + 2 ∧ t.vc.strs = (s.vc.elapse dt).beforeReset.keepReleases ∧
    (∀ n, t.vc.rd STRING.STATUS.STATE n = 0) ∧ t.vc.held = [] ∧ t.vc.lanes = [] ∧ t.vc.facets = [] ∧ t.vc.lens = {} ∧
    t.vc.boot.running = false ∧ Emit.reset 4 ∈ t.vc.out ∧ t.cells = s.cells ∧ t.scs = s.scs) ∧
  (∀ (s : State) (b : Bool), ∃ t, exec (.coldReset (.power b)) s = .next t ∧ t.vc.rd GLOBAL.RESETCAUSE.CAUSE = 0 ∧
    t.vc.strs = s.vc.keepReleases ∧ (∀ n, t.vc.rd STRING.STATUS.STATE n = 0) ∧ t.vc.held = [] ∧ t.vc.lanes = [] ∧ t.vc.facets = [] ∧
    t.vc.lens = {} ∧ t.vc.out = [.reset 5] ∧ t.vc.flash = s.vc.cutFlash ∧ t.vc.resetUntil = s.vc.now + 4000000 ∧ t.vc.inReset = true ∧
    t.cells = s.cells ∧ t.scs = s.scs) ∧
  (∀ (s : State) (ns : Nat), 1000 ≤ ns → ∃ t, exec (.coldReset (.pin ns)) s = .next t ∧
    t.vc.rd GLOBAL.RESETCAUSE.CAUSE = 1 ∧ t.vc.out = [.reset 5] ∧ t.vc.inReset = true) ∧
  (∀ (s : State) (ns : Nat), 100 ≤ ns → ns < 1000 → ∃ t, exec (.coldReset (.pin ns)) s = .next t ∧
    (t.vc = { s.vc with out := [], free := s.vc.free + 1 } ∨ t.vc.rd GLOBAL.RESETCAUSE.CAUSE = 1 ∧ t.vc.out = [.reset 5])) ∧
  (∀ (s : State) (ns : Nat), ns < 100 → ∃ t, exec (.coldReset (.pin ns)) s = .next t ∧ t.vc = { s.vc with out := [] }) ∧
  ∀ (s : State) (dt : Nat), (s.vc.elapse dt).inReset = true →
    (∀ b, exec (.warmReset dt b) s = .next { s with vc := s.vc.elapse dt }) ∧
    (∀ r, exec (.bootStart dt r) s = .next { s with vc := s.vc.elapse dt }) ∧
    (∀ req a be w, exec (.registerWrite dt req a be w) s = .next { s with vc := s.vc.elapse dt }) ∧
    ∀ req a be, exec (.registerRead dt req a be) s = .next { s with vc := s.vc.elapse dt }

/-- The start (R367, R370): one in which no step hangs comes to its end; one whose first step, FUSE, hangs stays in that step, begun and not
done. At its limit FUSE (step 0) halts, and a ledger, time or companion step (6, 7, 8) makes the boot controller reset the VC. START_DONE
completes step 9 and changes no register. That the steps up to one that hangs are run by one command (log 22), with what lies outside the
boot controller as its operand (log 9), is the model's choice. -/
def Obligations.StartSteps : Prop :=
  (∀ (s : State) (dt : Nat) (r : BootRes), s.vc.inReset = false → s.vc.rd BOOT.STATUS.STATE = 0 → s.vc.boot.running = false →
    r.hang = none → ∃ t, exec (.bootStart dt r) s = .next t ∧ t.vc.boot.running = false) ∧
  (∀ (s : State) (dt : Nat) (r : BootRes), s.vc.inReset = false → s.vc.rd BOOT.STATUS.STATE = 0 → s.vc.boot.running = false →
    r.hang = some 0 → ∃ t, exec (.bootStart dt r) s = .next t ∧ t.vc.boot.running = true ∧ t.vc.rd BOOT.STATUS.STEP = 0 ∧
      t.vc.rd BOOT.STATUS.STATE = 0 ∧ t.vc.boot.begun = 1 ∧ t.vc.boot.done = 0 ∧ t.vc.boot.since = (s.vc.elapse dt).now) ∧
  (∀ (s : State) (dt : Nat) (r : BootRes), s.vc.inReset = false → s.vc.boot.running = true → s.vc.rd BOOT.STATUS.STEP = 0 →
    s.vc.boot.since + 4000000 ≤ (s.vc.elapse dt).now →
    ∃ t, exec (.bootStepTimeout dt r) s = .next t ∧ t.vc.rd BOOT.STATUS.STATE = 2 ∧ t.vc.rd BOOT.ERRSTAT.HALT = 1 ∧
      t.vc.boot.running = false ∧ bit t.vc.boot.failed 0 = true) ∧
  (∀ (s : State) (dt : Nat) (r : BootRes) (n : Nat), s.vc.inReset = false → n = 6 ∨ n = 7 ∨ n = 8 → s.vc.boot.running = true →
    s.vc.rd BOOT.STATUS.STEP = n → s.vc.boot.since + stepLimit n * 4000000 ≤ (s.vc.elapse dt).now →
    ∃ t, exec (.bootStepTimeout dt r) s = .next t ∧ t.vc.rd GLOBAL.RESETCAUSE.CAUSE = 4 ∧ t.vc.boot.running = false) ∧
  ∀ (s : State) (dt : Nat) (req : BitVec 16) (w : Word), s.vc.inReset = false → s.vc.rd BOOT.STATUS.STATE = 1 →
    bit s.vc.boot.done 9 = false → bits w.toNat 2 0 = 4 →
    ∃ t, exec (.startDone dt req w) s = .next t ∧ bit t.vc.boot.done 9 = true ∧ t.vc.regs = s.vc.regs

/-- CONFIRM and CLR_HISTORY (R362, R370, R402): with the key, CONFIRM of a trial raises CONFIRM_BUSY and asks for the pointer write that
ends the trial, by the operations of log 28; CLR_HISTORY asks the flash for an entry with CLEARED = 1 over the oldest place of the ring,
erased one sector at a time with the other entries kept (the model's choice, log 84), or waits for the operation in progress. Without the
key, or a CONFIRM with no image on trial, the write is a violation. -/
def Obligations.BootCommands : Prop :=
  (∀ (s : State) (dt : Nat) (req : BitVec 16) (w : Word), s.vc.inReset = false → s.vc.rd BOOT.STATUS.TRIAL = 1 →
    s.vc.rd BOOT.STATUS.CONFIRM_BUSY = 0 → s.vc.boot.xspi = [] → bits w.toNat 2 0 = 1 → bits w.toNat 31 16 = 0x7E81 →
    ∃ t, exec (.confirmImage dt req w) s = .next t ∧ t.vc.rd BOOT.STATUS.CONFIRM_BUSY = 1 ∧
      t.vc.boot.xspi = [⟨.confirm, true, s.vc.ptrOps (ptrBits (s.vc.rd BOOT.STATUS.RUN_SLOT) 0 0 1)⟩] ∧ t.vc.flash = s.vc.flash) ∧
  (∀ (s : State) (dt : Nat) (req : BitVec 16) (w : Word), s.vc.inReset = false → bits w.toNat 2 0 = 2 → bits w.toNat 31 16 = 0x7E81 →
    let no := s.vc.rd BOOT.STARTNO.START_NO
    let w1 := 67108864 + s.vc.rd GLOBAL.RESETCAUSE.CAUSE * 536870912
    (s.vc.boot.xspi = [] → ∃ t, exec (.clrHistory dt req w) s = .next t ∧ t.vc.regs = s.vc.regs ∧ t.vc.flash = s.vc.flash ∧
      t.vc.boot.xspi = [⟨.ringEntry no w1, true, entryOps s.vc.flash (entryAt s.vc.flash) (entryWords s.vc.flash no w1)⟩]) ∧
    (∀ x xs, s.vc.boot.xspi = x :: xs → x.begun = true → x.ops ≠ [] →
      ∃ t, exec (.clrHistory dt req w) s = .next t ∧ t.vc.regs = s.vc.regs ∧ t.vc.flash = s.vc.flash ∧
        t.vc.boot.xspi = s.vc.boot.xspi ++ [⟨.ringEntry no w1, false, []⟩])) ∧
  ∀ (s : State) (dt : Nat) (req : BitVec 16) (w : Word), s.vc.inReset = false →
    (bits w.toNat 2 0 = 2 → bits w.toNat 31 16 ≠ 0x7E81 →
      ∃ t, exec (.clrHistory dt req w) s = .next t ∧ s.vc.Violated t.vc 3 0x150004 true ∧ t.vc.boot = s.vc.boot ∧ t.vc.flash = s.vc.flash) ∧
    (bits w.toNat 2 0 = 1 → bits w.toNat 31 16 ≠ 0x7E81 ∨ s.vc.rd BOOT.STATUS.TRIAL = 0 →
      ∃ t, exec (.confirmImage dt req w) s = .next t ∧ s.vc.Violated t.vc 3 0x150004 true ∧ t.vc.boot = s.vc.boot ∧ t.vc.flash = s.vc.flash)

/-! ### BAR0 -/

/-- An access that is not a naturally aligned 32-bit one is an access violation, and is dropped or answered as one of an unmapped register
is (R8, R53); the endpoint shows an Unsupported Request, and logs the first header (R285). That cause 2 wins over the other causes is the
model's reading (log 16), and so is what the endpoint holds of AER (logs 11 and 102). -/
def Obligations.WrongAccess : Prop :=
  ∀ (s : State) (dt : Nat) (req : BitVec 16) (addr : BitVec 22) (be : BitVec 4) (w : Word), s.vc.inReset = false →
    addr.toNat % 4 ≠ 0 ∨ be ≠ 15 →
    (∃ t, exec (.registerWrite dt req (.bar0 addr) be w) s = .next t ∧ s.vc.Violated t.vc 2 addr.toNat true ∧
      t.vc.host.pcie.ur = true ∧ Emit.aer false s.vc.host.pcie.nonFatalEn ∈ t.vc.out ∧
      (s.vc.host.pcie.ur = false → s.vc.host.pcie.ca = false → t.vc.host.pcie.hdr = some ⟨true, req.toNat, be.toNat, addr.toNat⟩)) ∧
    ∃ t, exec (.registerRead dt req (.bar0 addr) be) s = .next t ∧ s.vc.Violated t.vc 2 addr.toNat false ∧
      Emit.readRsp 1 0 ∈ t.vc.out ∧ t.vc.host.pcie.ur = true ∧ Emit.aer false s.vc.host.pcie.nonFatalEn ∈ t.vc.out ∧
      (s.vc.host.pcie.ur = false → s.vc.host.pcie.ca = false → t.vc.host.pcie.hdr = some ⟨false, req.toNat, be.toNat, addr.toNat⟩)

/-- Register writes (R5, R6, R9, R37, R53, R56). A register without a rule of its own takes the word field by field, each by its access
code, a half of a 64-bit register its half, and no other register changes. One of LENS, PRISM or SCHED, or of APERTURE.CTRL, waits for the
tick boundary, and takes it there. A write of a locked register, of a value that a field rejects, of an unmapped address or of the facet
window, or with the boot controller HALTED of a register outside its pages, is a violation and changes nothing else. ERR.CTRL.CLR_SUMMARY
clears the six levels and no other register. What a lock set before the boundary refuses there is the model's choice (log 108). -/
def Obligations.PlainRegisterWrite : Prop :=
  (∀ (s : State) (dt : Nat) (req : BitVec 16) (w : Word), s.vc.inReset = false → bit w.toNat 0 = true →
    ∃ t, exec (.clrSummary dt req w) s = .next t ∧ t.vc.rd ERR.SUMMARY.SYSTEM = 0 ∧ t.vc.rd ERR.SUMMARY.PACKAGE = 0 ∧
      t.vc.rd ERR.SUMMARY.DIE = 0 ∧ t.vc.rd ERR.SUMMARY.REGION = 0 ∧ t.vc.rd ERR.SUMMARY.CLUSTER = 0 ∧ t.vc.rd ERR.SUMMARY.UNIT = 0 ∧
      ∀ (g : Fld) (i j : Nat), g.id ∉ [ERR.SUMMARY.SYSTEM.id, ERR.SUMMARY.PACKAGE.id, ERR.SUMMARY.DIE.id, ERR.SUMMARY.REGION.id,
        ERR.SUMMARY.CLUSTER.id, ERR.SUMMARY.UNIT.id] → t.vc.rd g i j = s.vc.rd g i j) ∧
  (∀ (s : State) (dt : Nat) (req : BitVec 16) (addr : BitVec 22) (w : Word) (r : Row) (i j : Nat), s.vc.inReset = false →
    findRow (vcRows (addr.toNat / 65536)) addr.toNat = some (r, i, j) → addr.toNat % 4 = 0 → inWindow addr.toNat = false →
    s.vc.rd BOOT.STATUS.STATE ≠ 2 → r.tag ≠ .portlink →
    (s.vc.lockedRow r i = true → ∃ t, exec (.registerWrite dt req (.bar0 addr) 15 w) s = .next t ∧ s.vc.Violated t.vc 1 addr.toNat true ∧
      t.vc.held = s.vc.held) ∧
    (s.vc.lockedRow r i = false → r.takes w.toNat = false →
      ∃ t, exec (.registerWrite dt req (.bar0 addr) 15 w) s = .next t ∧ s.vc.Violated t.vc 3 addr.toNat true ∧ t.vc.held = s.vc.held) ∧
    (s.vc.lockedRow r i = false → r.takes w.toNat = true →
      (atBoundary addr.toNat = true → ∃ t, exec (.registerWrite dt req (.bar0 addr) 15 w) s = .next t ∧
        t.vc.held = s.vc.held ++ [.host req.toNat 15 addr.toNat w.toNat] ∧ t.vc.regs = s.vc.regs ∧ t.vc.out = []) ∧
      (atBoundary addr.toNat = false → r.tag = .plain ∨ r.tag = .irqstat ∨ r.tag = .irqmap →
        ∃ t, exec (.registerWrite dt req (.bar0 addr) 15 w) s = .next t ∧
          (∀ p ∈ r.parts, p.Written (s.vc.rd p.f i j) (t.vc.rd p.f i j) w.toNat) ∧
          (∀ (g : Fld) (k l : Nat), g.id ∉ r.parts.map (fun p => p.f.id) → t.vc.rd g k l = s.vc.rd g k l) ∧
          t.vc.strs = s.vc.strs ∧ t.vc.facets = s.vc.facets ∧ t.vc.host.descs = s.vc.host.descs ∧ t.vc.flash = s.vc.flash))) ∧
  (∀ (v : Vc) (req be addr w : Nat) (r : Row) (i j : Nat), addr < 4194304 →
    findRow (vcRows (addr / 65536)) addr = some (r, i, j) → v.rd BOOT.STATUS.STATE ≠ 2 → r.tag ≠ .portlink →
    (v.lockedRow r i = true → v.Violated (v.writeNow req be addr w) 1 addr true) ∧
    (v.lockedRow r i = false → r.tag = .plain →
      (∀ p ∈ r.parts, p.Written (v.rd p.f i j) ((v.writeNow req be addr w).rd p.f i j) w) ∧
      ∀ (g : Fld) (k l : Nat), g.id ∉ r.parts.map (fun p => p.f.id) → (v.writeNow req be addr w).rd g k l = v.rd g k l)) ∧
  ∀ (s : State) (dt : Nat) (req : BitVec 16) (addr : BitVec 22) (w : Word), s.vc.inReset = false → addr.toNat % 4 = 0 →
    (s.vc.rd BOOT.STATUS.STATE ≠ 2 → inWindow addr.toNat = true →
      ∃ t, exec (.registerWrite dt req (.bar0 addr) 15 w) s = .next t ∧ s.vc.Violated t.vc 1 addr.toNat true) ∧
    (s.vc.rd BOOT.STATUS.STATE ≠ 2 → inWindow addr.toNat = false → findRow (vcRows (addr.toNat / 65536)) addr.toNat = none →
      ∃ t, exec (.registerWrite dt req (.bar0 addr) 15 w) s = .next t ∧ s.vc.Violated t.vc 0 addr.toNat true) ∧
    (s.vc.rd BOOT.STATUS.STATE = 2 → addr.toNat / 65536 ∉ [0, 1, 0x15, 0x16] →
      ∃ t, exec (.registerWrite dt req (.bar0 addr) 15 w) s = .next t ∧ s.vc.Violated t.vc 0 addr.toNat true)

/-- Reads (R9, R53, R109): a read of a low word answers it and latches its high word; a read of a high word answers the latched word once,
else the live one, and any other register is answered as it stands; a read of word 0 of a facet window entry latches the whole entry. A read
of an address that holds no register is a violation, answered with Unsupported Request. -/
def Obligations.LatchedReads : Prop :=
  (∀ (s : State) (dt : Nat) (req : BitVec 16) (addr : BitVec 22) (r : Row) (i j : Nat), s.vc.inReset = false →
    findRow (vcRows (addr.toNat / 65536)) addr.toNat = some (r, i, j) → r.half = .none → r.tag ≠ .portlink → addr.toNat % 4 = 0 →
    inWindow addr.toNat = false → s.vc.rd BOOT.STATUS.STATE ≠ 2 →
    ∃ t, exec (.registerRead dt req (.bar0 addr) 15) s = .next t ∧ t.vc.out = [.readRsp 0 ((s.vc.elapse dt).rowWord r i j)] ∧
      t.vc.regs = s.vc.regs) ∧
  (∀ (s : State) (dt : Nat) (req : BitVec 16) (addr : BitVec 22) (r : Row) (i j : Nat), s.vc.inReset = false →
    findRow (vcRows (addr.toNat / 65536)) addr.toNat = some (r, i, j) → r.half = .low → r.tag ≠ .portlink → addr.toNat % 4 = 0 →
    inWindow addr.toNat = false → s.vc.rd BOOT.STATUS.STATE ≠ 2 →
    ∃ t, exec (.latchedRead dt req addr) s = .next t ∧ t.vc.out = [.readRsp 0 ((s.vc.elapse dt).rowWord r i j)] ∧
      (t.vc.host.latch.find? fun e => e.1 = addr.toNat + 4) = some (addr.toNat + 4, (s.vc.elapse dt).word (addr.toNat + 4)) ∧
      t.vc.regs = s.vc.regs) ∧
  (∀ (s : State) (dt : Nat) (req : BitVec 16) (addr : BitVec 22) (r : Row) (i j x : Nat), s.vc.inReset = false →
    findRow (vcRows (addr.toNat / 65536)) addr.toNat = some (r, i, j) → r.half = .high → r.tag ≠ .portlink → addr.toNat % 4 = 0 →
    inWindow addr.toNat = false → s.vc.rd BOOT.STATUS.STATE ≠ 2 →
    ((s.vc.host.latch.find? fun e => e.1 = addr.toNat) = some (addr.toNat, x) →
      ∃ t, exec (.registerRead dt req (.bar0 addr) 15) s = .next t ∧ t.vc.out = [.readRsp 0 x] ∧
        (t.vc.host.latch.find? fun e => e.1 = addr.toNat) = none ∧ t.vc.regs = s.vc.regs) ∧
    ((s.vc.host.latch.find? fun e => e.1 = addr.toNat) = none →
      ∃ t, exec (.registerRead dt req (.bar0 addr) 15) s = .next t ∧ t.vc.out = [.readRsp 0 ((s.vc.elapse dt).rowWord r i j)] ∧
        t.vc.regs = s.vc.regs)) ∧
  (∀ (s : State) (dt : Nat) (req : BitVec 16) (n : Fin 4608), s.vc.inReset = false → s.vc.rd BOOT.STATUS.STATE ≠ 2 →
    ∃ t, exec (.facetWindowRead dt req n) s = .next t ∧ t.vc.out = [.readRsp 0 ((s.vc.facet n).entry.getD 0 0)] ∧
      t.vc.host.facetLatch = some (n.val, (s.vc.facet n).entry) ∧ t.vc.regs = s.vc.regs) ∧
  ∀ (s : State) (dt : Nat) (req : BitVec 16) (addr : BitVec 22), s.vc.inReset = false → addr.toNat % 4 = 0 → inWindow addr.toNat = false →
    findRow (vcRows (addr.toNat / 65536)) addr.toNat = none →
    ∃ t, exec (.registerRead dt req (.bar0 addr) 15) s = .next t ∧ s.vc.Violated t.vc 0 addr.toNat false ∧ Emit.readRsp 1 0 ∈ t.vc.out

/-! ### The tick and the vote -/

/-- TICK (R22, R60, R269, R270): valve time goes to the first instant of the tick grid, not before now and after the last tick (the model's
choice, log 39); the part touched is the VC, and none of its flash, where the host writes that wait are those of control-die state. -/
def Obligations.TickInstants : Prop :=
  ∀ (s : State) (dies : List DieData) (ups : List CmpUpset) (ofs : Nat), s.vc.inReset = false → s.vc.HeldOk → s.vc.rd GLOBAL.TICKCFG.TP_NS ≠ 0 →
    ofs = s.vc.casc.tickOfs.getD (s.vc.rd TIME.TICKOFS.OFS) →
    ∃ t n, exec (.tick dies ups) s = .next t ∧ t.vc.vt = n % 2 ^ 64 ∧ s.vc.vt ≤ n ∧ n % s.vc.tq = ofs % s.vc.tq ∧
      (∀ l, s.vc.time.tickVt = some l → l < n) ∧
      (∀ m, s.vc.vt ≤ m → m % s.vc.tq = ofs % s.vc.tq → (∀ l, s.vc.time.tickVt = some l → l < m) → n ≤ m) ∧
      t.vc.flash = s.vc.flash ∧ t.cells = s.cells ∧ t.scs = s.scs

/-- Control dies. A control die that fails (R38, R42): in THREE mode it is set aside and resets, and the others stay as they are; in TWO
mode the protection block is latched with cause VOTER and MODE becomes NONE; the error of a die that is not in service, or of any in MODE
NONE, changes nothing. A flit with a good CRC changes nothing; one that fails its CRC is corrected, within 16 counted replays, and counted;
one beyond, or a failing replay, is the channel down. A second die that fails in the tick of the first is a double fault (R42). The
polynomial and the bit order of the flit's CRC are the model's choice (log 6), and that the die of the same tick returns to service is too
(log 85). How a die comes back (R42, R55): a passed self-test makes a RESETTING die SET_ASIDE, a failed one HELD_OUT; with the key,
VOTER.CTRL sets any one die aside in THREE mode, and asks for a realignment of any that is set aside, which in every other state it does
not; with a wrong key, or with a set-aside outside THREE mode, it is a violation; at copy tick 64 with agreeing outputs the die is
IN_SERVICE and MODE THREE. -/
def Obligations.DieFailuresAndRealignment : Prop :=
  ((∀ (s : State) (dt : Nat) (d : Fin 3), s.vc.inReset = false → s.vc.rd (dieFld d) = 0 → s.vc.rd VOTER.STATUS.MODE = 0 →
    ∃ t, exec (.dieError dt d) s = .next t ∧ t.vc.rd VOTER.STATUS.MODE = 1 ∧ t.vc.rd (dieFld d) = 1 ∧
      bit (t.vc.rd VOTER.ERRSTAT.ASIDE) d = true ∧ (∀ e : Fin 3, e ≠ d → t.vc.rd (dieFld e) = s.vc.rd (dieFld e)) ∧
      t.vc.rd PROT.LATCH.CAUSE = s.vc.rd PROT.LATCH.CAUSE) ∧
  (∀ (s : State) (dt : Nat) (d e : Fin 3), s.vc.inReset = false → s.vc.rd (dieFld d) = 0 → s.vc.rd VOTER.STATUS.MODE = 1 → e ≠ d →
    s.vc.voter.lastAside = some (e.val, s.vc.ticks) →
    ∃ t, exec (.dieError dt d) s = .next t ∧ t.vc.rd VOTER.STATUS.MODE = 2 ∧ t.vc.rd VOTER.ERRSTAT.DOUBLE_FAULT = 1 ∧
      bit (t.vc.rd PROT.LATCH.CAUSE) 4 = true ∧ t.vc.rd (dieFld e) = 0) ∧
  (∀ (s : State) (dt : Nat) (d : Fin 3), s.vc.inReset = false → s.vc.rd (dieFld d) = 0 → s.vc.rd VOTER.STATUS.MODE = 1 →
    (∀ e, s.vc.voter.lastAside ≠ some (e, s.vc.ticks)) →
    ∃ t, exec (.dieError dt d) s = .next t ∧ t.vc.rd VOTER.STATUS.MODE = 2 ∧ t.vc.rd VOTER.ERRSTAT.DUAL_DISAGREE = 1 ∧
      bit (t.vc.rd PROT.LATCH.CAUSE) 4 = true ∧ t.vc.rd (dieFld d) = 0) ∧
  (∀ (s : State) (dt : Nat) (d : Fin 3), s.vc.inReset = false → s.vc.rd (dieFld d) ≠ 0 ∨ 2 ≤ s.vc.rd VOTER.STATUS.MODE →
    ∃ t, exec (.dieError dt d) s = .next t ∧ t.vc = s.vc.elapse dt) ∧
  (∀ (s : State) (dt : Nat) (d : Fin 3) (data : BitVec 256) (crc : BitVec 16) (replay : Bool), s.vc.inReset = false →
    (crc.toNat = check16 (bitsUp data.toNat 0 256) →
      ∃ t, exec (.flitRx dt d data crc replay) s = .next t ∧ t.vc = s.vc.elapse dt) ∧
    (crc.toNat ≠ check16 (bitsUp data.toNat 0 256) → replay = true ∨ 16 ≤ s.vc.voter.replays.getD d 0 →
      ∃ t, exec (.flitRx dt d data crc replay) s = .next t ∧ t.vc.rd VOTER.ERRSTAT.CHANNEL_DOWN = 1) ∧
    (crc.toNat ≠ check16 (bitsUp data.toNat 0 256) → replay = false → s.vc.voter.replays.getD d 0 < 16 →
      ∃ t, exec (.flitRx dt d data crc replay) s = .next t ∧ (s.vc.rd ERR.SUMMARY.UNIT = 0 → t.vc.rd ERR.SUMMARY.UNIT = 1) ∧
        t.vc.voter.replays = s.vc.voter.replays.set d (s.vc.voter.replays.getD d 0 + 1) ∧
        t.vc.rd VOTER.ERRSTAT.CHANNEL_DOWN = s.vc.rd VOTER.ERRSTAT.CHANNEL_DOWN ∧ t.vc.rd (dieFld d) = s.vc.rd (dieFld d)))) ∧
  (∀ (s : State) (dt : Nat) (d : Fin 3) (pass : Bool), s.vc.inReset = false → s.vc.rd (dieFld d) = 1 →
    ∃ t, exec (.dieSelfTestDone dt d pass) s = .next t ∧ t.vc.rd (dieFld d) = (if pass then 2 else 4) ∧
      t.vc.rd VOTER.ERRSTAT.REALIGN_FAIL = (if pass then s.vc.rd VOTER.ERRSTAT.REALIGN_FAIL else 1)) ∧
  (∀ (s : State) (dt : Nat) (d : Fin 3) (req : BitVec 16) (w : Word), s.vc.inReset = false → s.vc.rd BOOT.STATUS.STATE ≠ 2 →
    bits w.toNat 31 16 = 0xC3A5 → bits w.toNat 6 4 = 2 ^ d.val → bits w.toNat 2 0 = 0 → s.vc.rd VOTER.STATUS.MODE = 0 →
    s.vc.rd (dieFld d) = 0 →
    ∃ t, exec (.voterAside dt req w) s = .next t ∧ t.vc.rd (dieFld d) = 1 ∧ t.vc.rd VOTER.STATUS.MODE = 1 ∧
      (∀ e : Fin 3, e ≠ d → t.vc.rd (dieFld e) = s.vc.rd (dieFld e))) ∧
  (∀ (s : State) (dt : Nat) (d : Fin 3) (req : BitVec 16) (w : Word), s.vc.inReset = false → s.vc.rd BOOT.STATUS.STATE ≠ 2 →
    bits w.toNat 31 16 = 0xC3A5 → bits w.toNat 6 4 = 0 → bits w.toNat 2 0 = 2 ^ d.val →
    ∃ t, exec (.voterRealign dt req w) s = .next t ∧ t.vc.regs = s.vc.regs ∧
      (s.vc.rd VOTER.STATUS.MODE = 1 → s.vc.rd (dieFld d) = 2 → bit t.vc.voter.asked d = true) ∧
      (s.vc.rd VOTER.STATUS.MODE ≠ 1 ∨ s.vc.rd (dieFld d) ≠ 2 → t.vc.voter = s.vc.voter)) ∧
  (∀ (s : State) (dt : Nat) (req : BitVec 16) (w : Word), s.vc.inReset = false → s.vc.rd BOOT.STATUS.STATE ≠ 2 →
    (bits w.toNat 6 4 ≠ 0 → bits w.toNat 31 16 ≠ 0xC3A5 ∨ s.vc.rd VOTER.STATUS.MODE ≠ 0 →
      ∃ t, exec (.voterAside dt req w) s = .next t ∧ s.vc.Violated t.vc 3 0x20004 true ∧ t.vc.voter = s.vc.voter) ∧
    (bits w.toNat 2 0 ≠ 0 → bits w.toNat 31 16 ≠ 0xC3A5 →
      ∃ t, exec (.voterRealign dt req w) s = .next t ∧ s.vc.Violated t.vc 3 0x20004 true ∧ t.vc.voter = s.vc.voter)) ∧
  ∀ (s : State) (dt : Nat) (d : Fin 3) (agrees : Bool), s.vc.inReset = false → s.vc.rd (dieFld d) = 3 → s.vc.voter.copy = 64 →
    ∃ t, exec (.realignCopyComplete dt d agrees) s = .next t ∧ t.vc.voter.copy = 0 ∧
      (agrees = true → t.vc.rd (dieFld d) = 0 ∧ t.vc.rd VOTER.STATUS.MODE = 0) ∧
      (agrees = false → t.vc.rd VOTER.ERRSTAT.REALIGN_FAIL = 1 ∧
        t.vc.rd VOTER.STATUS.REALIGN_FAILS = min 3 (s.vc.rd VOTER.STATUS.REALIGN_FAILS + 1) ∧
        t.vc.rd (dieFld d) = (if s.vc.rd VOTER.STATUS.REALIGN_FAILS + 1 < 3 then 1 else 4))

/-! ### The cascade -/

/-- Start, enumeration, and stop with its block of the valve (R34, R35, R36); a VC_COUNT that R36 does not give is an ID conflict whatever
the role. That the block of STOP shows as PROT.STATUS.HOST_BLK is the model's reading (log 52). -/
def Obligations.CascadeStartAndStop : Prop :=
  (∀ (s : State) (dt : Nat) (req : BitVec 16) (w : Word), s.vc.inReset = false → s.vc.rd BOOT.STATUS.STATE ≠ 2 → bits w.toNat 1 0 = 1 →
    s.vc.rd CASCADE.STATUS.STATE = 0 → s.vc.rd CASCADE.CFG.ROLE = 1 → 1 ≤ s.vc.rd CASCADE.CFG.VC_COUNT →
    s.vc.rd CASCADE.CFG.VC_COUNT ≤ 16 →
    ∃ t, exec (.cascadeStart dt req w) s = .next t ∧ t.vc.rd CASCADE.STATUS.STATE = 1 ∧ t.vc.rd CASCADE.CFG.VC_ID = 0 ∧
      t.vc.rd CASCADE.STATUS.DEPTH = 0) ∧
  (∀ (s : State) (dt : Nat) (req : BitVec 16) (w : Word), s.vc.inReset = false → s.vc.rd BOOT.STATUS.STATE ≠ 2 → bits w.toNat 1 0 = 1 →
    s.vc.rd CASCADE.STATUS.STATE = 0 → s.vc.rd CASCADE.CFG.VC_COUNT = 0 ∨ 16 < s.vc.rd CASCADE.CFG.VC_COUNT →
    ∃ t, exec (.cascadeStart dt req w) s = .next t ∧ t.vc.rd CASCADE.STATUS.STATE = 0 ∧ t.vc.rd CASCADE.ERRSTAT.ID_CONFLICT = 1) ∧
  (∀ (s : State) (dt : Nat) (req : BitVec 16) (w : Word), s.vc.inReset = false → s.vc.rd BOOT.STATUS.STATE ≠ 2 → bit w.toNat 1 = true →
    ∃ t, exec (.cascadeStop dt req w) s = .next t ∧ t.vc.rd CASCADE.STATUS.STATE = 0 ∧ t.vc.rd CASCADE.STATUS.READY = 0 ∧
      t.vc.rd GLOBAL.STATUS.BLOCKED = 1 ∧ t.vc.rd PROT.STATUS.HOST_BLK = 1) ∧
  (∀ (s : State) (dt : Nat) (id count : BitVec 8), s.vc.inReset = false → s.vc.rd CASCADE.STATUS.STATE = 0 → s.vc.rd CASCADE.CFG.ROLE = 2 →
    s.vc.rd CASCADE.STATUS.READY = 1 → id.toNat < 16 →
    ∃ t, exec (.enumerationFrame dt id count 0) s = .next t ∧ t.vc.rd CASCADE.CFG.VC_ID = id.toNat ∧
      t.vc.rd CASCADE.STATUS.DEPTH = id.toNat ∧ t.vc.rd CASCADE.STATUS.STATE = 2 ∧ t.vc.rd CASCADE.STATUS.READY = 0) ∧
  (∀ (s : State) (dt : Nat) (acks : List (BitVec 8 × BitVec 8)), s.vc.inReset = false → s.vc.rd CASCADE.STATUS.STATE = 1 →
    (∃ a ∈ acks, a.2.toNat ≠ s.vc.rd CASCADE.CFG.VC_COUNT) →
    ∃ t, exec (.enumAcknowledge dt acks 0) s = .next t ∧ t.vc.rd CASCADE.STATUS.STATE = 0 ∧ t.vc.rd CASCADE.ERRSTAT.ID_CONFLICT = 1) ∧
  (∀ (s : State) (dt : Nat) (acks : List (BitVec 8 × BitVec 8)), s.vc.inReset = false → s.vc.rd CASCADE.STATUS.STATE = 1 →
    (∀ a ∈ acks, a.1.toNat < 16 ∧ a.2.toNat = s.vc.rd CASCADE.CFG.VC_COUNT) →
    (∀ i < s.vc.rd CASCADE.CFG.VC_COUNT - 1, ∃ a ∈ acks, a.1.toNat = i + 1) → (s.vc.elapse dt).now ≤ s.vc.casc.startAt + 40000000 →
    ∃ t, exec (.enumAcknowledge dt acks 0) s = .next t ∧ t.vc.rd CASCADE.STATUS.STATE = 2) ∧
  ∀ (s : State) (dt : Nat), s.vc.inReset = false → s.vc.rd CASCADE.STATUS.STATE = 1 → s.vc.casc.startAt + 40000000 ≤ (s.vc.elapse dt).now →
    ∃ t, exec (.enumTimeout dt) s = .next t ∧ t.vc.rd CASCADE.STATUS.STATE = 0 ∧ t.vc.rd CASCADE.ERRSTAT.ENUM_TIMEOUT = 1

/-- Alignment and what a running cascade carries (R29, R81, R127, R128, R144, R305): a member takes the lead's valve time corrected by the
delay; a valid cascade block latches cause CASC; commands, slices, values and status are kept for the tick that uses them. -/
def Obligations.CascadeFrames : Prop :=
  (∀ (s : State) (dt delay : Nat) (vt tickNo : DWord) (ofs : BitVec 24), s.vc.inReset = false → s.vc.rd CASCADE.STATUS.STATE = 2 →
    (s.vc.elapse dt).budgetMet = true → s.vc.rd CASCADE.CFG.ROLE = 2 →
    ∃ t, exec (.tickAlignmentDone dt delay vt tickNo ofs) s = .next t ∧ t.vc.vt = (vt.toNat + delay) % 2 ^ 64 ∧
      t.vc.rd LENS.TICKNO.TICKNO = tickNo.toNat ∧ t.vc.casc.tickOfs = some ofs.toNat ∧ t.vc.casc.aligned = true ∧
      t.vc.rd CASCADE.HOPDLY.UP_DELAY = min delay 65535) ∧
  (∀ (s : State) (dt : Nat), s.vc.inReset = false → s.vc.rd CASCADE.STATUS.STATE = 2 → s.vc.casc.aligned = true →
    ∃ t, exec (.cascadeReady dt) s = .next t ∧ t.vc.rd CASCADE.STATUS.STATE = 3) ∧
  (∀ (s : State) (dt : Nat) (down : Bool) (b : Block), s.vc.inReset = false → b.ctl = true → flashOk b.pay.toNat = true →
    s.vc.prot.seenCasc = [] → s.vc.pairUp (b2n down) = true →
    ∃ t, exec (.cascadeBlockRx dt down b) s = .next t ∧ bit (t.vc.rd PROT.LATCH.CAUSE) 6 = true ∧
      (s.vc.rd PROT.LATCH.CAUSE = 0 → t.vc.rd GLOBAL.STATUS.BLOCKED = 1 ∧ t.vc.rd PROT.FIRSTCAUSE.CAUSE = 7)) ∧
  (∀ (s : State) (dt : Nat) (down : Bool) (b : Block), s.vc.inReset = false →
    (b.ctl = true → b.pay.toNat % 256 = 0xC3 → flashOk b.pay.toNat = false → s.vc.pairUp (b2n down) = true →
      ∃ t, exec (.cascadeBlockRx dt down b) s = .next t ∧ t.vc.rd PROT.LATCH.CAUSE = s.vc.rd PROT.LATCH.CAUSE ∧
        t.vc.rd CASCADE.COPYCNT.COUNT = sat 32 (s.vc.rd CASCADE.COPYCNT.COUNT + 1)) ∧
    (s.vc.pairUp (b2n down) = false → ∃ t, exec (.cascadeBlockRx dt down b) s = .next t ∧ t.vc = s.vc.elapse dt)) ∧
  (∀ (s : State) (dt : Nat) (d : Fin 16) (f : Fin 4608) (w : BitVec 48), s.vc.inReset = false → s.vc.rd CASCADE.CFG.VC_ID = d →
    ∃ t, exec (.cascadeCommandFrame dt d [(f, w)] ⟨false, []⟩ 0) s = .next t ∧
      ((f.val % 96, w.toNat) ∈ (t.vc.str (f.val / 96)).remoteCmd) ∧ t.vc.regs = s.vc.regs) ∧
  (∀ (s : State) (dt : Nat) (home vc : Fin 16) (n : Fin 48) (w : Word), s.vc.inReset = false → s.vc.rd CASCADE.CFG.VC_ID = home →
    ∃ t, exec (.facetSliceRx dt home vc n [w] 0) s = .next t ∧
      t.vc.casc.slices = s.vc.casc.slices ++ [(vc.val * 4608 + n.val * 96, w.toNat)] ∧ t.vc.regs = s.vc.regs) ∧
  (∀ (s : State) (dt : Nat) (o : Fin 16) (k : Fin 64) (v : Word) (p : Nat), s.vc.inReset = false →
    ∃ t, exec (.cascValueRx dt o k v p 0) s = .next t ∧
      (Tab.get (fun _ => ({} : CascVal)) t.vc.casc.vals (o.val * 64 + k.val)).next = some v.toNat ∧
      (Tab.get (fun _ => ({} : CascVal)) t.vc.casc.vals (o.val * 64 + k.val)).val = (Tab.get (fun _ => ({} : CascVal)) s.vc.casc.vals (o.val * 64 + k.val)).val ∧
      t.vc.regs = s.vc.regs) ∧
  ∀ (s : State) (dt : Nat) (v : Fin 16) (c : BitVec 4) (rs : List RemStr), s.vc.inReset = false →
    ∃ t, exec (.memberStatusRx dt v c rs 0) s = .next t ∧ (v.val, c.toNat) ∈ t.vc.casc.members ∧
      (∀ m ∈ s.vc.casc.members, m.1 ≠ v → m ∈ t.vc.casc.members) ∧ t.vc.regs = s.vc.regs

/-! ### Lens -/

/-- Contexts (R37, R74, R84, R85, R89, R96). START, STOP, a set-point write and CLR_LOAD wait for the tick boundary, as they came. There
START that passes every check takes outputs 0 and the start bank, one that fails a check names it in CFG_CODE and changes no context; STOP
leaves the context STOPPED, and one that R85 refuses, or one together with START, is an access violation in any state and leaves it; a
set-point that no item owns is written, and a write of one that an item owns is an access violation; CLR_LOAD clears MAX_NS. A step that has
not committed when its context's next due tick comes is abandoned and counted. That a check of R84 is made at the boundary is the model's
reading (log 108), and that the outputs start at +0.0 too (log 50). -/
def Obligations.LoopContexts : Prop :=
  (∀ (s : State) (dt : Nat) (c : Fin 16) (n : Fin 64) (req : BitVec 16) (w : Word), s.vc.inReset = false → s.vc.rd BOOT.STATUS.STATE ≠ 2 →
    (bit w.toNat 0 = true → ∃ t, exec (.ctxStart dt c req w) s = .next t ∧ s.vc.WriteWaits t.vc req.toNat (0x3100C + 0x800 * c.val) w.toNat) ∧
    (bit w.toNat 1 = true → ∃ t, exec (.ctxStop dt c req w) s = .next t ∧ s.vc.WriteWaits t.vc req.toNat (0x3100C + 0x800 * c.val) w.toNat) ∧
    (∃ t, exec (.setpointWrite dt n req w) s = .next t ∧ s.vc.WriteWaits t.vc req.toNat (0x30100 + 4 * n.val) w.toNat) ∧
    (bit w.toNat 0 = true → ∃ t, exec (.clrLoad dt req w) s = .next t ∧ s.vc.WriteWaits t.vc req.toNat 0x30014 w.toNat)) ∧
  (∀ (v : Vc) (c : Fin 16) (req w : Nat), v.rd BOOT.STATUS.STATE ≠ 2 → bits w 1 0 = 1 → v.rd CTX.STATUS.STATE c ≠ 1 →
    let t := v.writeNow req 15 (0x3100C + 0x800 * c.val) w
    (v.startCode c = 0 → t.rd CTX.STATUS.STATE c = 1 ∧ t.rd CTX.STATUS.BANK c = v.rd CTX.CFG2.START_BANK c % 2 ∧
      t.rd CTX.SAMPLES.COUNT c = 0 ∧ (t.ctx c).u = List.replicate 16 0 ∧ (t.ctx c).xhat = (v.ctx c).cRow 0 10 0 32 ∧ (t.ctx c).job = none) ∧
    (v.startCode c ≠ 0 → t.rd CTX.STATUS.CFG_CODE c = v.startCode c ∧ t.rd CTX.ERR.START_REFUSED c = 1 ∧
      t.rd CTX.STATUS.STATE c = v.rd CTX.STATUS.STATE c ∧ t.lens = v.lens)) ∧
  (∀ (v : Vc) (c : Fin 16) (req w : Nat), v.rd BOOT.STATUS.STATE ≠ 2 → bit w 1 = true →
    let t := v.writeNow req 15 (0x3100C + 0x800 * c.val) w
    (bit w 0 = false → v.stopRefused c = false →
      (v.rd CTX.STATUS.STATE c = 0 → t.regs = v.regs ∧ t.lens = v.lens) ∧
      (v.rd CTX.STATUS.STATE c ≠ 0 → t.rd CTX.STATUS.STATE c = 0 ∧ (t.ctx c).job = none)) ∧
    (bit w 0 = true ∨ v.stopRefused c = true → v.Violated t 3 (0x3100C + 0x800 * c.val) true ∧ t.lens = v.lens)) ∧
  (∀ (v : Vc) (n : Fin 64) (req w : Nat), v.rd BOOT.STATUS.STATE ≠ 2 → w < 4294967296 →
    let t := v.writeNow req 15 (0x30100 + 4 * n.val) w
    (bit (v.rd SCHED.SETPT_OWN.OWN (n.val / 32)) (n.val % 32) = false → t.rd LENS.SETPT.VALUE n = w ∧
      ∀ m : Fin 64, m ≠ n → t.rd LENS.SETPT.VALUE m = v.rd LENS.SETPT.VALUE m) ∧
    (bit (v.rd SCHED.SETPT_OWN.OWN (n.val / 32)) (n.val % 32) = true → v.Violated t 3 (0x30100 + 4 * n.val) true)) ∧
  (∀ (v : Vc) (req w : Nat), v.rd BOOT.STATUS.STATE ≠ 2 → bit w 0 = true →
    (v.writeNow req 15 0x30014 w).rd LENS.CRITLOAD.MAX_NS = 0 ∧
    (v.writeNow req 15 0x30014 w).rd LENS.CRITLOAD.LAST_NS = v.rd LENS.CRITLOAD.LAST_NS) ∧
  ∀ (s : State) (dt : Nat) (c : Fin 16), s.vc.inReset = false → s.vc.rd CTX.STATUS.STATE c = 1 → (s.vc.ctx c).job ≠ none →
    (s.vc.elapse dt).ctxDue c (s.vc.elapse dt).nextTickNo = true →
    ∃ t, exec (.stepOverrun dt c) s = .next t ∧ t.vc.rd SUP.ERR.OVR c = 1 ∧ (t.vc.ctx c).job = none ∧
      t.vc.rd SUP.OVRCNT.COUNT c = sat 32 (s.vc.rd SUP.OVRCNT.COUNT c + 1) ∧
      (t.vc.rd CTX.STATUS.STATE c = 1 ∨ t.vc.rd CTX.STATUS.STATE c = 2 ∧ s.vc.rd SUP.CFG.OVR_LIMIT c ≤ s.vc.rd SUP.STAT.OVR_RUN c + 1)

/-- COEF_LOAD and COEF_SWAP (R37, R88, R101, R300), and sampled values (R70, R71). A load and a swap wait for the tick boundary, the load
with the buffer read; there the descriptor ends with the status of its checks, a load that passes them writes every element of its
sub-block, and a swap that passes is pending. A read-back writes the sub-block to the host at once, or ends with DMA_ERR where the buffer
cannot be reached. An ASDU that matches a subscription is taken, one that does not sets REJECTED, and a frame the VC does not support
changes nothing but that its port has heard a frame (the model's choice, log 48). That the checks are those of the boundary is the model's
reading (log 108). -/
def Obligations.LensDescriptors : Prop :=
  (∀ (s : State) (dt : Nat) (d : Desc) (buf : HostBuf), s.vc.inReset = false → s.vc.Started d 2 → bit (d.word 4) 31 = false →
    ∃ t, exec (.coefLoad dt d.id buf) s = .next t ∧ s.vc.DescWaits t.vc d buf) ∧
  (∀ (v : Vc) (d : Desc) (buf : HostBuf) (st : Nat), v.Due d 2 buf → bit (d.word 4) 31 = false → v.coefStatus d buf = st →
    (v.descNow d.id).Answered d st 0 v.tickNo ∧ (st ≠ 0 → (v.descNow d.id).lens = v.lens) ∧
      ∀ bs, st = 0 → bufBytes buf (d.word 8) = some bs → ∀ k i j, (subBlock (d.word 5))[k]? = some (i, j) →
        ((v.descNow d.id).ctx (bits (d.word 4) 3 0)).c (if 10 ≤ bits (d.word 4) 11 8 then 0 else bits (d.word 4) 12 12) (bits (d.word 4) 11 8) i j =
          (wordsOf bs).getD k 0) ∧
  (∀ (s : State) (dt : Nat) (d : Desc) (buf : HostBuf) (st : Nat), s.vc.inReset = false → s.vc.Started d 2 → bit (d.word 4) 31 = true →
    s.vc.coefStatus d buf = st →
    (st ≠ 0 ∨ buf = .failed ∨ s.vc.host.bme = false →
      ∃ t, exec (.coefReadback dt d.id buf) s = .next t ∧ t.vc.Answered d (if st = 0 then 8 else st) 0 s.vc.tickNo ∧ t.vc.lens = s.vc.lens) ∧
    (st = 0 → (∃ bs, buf = .bytes bs) → s.vc.host.bme = true →
      ∃ t, exec (.coefReadback dt d.id buf) s = .next t ∧ t.vc.Answered d 0 0 s.vc.tickNo ∧ t.vc.lens = s.vc.lens ∧
        Emit.hostWrite (bufAddr (d.word 6) (d.word 7)) ((bytesOfWords ((subBlock (d.word 5)).map fun ij =>
          (s.vc.ctx (bits (d.word 4) 3 0)).c (if 10 ≤ bits (d.word 4) 11 8 then 0 else bits (d.word 4) 12 12) (bits (d.word 4) 11 8) ij.1 ij.2)).map
            (BitVec.ofNat 8)) ∈ t.vc.out)) ∧
  (∀ (s : State) (dt : Nat) (d : Desc), s.vc.inReset = false → s.vc.Started d 3 →
    ∃ t, exec (.coefSwap dt d.id) s = .next t ∧ s.vc.DescWaits t.vc d .failed) ∧
  (∀ (v : Vc) (d : Desc) (buf : HostBuf) (st : Nat), v.Due d 3 buf → v.swapStatus d = st →
    (st ≠ 0 → (v.descNow d.id).Answered d st 0 v.tickNo) ∧
    (st = 0 → (v.descNow d.id).rd SUP.STAT.SWAP_PEND (bits (d.word 4) 3 0) = 1 ∧
      (v.descNow d.id).rd SUP.STAT.PEND_BANK (bits (d.word 4) 3 0) = bits (d.word 4) 12 12 ∧
      (v.descNow d.id).rd SUP.STAT.PEND_POLICY (bits (d.word 4) 3 0) = bits (d.word 4) 31 30 ∧
      (v.descNow d.id).desc? d.id = some { d with waiting := true, bound := none, aux := 0 })) ∧
  (∀ (s : State) (dt : Nat) (f : SvFrame), s.vc.inReset = false → svSupported f = false →
    ∃ t, exec (.svFrame dt f) s = .next t ∧ t.vc = (s.vc.elapse dt).heard f.port) ∧
  ∀ (s : State) (dt : Nat) (f : SvFrame) (v : Fin 8) (a : Asdu), s.vc.inReset = false → svSupported f = true → s.vc.svMatches v f = true →
    f.asdus = [a] →
    (crc32c (a.svId.map BitVec.toNat) = s.vc.rd SVSUB.SVID_CRC.SVID_CRC v ∧ a.confRev.toNat = s.vc.rd SVSUB.CONFREV.CONFREV v →
      ∃ t, exec (.svFrame dt f) s = .next t ∧ t.vc.rd SVSUB.SVSTAT.LAST_SMPCNT v = a.smpCnt.toNat ∧
        t.vc.rd SVSUB.SVSTAT.SYNCH v = b2n (a.smpSynch ≠ 0)) ∧
    (crc32c (a.svId.map BitVec.toNat) ≠ s.vc.rd SVSUB.SVID_CRC.SVID_CRC v ∨ a.confRev.toNat ≠ s.vc.rd SVSUB.CONFREV.CONFREV v →
      ∃ t, exec (.svFrame dt f) s = .next t ∧ t.vc.rd SVSUB.SVSTAT.REJECTED v = 1)

/-! ### Prism -/

/-- Arms (R37, R113, R114, R132). FORM, RELEASE and CLR_TIMING wait for the tick boundary. There FORM that passes its checks makes the arm
FORMED, in direction 1, with its L_C, its strings, the count of its facets then in service and no losses; one that fails a check names it in
FORM_CODE and changes no arm and no facet. RELEASE of an arm while the valve is blocked makes it UNFORMED with no strings, no available
facet and no L_C; while the valve is deblocked it is an access violation and changes no arm and no facet. CLR_TIMING clears MAX_END_NS.
FACET_CTL (R131, R300): one whose words or buffer are refused ends with that status at once and changes no facet, and any other waits for
the boundary; there it ends with BAD_STATE and changes no facet where the state of its facets refuses it, and else with OK: SET_TRIM writes
the trim of each facet of its range that has an arm from its byte, RETURN puts the facets in service, REMOVE takes them out, CLEAR_COUNTS
sets their switching counts to 0. That the words are judged at the command and the state at the boundary is the model's reading (log 108).
-/
def Obligations.ArmsAndFacets : Prop :=
  (∀ (s : State) (dt : Nat) (a : Fin 12) (req : BitVec 16) (w : Word), s.vc.inReset = false → s.vc.rd BOOT.STATUS.STATE ≠ 2 →
    (bit w.toNat 0 = true → ∃ t, exec (.armForm dt a req w) s = .next t ∧ s.vc.WriteWaits t.vc req.toNat (0x4101C + 0x100 * a.val) w.toNat) ∧
    (bit w.toNat 1 = true → ∃ t, exec (.armRelease dt a req w) s = .next t ∧ s.vc.WriteWaits t.vc req.toNat (0x4101C + 0x100 * a.val) w.toNat) ∧
    (bit w.toNat 0 = true → ∃ t, exec (.clrTiming dt req w) s = .next t ∧ s.vc.WriteWaits t.vc req.toNat 0x40008 w.toNat)) ∧
  (∀ (v : Vc) (a : Fin 12) (req w : Nat), v.rd BOOT.STATUS.STATE ≠ 2 → bits w 1 0 = 1 →
    let t := v.writeNow req 15 (0x4101C + 0x100 * a.val) w
    (v.formCode a = 0 → t.rd ARM.STAT.STATE a = 1 ∧ t.rd ARM.STAT.DIR a = 1 ∧ t.rd ARM.STAT.LC a = v.armLc a ∧
      t.rd ARM.LOSSCNT.COUNT a = 0 ∧ t.rd ARM.STAT.N_AVAIL a = t.availOf a ∧ (t.arm a).strs = v.armStrings a) ∧
    (v.formCode a ≠ 0 → t.rd ARM.ERR.FORM_CODE a = v.formCode a ∧ t.rd ARM.ERR.FORM_REFUSED a = 1 ∧
      t.rd ARM.STAT.STATE a = v.rd ARM.STAT.STATE a ∧ t.arms = v.arms ∧ t.facets = v.facets)) ∧
  (∀ (v : Vc) (a : Fin 12) (req w : Nat), v.rd BOOT.STATUS.STATE ≠ 2 → bits w 1 0 = 2 → v.rd ARM.STAT.STATE a ≠ 0 →
    let t := v.writeNow req 15 (0x4101C + 0x100 * a.val) w
    (v.rd GLOBAL.STATUS.BLOCKED = 1 → t.rd ARM.STAT.STATE a = 0 ∧ t.rd ARM.STAT.N_AVAIL a = 0 ∧ t.rd ARM.STAT.LC a = 0 ∧ (t.arm a).strs = []) ∧
    (v.rd GLOBAL.STATUS.BLOCKED = 0 → v.Violated t 3 (0x4101C + 0x100 * a.val) true ∧ t.arms = v.arms ∧ t.facets = v.facets)) ∧
  (∀ (v : Vc) (req w : Nat), v.rd BOOT.STATUS.STATE ≠ 2 → bit w 0 = true →
    (v.writeNow req 15 0x40008 w).rd PRISM.TIMING.MAX_END_NS = 0 ∧ (v.writeNow req 15 0x40008 w).facets = v.facets) ∧
  (∀ (s : State) (dt : Nat) (d : Desc) (buf : HostBuf) (op : Nat) (c : Instr), s.vc.inReset = false → s.vc.Started d 1 →
    bits (d.word 4) 31 28 = op →
    (op = 0 ∧ c = .facetSetTrim dt d.id buf) ∨ (op = 1 ∧ c = .facetReturn dt d.id buf) ∨ (op = 2 ∧ c = .facetRemove dt d.id buf) ∨
      (op = 3 ∧ c = .facetClearCounts dt d.id buf) →
    (s.vc.facetCtlWords d buf ≠ 0 →
      ∃ t, exec c s = .next t ∧ t.vc.Answered d (s.vc.facetCtlWords d buf) 0 s.vc.tickNo ∧ t.vc.facets = s.vc.facets) ∧
    (s.vc.facetCtlWords d buf = 0 → ∃ t, exec c s = .next t ∧ s.vc.DescWaits t.vc d buf)) ∧
  ∀ (v : Vc) (d : Desc) (buf : HostBuf) (op : Nat), v.Due d 1 buf → bits (d.word 4) 31 28 = op →
    let t := v.descNow d.id
    (v.facetCtlBad d = true → t.Answered d 4 0 v.tickNo ∧ t.facets = v.facets) ∧
    (v.facetCtlBad d = false → t.Answered d 0 0 v.tickNo ∧ ∀ k, k < bits (d.word 5) 12 0 →
      let n := bits (d.word 4) 12 0 + k
      (op = 0 → ∀ bs, bufBytes buf (d.word 8) = some bs →
        t.facet n = if (v.facet n).arm = 0xF then v.facet n else { v.facet n with trim := bs.getD k 0 }) ∧
      (op = 1 → (t.facet n).inSvc = true) ∧ (op = 2 → (t.facet n).inSvc = false) ∧
      (op = 3 → t.facet n = { v.facet n with swcount := 0 }))

/-! ### Protection -/

/-- Blocking and clearing (R135, R137, R139, R140, R404): a host block with the key sets HOST_BLK and BLOCKED and leaves the latch; CLEAR
with the key clears the latch when no cause is active, else sets CLEAR_REFUSED and leaves it, and never deblocks; either without the key is
an access violation and leaves the latch and the block; a test sample that the comparators judge over by their copies sets TEST_TRIP and
leaves the latch, while deblocked the write is an access violation; a permit pin that departs and holds for 100 ns or more latches PERMIT,
one that comes and holds neither latches nor clears, and a change that holds for less than 60 ns changes nothing; a channel past its MISS
time latches MISS or raises MEAS_MISS as its lane says. -/
def Obligations.ProtectionBlock : Prop :=
  (∀ (s : State) (dt : Nat) (req : BitVec 16) (w : Word), s.vc.inReset = false → s.vc.rd BOOT.STATUS.STATE ≠ 2 → bits w.toNat 1 0 = 1 →
    (bits w.toNat 31 16 = 0x5A3C → ∃ t, exec (.protHostBlock dt req w) s = .next t ∧ t.vc.rd PROT.STATUS.HOST_BLK = 1 ∧
      t.vc.rd GLOBAL.STATUS.BLOCKED = 1 ∧ t.vc.rd PROT.LATCH.CAUSE = s.vc.rd PROT.LATCH.CAUSE) ∧
    (bits w.toNat 31 16 ≠ 0x5A3C → ∃ t, exec (.protHostBlock dt req w) s = .next t ∧ s.vc.Violated t.vc 3 0x5000C true ∧ t.vc.prot = s.vc.prot)) ∧
  (∀ (s : State) (dt : Nat) (req : BitVec 16) (w : Word), s.vc.inReset = false → s.vc.rd BOOT.STATUS.STATE ≠ 2 → bits w.toNat 1 0 = 2 →
    (bits w.toNat 31 16 ≠ 0x5A3C → ∃ t, exec (.protClear dt req w) s = .next t ∧ s.vc.Violated t.vc 3 0x5000C true ∧ t.vc.prot = s.vc.prot) ∧
    (bits w.toNat 31 16 = 0x5A3C → (s.vc.elapse dt).causeActive = false → ∃ t, exec (.protClear dt req w) s = .next t ∧ t.vc.rd PROT.LATCH.CAUSE = 0 ∧
      t.vc.rd GLOBAL.STATUS.BLOCKED = s.vc.rd GLOBAL.STATUS.BLOCKED) ∧
    (bits w.toNat 31 16 = 0x5A3C → (s.vc.elapse dt).causeActive = true → ∃ t, exec (.protClear dt req w) s = .next t ∧ t.vc.rd PROT.ERRSTAT.CLEAR_REFUSED = 1 ∧
      t.vc.rd PROT.LATCH.CAUSE = s.vc.rd PROT.LATCH.CAUSE ∧ t.vc.rd GLOBAL.STATUS.BLOCKED = s.vc.rd GLOBAL.STATUS.BLOCKED)) ∧
  (∀ (s : State) (dt : Nat) (req : BitVec 16) (w : Word), s.vc.inReset = false → s.vc.rd BOOT.STATUS.STATE ≠ 2 → bit w.toNat 15 = true →
    (s.vc.blocked = true → ∃ t, exec (.protTestGo dt req w) s = .next t ∧ t.vc.rd PROT.LATCH.CAUSE = s.vc.rd PROT.LATCH.CAUSE ∧
      t.vc.rd PROT.ERRSTAT.TEST_TRIP = (if s.vc.combine (fun i => s.vc.testOver i (4 * bits w.toNat 14 12 + bits w.toNat 11 10)
        (bits w.toNat 31 16)) then 1 else s.vc.rd PROT.ERRSTAT.TEST_TRIP)) ∧
    (s.vc.blocked = false → ∃ t, exec (.protTestGo dt req w) s = .next t ∧ s.vc.Violated t.vc 3 0x5002C true)) ∧
  (∀ (s : State) (dt ns : Nat) (pinB : Bool), s.vc.inReset = false → 100 ≤ ns → s.vc.rd (if pinB then PROT.STATUS.PERMIT_B else PROT.STATUS.PERMIT_A) = 1 →
    ∃ t, exec (.blockPermitChange dt pinB ⟨false, ns⟩) s = .next t ∧ bit (t.vc.rd PROT.LATCH.CAUSE) 2 = true ∧
      t.vc.rd (if pinB then PROT.STATUS.PERMIT_B else PROT.STATUS.PERMIT_A) = 0 ∧
      (s.vc.rd PROT.LATCH.CAUSE = 0 → t.vc.rd GLOBAL.STATUS.BLOCKED = 1 ∧ t.vc.rd PROT.FIRSTCAUSE.CAUSE = 3)) ∧
  (∀ (s : State) (dt ns : Nat) (pinB level : Bool), s.vc.inReset = false → ns < 60 → ∃ t, exec (.blockPermitChange dt pinB ⟨level, ns⟩) s = .next t ∧
    t.vc = s.vc.elapse dt) ∧
  (∀ (s : State) (dt ns : Nat) (pinB : Bool), s.vc.inReset = false → 100 ≤ ns → ∃ t, exec (.blockPermitChange dt pinB ⟨true, ns⟩) s = .next t ∧
    t.vc.rd (if pinB then PROT.STATUS.PERMIT_B else PROT.STATUS.PERMIT_A) = 1 ∧ t.vc.rd PROT.LATCH.CAUSE = s.vc.rd PROT.LATCH.CAUSE ∧
    t.vc.rd GLOBAL.STATUS.BLOCKED = s.vc.rd GLOBAL.STATUS.BLOCKED) ∧
  ∀ (s : State) (dt : Nat) (l : Fin 8) (ch : Fin 4), s.vc.inReset = false → s.vc.chEnabled l ch = true → (s.vc.chan (4 * l.val + ch.val)).missed = false →
    (s.vc.elapse dt).pastMiss l ch = true →
    (s.vc.rd MLANE.MCFG.MISS_ACT l = 1 → ∃ t, exec (.measMiss dt l ch) s = .next t ∧ bit (t.vc.rd PROT.LATCH.CAUSE) 1 = true) ∧
    (s.vc.rd MLANE.MCFG.MISS_ACT l = 0 → ∃ t, exec (.measMiss dt l ch) s = .next t ∧ t.vc.rd PROT.ERRSTAT.MEAS_MISS = 1 ∧
      t.vc.rd PROT.LATCH.CAUSE = s.vc.rd PROT.LATCH.CAUSE ∧ (t.vc.chan (4 * l.val + ch.val)).missed = true)

/-- Measurement frames (R133, R134, R135): one of a disabled lane changes nothing; one of another length than four blocks, on a lane that is
not up, or of four blocks of which a sync header, BTYPE, CHECK, UNIT_ID or NCH is wrong, is discarded: it is counted, sets FRAME_ERR, and
leaves every channel and the FSEQ; one that passes every check gives its FSEQ, counts a gap where that does not follow the last, and gives
the values of its good channels. -/
def Obligations.MeasurementFrames : Prop :=
  (∀ (s : State) (dt : Nat) (l : Fin 8) (bs : List Block) (bad : BitVec 12), s.vc.inReset = false → bit (s.vc.rd PROT.CFG.MLANE_EN) l = false →
    ∃ t, exec (.measFrameRx dt l bs bad) s = .next t ∧ t.vc = s.vc.elapse dt) ∧
  (∀ (s : State) (dt : Nat) (l : Fin 8) (bs : List Block) (bad : BitVec 12), s.vc.inReset = false → bit (s.vc.rd PROT.CFG.MLANE_EN) l = true →
    (bs.length ≠ 4 ∨ s.vc.rd LANE.STATUS.BSTATE (96 + l.val) ≠ 7 ∨ ∃ a b c d, bs = [a, b, c, d] ∧
      (a.ctl = false ∨ b.ctl = true ∨ c.ctl = true ∨ d.ctl = true ∨ a.pay.toNat % 256 ≠ 0x5A ∨
        bits d.pay.toNat 15 0 ≠ check16 (bitsUp a.pay.toNat 0 64 ++ bitsUp b.pay.toNat 0 64 ++ bitsUp c.pay.toNat 0 64) ∨
        bits a.pay.toNat 47 32 ≠ s.vc.rd MLANE.MCFG.UNIT_ID l ∨ bits a.pay.toNat 10 8 ≠ s.vc.rd MLANE.MCFG.NCH l)) →
    ∃ t, exec (.measFrameRx dt l bs bad) s = .next t ∧ t.vc.rd PROT.ERRSTAT.FRAME_ERR = 1 ∧
      t.vc.rd MLANE.CRCERR.CRCERR l = sat MLANE.CRCERR.CRCERR.w (s.vc.rd MLANE.CRCERR.CRCERR l + 1) ∧
      t.vc.rd MLANE.MSTAT.LAST_FSEQ l = s.vc.rd MLANE.MSTAT.LAST_FSEQ l ∧ t.vc.rd MLANE.SEQGAP.SEQGAP l = s.vc.rd MLANE.SEQGAP.SEQGAP l ∧
      ∀ k, t.vc.chan k = s.vc.chan k) ∧
  ∀ (s : State) (dt : Nat) (l : Fin 8) (a b c d : DWord) (bad : BitVec 12), s.vc.inReset = false → bit (s.vc.rd PROT.CFG.MLANE_EN) l = true →
    s.vc.rd LANE.STATUS.BSTATE (96 + l.val) = 7 → a.toNat % 256 = 0x5A →
    bits d.toNat 15 0 = check16 (bitsUp a.toNat 0 64 ++ bitsUp b.toNat 0 64 ++ bitsUp c.toNat 0 64) →
    bits a.toNat 47 32 = s.vc.rd MLANE.MCFG.UNIT_ID l → bits a.toNat 10 8 = s.vc.rd MLANE.MCFG.NCH l →
    ∃ t, exec (.measFrameRx dt l [⟨true, a⟩, ⟨false, b⟩, ⟨false, c⟩, ⟨false, d⟩] bad) s = .next t ∧
      t.vc.rd MLANE.MSTAT.LAST_FSEQ l = bits a.toNat 31 16 ∧
      (∀ q, Tab.get (fun _ => none) s.vc.prot.fseqSeen l.val = some q → bits a.toNat 31 16 ≠ (q + 1) % 65536 →
        t.vc.rd MLANE.SEQGAP.SEQGAP l = sat MLANE.SEQGAP.SEQGAP.w (s.vc.rd MLANE.SEQGAP.SEQGAP l + 1) ∧ t.vc.rd PROT.ERRSTAT.SEQ_GAP = 1) ∧
      (∀ q, Tab.get (fun _ => none) s.vc.prot.fseqSeen l.val = some q → bits a.toNat 31 16 = (q + 1) % 65536 →
        t.vc.rd MLANE.SEQGAP.SEQGAP l = s.vc.rd MLANE.SEQGAP.SEQGAP l) ∧
      (Tab.get (fun _ => none) s.vc.prot.fseqSeen l.val = none → t.vc.rd MLANE.SEQGAP.SEQGAP l = s.vc.rd MLANE.SEQGAP.SEQGAP l) ∧
      ∀ ch : Fin 4, ch.val < bits a.toNat 10 8 → bit (bits a.toNat (51 + 4 * ch.val) (48 + 4 * ch.val)) 0 = true →
        bit (bits a.toNat (51 + 4 * ch.val) (48 + 4 * ch.val)) 2 = false →
        (t.vc.chan (4 * l.val + ch.val)).value = some (bits b.toNat (16 * ch.val + 15) (16 * ch.val)) ∧
        (t.vc.chan (4 * l.val + ch.val)).lastOk = (s.vc.elapse dt).now

/-- Arm tokens and firings (R150, R151, R152): TOKCFG with the key and values in range grants its arm a token, whose time is valve time, and
one with COUNT 0 revokes it; a grant or a revocation without the key, or a grant out of range, is an access violation and leaves the tokens;
a token whose time has run out is none; a request with the key waits for the next tick boundary, and another is an access violation; a
firing ends 16 ticks after its last slot, with NO_EFFECT when the facet is not BYPASSED. -/
def Obligations.TokensAndFirings : Prop :=
  (∀ (s : State) (dt : Nat) (a : Fin 12) (req : BitVec 16) (w : Word), s.vc.inReset = false → s.vc.rd BOOT.STATUS.STATE ≠ 2 → bits w.toNat 15 12 ≠ 0 →
    (bits w.toNat 31 16 = 0x96E1 → bits w.toNat 15 12 ≤ 8 → bits w.toNat 7 0 ≠ 0 → ∃ t, exec (.tokenGrant dt a req w) s = .next t ∧
      t.vc.token a = ⟨bits w.toNat 11 8, bits w.toNat 15 12, (s.vc.elapse dt).vt + 4000000 * bits w.toNat 7 0⟩ ∧
      ∀ b : Fin 12, b ≠ a → t.vc.token b = s.vc.token b) ∧
    (bits w.toNat 31 16 ≠ 0x96E1 ∨ 8 < bits w.toNat 15 12 ∨ bits w.toNat 7 0 = 0 → ∃ t, exec (.tokenGrant dt a req w) s = .next t ∧
      (∀ b, t.vc.token b = s.vc.token b) ∧ s.vc.Violated t.vc 3 (0x50400 + 0x10 * a.val) true)) ∧
  (∀ (s : State) (dt : Nat) (a : Fin 12) (req : BitVec 16) (w : Word), s.vc.inReset = false → s.vc.rd BOOT.STATUS.STATE ≠ 2 → bits w.toNat 15 12 = 0 →
    (bits w.toNat 31 16 = 0x96E1 →
      ∃ t, exec (.tokenRevoke dt a req w) s = .next t ∧ t.vc.token a = {} ∧ ∀ b : Fin 12, b ≠ a → t.vc.token b = s.vc.token b) ∧
    (bits w.toNat 31 16 ≠ 0x96E1 → ∃ t, exec (.tokenRevoke dt a req w) s = .next t ∧ (∀ b, t.vc.token b = s.vc.token b) ∧
      s.vc.Violated t.vc 3 (0x50400 + 0x10 * a.val) true)) ∧
  (∀ (s : State) (dt : Nat) (a : Fin 12), s.vc.inReset = false → ∃ t, exec (.tokenExpiry dt a) s = .next t ∧
    ((s.vc.elapse dt).tokenValid a = false → t.vc.token a = {}) ∧ ((s.vc.elapse dt).tokenValid a = true → t.vc = s.vc.elapse dt)) ∧
  (∀ (s : State) (dt : Nat) (req : BitVec 16) (w : Word), s.vc.inReset = false → s.vc.rd BOOT.STATUS.STATE ≠ 2 →
    (bits w.toNat 31 16 = 0x96E1 → bits w.toNat 12 0 < 4608 → ∃ t, exec (.bypassFireRequest dt req w) s = .next t ∧
      t.vc.prot.fireReq = s.vc.prot.fireReq ++ [bits w.toNat 12 0] ∧ t.vc.regs = s.vc.regs) ∧
    (bits w.toNat 31 16 ≠ 0x96E1 ∨ 4608 ≤ bits w.toNat 12 0 → ∃ t, exec (.bypassFireRequest dt req w) s = .next t ∧
      t.vc.prot.fireReq = s.vc.prot.fireReq ∧ s.vc.Violated t.vc 3 0x50500 true)) ∧
  ∀ (s : State) (dt : Nat) (g : Firing), s.vc.inReset = false → s.vc.prot.firing = some g → g.left = 0 → g.effIn = 0 → 16 ≤ g.after →
    ∃ t, exec (.firingEnd dt) s = .next t ∧ t.vc.prot.firing = none ∧
      t.vc.rd PROT.FIRESTAT.NO_EFFECT = (if (s.vc.facet g.facet).rstate = 5 then s.vc.rd PROT.FIRESTAT.NO_EFFECT else 1)

/-! ### The work scheduler -/

/-- Items (R37, R157, R163, R164, R170). ITEMCTL of the host, and of a core for an item, wait for the tick boundary. There ARM of an idle
item whose entry passes its checks gives ARMED with COUNT at INIT_COUNT, else leaves its state; FREE of a finished one gives FREE, else
leaves its state; a cancellation waits for the commit that follows, and of those waiting only the host's last leaves its result; the host's
ARM and FREE leave their RESULT, a core's do not; another OP of the host is an access violation. A deadline missed sets DL_MISS and is
counted, and with DL_ACT below CANCEL it leaves the item's state and is not judged again. That what ARM and FREE find is judged at the
boundary is the model's reading (log 108), and that a deadline found after the commit is taken at once too (log 103). -/
def Obligations.WorkItems : Prop :=
  (∀ (s : State) (dt : Nat) (req : BitVec 16) (w : Word), s.vc.inReset = false → s.vc.rd BOOT.STATUS.STATE ≠ 2 →
    (bits w.toNat 31 28 = 1 → ∃ t, exec (.itemArm dt req w none) s = .next t ∧ s.vc.WriteWaits t.vc req.toNat 0x60008 w.toNat) ∧
    (bits w.toNat 31 28 = 2 → ∃ t, exec (.itemCancel dt req w none) s = .next t ∧ s.vc.WriteWaits t.vc req.toNat 0x60008 w.toNat) ∧
    (bits w.toNat 31 28 = 3 → ∃ t, exec (.itemFree dt req w none) s = .next t ∧ s.vc.WriteWaits t.vc req.toNat 0x60008 w.toNat)) ∧
  (∀ (s : State) (dt : Nat) (req : BitVec 16) (w : Word) (j : Fin 256), s.vc.inReset = false →
    (∃ t, exec (.itemArm dt req w (some j)) s = .next t ∧ t.vc.held = s.vc.held ++ [.core 1 j] ∧ t.vc.regs = s.vc.regs) ∧
    (∃ t, exec (.itemCancel dt req w (some j)) s = .next t ∧ t.vc.held = s.vc.held ++ [.core 2 j] ∧ t.vc.regs = s.vc.regs) ∧
    ∃ t, exec (.itemFree dt req w (some j)) s = .next t ∧ t.vc.held = s.vc.held ++ [.core 3 j] ∧ t.vc.regs = s.vc.regs) ∧
  (∀ (v : Vc) (req w j : Nat), v.rd BOOT.STATUS.STATE ≠ 2 → bits w 7 0 = j →
    let t := v.heldNow (.host req 15 0x60008 w)
    (bits w 31 28 = 1 → t.rd SCHED.CTLSTAT.ITEM = j ∧
      (v.itemIdle j = false → t.rd SCHED.CTLSTAT.RESULT = 2 ∧ t.rd ITEM.W7.STATE j = v.rd ITEM.W7.STATE j) ∧
      (v.itemIdle j = true → v.entryOk j = false → t.rd SCHED.CTLSTAT.RESULT = 4 ∧ t.rd ITEM.W7.STATE j = v.rd ITEM.W7.STATE j) ∧
      (v.itemIdle j = true → v.entryOk j = true → t.rd SCHED.CTLSTAT.RESULT = 1 ∧ t.rd ITEM.W7.STATE j = 1 ∧
        t.rd ITEM.W5.COUNT j = v.rd ITEM.W5.INIT_COUNT j % 256)) ∧
    (bits w 31 28 = 2 → t.regs = v.regs ∧ t.sched.cancels = v.sched.cancels.map (fun c => (c.1, false)) ++ [(j, true)]) ∧
    (bits w 31 28 = 3 → t.rd SCHED.CTLSTAT.ITEM = j ∧
      (5 ≤ v.rd ITEM.W7.STATE j → t.rd ITEM.W7.STATE j = 0 ∧ t.rd SCHED.CTLSTAT.RESULT = 1) ∧
      (v.rd ITEM.W7.STATE j < 5 → t.rd SCHED.CTLSTAT.RESULT = 2 ∧ t.rd ITEM.W7.STATE j = v.rd ITEM.W7.STATE j)) ∧
    (bits w 31 28 = 0 ∨ 3 < bits w 31 28 → v.Violated t 3 0x60008 true ∧ t.sched = v.sched)) ∧
  (∀ (v : Vc) (j : Nat), (v.heldNow (.core 1 j)).rd SCHED.CTLSTAT.RESULT = v.rd SCHED.CTLSTAT.RESULT ∧
    (v.itemIdle j = true → v.entryOk j = true → (v.heldNow (.core 1 j)).rd ITEM.W7.STATE j = 1) ∧
    (v.itemIdle j = false ∨ v.entryOk j = false → v.heldNow (.core 1 j) = v) ∧
    (v.heldNow (.core 2 j)).sched.cancels = v.sched.cancels ++ [(j, false)] ∧
    (v.heldNow (.core 3 j)).rd SCHED.CTLSTAT.RESULT = v.rd SCHED.CTLSTAT.RESULT ∧
    (5 ≤ v.rd ITEM.W7.STATE j → (v.heldNow (.core 3 j)).rd ITEM.W7.STATE j = 0) ∧
    (v.rd ITEM.W7.STATE j < 5 → v.heldNow (.core 3 j) = v)) ∧
  ∀ (s : State) (dt : Nat) (j : Fin 256) (d t0 : Nat), s.vc.inReset = false → (s.vc.itemSt j).deadline = some d →
    s.vc.time.tickVt = some t0 → d ≤ t0 → 1 ≤ s.vc.rd ITEM.W7.STATE j → s.vc.rd ITEM.W7.STATE j ≤ 4 → (s.vc.itemSt j).checked = false →
    ∃ t, exec (.deadlineMiss dt j) s = .next t ∧ t.vc.rd SCHED.ERRSTAT.DL_MISS = 1 ∧
      t.vc.rd SCHED.DLMISSCNT.COUNT = sat SCHED.DLMISSCNT.COUNT.w (s.vc.rd SCHED.DLMISSCNT.COUNT + 1) ∧
      (s.vc.rd ITEM.W5.DL_ACT j ≤ 1 → (t.vc.itemSt j).deadline = some d ∧ (t.vc.itemSt j).checked = true ∧
        t.vc.rd ITEM.W7.STATE j = s.vc.rd ITEM.W7.STATE j)

/-- Cores (R154, R155, R156, R159, R165, R169): an item that returns, or traps, is noticed for the next commit with its result, or its cause
and value, and the dies that are late or differ; a set-point write of a running item is buffered while items own the set-point, otherwise
the item traps with an access fault; of a core that runs no item nothing changes. One step of a core that fetches ADDI leaves the sum in its
register, the pc after it, and one more instruction retired; one that fetches a zero half-word, an illegal instruction, traps its item with
cause 2; and one whose pc lies in no TCM traps it with cause 1 (log 10). -/
def Obligations.CoresAndItems : Prop :=
  (∀ (v : Vc) (n : Fin 8) (r : Run), v.run? n = some r →
    (∀ (rd rs1 : Fin 32) (imm : Nat), rd ≠ 0 → imm < 2048 → ((v.hart n).pc + 4) % 4294967296 ≠ schedExit →
      v.coreFetch n (v.hart n).pc = some (imm * 1048576 + rs1.val * 32768 + rd.val * 128 + 0x13) →
      ((v.coreStep n).hart n).reg rd = ((v.hart n).reg rs1 + imm) % 4294967296 ∧
        ((v.coreStep n).hart n).pc = ((v.hart n).pc + 4) % 4294967296 ∧
        ((v.coreStep n).hart n).instret = ((v.hart n).instret + 1) % 18446744073709551616 ∧ (v.coreStep n).regs = v.regs) ∧
    (v.coreFetch n (v.hart n).pc = some 0 → (v.coreStep n).sched.notices = v.sched.notices ++ [⟨r.item, 0, some (2, 0), 0, 0⟩]) ∧
    (tcmKey n (v.hart n).pc = none →
      (v.coreStep n).sched.notices = v.sched.notices ++ [⟨r.item, 0, some (1, (v.hart n).pc), 0, 0⟩])) ∧
  (∀ (s : State) (dt : Nat) (n : Fin 8) (w : Word) (late odd : BitVec 3) (r : Run), s.vc.inReset = false → s.vc.run? n = some r →
    ∃ t, exec (.itemComplete dt n ⟨w, late, odd⟩) s = .next t ∧ t.vc.sched.notices = s.vc.sched.notices ++ [⟨r.item, w.toNat, none, late, odd⟩] ∧
      t.vc.sched.setBuf = s.vc.sched.setBuf ∧ t.vc.sched.items = s.vc.sched.items) ∧
  (∀ (s : State) (dt : Nat) (n : Fin 8) (c : BitVec 5) (v : Word) (late odd : BitVec 3) (r : Run), s.vc.inReset = false → s.vc.run? n = some r →
    ∃ t, exec (.itemTrap dt n c ⟨v, late, odd⟩) s = .next t ∧
      t.vc.sched.notices = s.vc.sched.notices ++ [⟨r.item, 0, some (c.toNat, v.toNat), late, odd⟩]) ∧
  (∀ (s : State) (dt : Nat) (n : Fin 8) (sp : Fin 64) (v : Word) (r : Run), s.vc.inReset = false → s.vc.run? n = some r →
    (bit (s.vc.rd SCHED.SETPT_OWN.OWN (sp.val / 32)) (sp.val % 32) = true → ∃ t, exec (.coreSetpointWrite dt n sp v) s = .next t ∧
      t.vc.sched.setBuf = s.vc.sched.setBuf ++ [(r.item, sp.val, v.toNat)] ∧ t.vc.regs = s.vc.regs) ∧
    (bit (s.vc.rd SCHED.SETPT_OWN.OWN (sp.val / 32)) (sp.val % 32) = false → ∃ t, exec (.coreSetpointWrite dt n sp v) s = .next t ∧
      t.vc.sched.notices = s.vc.sched.notices ++ [⟨r.item, 0, some (7, 0x30000000 + 4 * sp.val), 0, 0⟩])) ∧
  ∀ (s : State) (dt : Nat) (n : Fin 8) (w : Word) (c : BitVec 5) (late odd : BitVec 3) (sp : Fin 64), s.vc.inReset = false → s.vc.run? n = none →
    (∃ t, exec (.itemComplete dt n ⟨w, late, odd⟩) s = .next t ∧ t.vc = s.vc.elapse dt) ∧
    (∃ t, exec (.itemTrap dt n c ⟨w, late, odd⟩) s = .next t ∧ t.vc = s.vc.elapse dt) ∧
    ∃ t, exec (.coreSetpointWrite dt n sp w) s = .next t ∧ t.vc = s.vc.elapse dt

/-! ### Strings -/

/-- Start, stop and load of a string (R195, R196, R199): START of an enabled string in OFF enters TRAIN, or FAILED with STARTCODE 8 when T_P
is too short for it; of one in any other state it has no effect; with EN 0 or CELLS 0, or together with STOP, it is an access violation.
While the valve is blocked, STOP of a string that is starting or FAILED enters OFF, of one that runs begins the L_C + 1 BLOCK sweeps, of one
in OFF or that stops already it has no effect, and STOP_SWEEPS_END with none left enters OFF; STOP of a string whose arm is FORMED is an
access violation while the valve is deblocked. LOAD of a running string takes the next LGEN when no WRITE waits, and before that waits for
the messages queued and the WRITE in flight; of a string that does not run it has no effect; while one is busy it is an access violation;
and a load ends when every cell has confirmed, or in SYNC with LOAD_FAIL after 8 sweeps. -/
def Obligations.StringControl : Prop :=
  (∀ (s : State) (dt : Nat) (n : Fin 48) (req : BitVec 16) (w : Word), s.vc.inReset = false → s.vc.rd BOOT.STATUS.STATE ≠ 2 → bits w.toNat 2 0 = 1 →
    (s.vc.rd STRING.CFG.EN n = 0 ∨ s.vc.rd STRING.CFG.CELLS n = 0 → ∃ t, exec (.stringStart dt n req w) s = .next t ∧
      s.vc.Violated t.vc 3 (0x80004 + 0x400 * n.val) true ∧ t.vc.strs = s.vc.strs) ∧
    (s.vc.rd STRING.CFG.EN n = 1 → s.vc.rd STRING.CFG.CELLS n ≠ 0 → s.vc.rd STRING.STATUS.STATE n ≠ 0 →
      ∃ t, exec (.stringStart dt n req w) s = .next t ∧ t.vc.rd STRING.STATUS.STATE n = s.vc.rd STRING.STATUS.STATE n ∧
        t.vc.rd ERR.VIOL_CNT.COUNT = s.vc.rd ERR.VIOL_CNT.COUNT ∧ t.vc.str n = s.vc.str n) ∧
    (s.vc.rd STRING.CFG.EN n = 1 → s.vc.rd STRING.CFG.CELLS n ≠ 0 → s.vc.rd STRING.STATUS.STATE n = 0 →
      tpPasses (s.vc.rd GLOBAL.TICKCFG.TP_NS) (s.vc.rd STRING.CFG.CELLS n) (s.vc.strRate n) = true →
      ∃ t, exec (.stringStart dt n req w) s = .next t ∧ t.vc.rd STRING.STATUS.STATE n = 1 ∧ t.vc.rd STRING.STATUS.STARTCODE n = 0 ∧
        t.vc.rd STRING.STATUS.LC n = 0 ∧ (t.vc.str n).since = (s.vc.elapse dt).now) ∧
    (s.vc.rd STRING.CFG.EN n = 1 → s.vc.rd STRING.CFG.CELLS n ≠ 0 → s.vc.rd STRING.STATUS.STATE n = 0 →
      tpPasses (s.vc.rd GLOBAL.TICKCFG.TP_NS) (s.vc.rd STRING.CFG.CELLS n) (s.vc.strRate n) = false →
      ∃ t, exec (.stringStart dt n req w) s = .next t ∧ t.vc.rd STRING.STATUS.STATE n = 7 ∧ t.vc.rd STRING.STATUS.STARTCODE n = 8 ∧
        t.vc.rd STRING.ERRSTAT.START_FAIL n = 1 ∧ t.vc.rd GLOBAL.STATUS.TP_SHORT = 1)) ∧
  (∀ (s : State) (dt : Nat) (n : Fin 48) (req : BitVec 16) (w : Word), s.vc.inReset = false → s.vc.rd BOOT.STATUS.STATE ≠ 2 →
    bits w.toNat 1 0 = 3 → ∃ t, exec (.stringStart dt n req w) s = .next t ∧ s.vc.Violated t.vc 3 (0x80004 + 0x400 * n.val) true ∧ t.vc.strs = s.vc.strs) ∧
  (∀ (s : State) (dt : Nat) (n : Fin 48) (req : BitVec 16) (w : Word), s.vc.inReset = false → s.vc.rd BOOT.STATUS.STATE ≠ 2 → bits w.toNat 2 0 = 2 →
    s.vc.rd GLOBAL.STATUS.BLOCKED = 1 →
    ((1 ≤ s.vc.rd STRING.STATUS.STATE n ∧ s.vc.rd STRING.STATUS.STATE n ≤ 4 ∨ s.vc.rd STRING.STATUS.STATE n = 7) →
      ∃ t, exec (.stringStop dt n req w) s = .next t ∧ t.vc.rd STRING.STATUS.STATE n = 0) ∧
    (s.vc.rd STRING.STATUS.STATE n = 0 ∨ s.vc.strRuns n = true ∧ (s.vc.str n).stopLeft.isSome = true →
      ∃ t, exec (.stringStop dt n req w) s = .next t ∧ t.vc.rd STRING.STATUS.STATE n = s.vc.rd STRING.STATUS.STATE n ∧
        t.vc.strs = s.vc.strs ∧ t.vc.rd ERR.VIOL_CNT.COUNT = s.vc.rd ERR.VIOL_CNT.COUNT) ∧
    (s.vc.strRuns n = true → (s.vc.str n).stopLeft = none → ∃ t, exec (.stringStop dt n req w) s = .next t ∧
      t.vc.rd STRING.STATUS.STATE n = s.vc.rd STRING.STATUS.STATE n ∧ (t.vc.str n).stopLeft = some (s.vc.headerLc n + 1))) ∧
  (∀ (s : State) (dt : Nat) (n : Fin 48) (req : BitVec 16) (w : Word), s.vc.inReset = false → s.vc.rd BOOT.STATUS.STATE ≠ 2 → bits w.toNat 2 0 = 2 →
    s.vc.rd GLOBAL.STATUS.BLOCKED = 0 → (s.vc.strArm n).state = 1 → ∃ t, exec (.stringStop dt n req w) s = .next t ∧
      s.vc.Violated t.vc 3 (0x80004 + 0x400 * n.val) true ∧ t.vc.strs = s.vc.strs) ∧
  (∀ (s : State) (dt : Nat) (n : Fin 48), s.vc.inReset = false → s.vc.strRuns n = true → (s.vc.str n).stopLeft = some 0 →
    ∃ t, exec (.stopSweepsEnd dt n) s = .next t ∧ t.vc.rd STRING.STATUS.STATE n = 0 ∧ (t.vc.str n).stopLeft = none) ∧
  (∀ (s : State) (dt : Nat) (n : Fin 48) (req : BitVec 16) (w : Word), s.vc.inReset = false → s.vc.rd BOOT.STATUS.STATE ≠ 2 → bits w.toNat 2 0 = 4 →
    (s.vc.strRuns n = false → ∃ t, exec (.stringLoad dt n req w) s = .next t ∧ t.vc.strs = s.vc.strs ∧
      t.vc.rd STRING.STATUS.LGEN n = s.vc.rd STRING.STATUS.LGEN n ∧ t.vc.rd ERR.VIOL_CNT.COUNT = s.vc.rd ERR.VIOL_CNT.COUNT) ∧
    (s.vc.strRuns n = true → s.vc.rd STRING.STATUS.LOAD_BUSY n = 0 →
      ((∀ m ∈ (s.vc.str n).msgs, m.op ≠ 1) → (∀ o, (s.vc.str n).msgOut = some o → o.msg.op ≠ 1) →
        ∃ t, exec (.stringLoad dt n req w) s = .next t ∧ t.vc.rd STRING.STATUS.LOAD_BUSY n = 1 ∧
          t.vc.rd STRING.STATUS.LGEN n = (s.vc.rd STRING.STATUS.LGEN n + 1) % 4 ∧ (t.vc.str n).load = some ⟨false, 0⟩) ∧
      ((∃ m ∈ (s.vc.str n).msgs, m.op = 1) ∨ (∃ o, (s.vc.str n).msgOut = some o ∧ o.msg.op = 1) →
        ∃ t, exec (.stringLoad dt n req w) s = .next t ∧ t.vc.rd STRING.STATUS.LOAD_BUSY n = 1 ∧
          t.vc.rd STRING.STATUS.LGEN n = s.vc.rd STRING.STATUS.LGEN n ∧ (t.vc.str n).load = some ⟨true, (s.vc.str n).msgs.length⟩)) ∧
    (s.vc.strRuns n = true → s.vc.rd STRING.STATUS.LOAD_BUSY n = 1 → ∃ t, exec (.stringLoad dt n req w) s = .next t ∧
      s.vc.Violated t.vc 3 (0x80004 + 0x400 * n.val) true ∧ t.vc.strs = s.vc.strs)) ∧
  ∀ (s : State) (dt : Nat) (n : Fin 48) (sw : Nat), s.vc.inReset = false → (s.vc.str n).load = some ⟨false, sw⟩ →
    ((∀ p < s.vc.rd STRING.CFG.CELLS n, s.vc.confirms n p = true) → ∃ t, exec (.loadEnd dt n) s = .next t ∧
      t.vc.rd STRING.STATUS.LOAD_BUSY n = 0 ∧ (t.vc.str n).load = none ∧ t.vc.facets = s.vc.facets) ∧
    (s.vc.rd STRING.STATUS.STATE n = 5 → 8 ≤ sw → (∃ p < s.vc.rd STRING.CFG.CELLS n, s.vc.confirms n p = false) →
      ∃ t, exec (.loadEnd dt n) s = .next t ∧ t.vc.rd STRING.STATUS.LOAD_BUSY n = 0 ∧ t.vc.rd STRING.ERRSTAT.LOAD_FAIL n = 1 ∧
        (t.vc.str n).load = none)

/-- The start of a string step by step (R196, R198, R227): 100 ms in TRAIN or ASSIGN end it with STARTCODE 1 or 2; ASSIGN goes out again
after 1 ms where the X lane end is in use; the ASSIGN that returns in use at the Y end gives STARTCODE 3 with a wrong count of cells, else
the calibration, whose READs go behind the messages that wait and whose end gives STARTCODE 4 or 5 or the image load; that ends 8 ms after
its last message and 64 measurements of R_X in SYNC when every cell answers with the right image and acknowledges its path delays within
three WRITEs, or with STARTCODE 6 when no cell answers; SYNC ends in RUN after 16 clean ticks or with STARTCODE 7 after 256; and a string in
RUN that no report or no lane end serves is down. -/
def Obligations.StringBringUp : Prop :=
  (∀ (s : State) (dt : Nat) (n : Fin 48), s.vc.inReset = false → (s.vc.str n).since + 400000000 ≤ (s.vc.elapse dt).now →
    (s.vc.rd STRING.STATUS.STATE n = 1 → ∃ t, exec (.stringTrainTimeout dt n) s = .next t ∧ t.vc.rd STRING.STATUS.STATE n = 7 ∧
      t.vc.rd STRING.STATUS.STARTCODE n = 1 ∧ t.vc.rd STRING.ERRSTAT.START_FAIL n = 1) ∧
    (s.vc.rd STRING.STATUS.STATE n = 2 → ∃ t, exec (.assignTimeout dt n) s = .next t ∧ t.vc.rd STRING.STATUS.STATE n = 7 ∧
      t.vc.rd STRING.STATUS.STARTCODE n = 2 ∧ t.vc.rd STRING.ERRSTAT.START_FAIL n = 1)) ∧
  (∀ (s : State) (dt : Nat) (n : Fin 48), s.vc.inReset = false → s.vc.rd STRING.STATUS.STATE n = 2 →
    (s.vc.str n).assignAt + 4000000 ≤ (s.vc.elapse dt).now →
    ∃ t, exec (.assignRepeat dt n) s = .next t ∧ (s.vc.laneUse (2 * n.val) = true →
        Emit.assign n (msgHead 0x7F (s.vc.str n).tag 0 0x7F 0 5) (msgCheck (msgHead 0x7F (s.vc.str n).tag 0 0x7F 0 5) []) ∈ t.vc.out) ∧
      t.vc.rd STRING.MSGSTAT.TAG n = (s.vc.str n).tag % 256 ∧ (t.vc.str n).tag = ((s.vc.str n).tag + 1) % 256 ∧ (t.vc.str n).assignAt = (s.vc.elapse dt).now) ∧
  (∀ (s : State) (dt : Nat) (n : Fin 48) (m : MsgFrame), s.vc.inReset = false → s.vc.rd STRING.STATUS.STATE n = 2 → m.ok = true → m.op = 5 →
    s.vc.endInUse n 1 = true →
    (m.addr ≠ s.vc.rd STRING.CFG.CELLS n → ∃ t, exec (.assignReturn dt n m) s = .next t ∧ t.vc.rd STRING.STATUS.STATE n = 7 ∧
      t.vc.rd STRING.STATUS.STARTCODE n = 3) ∧
    (m.addr = s.vc.rd STRING.CFG.CELLS n → ∃ t, exec (.assignReturn dt n m) s = .next t ∧ t.vc.rd STRING.STATUS.STATE n = 3 ∧
      (t.vc.str n).msgs = (s.vc.str n).msgs ++ (List.range m.addr).map (fun i => readMsg (.calRead (i + 1)) i 0x600) ∧ (t.vc.str n).calVals = [])) ∧
  (∀ (s : State) (dt : Nat) (n : Fin 48), s.vc.inReset = false → s.vc.rd STRING.STATUS.STATE n = 3 →
    ((s.vc.str n).calFail = true → ∃ t, exec (.calibrationDone dt n) s = .next t ∧ t.vc.rd STRING.STATUS.STATE n = 7 ∧
      t.vc.rd STRING.STATUS.STARTCODE n = 4) ∧
    ((s.vc.str n).calFail = false → 16 ≤ (s.vc.str n).calVals.length → (s.vc.str n).msgOut = none →
      (∀ m ∈ (s.vc.str n).msgs, ∀ l, m.purpose ≠ .calRead l) →
      (4 < s.vc.calcLc n → ∃ t, exec (.calibrationDone dt n) s = .next t ∧ t.vc.rd STRING.STATUS.STATE n = 7 ∧
        t.vc.rd STRING.STATUS.STARTCODE n = 5) ∧
      (s.vc.calcLc n ≤ 4 → ∃ t, exec (.calibrationDone dt n) s = .next t ∧ t.vc.rd STRING.STATUS.STATE n = 4 ∧
        t.vc.rd STRING.STATUS.LC n = s.vc.calcLc n))) ∧
  (∀ (s : State) (dt : Nat) (n : Fin 48) (rx : List Nat) (replies : List (Option (Word × Word))) (acks : List Nat) (t0 : Nat),
    s.vc.inReset = false → s.vc.rd STRING.STATUS.STATE n = 4 → (s.vc.str n).imgDone = some t0 → t0 + 32000000 ≤ (s.vc.elapse dt).now →
    64 ≤ rx.length →
    ((∀ p < s.vc.rd STRING.CFG.CELLS n, (∃ x v, replies.getD p none = some (x, v) ∧ bits x.toNat 31 28 = 3 ∧ v.toNat = s.vc.cellImage.2) ∧
        1 ≤ acks.getD p 0 ∧ acks.getD p 0 ≤ 3) →
      ∃ t, exec (.imageLoadDone dt n rx replies acks) s = .next t ∧ t.vc.rd STRING.STATUS.STATE n = 5 ∧ (t.vc.str n).nextSeq = 0) ∧
    (s.vc.rd STRING.CFG.CELLS n ≠ 0 → replies = [] → ∃ t, exec (.imageLoadDone dt n rx replies acks) s = .next t ∧
      t.vc.rd STRING.STATUS.STATE n = 7 ∧ t.vc.rd STRING.STATUS.STARTCODE n = 6)) ∧
  (∀ (s : State) (dt : Nat) (n : Fin 48), s.vc.inReset = false → s.vc.rd STRING.STATUS.STATE n = 5 →
    (16 ≤ (s.vc.str n).clean → ∃ t, exec (.syncComplete dt n) s = .next t ∧ t.vc.rd STRING.STATUS.STATE n = 6) ∧
    (256 ≤ (s.vc.str n).syncTicks → ∃ t, exec (.stringSyncTimeout dt n) s = .next t ∧ t.vc.rd STRING.STATUS.STATE n = 7 ∧
      t.vc.rd STRING.STATUS.STARTCODE n = 7)) ∧
  ∀ (s : State) (dt : Nat) (n : Fin 48), s.vc.inReset = false → s.vc.rd STRING.STATUS.STATE n = 6 →
    (s.vc.rd STRING.CFG.WDOG_TICKS n ≤ (s.vc.str n).deadTicks ∨ s.vc.endInUse n 0 = false ∧ s.vc.endInUse n 1 = false) →
    ∃ t, exec (.stringDown dt n) s = .next t ∧ t.vc.rd STRING.STATUS.STATE n = 7 ∧ t.vc.rd STRING.ERRSTAT.STRING_DOWN n = 1

/-- Messages and sweeps at the VC (R183, R184, R192, R193): a queued message for one cell that fits before the next launch leaves on the
lane ends in use with the next TAG, which MSGSTAT shows, and waits for its response; one that does not fit, or of a string in OFF, TRAIN or
FAILED, stays queued; a broadcast waits for none; a valid READ response of the LEN asked for, WRITE response or NACK, or the message time,
ends it with RESULT 1, 2 or 3, and a response that is bad, of another TAG or of another cell changes nothing; the slot of a returning copy
with a good header is kept for the commit, and a header that fails with its trailer is counted. -/
def Obligations.StringTraffic : Prop :=
  (∀ (s : State) (dt : Nat) (n : Fin 48) (m : Msg) (ms : List Msg), s.vc.inReset = false → (s.vc.str n).msgOut = none → 2 ≤ s.vc.rd STRING.STATUS.STATE n →
    s.vc.rd STRING.STATUS.STATE n ≤ 6 → (s.vc.str n).img = [] → (s.vc.str n).msgs = m :: ms →
    ((s.vc.elapse dt).msgFits n (m.payload.length + 2) = false → ∃ t, exec (.cellMsgSend dt n) s = .next t ∧ t.vc = s.vc.elapse dt) ∧
    (m.dest = 0x7F → (s.vc.elapse dt).msgFits n (m.payload.length + 2) = true → (∀ id, m.purpose ≠ .descriptor id) →
      ∃ t, exec (.cellMsgSend dt n) s = .next t ∧ (t.vc.str n).msgOut = none ∧ (t.vc.str n).msgs = ms ∧
        (t.vc.str n).tag = ((s.vc.str n).tag + 1) % 256) ∧
    (m.dest ≠ 0x7F → (s.vc.elapse dt).msgFits n (m.payload.length + 2) = true →
     ∃ t, exec (.cellMsgSend dt n) s = .next t ∧ (t.vc.str n).msgOut = some ⟨m, (s.vc.str n).tag, (s.vc.elapse dt).now⟩ ∧
      (t.vc.str n).msgs = ms ∧ (t.vc.str n).tag = ((s.vc.str n).tag + 1) % 256 ∧ t.vc.rd STRING.MSGSTAT.TAG n = (s.vc.str n).tag % 256 ∧
      (s.vc.strEnds n ≠ 0 → Emit.cellMsg n (s.vc.strEnds n) (msgHead 0x7F (s.vc.str n).tag m.addr m.dest m.len m.op) m.payload
        (msgCheck (msgHead 0x7F (s.vc.str n).tag m.addr m.dest m.len m.op) m.payload) ∈ t.vc.out))) ∧
  (∀ (s : State) (dt : Nat) (n : Fin 48), s.vc.inReset = false →
    (s.vc.rd STRING.STATUS.STATE n < 2 ∨ 6 < s.vc.rd STRING.STATUS.STATE n ∨ (s.vc.str n).msgOut.isSome = true ∨
      (s.vc.str n).img = [] ∧ (s.vc.str n).msgs = []) →
    ∃ t, exec (.cellMsgSend dt n) s = .next t ∧ t.vc = s.vc.elapse dt) ∧
  (∀ (s : State) (dt : Nat) (n : Fin 48) (endY : Bool) (m : MsgFrame), s.vc.inReset = false →
    (m.ok = false ∨ s.vc.endInUse n (b2n endY) = false ∨ ∀ o, (s.vc.str n).msgOut = some o → m.tag ≠ o.tag ∨ m.dest ≠ 0x7F ∨ m.src ≠ o.msg.dest ∨
      m.op < 2 ∨ 4 < m.op ∨ m.op = 2 ∧ (o.msg.op ≠ 0 ∨ m.len ≠ o.msg.len) ∨ m.op = 3 ∧ o.msg.op ≠ 1 ∨ m.op = 4 ∧ m.len ≠ 1) →
    ∃ t, exec (.msgResponseRx dt n endY m) s = .next t ∧ t.vc = s.vc.elapse dt) ∧
  (∀ (s : State) (dt : Nat) (n : Fin 48) (endY : Bool) (m : MsgFrame) (o : MsgOut), s.vc.inReset = false → (s.vc.str n).msgOut = some o → m.ok = true →
    s.vc.endInUse n (b2n endY) = true → m.tag = o.tag → m.dest = 0x7F → m.src = o.msg.dest →
    (m.op = 2 → o.msg.op = 0 → m.len = o.msg.len → (∀ l, o.msg.purpose ≠ .calRead l) → ∃ t, exec (.msgResponseRx dt n endY m) s = .next t ∧
      (t.vc.str n).msgOut = none ∧ t.vc.rd STRING.MSGSTAT.RESULT n = 1 ∧ t.vc.rd STRING.MSGSTAT.REASON n = 0) ∧
    (∀ l, m.op = 2 → o.msg.op = 0 → m.len = o.msg.len → o.msg.purpose = .calRead l → l < 97 → (m.payload.getD 0 0).toNat % 65536 ≠ 0 →
      ∃ t, exec (.msgResponseRx dt n endY m) s = .next t ∧ (t.vc.str n).msgOut = none ∧ t.vc.rd STRING.MSGSTAT.RESULT n = 1 ∧
        t.vc.rd STRING.HOPDLY.DELAY n l = (m.payload.getD 0 0).toNat % 65536) ∧
    (m.op = 3 → o.msg.op = 1 → ∃ t, exec (.msgResponseRx dt n endY m) s = .next t ∧ (t.vc.str n).msgOut = none ∧
      t.vc.rd STRING.MSGSTAT.RESULT n = 1) ∧
    (m.op = 4 → m.len = 1 → ∃ t, exec (.msgResponseRx dt n endY m) s = .next t ∧ (t.vc.str n).msgOut = none ∧
      t.vc.rd STRING.MSGSTAT.RESULT n = 2 ∧ t.vc.rd STRING.ERRSTAT.MSG_NACK n = 1)) ∧
  (∀ (s : State) (dt : Nat) (n : Fin 48) (o : MsgOut), s.vc.inReset = false → (s.vc.str n).msgOut = some o →
    o.sent + max (16 * s.vc.tq) 160000 ≤ (s.vc.elapse dt).now →
    ∃ t, exec (.msgTimeout dt n) s = .next t ∧ (t.vc.str n).msgOut = none ∧ t.vc.rd STRING.MSGSTAT.RESULT n = 3 ∧
      t.vc.rd STRING.ERRSTAT.MSG_TIMEOUT n = 1) ∧
  ∀ (s : State) (dt : Nat) (n : Fin 48) (endY : Bool) (h : List Block) (k : Fin 96) (r : DWord), s.vc.inReset = false → s.vc.strRuns n = true →
    s.vc.endInUse n (b2n endY) = true →
    (headerOk h = true → k.val < s.vc.rd STRING.CFG.CELLS n → ∃ t, exec (.sweepReturn dt n endY h k [r] none) s = .next t ∧
      (t.vc.str n).rx = (s.vc.str n).rx ++ [⟨if bits (h.getD 3 ⟨false, 0⟩).pay.toNat 47 47 = 0 then k.val
          else s.vc.rd STRING.CFG.CELLS n - 1 - k.val, bits (h.getD 3 ⟨false, 0⟩).pay.toNat 47 47,
        bits (h.getD 0 ⟨false, 0⟩).pay.toNat 63 48, r.toNat, (s.vc.elapse dt).vt⟩] ∧ t.vc.regs = s.vc.regs) ∧
    ∀ b0 b1, headerOk h = false → ∃ t, exec (.sweepReturn dt n endY h k [r] (some (b0, b1))) s = .next t ∧
      t.vc.rd STRING.ERRSTAT.HDR_ERR n = 1 ∧
      t.vc.rd STRING.HDRERR_CNT.COUNT n = sat STRING.HDRERR_CNT.COUNT.w (s.vc.rd STRING.HDRERR_CNT.COUNT n + 1) ∧ t.vc.strs = s.vc.strs

/-! ### Serial links -/

/-- Training frames (R205, R206, R207, R208, R209): the first or second awaited frame in a row is only counted, and the third before eight
frames' time has passed in the phase is kept; an end that has kept it goes on by itself once that time has passed, which shows with the next
frame (log 112, the model's choice). The third, once eight frames' time has passed, ends the phase: CAP in LOCK_1G forms the target, or
backs off where the end does not accept it; STEP at the current rate begins the trial; RESULT fails, goes to the next rate or ends with the
chosen entry; GO at the target switches, or backs off when the two ends chose differently. A CAP with a MAXRATE below a cell's rate limit
lowers it for both its lanes and starts a lane in UP or LOCK_1G again. -/
def Obligations.LinkTraining : Prop :=
  (∀ (s : State) (dt : Nat) (e : LinkEnd) (f : TrainFrame), s.linkTrains e = true → f.valid = true → (s.linkEnd e).st.got = none →
    (∀ st p d, e = .cc st p d → (s.cellAt st p).rd CCLINK.LSTAT.RLIMIT ≤ f.maxRate) →
    ((s.linkEnd e).st.rxRun < 2 →
      ((s.linkEnd e).bst = 2 → f.type = 1 → f.rate = 0 → ∃ t, exec (.capRx dt e f) s = .next t ∧ (t.linkEnd e).bst = 2 ∧
        (t.linkEnd e).st.rxRun = (s.linkEnd e).st.rxRun + 1) ∧
      ((s.linkEnd e).bst = 3 → f.type = 2 → f.rate = (s.linkEnd e).st.cur → ∃ t, exec (.stepRx dt e f) s = .next t ∧
        (t.linkEnd e).bst = 3 ∧ (t.linkEnd e).st.rxRun = (s.linkEnd e).st.rxRun + 1) ∧
      ((s.linkEnd e).bst = 5 → f.type = 3 → f.rate = (s.linkEnd e).st.cur → ∃ t, exec (.resultRx dt e f) s = .next t ∧
        (t.linkEnd e).bst = 5 ∧ (t.linkEnd e).st.rxRun = (s.linkEnd e).st.rxRun + 1) ∧
      ((s.linkEnd e).bst = 6 → (s.linkEnd e).st.switched = false → f.type = 4 → f.rate = (s.linkEnd e).st.target →
        ∃ t, exec (.goRx dt e f) s = .next t ∧ (t.linkEnd e).bst = 6 ∧ (t.linkEnd e).st.switched = false ∧
          (t.linkEnd e).st.rxRun = (s.linkEnd e).st.rxRun + 1)) ∧
    (2 ≤ (s.linkEnd e).st.rxRun → (s.vc.elapse dt).now < (s.linkEnd e).st.since + 8 * frameTime →
      ((s.linkEnd e).bst = 2 → f.type = 1 → f.rate = 0 → ∃ t, exec (.capRx dt e f) s = .next t ∧ (t.linkEnd e).bst = 2 ∧
        (t.linkEnd e).st.got = some f) ∧
      ((s.linkEnd e).bst = 3 → f.type = 2 → f.rate = (s.linkEnd e).st.cur → ∃ t, exec (.stepRx dt e f) s = .next t ∧
        (t.linkEnd e).bst = 3 ∧ (t.linkEnd e).st.got = some f)) ∧
    (2 ≤ (s.linkEnd e).st.rxRun → (s.linkEnd e).st.since + 8 * frameTime ≤ (s.vc.elapse dt).now →
    ((s.linkEnd e).bst = 2 → f.type = 1 → f.rate = 0 → ∃ t, exec (.capRx dt e f) s = .next t ∧
      ((s.linkCfg e).anyT = true ∨ (s.linkCfg e).max ≤ f.maxRate → (t.linkEnd e).bst = 3 ∧ (t.linkEnd e).st.cur = 1 ∧
        (t.linkEnd e).st.target = min (s.linkCfg e).max f.maxRate ∧ (t.linkEnd e).st.farNent = f.nent) ∧
      ((s.linkCfg e).anyT = false → f.maxRate < (s.linkCfg e).max → (t.linkEnd e).bst = 8)) ∧
    ((s.linkEnd e).bst = 3 → f.type = 2 → f.rate = (s.linkEnd e).st.cur → ∃ t, exec (.stepRx dt e f) s = .next t ∧
      (t.linkEnd e).bst = 4 ∧ (t.linkEnd e).st.since = (s.vc.elapse dt).now ∧ (t.linkEnd e).st.cur = (s.linkEnd e).st.cur) ∧
    ((s.linkEnd e).bst = 5 → f.type = 3 → f.rate = (s.linkEnd e).st.cur →
      let j := chooseEntry (s.linkEnd e).st.foms f.foms ((s.linkEnd e).slots (s.linkCfg e))
      ∃ t, exec (.resultRx dt e f) s = .next t ∧
        (j.2 < max (s.linkCfg e).fomMin f.fomMin → (t.linkEnd e).bst = 8) ∧
        (max (s.linkCfg e).fomMin f.fomMin ≤ j.2 → (s.linkEnd e).st.cur < (s.linkEnd e).st.target →
          (t.linkEnd e).bst = 3 ∧ (t.linkEnd e).st.cur = (s.linkEnd e).st.cur + 1) ∧
        (max (s.linkCfg e).fomMin f.fomMin ≤ j.2 → (s.linkEnd e).st.target ≤ (s.linkEnd e).st.cur →
          (t.linkEnd e).bst = 6 ∧ (t.linkEnd e).st.jstar = j.1)) ∧
    ((s.linkEnd e).bst = 6 → (s.linkEnd e).st.switched = false → f.type = 4 → f.rate = (s.linkEnd e).st.target →
      ∃ t, exec (.goRx dt e f) s = .next t ∧
        (f.chosen = (s.linkEnd e).st.jstar → (t.linkEnd e).bst = 6 ∧ (t.linkEnd e).st.switched = true ∧
          (t.linkEnd e).st.since = (s.vc.elapse dt).now) ∧
        (f.chosen ≠ (s.linkEnd e).st.jstar → (t.linkEnd e).bst = 8)))) ∧
  (∀ (s : State) (dt : Nat) (e : LinkEnd) (f g : TrainFrame), s.linkTrains e = true → f.valid = true → (s.linkEnd e).st.got = some g →
    (s.linkEnd e).st.since + 8 * frameTime ≤ (s.vc.elapse dt).now →
    ((s.linkEnd e).bst = 2 → (s.linkCfg e).max ≤ g.maxRate → f.type = 2 → f.rate = 1 → ∃ t, exec (.stepRx dt e f) s = .next t ∧
      (t.linkEnd e).bst = 3 ∧ (t.linkEnd e).st.cur = 1 ∧ (t.linkEnd e).st.target = (s.linkCfg e).max ∧ (t.linkEnd e).st.rxRun = 1 ∧
      (t.linkEnd e).st.since = (s.linkEnd e).st.since + 8 * frameTime) ∧
    ((s.linkEnd e).bst = 3 → ∃ t, exec (.stepRx dt e f) s = .next t ∧ (t.linkEnd e).bst = 4 ∧
      (t.linkEnd e).st.since = (s.linkEnd e).st.since + 8 * frameTime)) ∧
  ∀ (s : State) (dt : Nat) (st : Fin 48) (p : Fin 96) (down : Bool) (f : TrainFrame), s.linkTrains (.cc st p down) = true → f.valid = true →
    (s.linkEnd (.cc st p down)).st.got = none → f.type = 1 → f.maxRate < (s.cellAt st p).rd CCLINK.LSTAT.RLIMIT →
    ∃ t, exec (.capRx dt (.cc st p down) f) s = .next t ∧ (∀ u, u < 2 → (t.cellAt st p).rd CCLINK.LSTAT.RLIMIT u = f.maxRate) ∧
      ((s.linkEnd (.cc st p down)).bst = 7 ∨ (s.linkEnd (.cc st p down)).bst = 2 → (t.linkEnd (.cc st p down)).bst = 2) ∧
      (s.linkTrains (.cc st p (!down)) = true → (s.linkEnd (.cc st p (!down))).bst = 7 ∨ (s.linkEnd (.cc st p (!down))).bst = 2 →
        (t.linkEnd (.cc st p (!down))).bst = 2)

/-- The times of a bring-up (R184, R207, R209): the trial lasts 40 µs a slot, a slot without lock with FOM 0, FAULT_TX 2 µs, BACKOFF 1 ms;
block lock within 20 µs of the switch makes the end UP, none backs off; no progress backs off; a link that was lost is in use again after 1
ms of lock. Losses and errors of a link in UP (R184, R202, R203, R204, R211, R214): a loss of lock is counted and makes the end leave UP,
with a LINK_FAULT of its own where it is no measurement lane, whose slots start again; a valid LINK_FAULT makes the end leave UP, an invalid
one does not change it; the words that reach an end in L0 go through its receiver, whose errors are counted while it keeps its lock, an
invalid sync header of a block among them; a training frame that fails ends a run of frames, and is shown at a VC lane; the eye's figure is
shown, with the least at a VC lane; the CTLE slots of a measurement lane end in UP or in RATE_FAIL; and a cell whose receivers have had no
signal accepts 10.3125 Gb/s again (R208). -/
def Obligations.LinkTimersAndLosses : Prop :=
  (∀ (s : State) (dt : Nat) (e : LinkEnd), s.linkTrains e = true →
    (∀ foms : List (Option Byte), (s.linkEnd e).bst = 4 →
      (s.linkEnd e).st.since + (s.linkEnd e).slots (s.linkCfg e) * 160000 ≤ (s.vc.elapse dt).now →
      ∃ t, exec (.trialSlotsDone dt e foms) s = .next t ∧ (t.linkEnd e).bst = 5 ∧
        (t.linkEnd e).st.foms = (foms.map fun (m : Option Byte) => (m.map BitVec.toNat).getD 0).take ((s.linkEnd e).slots (s.linkCfg e))) ∧
    ((s.linkEnd e).bst = 6 → (s.linkEnd e).st.switched = true → (s.vc.elapse dt).now ≤ (s.linkEnd e).st.since + 80000 →
      ∃ t, exec (.blockLockAcquired dt e) s = .next t ∧ (t.linkEnd e).bst = 7 ∧
        (t.linkEnd e).st.okSince = (s.vc.elapse dt).now) ∧
    ((s.linkEnd e).bst = 6 → (s.linkEnd e).st.switched = true → (s.linkEnd e).st.since + 80000 ≤ (s.vc.elapse dt).now →
      ∃ t, exec (.finalLockTimeout dt e) s = .next t ∧ (t.linkEnd e).bst = 8) ∧
    (2 ≤ (s.linkEnd e).bst → (s.linkEnd e).bst ≤ 6 → ∃ t, exec (.bringupTimeout dt e) s = .next t ∧ (t.linkEnd e).bst = 8) ∧
    ((s.linkEnd e).bst = 1 → (s.linkEnd e).st.since + 8000 ≤ (s.vc.elapse dt).now →
      ∃ t, exec (.faultTxExpiry dt e) s = .next t ∧ (t.linkEnd e).bst = 2) ∧
    ((s.linkEnd e).bst = 8 → (s.linkEnd e).st.since + 4000000 ≤ (s.vc.elapse dt).now →
      ∃ t, exec (.backoffExpiry dt e) s = .next t ∧ (t.linkEnd e).bst = 2) ∧
    ((s.linkEnd e).bst = 7 → (s.linkEnd e).st.lost = true → (s.linkEnd e).st.okSince + 4000000 ≤ (s.vc.elapse dt).now →
      ∃ t, exec (.linkReturn dt e) s = .next t ∧ (t.linkEnd e).bst = 7 ∧ (t.linkEnd e).st.lost = false)) ∧
  ((∀ (s : State) (dt : Nat) (l : Fin 108) (b : Block), s.vc.inReset = false → s.vc.rd LANE.STATUS.BSTATE l = 7 →
    (∃ t, exec (.lossOfLock dt (.vc l)) s = .next t ∧ t.vc.rd LANE.ERRSTAT.LOSS l = 1 ∧
      t.vc.rd LANE.LOSSCNT.LOSSCNT l = sat LANE.LOSSCNT.LOSSCNT.w (s.vc.rd LANE.LOSSCNT.LOSSCNT l + 1) ∧
      (isMeasLane l = true → (t.linkEnd (.vc l)).bst = 4) ∧
      (isMeasLane l = false → (t.linkEnd (.vc l)).bst = 1 ∧ (t.linkEnd (.vc l)).st.lost = true ∧
        Emit.linkFault (.vc l) (linkFaultBlock 0x7F) ∈ t.vc.out)) ∧
    (faultOk b = true → isMeasLane l = false → ∃ t, exec (.linkFaultRx dt (.vc l) b) s = .next t ∧ t.vc.rd LANE.ERRSTAT.LOSS l = 1 ∧
      t.vc.rd LANE.LOSSCNT.LOSSCNT l = sat LANE.LOSSCNT.LOSSCNT.w (s.vc.rd LANE.LOSSCNT.LOSSCNT l + 1) ∧ (t.linkEnd (.vc l)).bst = 1) ∧
    ∀ fom : Byte, ∃ t, exec (.fomMeasure dt (.vc l) fom) s = .next t ∧ t.vc.rd LANE.STATUS.FOM l = fom.toNat ∧
      t.vc.rd LANE.FOMMIN.MIN l = min fom.toNat (s.vc.rd LANE.FOMMIN.MIN l)) ∧
  (∀ (s : State) (dt : Nat) (st : Fin 48) (p : Fin 96) (down : Bool) (b : Block), s.linkThere (.cc st p down) = true →
    (s.linkEnd (.cc st p down)).bst = 7 →
    (∃ t, exec (.lossOfLock dt (.cc st p down)) s = .next t ∧ (t.linkEnd (.cc st p down)).bst = 1 ∧
      (t.cellAt st p).rd CCLINK.LOSSCNT.COUNT (b2n down) =
        sat CCLINK.LOSSCNT.COUNT.w ((s.cellAt st p).rd CCLINK.LOSSCNT.COUNT (b2n down) + 1) ∧
      Emit.linkFault (.cc st p down) (linkFaultBlock ((s.cellAt st p).rd CCID.POS.POS)) ∈ t.vc.out) ∧
    (faultOk b = true → ∃ t, exec (.linkFaultRx dt (.cc st p down) b) s = .next t ∧ (t.linkEnd (.cc st p down)).bst = 1) ∧
    ∀ fom : Byte, ∃ t, exec (.fomMeasure dt (.cc st p down) fom) s = .next t ∧
      (t.cellAt st p).rd CCLINK.LSTAT.FOM (b2n down) = fom.toNat) ∧
  (∀ (s : State) (dt : Nat) (e : LinkEnd) (b : Block), s.linkThere e = true → faultOk b = false → ∃ t, exec (.linkFaultRx dt e b) s = .next t ∧
    t.linkEnd e = s.linkEnd e) ∧
  (∀ (s : State) (dt : Nat) (l : Fin 108) (rx : RxWords), s.vc.inReset = false → s.vc.rd LANE.STATUS.PSTATE l = 0 → (s.vc.lane l).got = none →
    let r := (s.vc.lane l).pcs.receive (s.vc.rd LANE.STATUS.RATE l) (s.vc.elapse dt).now (s.vc.inTest l) rx
    ∃ t, exec (.codeError dt ⟨.vc l, rx⟩) s = .next t ∧
      (r.2.2 = false → (t.vc.lane l).pcs = r.1 ∧ (r.2.1 ≠ 0 → t.vc.rd LANE.ERRSTAT.CODE_ERR l = 1) ∧
        t.vc.rd LANE.CODEERR.CODEERR l = Nat.repeat (fun c => sat LANE.CODEERR.CODEERR.w (c + 1)) r.2.1 (s.vc.rd LANE.CODEERR.CODEERR l)) ∧
      (r.2.2 = true → s.vc.rd LANE.STATUS.BSTATE l = 7 → t.vc.rd LANE.ERRSTAT.LOSS l = 1)) ∧
  (∀ (s : State) (dt : Nat) (l : Fin 108) (b : BitVec 66), s.vc.inReset = false → s.vc.rd LANE.STATUS.PSTATE l = 0 → (s.vc.lane l).got = none →
    s.vc.rd LANE.STATUS.RATE l ≠ 0 → (s.vc.lane l).pcs.lock = true → (s.vc.lane l).pcs.hiBer = false → (s.vc.lane l).pcs.berCnt < 15 →
    (s.vc.lane l).pcs.shBad < 15 → b.toNat % 4 = 0 ∨ b.toNat % 4 = 3 →
    ∃ t, exec (.codeError dt ⟨.vc l, .blocks [b]⟩) s = .next t ∧ t.vc.rd LANE.ERRSTAT.CODE_ERR l = 1 ∧
      t.vc.rd LANE.CODEERR.CODEERR l = sat LANE.CODEERR.CODEERR.w (s.vc.rd LANE.CODEERR.CODEERR l + 1)) ∧
  (∀ (s : State) (dt : Nat) (st : Fin 48) (p : Fin 96) (down : Bool) (rx : RxWords), s.linkThere (.cc st p down) = true →
    (s.cellAt st p).rd CCLINK.LSTAT.PSTATE (b2n down) = 0 → (s.linkEnd (.cc st p down)).st.got = none →
    let r := (s.linkEnd (.cc st p down)).st.pcs.receive (s.linkEnd (.cc st p down)).rate (s.vc.elapse dt).now
      ((s.cellAt st p).inTest down) rx
    r.2.2 = false → ∃ t, exec (.codeError dt ⟨.cc st p down, rx⟩) s = .next t ∧ (t.linkEnd (.cc st p down)).st.pcs = r.1 ∧
      (t.cellAt st p).rd CCLINK.CODEERR.COUNT (b2n down) =
        Nat.repeat (fun c => sat CCLINK.CODEERR.COUNT.w (c + 1)) r.2.1 ((s.cellAt st p).rd CCLINK.CODEERR.COUNT (b2n down))) ∧
  (∀ (s : State) (dt : Nat) (l : Fin 108) (f : TrainFrame), s.linkTrains (.vc l) = true → f.valid = false →
    ∃ t, exec (.trainFrameError dt (.vc l) f) s = .next t ∧ t.vc.rd LANE.ERRSTAT.TRAIN_ERR l = 1 ∧
      t.linkEnd (.vc l) = (s.linkEnd (.vc l)).otherFrame) ∧
  (∀ (s : State) (dt : Nat) (st : Fin 48) (p : Fin 96) (down : Bool) (f : TrainFrame), s.linkTrains (.cc st p down) = true →
    f.valid = false → ∃ t, exec (.trainFrameError dt (.cc st p down) f) s = .next t ∧
      t.linkEnd (.cc st p down) = (s.linkEnd (.cc st p down)).otherFrame) ∧
  (∀ (s : State) (dt : Nat) (l : Fin 8) (foms : List (Option Byte)), s.vc.inReset = false → s.vc.rd LANE.STATUS.BSTATE (96 + l.val) = 4 →
    (s.vc.lane (96 + l.val)).since + (s.vc.lnkCfg (96 + l.val)).nent * 160000 ≤ (s.vc.elapse dt).now →
    let fs := (foms.map fun (m : Option Byte) => (m.map BitVec.toNat).getD 0).take (s.vc.lnkCfg (96 + l.val)).nent
    let j := chooseEntry fs fs (s.vc.lnkCfg (96 + l.val)).nent
    ∃ t, exec (.mlaneEqSlotsDone dt l foms) s = .next t ∧
      ((s.vc.lnkCfg (96 + l.val)).fomMin ≤ j.2 → t.vc.rd LANE.STATUS.BSTATE (96 + l.val) = 7 ∧
        t.vc.rd LANE.STATUS.RATE (96 + l.val) = s.vc.rd LANE.CFG.MRATE (96 + l.val) % 4) ∧
      (j.2 < (s.vc.lnkCfg (96 + l.val)).fomMin → t.vc.rd LANE.STATUS.BSTATE (96 + l.val) = 4 ∧
        t.vc.rd LANE.ERRSTAT.RATE_FAIL (96 + l.val) = 1)) ∧
  ∀ (s : State) (dt : Nat) (st : Fin 48) (p : Fin 96), s.linkThere (.cc st p false) = true →
    ∃ t, exec (.ccRateLimitReset dt st p) s = .next t ∧ (t.cellAt st p).rd CCLINK.LSTAT.RLIMIT 0 = 2 ∧
      (t.cellAt st p).rd CCLINK.LSTAT.RLIMIT 1 = 2)

/-- The delay measurement of a link (R198): a PROBE at an end in use is answered with an ECHO of its NUM and the turn; an ECHO gives one
sample; at a cell the 16th ends the measurement, with the delay where the samples do not spread; without all 16 samples in 100 µs the VC's
measurement fails and the cell's is given up. -/
def Obligations.LinkMeasurement : Prop :=
  (∀ (s : State) (dt : Nat) (e : LinkEnd) (b : Block) (turn : BitVec 16) (k : Nat), s.linkThere e = true → (s.linkEnd e).inUse = true →
    probeNum b = some k → ∃ t, exec (.probeRx dt e b turn) s = .next t ∧ Emit.echo e (echoBlock k turn.toNat) ∈ t.vc.out ∧
      t.linkEnd e = s.linkEnd e) ∧
  (∀ (s : State) (dt : Nat) (n : Fin 48) (l : Fin 108) (b : Block) (rtt k turn : Nat), s.vc.inReset = false → l.val = 2 * n.val →
    (s.linkEnd (.vc l)).inUse = true → echoOf b = some (k, turn) → s.vc.rd STRING.STATUS.STATE n = 3 → k ≤ 15 →
    ((s.vc.str n).calVals.any fun v => v.1 = k) = false → ∃ t, exec (.echoRx dt (.vc l) b rtt) s = .next t ∧
      (t.vc.str n).calVals = (s.vc.str n).calVals ++ [(k, (rtt : Int) - 250 * turn)]) ∧
  (∀ (s : State) (dt : Nat) (st : Fin 48) (p : Fin 96) (b : Block) (rtt k turn : Nat) (vs : List (Nat × Int)),
    s.linkThere (.cc st p true) = true → (s.linkEnd (.cc st p true)).inUse = true → echoOf b = some (k, turn) →
    (s.cellAt st p).calVals = some vs → k ≤ 15 → (vs.any fun v => v.1 = k) = false →
    ∃ t, exec (.echoRx dt (.cc st p true) b rtt) s = .next t ∧
      (vs.length < 15 → (t.cellAt st p).calVals = some (vs ++ [(k, (rtt : Int) - 250 * turn)])) ∧
      (15 ≤ vs.length → (t.cellAt st p).calVals = none ∧
        (spreads ((vs ++ [(k, (rtt : Int) - 250 * turn)]).map (·.2)) = false → (t.cellAt st p).rd CCTIME.LINKDLY.D =
          linkDelay ((vs ++ [(k, (rtt : Int) - 250 * turn)]).map (·.2)) % 2 ^ CCTIME.LINKDLY.D.w))) ∧
  (∀ (s : State) (dt : Nat) (n : Fin 48), s.vc.inReset = false → s.vc.rd STRING.STATUS.STATE n = 3 → (s.vc.str n).calVals.length < 16 →
    (s.vc.str n).since + 400000 ≤ (s.vc.elapse dt).now →
    ∃ t, exec (.echoTimeout dt n none) s = .next t ∧ (t.vc.str n).calFail = true) ∧
  ∀ (s : State) (dt : Nat) (st : Fin 48) (p : Fin 96), s.linkThere (.cc st p true) = true →
    ∃ t, exec (.echoTimeout dt st (some p)) s = .next t ∧ (t.cellAt st p).calVals = none ∧
      (t.cellAt st p).rd CCTIME.LINKDLY.D = (s.cellAt st p).rd CCTIME.LINKDLY.D

/-- The lane pages and lane tests (R207, R211, R216, R218, R219, R220, R235): RETRAIN of a lane in L0 starts the bring-up again, after which
a lane that was UP is out of use until it has held lock again (log 91, the model's reading), and at another lane has no effect; RELEASE ends
the holds of a string's port, with a WRITE to each cell that has part in one, and does nothing at another lane; CLR_FOMMIN sets the least
figure to 0xFF; LANE.TEST takes an idle lane into test, is an access violation at one whose owner is not idle and with RATE 3 or an EQ_SEL
of no entry, leaves a measurement lane's transmitter off, and gives the lane back with EN 0; SLIP moves the position in test with ALIGN_OFF
1 and is an access violation with ALIGN_OFF 0; a cell's test ends at DUR. -/
def Obligations.LanePages : Prop :=
  (∀ (s : State) (dt : Nat) (l : Fin 108) (req : BitVec 16) (w : Word), s.vc.inReset = false → s.vc.rd BOOT.STATUS.STATE ≠ 2 →
    (bits w.toNat 2 0 = 1 → s.vc.rd LANE.STATUS.PSTATE l ≠ 0 ∨ s.vc.inTest l = true → ∃ t, exec (.laneRetrain dt l req w) s = .next t ∧
      t.vc.regs = s.vc.regs ∧ t.vc.lane l = s.vc.lane l) ∧
    (bits w.toNat 2 0 = 1 → s.vc.rd LANE.STATUS.PSTATE l = 0 → s.vc.inTest l = false →
      ∃ t, exec (.laneRetrain dt l req w) s = .next t ∧
        t.vc.rd LANE.STATUS.BSTATE l = (if isMeasLane l then 4 else 2) ∧
        (t.vc.lane l).lost = ((s.vc.lane l).lost || decide (s.vc.rd LANE.STATUS.BSTATE l = 7))) ∧
    (bits w.toNat 2 0 = 2 → ∃ t, exec (.laneRelease dt l req w) s = .next t ∧
      (l.val < 96 → (t.vc.str (l.val / 2)).held = [] ∧ t.vc.rd LANE.STATUS.HELD l = 0 ∧
        (t.vc.str (l.val / 2)).msgs = (s.vc.str (l.val / 2)).msgs ++
          releaseMsgs (s.vc.rd STRING.CFG.CELLS (l.val / 2)) (s.vc.str (l.val / 2)).held) ∧ (96 ≤ l.val → t.vc.regs = s.vc.regs)) ∧
    (bits w.toNat 2 0 = 4 → ∃ t, exec (.clrFommin dt l req w) s = .next t ∧ t.vc.rd LANE.FOMMIN.MIN l = 0xFF ∧
      t.vc.rd LANE.STATUS.BSTATE l = s.vc.rd LANE.STATUS.BSTATE l)) ∧
  (∀ (s : State) (dt : Nat) (l : Fin 108) (bs : List Bool) (req : BitVec 16) (w : Word), s.vc.inReset = false → s.vc.rd BOOT.STATUS.STATE ≠ 2 →
    (bit w.toNat 31 = true → s.vc.inTest l = false → s.vc.ownerIdle l = true → bits w.toNat 21 20 ≠ 3 →
      bits w.toNat 2 0 < s.vc.rd LANE.CFG.NENT l → ∃ t, exec (.laneTest dt l bs req w) s = .next t ∧ t.vc.inTest l = true ∧
        t.vc.rd LANE.STATUS.BSTATE l = 10 ∧ t.vc.rd LANE.STATUS.PSTATE l = 0 ∧ t.vc.rd LANE.STATUS.RATE l = bits w.toNat 21 20 ∧
        t.vc.rd LANE.PRBSERR.PRBSERR l = 0 ∧ t.vc.rd LANE.TESTSTAT.CHK_LOCK l = 0) ∧
    (isMeasLane l = true → ∃ t, exec (.laneTest dt l bs req w) s = .next t ∧ ∀ e k i o, Emit.pattern e k i o ∉ t.vc.out) ∧
    (s.vc.inTest l = false → (bit w.toNat 31 = true ∧ s.vc.ownerIdle l = false ∨ bits w.toNat 21 20 = 3 ∨
        s.vc.rd LANE.CFG.NENT l ≤ bits w.toNat 2 0) → ∃ t, exec (.laneTest dt l bs req w) s = .next t ∧
      s.vc.Violated t.vc 3 (0xC0080 + 0x200 * l.val) true ∧ t.vc.lane l = s.vc.lane l) ∧
    (bit w.toNat 31 = false → s.vc.inTest l = true → bits w.toNat 21 20 ≠ 3 → bits w.toNat 2 0 < s.vc.rd LANE.CFG.NENT l →
      ∃ t, exec (.laneTest dt l bs req w) s = .next t ∧ t.vc.inTest l = false ∧ t.vc.rd LANE.ALIGN.ALIGN_OFF l = 0)) ∧
  (∀ (s : State) (dt : Nat) (l : Fin 108) (req : BitVec 16) (w : Word), s.vc.inReset = false → s.vc.rd BOOT.STATUS.STATE ≠ 2 →
    bit w.toNat 0 = true →
    (s.vc.rd LANE.ALIGN.ALIGN_OFF l = 1 → s.vc.inTest l = true → ∃ t, exec (.alignSlip dt l req w) s = .next t ∧
      t.vc.rd LANE.ALIGN.SLIP_POS l = (s.vc.rd LANE.ALIGN.SLIP_POS l + 1) % (if s.vc.rd LANE.STATUS.RATE l = 0 then 10 else 66)) ∧
    (s.vc.rd LANE.ALIGN.ALIGN_OFF l = 0 → ∃ t, exec (.alignSlip dt l req w) s = .next t ∧
      s.vc.Violated t.vc 3 (0xC0060 + 0x200 * l.val) true)) ∧
  ∀ (s : State) (dt : Nat) (st : Fin 48) (p : Fin 96) (up down : List Bool) (e : Nat), s.linkThere (.cc st p false) = true →
    (s.cellAt st p).testEnd = some e → e ≤ (s.vc.elapse dt).now →
    ∃ t, exec (.ccLinkTestEnd dt st p up down) s = .next t ∧ (t.cellAt st p).testEnd = none ∧ (t.cellAt st p).rd CCLINK.TEST.EN = 0

/-! ### Sweeps, flashes and messages at a cell -/

/-- A sweep copy at a cell (R180, R181, R185, R189): a candidate whose command is accepted gives its SEQ, its grid and the AUX pointer, ends
WDOG and FLASHED, and its command stands in the queue, or is discarded with CMD_FAULT when it comes late, out of order or to a full queue;
one whose command is not accepted changes neither the queue nor the SEQ, and ends FLASHED when FGEN has changed; a copy that is no candidate
changes neither the queue nor a register, and leaves with its command and report as they came, onward, or turned back where the cell
reflects; on a link not in use nothing happens. A header that came before the flash acted on does not end FLASHED: where it is the newest it
gives the FGEN that holds, so that its command is not accepted. That CMD_FAULT is counted in four tick instants (log 64), that a copy that
is no candidate passes unchanged (log 67) and that the cell turns copies by the time of their header (log 100) are the model's readings. -/
def Obligations.SweepCopies : Prop :=
  (∀ (s : State) (dt : Nat) (st : Fin 48) (p : Fin 96) (down : Bool) (h : List Block) (x : Hdr) (cmd rep t0 t1 : Block) (ago : Nat),
    (s.cellIn dt st p).run = true → (s.cellIn dt st p).inUse down = true → readHdr h = some x →
    ((s.cellIn dt st p).candidate x down = true → (s.cellIn dt st p).accepts x cmd = true →
      ((s.cellAt st p).flashed = false ∨ ∀ a, (s.cellAt st p).actedAt = some a → a < (s.vc.elapse dt).now - ago) →
      let c := s.cellIn dt st p
      let now := (c.estimate x.seq x.launch x.dirY ago).time
      let inOrder := ∀ q ∈ (s.cellIn dt st p).queue.getLast?, q.eff < x.eff
      ∃ t, exec (.sweepCopyRx dt st p down h cmd rep t0 t1 ago) s = .next t ∧ (t.cellAt st p).lastSeq = some x.seq ∧
        (t.cellAt st p).grid = some (x.eff, x.tq) ∧ (t.cellAt st p).aux = nextAux c.aux (bits cmd.pay.toNat 29 26) ∧
        (t.cellAt st p).wdog = false ∧ (t.cellAt st p).flashed = false ∧ (t.cellAt st p).accepted = true ∧
        (t.cellAt st p).rd CCTIME.TSTAT.VALID = 1 ∧
        (now + 600 ≤ x.eff → inOrder → c.queue.length < 4 →
          (t.cellAt st p).queue = c.queue ++ [⟨x.eff, cmd.pay.toNat % 281474976710656, x.tq, x.load⟩]) ∧
        (x.eff < now + 600 ∨ ¬ inOrder ∨ 4 ≤ c.queue.length → (t.cellAt st p).queue = c.queue ∧ (t.cellAt st p).faultFor = 4)) ∧
    ((s.cellIn dt st p).candidate x down = true → (s.cellIn dt st p).accepts x cmd = false →
      (s.cellAt st p).fgenAt ≤ (s.vc.elapse dt).now - ago →
      ((s.cellAt st p).flashed = false ∨ ∀ a, (s.cellAt st p).actedAt = some a → a < (s.vc.elapse dt).now - ago) →
      ∃ t, exec (.sweepCopyRx dt st p down h cmd rep t0 t1 ago) s = .next t ∧ (t.cellAt st p).queue = (s.cellAt st p).queue ∧
        (t.cellAt st p).lastSeq = (s.cellAt st p).lastSeq ∧ (t.cellAt st p).lastFgen = some x.fgen ∧
        (t.cellAt st p).flashed = ((s.cellAt st p).flashed && decide ((s.cellAt st p).fgenHold = some x.fgen))) ∧
    (∀ a, (s.cellIn dt st p).candidate x down = true → (s.cellAt st p).flashed = true → (s.cellAt st p).actedAt = some a →
      (s.vc.elapse dt).now - ago ≤ a → (s.cellAt st p).fgenAt ≤ (s.vc.elapse dt).now - ago →
      ∃ t, exec (.sweepCopyRx dt st p down h cmd rep t0 t1 ago) s = .next t ∧ (t.cellAt st p).queue = (s.cellAt st p).queue ∧
        (t.cellAt st p).lastSeq = (s.cellAt st p).lastSeq ∧ (t.cellAt st p).flashed = true ∧ (t.cellAt st p).fgenHold = some x.fgen) ∧
    ((s.cellIn dt st p).candidate x down = false →
      let now := (s.vc.elapse dt).now
      let turns := if now - ago < ((s.cellIn dt st p).lnk (!down)).st.useAt then (s.cellIn dt st p).refl (!down)
        else !(s.cellIn dt st p).inUse (!down)
      ∃ t bs, exec (.sweepCopyRx dt st p down h cmd rep t0 t1 ago) s = .next t ∧ (t.cellAt st p).queue = (s.cellAt st p).queue ∧
        (t.cellAt st p).lastSeq = (s.cellAt st p).lastSeq ∧ (t.cellAt st p).regs = (s.cellAt st p).regs ∧
        (turns = true ∨ (s.cellIn dt st p).inUse (!down) = true →
          Emit.sweepOut st p turns (cmd.pay.toNat :: rep.pay.toNat :: bs) ∈ t.vc.out))) ∧
  ∀ (s : State) (dt : Nat) (st : Fin 48) (p : Fin 96) (down : Bool) (h : List Block) (cmd rep t0 t1 : Block) (ago : Nat),
    (s.cellAt st p).inUse down = false → ∃ t, exec (.sweepCopyRx dt st p down h cmd rep t0 t1 ago) s = .next t ∧
      (t.cellAt st p).toCell = (s.cellAt st p).toCell

/-- The block flash and the sweep watchdog at a cell (R189, R190, R253): the first good copy of a flash turns every output off, empties the
queue, disarms, and holds the FGEN of the last header; a later copy of it is only forwarded; WDOG_TICKS instants without an accepted command
block in the same way and set WDOG. A command whose EFF_VT lies in the same 4 ns cycle and that fires the cell fires it first. That STATE
stays BOOT is the model's reading (log 70), and so is that the watchdog's count waits for a command after it (log 68). -/
def Obligations.FlashesAndWatchdogOfCells : Prop :=
  ∀ (s : State) (dt : Nat) (st : Fin 48) (p : Fin 96), (s.cellAt st p).run = true →
    (∀ (down : Bool) (b : Block), (s.cellAt st p).inUse down = true → b.ctl = true → b.pay.toNat % 256 = 0xC3 → flashOk b.pay.toNat = true →
      ((s.cellAt st p).acted.contains (bits b.pay.toNat 39 36, bits b.pay.toNat 31 24) = false →
        (∀ q qs, (s.cellAt st p).queue = q :: qs → q.eff / 16 = (s.cellIn dt st p).cycle → (s.cellIn dt st p).firesBy q = true →
          ∃ t, exec (.ccFlashRx dt st p down b) s = .next t ∧ (t.cellAt st p).st = 5 ∧ (t.cellAt st p).rd CCBYP.STATUS.FIRED = 1 ∧
            (t.cellAt st p).bypOn = true ∧ (t.cellAt st p).queue = [] ∧ (t.cellAt st p).flashed = true) ∧
        ((∀ q ∈ (s.cellAt st p).queue.head?, q.eff / 16 ≠ (s.cellIn dt st p).cycle) → ∃ t, exec (.ccFlashRx dt st p down b) s = .next t ∧ (t.cellAt st p).rd GATE.STATUS.OUT = 0 ∧ (t.cellAt st p).queue = [] ∧
          (t.cellAt st p).gate.pend = [] ∧ (t.cellAt st p).gate.edges = [] ∧ (t.cellAt st p).rd CCBYP.STATUS.ARMED = 0 ∧
          (t.cellAt st p).flashed = true ∧ (t.cellAt st p).fgenHold = (s.cellAt st p).lastFgen ∧
          (t.cellAt st p).st = (if (s.cellAt st p).st = 0 ∨ (s.cellAt st p).st = 5 then (s.cellAt st p).st else 1) ∧
          ((s.cellAt st p).inUse (!down) = true → Emit.flashOut st p b.pay.toNat ∈ t.vc.out))) ∧
      ((s.cellAt st p).acted.contains (bits b.pay.toNat 39 36, bits b.pay.toNat 31 24) = true →
        ∃ t, exec (.ccFlashRx dt st p down b) s = .next t ∧ (t.cellAt st p).regs = (s.cellAt st p).regs ∧
          (t.cellAt st p).queue = (s.cellAt st p).queue ∧ (t.cellAt st p).gate = (s.cellAt st p).gate ∧
          ((s.cellAt st p).inUse (!down) = true → Emit.flashOut st p b.pay.toNat ∈ t.vc.out))) ∧
    ((s.cellAt st p).wdogOn = true → (∀ q ∈ (s.cellAt st p).queue.head?, q.eff / 16 ≠ (s.cellIn dt st p).cycle) → (s.cellAt st p).rd CCWDOG.SWEEP.WDOG_TICKS ≤ (s.cellAt st p).rd CCWDOG.WSTAT.MISSED →
      ∃ t, exec (.cellSweepWatchdog dt st p) s = .next t ∧ (t.cellAt st p).wdog = true ∧ (t.cellAt st p).wdogOn = false ∧
        (t.cellAt st p).rd GATE.STATUS.OUT = 0 ∧
        (t.cellAt st p).queue = [] ∧ (t.cellAt st p).rd CCBYP.STATUS.ARMED = 0 ∧
        (t.cellAt st p).st = (if (s.cellAt st p).st = 0 ∨ (s.cellAt st p).st = 5 then (s.cellAt st p).st else 1)) ∧
    ((s.cellAt st p).wdogOn = false ∨ (s.cellAt st p).rd CCWDOG.WSTAT.MISSED < (s.cellAt st p).rd CCWDOG.SWEEP.WDOG_TICKS →
      ∃ t, exec (.cellSweepWatchdog dt st p) s = .next t ∧ (t.cellAt st p).toCell = (s.cellAt st p).toCell)

/-- A tick instant of a cell (R178, R181, R190, R230, R232, R242): before it nothing happens; at it the missed count, and, with no command
waiting, a tick less of CMD_FAULT and the state as it was. The first queued command, with neither a load nor a clear, at its EFF_VT: a BLOCK
in BYPASSED or an inserted state turns the outputs off; an INSERT in BLOCKED with no edge to come places its edge; BYPASS_FIRE in BLOCKED
arms, then fires, and with a wrong code sets CMD_FAULT, which is counted in four tick instants (log 64, the model's reading). -/
def Obligations.CellTickInstants : Prop :=
  ∀ (s : State) (dt : Nat) (st : Fin 48) (p : Fin 96) (t0 e tq : Nat), (s.cellIn dt st p).run = true →
    (s.cellIn dt st p).nextInst = some t0 → (s.cellIn dt st p).grid = some (e, tq) →
    ((s.cellIn dt st p).time < t0 → ∃ t, exec (.cellTickInstant dt st p) s = .next t ∧ (t.cellAt st p).toCell = (s.cellAt st p).toCell) ∧
    (t0 ≤ (s.cellIn dt st p).time →
      (∃ t, exec (.cellTickInstant dt st p) s = .next t ∧ (t.cellAt st p).accepted = false ∧
        (t.cellAt st p).rd CCWDOG.WSTAT.MISSED = (if (s.cellAt st p).accepted = true ∨ (s.cellAt st p).wdogOn = false then 0
          else sat 7 ((s.cellAt st p).rd CCWDOG.WSTAT.MISSED + 1)) ∧
        ((s.cellAt st p).queue = [] → (t.cellAt st p).faultFor = (s.cellAt st p).faultFor - 1 ∧ (t.cellAt st p).st = (s.cellAt st p).st)) ∧
      ∀ (q : QCmd) (qs : List QCmd), (s.cellAt st p).queue = q :: qs → q.eff ≤ t0 → q.load = none → bit q.word 25 = false →
        (bits q.word 47 44 = 4 → 2 ≤ (s.cellAt st p).st → (s.cellAt st p).st ≤ 4 → (s.cellAt st p).tripped = false →
          (s.cellAt st p).ov2 = false → ∃ t, exec (.cellTickInstant dt st p) s = .next t ∧ (t.cellAt st p).st = 1 ∧
            (t.cellAt st p).rd GATE.STATUS.OUT = 0 ∧ (t.cellAt st p).gate.edges = [] ∧ (t.cellAt st p).gate.pend = [] ∧
            (t.cellAt st p).queue = qs ∧ (t.cellAt st p).rd CCBYP.STATUS.ARMED = 0) ∧
        (bits q.word 47 44 = 1 → bits q.word 43 30 < q.tq → (s.cellAt st p).st = 1 → (s.cellAt st p).tripped = false →
          (s.cellAt st p).ov2 = false → (s.cellAt st p).gate.edges = [] → (s.cellAt st p).gate.movedTo = none →
          (s.cellAt st p).gate.unknown = none → ∃ t, exec (.cellTickInstant dt st p) s = .next t ∧
            (t.cellAt st p).gate.edges = [⟨q.eff + bits q.word 43 30, 3, false⟩] ∧ (t.cellAt st p).st = 1 ∧ (t.cellAt st p).queue = qs) ∧
        (bits q.word 47 44 = 5 → (s.cellAt st p).st = 1 →
          (bits q.word 7 0 ≠ Nat.xor ((s.cellAt st p).rd CCID.POS.POS) 0xA5 → ∃ t, exec (.cellTickInstant dt st p) s = .next t ∧
            (t.cellAt st p).faultFor = 4 ∧ (t.cellAt st p).rd CCBYP.STATUS.ARMED = 0 ∧ (t.cellAt st p).st = 1) ∧
          (bits q.word 7 0 = Nat.xor ((s.cellAt st p).rd CCID.POS.POS) 0xA5 → (s.cellAt st p).rd CCBYP.STATUS.ARMED = 0 →
            ∃ t, exec (.cellTickInstant dt st p) s = .next t ∧ (t.cellAt st p).rd CCBYP.STATUS.ARMED = 1 ∧ (t.cellAt st p).st = 1 ∧
              (t.cellAt st p).bypOn = (s.cellAt st p).bypOn) ∧
          (bits q.word 7 0 = Nat.xor ((s.cellAt st p).rd CCID.POS.POS) 0xA5 → (s.cellAt st p).rd CCBYP.STATUS.ARMED = 1 →
            ∃ t, exec (.cellTickInstant dt st p) s = .next t ∧ (t.cellAt st p).st = 5 ∧ (t.cellAt st p).rd CCBYP.STATUS.FIRED = 1 ∧
              (t.cellAt st p).rd CCBYP.STATUS.CAUSE_CMD = 1 ∧ (t.cellAt st p).bypOn = true ∧ (t.cellAt st p).rd GATE.STATUS.OUT = 0 ∧
              Emit.bypFire st p true ∈ t.vc.out)))

/-- Cell messages that a cell answers (R191, R192, R193, R235): READ gives the words, or the NACK reason; a WRITE of length 0 or with an
unmapped word is refused whole, whatever else is wrong in it (the order of the reasons is log 73, the model's reading), and one of the two
dead times goes to their shadows without becoming active; on a lane that does not reflect and sends nothing else, a response leaves when it
ends in time before the next header, and waits when it does not, while the blocks of a sweep or a message pass, and while the predicted
sweep would still be passing. -/
def Obligations.CellMessages : Prop :=
  (∀ (s : State) (dt : Nat) (st : Fin 48) (p : Fin 96) (down : Bool) (m : MsgFrame), (s.cellAt st p).run = true →
    (s.cellAt st p).actsOn down m 0 = true → (s.cellAt st p).mine m = true →
    let c := s.cellIn dt st p
    let addrs := (List.range (2 * m.len)).map fun k => m.addr + 4 * k
    let rsp (op : Nat) (pl : List Nat) : CcResp := ⟨!down, msgHead (c.rd CCID.POS.POS) m.tag m.addr 0x7F pl.length op, pl⟩
    ∃ t, exec (.ccMsgRead dt st p down m) s = .next t ∧ (t.cellAt st p).lastTag = some m.tag ∧ (t.cellAt st p).regs = (s.cellAt st p).regs ∧
      (m.len = 0 → (t.cellAt st p).resps = c.resps ++ [rsp 4 [3]]) ∧
      (m.len ≠ 0 → (∃ a ∈ addrs, findRow ccRows a = none) → (t.cellAt st p).resps = c.resps ++ [rsp 4 [1]]) ∧
      (m.len ≠ 0 → (∀ a ∈ addrs, findRow ccRows a ≠ none) → 0x434 ∈ addrs → (t.cellAt st p).resps = c.resps ++ [rsp 4 [4]]) ∧
      (m.len ≠ 0 → (∀ a ∈ addrs, findRow ccRows a ≠ none) → 0x434 ∉ addrs → (t.cellAt st p).resps = c.resps ++
        [rsp 2 ((List.range m.len).map fun k => c.word (m.addr + 8 * k) + c.word (m.addr + 8 * k + 4) * 4294967296)])) ∧
  (∀ (s : State) (dt : Nat) (st : Fin 48) (p : Fin 96) (down : Bool) (m : MsgFrame), (s.cellAt st p).run = true →
    (s.cellAt st p).actsOn down m 1 = true → (s.cellAt st p).mine m = true → m.dest ≠ 0x7F →
    let rsp (op : Nat) (pl : List Nat) : CcResp :=
      ⟨!down, msgHead ((s.cellAt st p).rd CCID.POS.POS) m.tag m.addr 0x7F pl.length op, pl⟩
    (m.len = 0 → ∃ t, exec (.ccMsgWrite dt st p down m) s = .next t ∧ (t.cellAt st p).regs = (s.cellAt st p).regs ∧
      (t.cellAt st p).resps = (s.cellAt st p).resps ++ [rsp 4 [3]]) ∧
    (∀ k, k < 2 * m.len → findRow ccRows (m.addr + 4 * k) = none → ∃ t, exec (.ccMsgWrite dt st p down m) s = .next t ∧
      (t.cellAt st p).regs = (s.cellAt st p).regs ∧ (t.cellAt st p).shadow = (s.cellAt st p).shadow ∧
      (t.cellAt st p).resps = (s.cellAt st p).resps ++ [rsp 4 [1]]) ∧
    ∀ b : DWord, m.addr = 0x204 → m.payload = [b] → 125 ≤ b.toNat % 4294967296 → b.toNat % 4294967296 ≤ 5000 →
      125 ≤ b.toNat / 4294967296 → b.toNat / 4294967296 ≤ 5000 → ∃ t, exec (.ccMsgWrite dt st p down m) s = .next t ∧
        (t.cellAt st p).rdShadow GATE.DEAD_RISE.TIME 0 = b.toNat % 4294967296 ∧
        (t.cellAt st p).rdShadow GATE.DEAD_FALL.TIME 0 = b.toNat / 4294967296 ∧ (t.cellAt st p).regs = (s.cellAt st p).regs ∧
        (t.cellAt st p).resps = (s.cellAt st p).resps ++ [rsp 3 []]) ∧
  ∀ (s : State) (dt : Nat) (st : Fin 48) (p : Fin 96) (r : CcResp) (rs : List CcResp), (s.cellAt st p).run = true →
    (s.cellAt st p).resps = r :: rs → (s.cellAt st p).inUse r.down = true → (s.cellAt st p).refl r.down = false →
    let bt := blockTime ((s.cellAt st p).lnk r.down).rate
    let hdr := if r.down then (s.cellAt st p).hdrX else (s.cellAt st p).hdrY
    let now := (s.vc.elapse dt).now
    ((s.cellAt st p).sendEnd r.down ≤ 5 * now → (s.cellAt st p).passEnd r.down ≤ 5 * now → hdr = none ∨ (∃ h : SweepAt, hdr = some h ∧
        (5 * (h.at_ + h.tq) + h.len + 480 ≤ 5 * now ∨ 5 * now + (r.payload.length + 6) * bt ≤ 5 * (h.at_ + h.tq))) →
      ∃ t, exec (.ccResponseSend dt st p) s = .next t ∧ (t.cellAt st p).resps = rs ∧
        Emit.ccMsg st p r.down r.m0 r.payload (msgCheck r.m0 r.payload) ∈ t.vc.out) ∧
    (5 * now < (s.cellAt st p).sendEnd r.down ∨ 5 * now < (s.cellAt st p).passEnd r.down ∨ (∃ h : SweepAt, hdr = some h ∧
        5 * now < 5 * (h.at_ + h.tq) + h.len + 480 ∧ 5 * (h.at_ + h.tq) < 5 * now + (r.payload.length + 6) * bt) →
      ∃ t, exec (.ccResponseSend dt st p) s = .next t ∧ (t.cellAt st p).toCell = (s.cellAt st p).toCell)

/-- Cell messages to every cell of a string (R192, R197, R198, R225, R226): ASSIGN on the up lane gives the position, begins a new image
load and goes on with the next position, turned back where the cell reflects; CAL_START sends 16 PROBEs down, where that link is in use, and
D is 0 from then on; FW_BLOCK is refused and counted outside BOOT, BLOCKED and FAILED_BYPASSED; there the first block after ASSIGN holds the
cell in BOOT and clears the record of blocks, each block is recorded, and the final one with a bad length ends in BAD_LENGTH, shows the
first block missing, or begins the digest check. That ASSIGN acts on the up lane alone is log 69, that it stops the watchdog's count log 68,
and that D is 0 until the measurement gives it log 76: the model's readings. -/
def Obligations.CellBroadcasts : Prop :=
  ∀ (s : State) (dt : Nat) (st : Fin 48) (p : Fin 96) (m : MsgFrame), (s.cellAt st p).run = true →
    ((s.cellAt st p).inUse false = true → m.ok = true → m.op = 5 →
      let m0 := msgHead m.src m.tag (m.addr + 1) m.dest m.len 5
      let pl := m.payload.map BitVec.toNat
      ∃ t, exec (.ccMsgAssign dt st p false m) s = .next t ∧ (t.cellAt st p).rd CCID.POS.POS = m.addr % 128 ∧
        (t.cellAt st p).rd CCID.POS.VALID = 1 ∧ (t.cellAt st p).lastSeq = none ∧ (t.cellAt st p).lastTag = none ∧
        (t.cellAt st p).armed = true ∧ (t.cellAt st p).wdogOn = false ∧
        ∀ lane, (s.cellAt st p).exit true = some lane → Emit.ccMsg st p lane m0 pl (msgCheck m0 pl) ∈ t.vc.out) ∧
    (∀ down : Bool, (s.cellAt st p).actsOn down m 6 = true → (s.cellAt st p).mine m = true ∨ m.dest = 0x7F →
      ∃ t, exec (.ccMsgCalStart dt st p down m) s = .next t ∧ (t.cellAt st p).calVals = some [] ∧
        (t.cellAt st p).rd CCTIME.LINKDLY.D = 0 ∧
        ∀ k, (s.cellAt st p).inUse true = true → k < 16 → Emit.probe (.cc st p true) (probeBlock k) ∈ t.vc.out) ∧
    ∀ down : Bool, (s.cellAt st p).actsOn down m 7 = true → (s.cellAt st p).mine m = true ∨ m.dest = 0x7F →
      (2 ≤ (s.cellAt st p).st → (s.cellAt st p).st ≠ 5 → ∃ t, exec (.ccMsgFwBlock dt st p down m) s = .next t ∧
        (t.cellAt st p).rd CCBOOT.CNT.REFUSED = sat CCBOOT.CNT.REFUSED.w ((s.cellAt st p).rd CCBOOT.CNT.REFUSED + 1) ∧
        (t.cellAt st p).img = (s.cellAt st p).img ∧ (t.cellAt st p).blks = (s.cellAt st p).blks) ∧
      ((s.cellAt st p).st < 2 ∨ (s.cellAt st p).st = 5 →
        (m.addr < 768 → 1 ≤ m.len → (s.cellAt st p).armed = true → ∃ t, exec (.ccMsgFwBlock dt st p down m) s = .next t ∧
          (t.cellAt st p).rd CCBOOT.STATUS.STATE = 1 ∧ (t.cellAt st p).armed = false ∧
          (t.cellAt st p).st = (if (s.cellAt st p).st = 5 then 5 else 0) ∧
          ∀ k, Tab.get (fun _ => false) (t.cellAt st p).blks k = decide (k = m.addr)) ∧
        (m.addr < 768 → 1 ≤ m.len → (s.cellAt st p).armed = false → (s.cellAt st p).rd CCBOOT.STATUS.STATE = 1 →
          ∃ t, exec (.ccMsgFwBlock dt st p down m) s = .next t ∧
            ∀ k, Tab.get (fun _ => false) (t.cellAt st p).blks k =
              (decide (k = m.addr) || Tab.get (fun _ => false) (s.cellAt st p).blks k)) ∧
        (m.addr = 0xFFFF → m.len = 5 → (s.cellAt st p).armed = false → (s.cellAt st p).rd CCBOOT.STATUS.STATE = 1 →
          let len := (m.payload.map BitVec.toNat).getD 4 0 % 4294967296
          let has := fun k => Tab.get (fun _ => false) (s.cellAt st p).blks k
          ∃ t, exec (.ccMsgFwBlock dt st p down m) s = .next t ∧
            (len = 0 ∨ 49152 < len → (t.cellAt st p).rd CCBOOT.STATUS.STATE = 5) ∧
            (0 < len → len ≤ 49152 → (∀ k, k < ceilDiv len 64 → has k = true) → (t.cellAt st p).rd CCBOOT.STATUS.STATE = 2 ∧
              (t.cellAt st p).rd CCBOOT.STATUS.MISSING = 0xFFFF ∧ (t.cellAt st p).imgLen = len) ∧
            ∀ n, len ≤ 49152 → n < ceilDiv len 64 → has n = false → (∀ k, k < n → has k = true) →
              (t.cellAt st p).rd CCBOOT.STATUS.STATE = 1 ∧ (t.cellAt st p).rd CCBOOT.STATUS.MISSING = n))

/-! ### The cell controller -/

/-- Resets of a cell (R223, R224, R385): a cold reset gives the state after power-up with its cause and holds the cell, with its outputs
low, and at high impedance where VDDIO is out of its range; RST_N low for less than 10 µs does nothing; on release both lanes start their
bring-up; a core reset with the key, in BOOT, BLOCKED or FAILED_BYPASSED, gives its cause, and the kept image is checked again if it ran,
while the core watchdog runs on (log 114, the model's reading); with a wrong key the write is refused, for which the core takes a store
access fault, and nothing else changes (that a refused write of the core traps is the model's reading, log 10). -/
def Obligations.CellResets : Prop :=
  ∀ (s : State) (dt : Nat) (st : Fin 48) (p : Fin 96),
    (∀ vddio : Bool, ∃ t, exec (.ccColdReset dt st p (.power vddio)) s = .next t ∧ (t.cellAt st p).toCell = {} ∧
      Emit.gatesLow st p ∈ t.vc.out ∧ (vddio = false → Emit.ccHighZ st p ∈ t.vc.out) ∧
      ((s.cellAt st p).bypOn = true → Emit.bypFire st p false ∈ t.vc.out) ∧
      ((s.cellAt st p).syncEnd.isSome = true → Emit.syncLow st p ∈ t.vc.out)) ∧
    (∀ ns, ns < 10000 → ∃ t, exec (.ccColdReset dt st p (.pin ns)) s = .next t ∧ (t.cellAt st p).toCell = (s.cellAt st p).toCell) ∧
    (∀ ns, 10000 ≤ ns → ∃ t, exec (.ccColdReset dt st p (.pin ns)) s = .next t ∧ (t.cellAt st p).run = false ∧
      (t.cellAt st p).rd CCBOOT.CAUSE.LAST = 1 ∧ (t.cellAt st p).st = 0 ∧ (t.cellAt st p).rd CCID.POS.VALID = 0) ∧
    ((s.cellAt st p).run = false → ∃ t, exec (.ccResetRelease dt st p) s = .next t ∧ (t.cellAt st p).run = true ∧
      ((t.cellAt st p).lnk false).bst = 2 ∧ ((t.cellAt st p).lnk true).bst = 2 ∧ (t.cellAt st p).st = (s.cellAt st p).st) ∧
    ((s.cellAt st p).run = true → (s.cellAt st p).coreRuns = true →
      ((s.cellAt st p).st < 2 ∨ (s.cellAt st p).st = 5 → ∃ t, exec (.coreRst dt st p 0xA55A0001#32) s = .next t ∧
        (t.cellAt st p).rd CCBOOT.CAUSE.LAST = 3 ∧ (t.cellAt st p).kickAt = (s.cellAt st p).kickAt ∧ (t.cellAt st p).core = {} ∧
        (t.cellAt st p).recheck = decide ((s.cellAt st p).rd CCBOOT.STATUS.STATE = 3)) ∧
      ∀ v : Word, bits v.toNat 31 16 ≠ 0xA55A → bit v.toNat 0 = true → ∃ t, exec (.coreRst dt st p v) s = .next t ∧
        (t.cellAt st p).toCell = { (s.cellAt st p).toCell with core := (s.cellAt st p).core.take 7 0x20000808 })

/-- The core of a cell and the test access ports (R226, R234, R236, R395): its watchdog expires after its time and, where enabled, resets
the core; KICK with the key starts it anew, and with a wrong key the core traps, with a store access fault (log 10); the TAP halts the core
of a development-grade part alone, a production-grade part's TAP answers nothing, a TAP with IDCODE shifts out its part's code, and boundary
scan is not taken while the part's reset input is high; the digest check after a load, over the image as it then stands, releases the core
or finds the image bad, and the check after a core reset lets an image that is good go on and stops one that is not. The watchdog runs on
through a core reset and a check (log 114, the model's reading). -/
def Obligations.CellCore : Prop :=
  ∀ (s : State) (dt : Nat) (st : Fin 48) (p : Fin 96), (s.cellAt st p).run = true →
    (∀ k, (s.cellAt st p).kickAt = some k →
      (k + 4000 * (s.cellAt st p).rd CCWDOG.CORE.TIMEOUT_US ≤ (s.vc.elapse dt).now → ∃ t, exec (.coreWatchdogExpiry dt st p) s = .next t ∧
        (t.cellAt st p).expired = true ∧ (t.cellAt st p).rd CCWDOG.WSTAT.EXPIRIES =
          sat CCWDOG.WSTAT.EXPIRIES.w ((s.cellAt st p).rd CCWDOG.WSTAT.EXPIRIES + 1) ∧
        (t.cellAt st p).kickAt = none ∧ ((s.cellAt st p).rd CCWDOG.CORE.EN ≠ 0 → (t.cellAt st p).rd CCBOOT.CAUSE.LAST = 2 ∧
          (t.cellAt st p).core = {})) ∧
      ((s.vc.elapse dt).now < k + 4000 * (s.cellAt st p).rd CCWDOG.CORE.TIMEOUT_US →
        ∃ t, exec (.coreWatchdogExpiry dt st p) s = .next t ∧ (t.cellAt st p).toCell = (s.cellAt st p).toCell)) ∧
    ((s.cellAt st p).coreRuns = true →
      (∀ fault : Bool, ∃ t, exec (.kick dt st p (if fault then 0x3CA50001#32 else 0x3CA50000#32)) s = .next t ∧
        (t.cellAt st p).kickAt = some (s.vc.elapse dt).now ∧ (t.cellAt st p).expired = false ∧ (t.cellAt st p).fwFault = fault) ∧
      ∀ v : Word, bits v.toNat 31 16 ≠ 0x3CA5 → ∃ t, exec (.kick dt st p v) s = .next t ∧
        (t.cellAt st p).toCell = { (s.cellAt st p).toCell with core := (s.cellAt st p).core.take 7 0x20000708 }) ∧
    (∀ halt : Bool, ∃ t, exec (.debugHalt dt st p ⟨.cell, .halt halt⟩) s = .next t ∧ (t.cellAt st p).halted =
      (if Config.devGrade (96 * st.val + p.val + 1) then halt else (s.cellAt st p).halted)) ∧
    (∀ a : TapAct, Config.devGrade (96 * st.val + p.val + 1) = false → ∃ t, exec (.debugHalt dt st p ⟨.cell, a⟩) s = .next t ∧
      t.taps = s.taps ∧ t.cells = s.cells ∧ t.vc.out = [.tdo (96 * st.val + p.val + 1) none]) ∧
    (∀ (q : TapPart) (low : Bool), (q = .cell → Config.devGrade (96 * st.val + p.val + 1) = true) →
      (∃ t, exec (.debugHalt dt st p ⟨q, .reset⟩) s = .next t ∧ (Tab.get (fun _ => {}) t.taps (tapKey q (96 * st.val + p.val))).ir = .idcode) ∧
      (∃ t, exec (.debugHalt dt st p ⟨q, .loadIr false .extest⟩) s = .next t ∧
        (Tab.get (fun _ => {}) t.taps (tapKey q (96 * st.val + p.val))).ir = .bypass ∧ t.vc.out = []) ∧
      ∀ tdi : List Bool, tdi.length = 32 → (Tab.get (fun _ => {}) s.taps (tapKey q (96 * st.val + p.val))).ir = .idcode →
        (s.vc.elapse dt).inReset = false → ∃ t, exec (.debugHalt dt st p ⟨q, .scanDr low tdi⟩) s = .next t ∧
          t.vc.out = [.tdo (tapKey q (96 * st.val + p.val)) (some ((List.range 32).map (match q with
            | .vc => 0x14608B47#32 | .cell => 0x10100B47#32 | .sc _ => 0x15100B47#32).getLsbD))]) ∧
    ∀ kept : List (Fin 49152 × Byte), (s.cellAt st p).halted = false →
      let c := kept.foldl (fun w f => w.imgSet f.1 f.2.toNat) (s.cellAt st p)
      ((s.cellAt st p).rd CCBOOT.STATUS.STATE = 2 → c.imageGood = true →
        ∃ t, exec (.sm3CheckDone dt st p kept) s = .next t ∧ (t.cellAt st p).rd CCBOOT.STATUS.STATE = 3 ∧
          (t.cellAt st p).rd CCBOOT.IMGVER.VERSION = (s.cellAt st p).imgVer % 2 ^ 32 ∧
          (t.cellAt st p).st = (if (s.cellAt st p).st = 5 then 5 else 1) ∧ (t.cellAt st p).kickAt = (s.cellAt st p).kickAt ∧
          (t.cellAt st p).held = false ∧ (t.cellAt st p).core = {}) ∧
      ((s.cellAt st p).rd CCBOOT.STATUS.STATE = 2 → c.imageGood = false →
        ∃ t, exec (.sm3CheckDone dt st p kept) s = .next t ∧ (t.cellAt st p).rd CCBOOT.STATUS.STATE = 4 ∧
          (t.cellAt st p).rd CCBOOT.IMGVER.VERSION = 0 ∧ (t.cellAt st p).st = (if (s.cellAt st p).st = 5 then 5 else 0)) ∧
      ((s.cellAt st p).rd CCBOOT.STATUS.STATE = 3 → (s.cellAt st p).recheck = true → c.imageGood = true →
        ∃ t, exec (.sm3CheckDone dt st p kept) s = .next t ∧ (t.cellAt st p).recheck = false ∧
          (t.cellAt st p).rd CCBOOT.STATUS.STATE = 3 ∧ (t.cellAt st p).st = (s.cellAt st p).st ∧ (t.cellAt st p).core = {}) ∧
      ((s.cellAt st p).rd CCBOOT.STATUS.STATE = 3 → (s.cellAt st p).recheck = true → c.imageGood = false →
        ∃ t, exec (.sm3CheckDone dt st p kept) s = .next t ∧ (t.cellAt st p).recheck = false ∧
          (t.cellAt st p).rd CCBOOT.STATUS.STATE = 4 ∧ (t.cellAt st p).rd CCBOOT.IMGVER.VERSION = 0 ∧
          (t.cellAt st p).st = (if (s.cellAt st p).st = 5 then 5 else 0))

/-- The converter (R228, R230, R231, R257, R258, R259, R260, R265): before its 500 ns are over a slot does not end; outside an open-wire
test a slot's result reaches LAST, but for a channel that the unsettled reference keeps out; a VCAP result sets the overvoltage levels,
blocks at OV2, and fires once after an unbroken 20 µs at OV3, one firing with a commanded one of the same cycle; BYP_POS finds the switch
closed or confirms a firing; channel 1 far from channel 0 sets AB_MISMATCH. -/
def Obligations.CellConversions : Prop :=
  ∀ (s : State) (dt : Nat) (st : Fin 48) (p : Fin 96) (raw : BitVec 16), (s.cellAt st p).run = true → (s.cellAt st p).adc.ow = none →
    ((s.vc.elapse dt).now < (s.cellAt st p).adc.start + 2000 * ((s.cellAt st p).adc.slot + 1) →
      ∃ t, exec (.adcSlot dt st p raw) s = .next t ∧ (t.cellAt st p).toCell = (s.cellAt st p).toCell) ∧
    ((s.cellAt st p).adc.start + 2000 * ((s.cellAt st p).adc.slot + 1) ≤ (s.vc.elapse dt).now →
    (∀ ch, ch ≤ 9 → (s.cellAt st p).adc.job = .vcap ch ∨ (s.cellAt st p).adc.job = .bg ch ∨ (s.cellAt st p).adc.job = .burst ch →
      (s.cellAt st p).unsettled ch = true → ∃ t, exec (.adcSlot dt st p raw) s = .next t ∧
        (t.cellAt st p).rd ADC.LAST.RAW ch = (s.cellAt st p).rd ADC.LAST.RAW ch ∧
        (t.cellAt st p).rd ADC.LAST.VALUE ch = (s.cellAt st p).rd ADC.LAST.VALUE ch) ∧
    (∀ ch, ch ≤ 9 → (s.cellAt st p).adc.job = .vcap ch ∨ (s.cellAt st p).adc.job = .bg ch ∨ (s.cellAt st p).adc.job = .burst ch ∨
        (∃ h, (s.cellAt st p).adc.job = .tick ch h) → (s.cellAt st p).unsettled ch = false →
      ∃ t, exec (.adcSlot dt st p raw) s = .next t ∧ (t.cellAt st p).rd ADC.LAST.RAW ch = raw.toNat ∧
        (t.cellAt st p).rd ADC.LAST.VALUE ch = (s.cellAt st p).value ch raw.toNat ∧
        (t.cellAt st p).adc.slot = (s.cellAt st p).adc.slot + 1) ∧
    ((s.cellAt st p).adc.job = .vcap 0 →
      let v := (s.cellAt st p).value 0 raw.toNat
      ∃ t, exec (.adcSlot dt st p raw) s = .next t ∧ (t.cellAt st p).adc.vcap = v ∧
        (t.cellAt st p).rd CCBYP.STATUS.OV1 = (if (s.cellAt st p).rd CCBYP.OV1.TH ≤ v then 1 else 0) ∧
        ((s.cellAt st p).rd CCBYP.OV2.TH ≤ v → (s.cellAt st p).rd CCBYP.STATUS.OV2 = 0 → (t.cellAt st p).rd CCBYP.STATUS.OV2 = 1 ∧
          (t.cellAt st p).rd GATE.STATUS.OUT = 0 ∧ (t.cellAt st p).queue = []) ∧
        (v < (s.cellAt st p).rd CCBYP.OV2.TH → v < (s.cellAt st p).rd CCBYP.OV3.TH →
          (t.cellAt st p).rd CCBYP.STATUS.OV2 = (s.cellAt st p).rd CCBYP.STATUS.OV2 ∧
          (t.cellAt st p).rd GATE.STATUS.OUT = (s.cellAt st p).rd GATE.STATUS.OUT ∧ (t.cellAt st p).ov3Since = none) ∧
        ((s.cellAt st p).rd CCBYP.OV3.TH ≤ v → (s.cellAt st p).ov3Since = none → (∀ q ∈ (s.cellAt st p).queue.head?, q.eff / 16 ≠ (s.cellIn dt st p).cycle) →
          (t.cellAt st p).ov3Since = some (s.vc.elapse dt).now ∧ (t.cellAt st p).bypOn = (s.cellAt st p).bypOn) ∧
        ∀ t0, (s.cellAt st p).rd CCBYP.OV3.TH ≤ v → (s.cellAt st p).ov3Since = some t0 → t0 + 80000 < (s.vc.elapse dt).now →
          (s.cellAt st p).ov3Fired = false → (t.cellAt st p).rd CCBYP.STATUS.CAUSE_LOCAL = 1 ∧ (t.cellAt st p).ov3Fired = true ∧
          ((s.cellIn dt st p).firesNow = false → (t.cellAt st p).st = 5 ∧ (t.cellAt st p).rd CCBYP.STATUS.FIRED = 1 ∧
            (t.cellAt st p).bypOn = true ∧ (t.cellAt st p).rd GATE.STATUS.OUT = 0)) ∧
    ((s.cellAt st p).adc.job = .bg 6 → (s.cellAt st p).rd CCBYP.BYPTH.TH ≤ raw.toNat →
      ((s.cellAt st p).rd CCBYP.STATUS.FIRED = 0 → ∃ t, exec (.adcSlot dt st p raw) s = .next t ∧ (t.cellAt st p).st = 5 ∧
        (t.cellAt st p).rd CCBYP.STATUS.FIRED = 1 ∧ (t.cellAt st p).rd CCBYP.STATUS.CAUSE_EXT = 1 ∧
        (t.cellAt st p).rd GATE.STATUS.OUT = 0) ∧
      ∀ t0, (s.cellAt st p).rd CCBYP.STATUS.FIRED = 1 → (s.cellAt st p).fireAt = some t0 →
        (s.vc.elapse dt).now ≤ t0 + 4000000 * (s.cellAt st p).rd CCBYP.CFG.CONFIRM_MS →
        ∃ t, exec (.adcSlot dt st p raw) s = .next t ∧ (t.cellAt st p).rd CCBYP.STATUS.CONFIRMED = 1) ∧
    ((s.cellAt st p).adc.job = .bg 1 →
      let a := (s.cellAt st p).rd ADC.LAST.VALUE 0
      let v := (s.cellAt st p).value 1 raw.toNat
      (s.cellAt st p).rd ADC.AB_DIFF.DIFF < max a v - min a v →
      ∃ t, exec (.adcSlot dt st p raw) s = .next t ∧ (t.cellAt st p).rd ADC.STATUS.AB_MISMATCH = 1))

/-- Samples, the reference, open-wire tests, the result queue and the core's writes (R222, R259, R260, R261, R263, R264, R266): the tick
sample is held SAMPLE_LEAD before its instant and not before; the reference is settled after 150 µs; a settling time makes a conversion due
or gives the verdict; OWCTL.GO starts a test, from which on a slot of channel 0 not yet sampled takes VCAP_B, or is refused, for which the
core traps; QPOP gives the oldest entry or 0; a write of AB_DIFF stores it; a write to an unmapped address traps in the core and changes
nothing else; a core that does not run writes nothing. That a refused write traps is log 10, that a core which does not run neither writes
nor pops log 79: the model's readings. -/
def Obligations.CellMeasurements : Prop :=
  ∀ (s : State) (dt : Nat) (st : Fin 48) (p : Fin 96), (s.cellAt st p).run = true →
    (∀ t0 e tq, (s.cellIn dt st p).nextInst = some t0 → (s.cellAt st p).grid = some (e, tq) → (s.cellAt st p).ticking = true →
      (s.cellAt st p).rd ADC.CFG.SAMPLE_LEAD < tq → (s.cellAt st p).adc.heldFor ≠ some t0 →
      (t0 ≤ (s.cellIn dt st p).time + (s.cellAt st p).rd ADC.CFG.SAMPLE_LEAD → ∃ t, exec (.tickSampleHold dt st p) s = .next t ∧
        (t.cellAt st p).adc.tickPend = some ((s.cellAt st p).vcapCh, (s.vc.elapse dt).now) ∧ (t.cellAt st p).adc.heldFor = some t0) ∧
      ((s.cellIn dt st p).time + (s.cellAt st p).rd ADC.CFG.SAMPLE_LEAD < t0 → ∃ t, exec (.tickSampleHold dt st p) s = .next t ∧
        (t.cellAt st p).toCell = (s.cellAt st p).toCell)) ∧
    ((s.cellAt st p).rd ADC.REFCTL.BUF_EN = 1 → (s.cellAt st p).adc.bufSince + 600000 ≤ (s.vc.elapse dt).now →
      ∃ t, exec (.refSettled dt st p) s = .next t ∧ (t.cellAt st p).rd ADC.REFCTL.SETTLED = 1) ∧
    (∀ x : OwTest, (s.cellAt st p).adc.ow = some x → x.due = none → x.since + x.s ≤ (s.vc.elapse dt).now →
      (x.step < 3 → ∃ t, exec (.openWireSettle dt st p) s = .next t ∧
        (t.cellAt st p).adc.ow = some { x with due := some (s.vc.elapse dt).now }) ∧
      (3 ≤ x.step → x.ch < 4 → ∃ t, exec (.openWireSettle dt st p) s = .next t ∧ (t.cellAt st p).adc.ow = none ∧
        (t.cellAt st p).rd ADC.OWSTAT.BUSY = 0 ∧ bit ((t.cellAt st p).rd ADC.OWSTAT.TESTED) x.ch = true ∧
        bit ((t.cellAt st p).rd ADC.OWSTAT.OPEN) x.ch = decide ((s.cellAt st p).rd ADC.OWDELTA.DELTA + x.rpd ≤ x.rpu))) ∧
    ((s.cellAt st p).coreRuns = true →
      (∀ (ch : Fin 4) (settle : Nat) (v : Word), 1 ≤ settle → settle ≤ 255 → v.toNat = 0x80000000 + settle * 256 + ch.val →
        ((s.cellAt st p).owRefused ch = false → ∃ t, exec (.openWireTest dt st p v) s = .next t ∧ (t.cellAt st p).rd ADC.OWSTAT.BUSY = 1 ∧
          (t.cellAt st p).adc.ow = some { ch := ch, step := 1, since := (s.vc.elapse dt).now, s := settle * 40000, from_ := (s.vc.elapse dt).now } ∧
          (ch.val = 0 → (s.cellAt st p).adc.job = .vcap 0 → (s.vc.elapse dt).now ≤ (s.cellAt st p).sampleAt → (t.cellAt st p).adc.job = .vcap 1)) ∧
        ((s.cellAt st p).owRefused ch = true → ∃ t, exec (.openWireTest dt st p v) s = .next t ∧
          (t.cellAt st p).rd ADC.OWSTAT.REFUSED = 1 ∧ (t.cellAt st p).adc.ow = (s.cellAt st p).adc.ow ∧
          (t.cellAt st p).core = (s.cellAt st p).core.take 7 0x2000041C)) ∧
      (∀ e es, (s.cellAt st p).adc.queue = e :: es → ∃ t, exec (.qpopRead dt st p) s = .next t ∧ (t.cellAt st p).adc.queue = es ∧
        Emit.ccRead st p e.word ∈ t.vc.out) ∧
      ((s.cellAt st p).adc.queue = [] → ∃ t, exec (.qpopRead dt st p) s = .next t ∧ (t.cellAt st p).adc.queue = [] ∧
        Emit.ccRead st p 0 ∈ t.vc.out) ∧
      (∀ v : Word, v.toNat < 65536 → ∃ t, exec (.cellCoreRegisterWrite dt st p 0x414#16 v) s = .next t ∧
        (t.cellAt st p).rd ADC.AB_DIFF.DIFF = v.toNat) ∧
      ∀ (a : BitVec 16) (v : Word), findRow ccRows a.toNat = none → ∃ t, exec (.cellCoreRegisterWrite dt st p a v) s = .next t ∧
        (t.cellAt st p).toCell = { (s.cellAt st p).toCell with core := (s.cellAt st p).core.take 7 (0x20000000 + a.toNat) }) ∧
    ((s.cellAt st p).coreRuns = false → ∀ (a : BitVec 16) (v : Word), ∃ t, exec (.cellCoreRegisterWrite dt st p a v) s = .next t ∧
      (t.cellAt st p).toCell = (s.cellAt st p).toCell)

/-- The rest of a firing (R230): BYP_FIRE ends after PULSE_MS and not before; after CONFIRM_MS UNCONFIRMED is set unless the firing is
confirmed. -/
def Obligations.CellFiringTimes : Prop :=
  ∀ (s : State) (dt : Nat) (st : Fin 48) (p : Fin 96) (t0 : Nat), (s.cellAt st p).run = true → (s.cellAt st p).fireAt = some t0 →
    ((s.cellAt st p).bypOn = true → t0 + 4000000 * (s.cellAt st p).rd CCBYP.CFG.PULSE_MS ≤ (s.vc.elapse dt).now →
      ∃ t, exec (.bypFirePulseEnd dt st p) s = .next t ∧ (t.cellAt st p).bypOn = false ∧ Emit.bypFire st p false ∈ t.vc.out) ∧
    ((s.vc.elapse dt).now < t0 + 4000000 * (s.cellAt st p).rd CCBYP.CFG.PULSE_MS → ∃ t, exec (.bypFirePulseEnd dt st p) s = .next t ∧
      (t.cellAt st p).toCell = (s.cellAt st p).toCell) ∧
    (t0 + 4000000 * (s.cellAt st p).rd CCBYP.CFG.CONFIRM_MS ≤ (s.vc.elapse dt).now →
      ((s.cellAt st p).rd CCBYP.STATUS.CONFIRMED = 0 → ∃ t, exec (.bypassConfirmTimeout dt st p) s = .next t ∧
        (t.cellAt st p).rd CCBYP.STATUS.UNCONFIRMED = 1) ∧
      ((s.cellAt st p).rd CCBYP.STATUS.CONFIRMED = 1 → ∃ t, exec (.bypassConfirmTimeout dt st p) s = .next t ∧
        (t.cellAt st p).toCell = (s.cellAt st p).toCell))

/-- Gate edges, turn-ons and short states (R237, R239, R240, R241, R243, R244, R246): an edge that has come, with no turn-on decision open,
changes the state and turns off what its pattern does not hold, and what the pattern adds is pending for the later of the edge and the
pair's last turn-off plus the dead time; a pending output turns on at its time and not before. An edge that comes before the turn-on
decision, or one that would end a state within MINPULSE of its turn-on, is moved with STRETCH, and with DROP the state's turn-ons are
cancelled; each is counted. An edge placed at or before a moved one changes that one's state with EDGE_EMPTY, and one that ends within
MINPULSE a state whose end was not known is moved with MP_FORCED. With no edge of its output near, a delay line calibrated beside the one in
use becomes the line in use, or fails outside 24 to 44, and with a line failed neither is calibrated. -/
def Obligations.GateTiming : Prop :=
  ∀ (s : State) (dt : Nat) (st : Fin 48) (p : Fin 96), (s.cellAt st p).run = true →
    (∀ (x : Edge) (xs : List Edge), (s.cellAt st p).gate.edges = x :: xs → (s.cellAt st p).turnOnBefore x.at_ = false →
      (x.at_ ≤ (s.cellIn dt st p).time → (s.cellAt st p).gate.tOn = none → x.st ≠ (s.cellAt st p).st → 1 ≤ x.st → x.st ≤ 5 →
        ∃ t, exec (.gateEdge dt st p) s = .next t ∧ (t.cellAt st p).st = x.st ∧ (t.cellAt st p).gate.edges = xs ∧
          (∀ k, k < 4 → bit ((t.cellAt st p).rd GATE.STATUS.OUT) k =
            (bit ((s.cellAt st p).rd GATE.STATUS.OUT) k && bit ((s.cellAt st p).pattern x.st) k)) ∧
          (∀ k, k < 4 → bit ((s.cellAt st p).pattern x.st) k = true → bit ((s.cellAt st p).rd GATE.STATUS.OUT) k = false →
            ∃ e ∈ (t.cellAt st p).gate.pend, e.1 = k) ∧
          ∀ e ∈ (t.cellAt st p).gate.pend, bit ((s.cellAt st p).pattern x.st) e.1 = true ∧
            bit ((s.cellAt st p).rd GATE.STATUS.OUT) e.1 = false ∧
            let pair := if e.1 < 2 then [0, 1] else [2, 3]
            let off := if pair.any fun j => bit ((s.cellAt st p).rd GATE.STATUS.OUT) j && !bit ((s.cellAt st p).pattern x.st) j then x.at_
              else if e.1 < 2 then (s.cellAt st p).gate.tOffA else (s.cellAt st p).gate.tOffB
            e.2 = max x.at_ (off + (s.cellAt st p).dead e.1)) ∧
      (∀ t0, x.at_ ≤ (s.cellIn dt st p).time → (s.cellAt st p).gate.tOn = some t0 →
        ((s.cellAt st p).stretches = true → ∃ t, exec (.gateEdge dt st p) s = .next t ∧ (t.cellAt st p).st = (s.cellAt st p).st ∧
          (t.cellAt st p).gate.edges = { x with at_ := t0 + (s.cellAt st p).minPulse, moved := true } :: xs ∧
          (t.cellAt st p).gate.pend = (s.cellAt st p).gate.pend ∧ (t.cellAt st p).rd GATE.EVSTAT.MP_STRETCH = 1 ∧
          (t.cellAt st p).rd GATE.MPCNT.STRETCHES = sat GATE.MPCNT.STRETCHES.w ((s.cellAt st p).rd GATE.MPCNT.STRETCHES + 1)) ∧
        ((s.cellAt st p).stretches = false → x.st ≠ (s.cellAt st p).st → 1 ≤ x.st → x.st ≤ 5 → ∃ t, exec (.gateEdge dt st p) s = .next t ∧
          (t.cellAt st p).st = x.st ∧ (t.cellAt st p).gate.edges = xs ∧ (t.cellAt st p).rd GATE.EVSTAT.MP_DROP = 1 ∧
          (t.cellAt st p).rd GATE.MPCNT.DROPS = sat GATE.MPCNT.DROPS.w ((s.cellAt st p).rd GATE.MPCNT.DROPS + 1) ∧
          ∀ e ∈ (t.cellAt st p).gate.pend, bit ((s.cellAt st p).pattern x.st) e.1 = true)) ∧
      ((s.cellIn dt st p).time < x.at_ → ∃ t, exec (.gateEdge dt st p) s = .next t ∧
        (t.cellAt st p).toCell = (s.cellAt st p).toCell)) ∧
    (∀ k t0, firstPend (s.cellAt st p).gate.pend = some (k, t0) → k < 4 →
      (t0 ≤ (s.cellIn dt st p).time → ((s.cellAt st p).gate.edges.any fun x => decide (x.at_ < t0)) = false →
        (s.cellAt st p).gate.tOn ≠ some t0 → ∃ t, exec (.gateTurnOn dt st p) s = .next t ∧
          bit ((t.cellAt st p).rd GATE.STATUS.OUT) k = true ∧ (t.cellAt st p).st = (s.cellAt st p).st ∧
          (t.cellAt st p).gate.pend = (s.cellAt st p).gate.pend.filter (· ≠ (k, t0))) ∧
      (∀ (x : Edge) (xs : List Edge), (s.cellAt st p).gate.edges = x :: xs → t0 ≤ (s.cellIn dt st p).time →
        ((s.cellAt st p).gate.edges.any fun x => decide (x.at_ < t0)) = false → (s.cellAt st p).gate.tOn = some t0 → x.st ≠ 1 →
        ((s.cellAt st p).isShort t0 x.at_ = false → ∃ t, exec (.gateTurnOn dt st p) s = .next t ∧
          bit ((t.cellAt st p).rd GATE.STATUS.OUT) k = true ∧ (t.cellAt st p).gate.edges = x :: xs ∧ (t.cellAt st p).gate.tOn = none) ∧
        ((s.cellAt st p).isShort t0 x.at_ = true → (s.cellAt st p).stretches = true → ∃ t, exec (.gateTurnOn dt st p) s = .next t ∧
          bit ((t.cellAt st p).rd GATE.STATUS.OUT) k = true ∧ (t.cellAt st p).rd GATE.EVSTAT.MP_STRETCH = 1 ∧
          (t.cellAt st p).gate.edges = { x with at_ := t0 + (s.cellAt st p).minPulse, moved := true } :: xs ∧
          (t.cellAt st p).rd GATE.MPCNT.STRETCHES = sat GATE.MPCNT.STRETCHES.w ((s.cellAt st p).rd GATE.MPCNT.STRETCHES + 1)) ∧
        ((s.cellAt st p).isShort t0 x.at_ = true → (s.cellAt st p).stretches = false → ∃ t, exec (.gateTurnOn dt st p) s = .next t ∧
          (t.cellAt st p).rd GATE.STATUS.OUT = (s.cellAt st p).rd GATE.STATUS.OUT ∧ (t.cellAt st p).gate.pend = [] ∧
          (t.cellAt st p).gate.edges = x :: xs ∧ (t.cellAt st p).rd GATE.EVSTAT.MP_DROP = 1 ∧
          (t.cellAt st p).rd GATE.MPCNT.DROPS = sat GATE.MPCNT.DROPS.w ((s.cellAt st p).rd GATE.MPCNT.DROPS + 1))) ∧
      ((s.cellIn dt st p).time < t0 → ∃ t, exec (.gateTurnOn dt st p) s = .next t ∧
        (t.cellAt st p).toCell = (s.cellAt st p).toCell)) ∧
    (∀ (q : QCmd) (qs : List QCmd) (t0 : Nat), (s.cellIn dt st p).nextInst = some t0 → (s.cellIn dt st p).grid.isSome = true →
      t0 ≤ (s.cellIn dt st p).time → (s.cellAt st p).queue = q :: qs → q.eff ≤ t0 → q.load = none → bit q.word 25 = false →
      bits q.word 47 44 = 1 → bits q.word 43 30 < q.tq → (s.cellAt st p).st ≠ 0 → (s.cellAt st p).st ≠ 5 →
      (s.cellAt st p).tripped = false → (s.cellAt st p).ov2 = false →
      (∀ (x : Edge) (xs : List Edge), (s.cellAt st p).gate.edges = xs ++ [x] → x.moved = true → x.st ≠ 3 →
        q.eff + bits q.word 43 30 ≤ x.at_ → ∃ t, exec (.cellTickInstant dt st p) s = .next t ∧
          (t.cellAt st p).gate.edges = xs ++ [{ x with st := 3 }] ∧ (t.cellAt st p).rd GATE.EVSTAT.EDGE_EMPTY = 1) ∧
      ∀ u, (s.cellAt st p).gate.edges = [] → (s.cellAt st p).gate.movedTo = none → (s.cellAt st p).gate.unknown = some u →
        (s.cellAt st p).st ≠ 3 → ∃ t, exec (.cellTickInstant dt st p) s = .next t ∧ (t.cellAt st p).gate.unknown = none ∧
          ((s.cellAt st p).isShort u (q.eff + bits q.word 43 30) = false →
            (t.cellAt st p).gate.edges = [⟨q.eff + bits q.word 43 30, 3, false⟩]) ∧
          ((s.cellAt st p).isShort u (q.eff + bits q.word 43 30) = true →
            (t.cellAt st p).gate.edges = [⟨u + (s.cellAt st p).minPulse, 3, true⟩] ∧ (t.cellAt st p).rd GATE.EVSTAT.MP_FORCED = 1 ∧
            (t.cellAt st p).rd GATE.EVSTAT.MP_STRETCH = 1)) ∧
    (∀ (k : Fin 4) (m : Nat), (s.cellAt st p).rd GATE.DLSTAT.FAIL_A k ≠ 0 ∨ (s.cellAt st p).rd GATE.DLSTAT.FAIL_B k ≠ 0 →
      ∃ t, exec (.delayLineCalibration dt st p k m) s = .next t ∧ (t.cellAt st p).toCell = (s.cellAt st p).toCell) ∧
    ∀ (k : Fin 4) (m : Nat), (s.cellAt st p).rd GATE.DLSTAT.FAIL_A k = 0 → (s.cellAt st p).rd GATE.DLSTAT.FAIL_B k = 0 →
      Tab.get (fun _ => 0) (s.cellAt st p).gate.calAt k + 4000000 ≤ (s.vc.elapse dt).now →
      ((s.cellIn dt st p).edgeNear k = true → ∃ t, exec (.delayLineCalibration dt st p k m) s = .next t ∧
        (t.cellAt st p).toCell = (s.cellAt st p).toCell) ∧
      ((s.cellIn dt st p).edgeNear k = false →
      ((s.cellAt st p).rd GATE.DLSTAT.LINE k = 1 → ∃ t, exec (.delayLineCalibration dt st p k m) s = .next t ∧
        (t.cellAt st p).rd GATE.DLSTAT.M_A k = m % 64 ∧
        (24 ≤ m → m ≤ 44 → (t.cellAt st p).rd GATE.DLSTAT.LINE k = 0 ∧ (t.cellAt st p).rd GATE.DLSTAT.FAIL_A k = 0) ∧
        (m < 24 ∨ 44 < m → (t.cellAt st p).rd GATE.DLSTAT.LINE k = 1 ∧ (t.cellAt st p).rd GATE.DLSTAT.FAIL_A k = 1 ∧
          (t.cellAt st p).rd GATE.EVSTAT.DL_FAIL = 1)) ∧
      ((s.cellAt st p).rd GATE.DLSTAT.LINE k = 0 →
      ∃ t, exec (.delayLineCalibration dt st p k m) s = .next t ∧ (t.cellAt st p).rd GATE.DLSTAT.M_B k = m % 64 ∧
        (24 ≤ m → m ≤ 44 → (t.cellAt st p).rd GATE.DLSTAT.LINE k = 1 ∧ (t.cellAt st p).rd GATE.DLSTAT.FAIL_B k = 0) ∧
        (m < 24 ∨ 44 < m → (t.cellAt st p).rd GATE.DLSTAT.LINE k = 0 ∧ (t.cellAt st p).rd GATE.DLSTAT.FAIL_B k = 1 ∧
          (t.cellAt st p).rd GATE.EVSTAT.DL_FAIL = 1)))

/-- Trips (R248 to R253): an enabled level input that becomes active latches, turns the outputs off and empties the queue; one that is not
enabled changes its pin alone; a desaturation input still active when its blanking is over latches, one that is not does nothing; a clear
with the key clears what is neither active nor latched within the 40 ns before (an edge still in the filter is not known to it: log 115, the
model's choice), and with a wrong key the write is refused, for which the core takes a store access fault (the model's reading, log 10). A
command whose EFF_VT lies in the cycle of a trip is R253's and not of the first clauses. -/
def Obligations.Trips : Prop :=
  ∀ (s : State) (dt : Nat) (st : Fin 48) (p : Fin 96), (s.cellAt st p).run = true →
    (∀ (i : Fin 6) (level : Bool), bit (s.cellAt st p).pins i ≠ level →
      ((s.cellAt st p).rd TRIP.TCFG.EN i = 0 → ∃ t, exec (.tripInput dt st p i level) s = .next t ∧ bit (t.cellAt st p).pins i = level ∧
        (t.cellAt st p).regs = (s.cellAt st p).regs ∧ (t.cellAt st p).queue = (s.cellAt st p).queue) ∧
      ((s.cellAt st p).rd TRIP.TCFG.EN i = 1 → level = decide ((s.cellAt st p).rd TRIP.TCFG.ACT_LOW i = 0) →
        (s.cellAt st p).rd TRIP.TCFG.TYPE i = 0 → bit ((s.cellAt st p).rd TRIP.LATCH.LATCHED) i = false → (∀ q ∈ (s.cellAt st p).queue.head?, q.eff / 16 ≠ (s.cellIn dt st p).cycle) →
        ∃ t, exec (.tripInput dt st p i level) s = .next t ∧ bit ((t.cellAt st p).rd TRIP.LATCH.LATCHED) i = true ∧
          (t.cellAt st p).rd GATE.STATUS.OUT = 0 ∧ (t.cellAt st p).queue = [] ∧ (t.cellAt st p).rd TRIP.TSTAT.TRIPPED = 1 ∧
          (t.cellAt st p).rd TRIP.TRIPCNT.TRIPS = sat TRIP.TRIPCNT.TRIPS.w ((s.cellAt st p).rd TRIP.TRIPCNT.TRIPS + 1) ∧
          (t.cellAt st p).st = (if (s.cellAt st p).st = 0 ∨ (s.cellAt st p).st = 5 then (s.cellAt st p).st else 1) ∧
          ((s.cellAt st p).rd TRIP.LATCH.LATCHED = 0 → (t.cellAt st p).rd TRIP.TSTAT.FIRST = i.val))) ∧
    (∀ i : Fin 6,
      ((s.cellAt st p).rd TRIP.TCFG.EN i = 1 → (s.cellAt st p).active i = true → (s.cellAt st p).rd TRIP.TCFG.TYPE i = 1 →
        bit (s.cellIn dt st p).gateBefore.2 ((s.cellAt st p).rd TRIP.TCFG.OUTSEL i) = true →
        (s.cellIn dt st p).blanked ((s.cellAt st p).rd TRIP.TCFG.OUTSEL i) = false →
        bit ((s.cellAt st p).rd TRIP.LATCH.LATCHED) i = false → (∀ q ∈ (s.cellAt st p).queue.head?, q.eff / 16 ≠ (s.cellIn dt st p).cycle) →
        ∃ t, exec (.desatBlankingEnd dt st p i) s = .next t ∧ bit ((t.cellAt st p).rd TRIP.LATCH.LATCHED) i = true ∧
          (t.cellAt st p).rd GATE.STATUS.OUT = 0) ∧
      ((s.cellAt st p).active i = false → ∃ t, exec (.desatBlankingEnd dt st p i) s = .next t ∧
        (t.cellAt st p).toCell = (s.cellAt st p).toCell)) ∧
    ((s.cellAt st p).coreRuns = true →
      (∃ t, exec (.tripClear dt st p 0x5AC30001#32) s = .next t ∧
        (∀ i, i < 6 → bit ((t.cellAt st p).rd TRIP.LATCH.LATCHED) i =
          (bit ((s.cellAt st p).rd TRIP.LATCH.LATCHED) i && ((s.cellAt st p).active i ||
            (Tab.get (fun _ => none) (s.cellAt st p).latchAt i).any fun a => decide ((s.cellIn dt st p).time < a + 160)))) ∧
        (∀ i, i < 6 → bit ((s.cellAt st p).rd TRIP.LATCH.LATCHED) i = true → (s.cellAt st p).active i = true →
          (t.cellAt st p).rd TRIP.TSTAT.TRIP_PERSIST = 1) ∧
        ((s.cellAt st p).adc.vcap < (s.cellAt st p).rd CCBYP.OV2.TH → (s.cellAt st p).ov2Cyc ≠ some (s.cellIn dt st p).cycle →
          (t.cellAt st p).rd CCBYP.STATUS.OV2 = 0) ∧
        (t.cellAt st p).st = (s.cellAt st p).st) ∧
      ∀ v : Word, bits v.toNat 31 16 ≠ 0x5AC3 → bit v.toNat 0 = true → ∃ t, exec (.tripClear dt st p v) s = .next t ∧
        (t.cellAt st p).toCell = { (s.cellAt st p).toCell with core := (s.cellAt st p).core.take 7 0x20000324 })

/-! ### Valve time -/

/-- Sync and Follow_Up (R272 to R276): a two-step Sync of the selected master waits for its Follow_Up; a complete one, while meanLinkDelay
of the port is valid, gives OFFSET and is counted, and from LISTEN or HOLDOVER it steps, waits, tracks or refuses; in TRACK it steers within
200 ppm, steps, waits or refuses; one that PTP does not take, or not of the selected master, does no more than show the link up (log 48). -/
def Obligations.PtpSyncs : Prop :=
  ∀ (s : State) (dt : Nat) (m : PtpMsg), s.vc.inReset = false →
    let v := s.vc.elapse dt
    let guardU := s.vc.rd TIME.STEPGUARD.NS * uNs
    (v.ptpTakes m = false ∨ v.fromMaster m = false → (∃ t, exec (.ptpSync dt m) s = .next t ∧ t.vc = v.heard m.port) ∧
      ∃ t, exec (.ptpFollowUp dt m) s = .next t ∧ t.vc = v.heard m.port) ∧
    (v.ptpTakes m = true → v.fromMaster m = true → -3 ≤ m.interval.toInt → m.interval.toInt ≤ 0 →
      (m.twoStep = true → ∃ t, exec (.ptpSync dt m) s = .next t ∧ t.vc.regs = s.vc.regs ∧ t.vc.time.lastSync = v.now ∧
        t.vc.time.syncPend = some (m.seq.toNat, (v.ingress m).toNat, ptpCorr m)) ∧
      (m.twoStep = false → s.vc.rd TPORT.PSTAT.PDV (s.vc.rd TIME.CFG.PORT) = 0 → ∃ t, exec (.ptpSync dt m) s = .next t ∧
        t.vc.regs = s.vc.regs ∧ t.vc.time.lastSync = v.now) ∧
      (m.twoStep = false → s.vc.rd TPORT.PSTAT.PDV (s.vc.rd TIME.CFG.PORT) = 1 →
        let o := v.ingress m - (ptpTime m + ptpCorr m + s.vc.time.mld (s.vc.rd TIME.CFG.PORT))
        ∃ t, exec (.ptpSync dt m) s = .next t ∧ t.vc.rd TIME.OFFSET.OFFSET = satSigned 32 (rnDiv o uNs) ∧
          t.vc.rd TPORT.SYNCCNT.SYNCCNT (s.vc.rd TIME.CFG.PORT) =
            sat TPORT.SYNCCNT.SYNCCNT.w (s.vc.rd TPORT.SYNCCNT.SYNCCNT (s.vc.rd TIME.CFG.PORT) + 1) ∧
          (s.vc.servo = 1 ∨ s.vc.servo = 4 → s.vc.rd TIME.STATUS.STEP_ARM = 0 → o.natAbs ≤ guardU → t.vc.servo = 3 ∧
            t.vc.vt = v.vt) ∧
          (s.vc.servo = 1 ∨ s.vc.servo = 3 ∨ s.vc.servo = 4 → s.vc.rd TIME.STATUS.STEP_ARM = 0 → guardU < o.natAbs → t.vc.servo = 5 ∧
            t.vc.rd TIME.ERRSTAT.JUMP_REFUSED = 1 ∧ t.vc.rd TIME.REFUSED_NS.REFUSED_NS = satSigned 32 (rnDiv o uNs) ∧
            t.vc.rd TIME.STATUS.LOCKED = 0 ∧ t.vc.vt = v.vt) ∧
          (s.vc.servo = 1 ∨ s.vc.servo = 3 ∨ s.vc.servo = 4 → s.vc.rd TIME.STATUS.STEP_ARM = 1 → s.vc.stepFree = true →
            t.vc.servo = 3 ∧ t.vc.vt = unsigned 64 ((v.vt : Int) - rnDiv o uVt) ∧ t.vc.rd TIME.ERRSTAT.STEP_DONE = 1 ∧
            t.vc.rd TIME.STATUS.STEP_ARM = 0) ∧
          (s.vc.servo = 1 ∨ s.vc.servo = 3 ∨ s.vc.servo = 4 → s.vc.rd TIME.STATUS.STEP_ARM = 1 → s.vc.stepFree = false →
            t.vc.servo = 2 ∧ t.vc.rd TIME.ERRSTAT.STEP_HELD = 1 ∧ t.vc.time.stepDue = o ∧ t.vc.vt = v.vt) ∧
          ∀ q : Int, s.vc.servo = 3 → s.vc.rd TIME.STATUS.STEP_ARM = 0 → o.natAbs ≤ guardU → s.vc.time.prevTime = some q →
            q < ptpTime m + ptpCorr m →
            let part (k : Nat) : Int := rnDiv (o * 281474976710656) ((ptpTime m + ptpCorr m - q).toNat * 2 ^ k)
            let r := s.vc.time.integral - part (s.vc.rd TIME.CFG.KI) - part (s.vc.rd TIME.CFG.KP)
            t.vc.servo = 3 ∧ t.vc.rd TIME.RATE.RATE = unsigned 64 (min (max r (-rateMax)) rateMax) ∧
            (r < -rateMax ∨ rateMax < r → t.vc.rd TIME.ERRSTAT.RATE_LIMIT = 1))) ∧
    ∀ (q : Nat) (rx corr : Int), v.ptpTakes m = true → v.fromMaster m = true → s.vc.time.syncPend = some (q, rx.toNat, corr) → 0 ≤ rx →
      q = m.seq.toNat → s.vc.rd TPORT.PSTAT.PDV (s.vc.rd TIME.CFG.PORT) = 1 → ∃ t, exec (.ptpFollowUp dt m) s = .next t ∧
        t.vc.rd TIME.OFFSET.OFFSET = satSigned 32 (rnDiv (rx - (ptpTime m + ptpCorr m + corr + s.vc.time.mld (s.vc.rd TIME.CFG.PORT))) uNs)

/-- Announce messages and the losses of a master (R272, R276, R277): a second Announce in time qualifies the only master heard; another
grandmaster while one is followed, no Sync for three intervals, or no Announce in ANN_TO intervals go to HOLDOVER with RATE held, and with
none followed the silent master is dropped; a master that is followed and no longer selected is lost in the same way. Which of two masters
is the better is log 40, that the selected one may lead until its Announces are late log 91: the model's readings of IEEE 1588. Peer delay
(R272, R277): a request goes out with its number, and an older one without its response counts as failed; one that comes is answered in two
steps; a response within a second gives meanLinkDelay; a second without one is a failure, and the third in a row ends its validity. A frame
on a port shows its link up (log 48, the model's choice). -/
def Obligations.PtpMastersAndPeers : Prop :=
  ((∀ (s : State) (dt : Nat) (m : PtpMsg) (g : GmData), s.vc.inReset = false → (s.vc.elapse dt).ptpTakes m = true →
    ∃ t, exec (.ptpAnnounce dt m g) s = .next t ∧
      (∃ f ∈ t.vc.time.foreign, f.clock = m.clock.toNat ∧ f.portNo = m.portNo.toNat ∧ f.gm = g ∧ f.last = (s.vc.elapse dt).now ∧
        f.every = interval m.interval) ∧
      ∀ f0, s.vc.time.foreign = [f0] → f0.clock = m.clock.toNat → f0.portNo = m.portNo.toNat →
        (s.vc.elapse dt).now ≤ f0.last + 4 * interval m.interval →
        t.vc.time.master = some (m.clock.toNat, m.portNo.toNat, g.id.toNat) ∧ t.vc.rd TIME.GMID.ID = g.id.toNat ∧
        t.vc.time.gm = some g.id.toNat ∧
        (∀ i, s.vc.time.gm = some i → i ≠ g.id.toNat → s.vc.servo = 2 ∨ s.vc.servo = 3 ∨ s.vc.servo = 5 →
          t.vc.servo = 4 ∧ t.vc.rd TIME.ERRSTAT.MASTER_CHANGE = 1 ∧ t.vc.rd TIME.ERRSTAT.HOLDOVER = 1 ∧
          t.vc.rd TIME.RATE.RATE = s.vc.rd TIME.RATE.RATE)) ∧
  (∀ (s : State) (dt : Nat), s.vc.inReset = false → s.vc.servo = 2 ∨ s.vc.servo = 3 ∨ s.vc.servo = 5 →
    s.vc.time.lastSync + 3 * s.vc.time.syncEvery ≤ (s.vc.elapse dt).now → ∃ t, exec (.ptpSyncTimeout dt) s = .next t ∧ t.vc.servo = 4 ∧
      t.vc.rd TIME.ERRSTAT.SYNC_LOSS = 1 ∧ t.vc.rd TIME.ERRSTAT.HOLDOVER = 1 ∧ t.vc.rd TIME.STATUS.LOCKED = 0 ∧
      t.vc.rd TIME.RATE.RATE = s.vc.rd TIME.RATE.RATE) ∧
  (∀ (s : State) (dt : Nat), s.vc.inReset = false → s.vc.servo = 2 ∨ s.vc.servo = 3 ∨ s.vc.servo = 5 → s.vc.time.master = none →
    s.vc.time.annAt + s.vc.rd TIME.CFG.ANN_TO * s.vc.time.annEvery ≤ (s.vc.elapse dt).now →
    ∃ t, exec (.announceTimeout dt) s = .next t ∧ t.vc.servo = 4 ∧ t.vc.rd TIME.ERRSTAT.SYNC_LOSS = 1 ∧
      t.vc.rd TIME.ERRSTAT.HOLDOVER = 1 ∧ t.vc.rd TIME.RATE.RATE = s.vc.rd TIME.RATE.RATE) ∧
  (∀ (s : State) (dt c p g : Nat) (f : Foreign), s.vc.inReset = false → s.vc.servo = 2 ∨ s.vc.servo = 3 ∨ s.vc.servo = 5 → s.vc.time.master = some (c, p, g) →
    f ∈ s.vc.time.foreign → f.clock = c → f.portNo = p → f.last + s.vc.rd TIME.CFG.ANN_TO * f.every ≤ (s.vc.elapse dt).now →
    ∃ t, exec (.announceTimeout dt) s = .next t ∧ t.vc.servo = 4 ∧ t.vc.rd TIME.ERRSTAT.SYNC_LOSS = 1 ∧
      t.vc.rd TIME.RATE.RATE = s.vc.rd TIME.RATE.RATE) ∧
  (∀ (s : State) (dt c p g : Nat) (f : Foreign), s.vc.inReset = false → s.vc.servo ≠ 2 → s.vc.servo ≠ 3 → s.vc.servo ≠ 5 → s.vc.time.master = some (c, p, g) →
    f ∈ s.vc.time.foreign → f.clock = c → f.portNo = p → f.last + s.vc.rd TIME.CFG.ANN_TO * f.every ≤ (s.vc.elapse dt).now →
    ∃ t, exec (.announceTimeout dt) s = .next t ∧ t.vc.servo = s.vc.servo ∧
      (∀ x ∈ t.vc.time.foreign, ¬ (x.clock = c ∧ x.portNo = p)) ∧ ∀ x, t.vc.time.master = some x → ¬ (x.1 = c ∧ x.2.1 = p))) ∧
  ((∀ (s : State) (dt : Nat), s.vc.inReset = false → s.vc.ptpOn = true →
    let v := s.vc.elapse dt
    ∃ t, exec (.pdelayReqSend dt) s = .next t ∧ t.vc.time.pdResp = none ∧
      t.vc.time.pdOut = some ((s.vc.time.pdSeq + 1) % 65536, v.egress (s.vc.rd TIME.CFG.PORT) * uVt, v.now) ∧
      Emit.ptp (s.vc.rd TIME.CFG.PORT) 2 ((s.vc.time.pdSeq + 1) % 65536) (v.egress (s.vc.rd TIME.CFG.PORT)).toNat ∈ t.vc.out ∧
      ∀ (q sent : Nat) (t1 : Int), s.vc.time.pdOut = some (q, t1, sent) → sent + 4000000000 ≤ v.now →
        t.vc.rd TIME.ERRSTAT.PDELAY_FAIL = 1 ∧ t.vc.time.pdFails = s.vc.time.pdFails + 1) ∧
  (∀ (s : State) (dt : Nat) (m : PtpMsg), s.vc.inReset = false → s.vc.ptpTakes m = true →
    let v := s.vc.elapse dt
    (∃ t, exec (.pdelayReqRx dt m) s = .next t ∧ t.vc.time = s.vc.time.heard m.port ∧
      Emit.ptp (b2n m.port) 3 m.seq.toNat (v.ingress m / uVt).toNat ∈ t.vc.out ∧
      Emit.ptp (b2n m.port) 10 m.seq.toNat (v.egress (b2n m.port)).toNat ∈ t.vc.out) ∧
    ∀ (q sent : Nat) (t1 : Int), s.vc.time.pdOut = some (q, t1, sent) → m.mine = true → m.seq.toNat = q →
      v.now < sent + 4000000000 →
      let done (d : Int) (t : State) : Prop := t.vc.time.mld (s.vc.rd TIME.CFG.PORT) = d / 2 ∧ t.vc.time.pdOut = none ∧ t.vc.time.pdFails = 0 ∧
        t.vc.rd TPORT.PDELAY.PDELAY (s.vc.rd TIME.CFG.PORT) = sat 32 (rnDiv (d / 2) uNs).toNat ∧
        t.vc.rd TPORT.PSTAT.PDV (s.vc.rd TIME.CFG.PORT) = 1
      (m.twoStep = true → ∃ t, exec (.pdelayRespRx dt m false) s = .next t ∧ t.vc.regs = s.vc.regs ∧
        t.vc.time.pdResp = some (v.ingress m, ptpTime m, ptpCorr m)) ∧
      (m.twoStep = false → ∃ t, exec (.pdelayRespRx dt m false) s = .next t ∧ done (v.ingress m - t1 - ptpCorr m) t) ∧
      ∀ t4 t2 corr : Int, s.vc.time.pdResp = some (t4, t2, corr) → ∃ t, exec (.pdelayRespRx dt m true) s = .next t ∧
        done (t4 - t1 - (ptpTime m - t2) - corr - ptpCorr m) t) ∧
  ∀ (s : State) (dt q sent : Nat) (t1 : Int), s.vc.inReset = false → s.vc.time.pdOut = some (q, t1, sent) →
    (sent + 4000000000 ≤ (s.vc.elapse dt).now → ∃ t, exec (.pdelayTimeout dt) s = .next t ∧ t.vc.rd TIME.ERRSTAT.PDELAY_FAIL = 1 ∧
      t.vc.time.pdOut = none ∧ t.vc.time.pdFails = s.vc.time.pdFails + 1 ∧
      t.vc.rd TPORT.PSTAT.PDV (s.vc.rd TIME.CFG.PORT) =
        (if 3 ≤ s.vc.time.pdFails + 1 then 0 else s.vc.rd TPORT.PSTAT.PDV (s.vc.rd TIME.CFG.PORT))) ∧
    ((s.vc.elapse dt).now < sent + 4000000000 → ∃ t, exec (.pdelayTimeout dt) s = .next t ∧ t.vc = s.vc.elapse dt))

/-- The control of valve time (R275, R276, R278, R283): a held step is applied once nothing holds it; unlocked and with every string OFF,
PTP_EN begins LISTEN, its end FREE, and otherwise, with ANN_TO out of its range or under the lock a write of TIME.CFG is an access
violation; REARM with the key arms and leaves REFUSED, without it it is an access violation; LOADVT with the key loads SETVT in FREE with no
string running and the cascade off, and otherwise, as without the key, is an access violation. -/
def Obligations.TimeControl : Prop :=
  (∀ (s : State) (dt : Nat), s.vc.inReset = false →
    (s.vc.servo = 2 → s.vc.rd TIME.STATUS.STEP_ARM = 1 → s.vc.stepFree = true → ∃ t, exec (.stepApply dt) s = .next t ∧ t.vc.servo = 3 ∧
      t.vc.vt = unsigned 64 (((s.vc.elapse dt).vt : Int) - rnDiv s.vc.time.stepDue uVt) ∧ t.vc.rd TIME.STATUS.STEP_ARM = 0 ∧
      t.vc.rd TIME.ERRSTAT.STEP_DONE = 1) ∧
    (s.vc.stepFree = false → ∃ t, exec (.stepApply dt) s = .next t ∧ t.vc = s.vc.elapse dt)) ∧
  (∀ (s : State) (dt : Nat) (req : BitVec 16) (w : Word), s.vc.inReset = false → s.vc.rd BOOT.STATUS.STATE ≠ 2 →
    (s.vc.rd TIME.CFG.LOCK = 1 → ∃ t, exec (.ptpEnable dt req w) s = .next t ∧ s.vc.Violated t.vc 1 0x100000 true ∧ t.vc.time = (s.vc.elapse dt).time) ∧
    (s.vc.rd TIME.CFG.LOCK = 0 → s.vc.allOff = false ∨ bits w.toNat 15 12 < 2 ∨ 10 < bits w.toNat 15 12 →
      ∃ t, exec (.ptpEnable dt req w) s = .next t ∧ s.vc.Violated t.vc 3 0x100000 true ∧ t.vc.time = (s.vc.elapse dt).time)) ∧
  (∀ (s : State) (dt : Nat) (req : BitVec 16) (w : Word), s.vc.inReset = false → s.vc.rd BOOT.STATUS.STATE ≠ 2 → s.vc.rd TIME.CFG.LOCK = 0 →
    2 ≤ bits w.toNat 15 12 → bits w.toNat 15 12 ≤ 10 →
    (s.vc.allOff = true → bit w.toNat 30 = true → s.vc.rd BOOT.ALT.NO_PTP = 0 → s.vc.servo = 0 →
      ∃ t, exec (.ptpEnable dt req w) s = .next t ∧ t.vc.rd TIME.CFG.PTP_EN = 1 ∧ t.vc.servo = 1 ∧
        t.vc.rd TIME.CFG.DOMAIN = bits w.toNat 23 16 ∧ t.vc.rd TIME.CFG.PORT = bits w.toNat 29 29) ∧
    (s.vc.allOff = true → bit w.toNat 30 = false → s.vc.servo ≠ 6 → ∃ t, exec (.ptpEnable dt req w) s = .next t ∧
      t.vc.rd TIME.CFG.PTP_EN = 0 ∧ t.vc.servo = 0)) ∧
  ∀ (s : State) (dt : Nat) (req : BitVec 16) (w : Word), s.vc.inReset = false → s.vc.rd BOOT.STATUS.STATE ≠ 2 →
    (bits w.toNat 1 0 = 2 → bits w.toNat 31 16 = 0xD25A → ∃ t, exec (.rearm dt req w) s = .next t ∧ t.vc.rd TIME.STATUS.STEP_ARM = 1 ∧
      t.vc.servo = (if s.vc.servo = 5 then 1 else s.vc.servo) ∧ t.vc.vt = (s.vc.elapse dt).vt) ∧
    (bits w.toNat 1 0 = 1 → bits w.toNat 31 16 = 0xD25A → s.vc.servo = 0 → s.vc.stepFree = true →
      ∃ t, exec (.loadvt dt req w) s = .next t ∧ t.vc.vt = s.vc.rd TIME.SETVT.SETVT ∧ t.vc.regs = s.vc.regs) ∧
    (bits w.toNat 1 0 = 1 → s.vc.servo ≠ 0 ∨ s.vc.stepFree = false ∨ bits w.toNat 31 16 ≠ 0xD25A → ∃ t, exec (.loadvt dt req w) s = .next t ∧
      t.vc.vt = (s.vc.elapse dt).vt ∧ s.vc.Violated t.vc 3 0x100010 true) ∧
    (bits w.toNat 1 0 = 2 → bits w.toNat 31 16 ≠ 0xD25A → ∃ t, exec (.rearm dt req w) s = .next t ∧
      s.vc.Violated t.vc 3 0x100010 true ∧ t.vc.time = (s.vc.elapse dt).time)

/-! ### Host queues -/

/-- Doorbells and the enabling of queues (R287, R288, R303, R309): a doorbell within its enabled queue sets TAIL, or HEAD no further than
the entries unread, otherwise it is an access violation; enabling begins at slot 0, of a CQ with PHASE 1, of an SQ with an enabled CQ;
disabling needs a HALTED SQ, or a CQ that no enabled SQ uses; enabling an enabled queue, or a size or a limit out of its range, is an access
violation. -/
def Obligations.QueueSetup : Prop :=
  (∀ (s : State) (dt : Nat) (q : Fin 16) (req : BitVec 16) (w : Word), s.vc.inReset = false →
    (s.vc.rd SQ.STATUS.STATE q ≠ 0 → bits w.toNat 11 0 < s.vc.sqSize q → ∃ t, exec (.sqDoorbell dt q req w) s = .next t ∧
      t.vc.sqTail q = bits w.toNat 11 0 ∧ t.vc.regs = s.vc.regs) ∧
    (s.vc.rd SQ.STATUS.STATE q = 0 ∨ s.vc.sqSize q ≤ bits w.toNat 11 0 → ∃ t, exec (.sqDoorbell dt q req w) s = .next t ∧
      t.vc.sqTail q = s.vc.sqTail q ∧ s.vc.Violated t.vc 3 (0x18000 + 8 * q.val) true)) ∧
  (∀ (s : State) (dt : Nat) (q : Fin 16) (req : BitVec 16) (w : Word), s.vc.inReset = false →
    let v := bits w.toNat 11 0
    let adv := (v + s.vc.cqSize q - s.vc.rd CQ.STATUS.HEAD q) % s.vc.cqSize q
    (s.vc.rd CQ.CFG.EN q = 1 → v < s.vc.cqSize q → adv ≤ (s.vc.cq q).unread → ∃ t, exec (.cqDoorbell dt q req w) s = .next t ∧
      t.vc.rd CQ.STATUS.HEAD q = v ∧ (t.vc.cq q).unread = (s.vc.cq q).unread - adv) ∧
    (s.vc.rd CQ.CFG.EN q = 0 ∨ s.vc.cqSize q ≤ v ∨ (s.vc.cq q).unread < adv → ∃ t, exec (.cqDoorbell dt q req w) s = .next t ∧
      t.vc.cq q = s.vc.cq q ∧ s.vc.Violated t.vc 3 (0x18004 + 8 * q.val) true)) ∧
  (∀ (s : State) (dt : Nat) (q : Fin 16) (req : BitVec 16) (w : Word), s.vc.inReset = false →
    bits w.toNat 27 24 < 4 ∨ 12 < bits w.toNat 27 24 ∨ bits w.toNat 8 0 < 1 ∨ 256 < bits w.toNat 8 0 →
    (bit w.toNat 31 = true → ∃ t, exec (.sqEnable dt q req w) s = .next t ∧ s.vc.Violated t.vc 3 (0x11008 + 0x40 * q.val) true) ∧
    (bit w.toNat 31 = false → ∃ t, exec (.sqDisable dt q req w) s = .next t ∧ s.vc.Violated t.vc 3 (0x11008 + 0x40 * q.val) true)) ∧
  (∀ (s : State) (dt : Nat) (q : Fin 16) (req : BitVec 16) (w : Word), s.vc.inReset = false → 4 ≤ bits w.toNat 27 24 → bits w.toNat 27 24 ≤ 12 →
    1 ≤ bits w.toNat 8 0 → bits w.toNat 8 0 ≤ 256 →
    (bit w.toNat 31 = true → s.vc.rd SQ.CFG.EN q = 0 → s.vc.rd CQ.CFG.EN (bits w.toNat 19 16) = 1 →
      ∃ t, exec (.sqEnable dt q req w) s = .next t ∧ t.vc.rd SQ.CFG.EN q = 1 ∧ t.vc.rd SQ.STATUS.STATE q = 1 ∧
        t.vc.rd SQ.STATUS.HEAD q = 0 ∧ t.vc.sqTail q = 0 ∧ t.vc.rd SQ.CFG.CQ q = bits w.toNat 19 16 ∧
        t.vc.rd SQ.CFG.LOG2SIZE q = bits w.toNat 27 24) ∧
    (bit w.toNat 31 = true → s.vc.rd SQ.CFG.EN q = 1 ∨ s.vc.rd CQ.CFG.EN (bits w.toNat 19 16) = 0 →
      ∃ t, exec (.sqEnable dt q req w) s = .next t ∧ t.vc.sqTail q = s.vc.sqTail q ∧ s.vc.Violated t.vc 3 (0x11008 + 0x40 * q.val) true) ∧
    (bit w.toNat 31 = false → s.vc.rd SQ.CFG.EN q = 1 →
      (s.vc.rd SQ.STATUS.STATE q = 3 → ∃ t, exec (.sqDisable dt q req w) s = .next t ∧ t.vc.rd SQ.CFG.EN q = 0 ∧
        t.vc.rd SQ.STATUS.STATE q = 0) ∧
      (s.vc.rd SQ.STATUS.STATE q ≠ 3 → ∃ t, exec (.sqDisable dt q req w) s = .next t ∧ s.vc.Violated t.vc 3 (0x11008 + 0x40 * q.val) true))) ∧
  (∀ (s : State) (dt : Nat) (q : Fin 16) (req : BitVec 16) (w : Word), s.vc.inReset = false → bit w.toNat 31 = false → 4 ≤ bits w.toNat 27 24 →
    bits w.toNat 27 24 ≤ 12 →
    let used := ∃ k : Fin 16, s.vc.rd SQ.CFG.EN k ≠ 0 ∧ s.vc.rd SQ.CFG.CQ k = q.val
    let c : Instr := .registerWrite dt req (.bar0 (BitVec.ofNat 22 (0x12008 + 0x40 * q.val))) 15 w
    (s.vc.rd CQ.CFG.EN q = 1 → ¬ used → ∃ t, exec c s = .next t ∧ t.vc.rd CQ.CFG.EN q = 0 ∧
      t.vc.rd CQ.STATUS.TAIL q = s.vc.rd CQ.STATUS.TAIL q) ∧
    (s.vc.rd CQ.CFG.EN q = 1 → used → ∃ t, exec c s = .next t ∧ s.vc.Violated t.vc 3 (0x12008 + 0x40 * q.val) true)) ∧
  (∀ (s : State) (dt : Nat) (q : Fin 16) (req : BitVec 16) (w : Word), s.vc.inReset = false → bit w.toNat 31 = true →
    bits w.toNat 27 24 < 4 ∨ 12 < bits w.toNat 27 24 → ∃ t, exec (.cqEnable dt q req w) s = .next t ∧
      s.vc.Violated t.vc 3 (0x12008 + 0x40 * q.val) true) ∧
  ∀ (s : State) (dt : Nat) (q : Fin 16) (req : BitVec 16) (w : Word), s.vc.inReset = false → bit w.toNat 31 = true → 4 ≤ bits w.toNat 27 24 →
    bits w.toNat 27 24 ≤ 12 →
    (s.vc.rd CQ.CFG.EN q = 0 → ∃ t, exec (.cqEnable dt q req w) s = .next t ∧ t.vc.rd CQ.CFG.EN q = 1 ∧ t.vc.rd CQ.STATUS.TAIL q = 0 ∧
      t.vc.rd CQ.STATUS.HEAD q = 0 ∧ t.vc.rd CQ.STATUS.PHASE q = 1 ∧ t.vc.cq q = {} ∧
      t.vc.rd CQ.CFG.VECTOR q = bits w.toNat 20 16) ∧
    (s.vc.rd CQ.CFG.EN q = 1 → ∃ t, exec (.cqEnable dt q req w) s = .next t ∧
      t.vc.cq q = s.vc.cq q ∧ s.vc.Violated t.vc 3 (0x12008 + 0x40 * q.val) true)

/-- Fetching, halting and resuming (R289, R291, R293, R301 to R304): a fetch takes the next queue's slot at HEAD into flight; one with a bad
header ends with BAD_DESC, one for another VC with WRONG_VC, as a FENCE perhaps later; a failed read halts its queue; COAL_US after the
first completion without a message the message is sent, or with its vector masked is pending in the PBA, or while Bus Master Enable is 0
stays due; RESUME needs a HALTED queue; ABORT halts its queue and cancels what has started and can still be withdrawn. -/
def Obligations.QueueFlow : Prop :=
  (∀ (s : State) (dt : Nat) (ws : Option (List Word)), s.vc.inReset = false → s.vc.nextSq = none → ∃ t, exec (.descriptorFetch dt ws) s = .next t ∧
    t.vc = s.vc.elapse dt) ∧
  (∀ (s : State) (dt q : Nat) (ws : List Word), s.vc.inReset = false → s.vc.nextSq = some q → (∀ e ∈ s.vc.host.descs, e.id ≠ s.vc.host.nextId) →
    let d : Desc := { id := s.vc.host.nextId, sq := q, slot := s.vc.rd SQ.STATUS.HEAD q, words := ws.map BitVec.toNat }
    ∃ t, exec (.descriptorFetch dt (some ws)) s = .next t ∧ t.vc.host.nextId = s.vc.host.nextId + 1 ∧
      t.vc.rd SQ.STATUS.HEAD q = (s.vc.rd SQ.STATUS.HEAD q + 1) % s.vc.sqSize q % 2 ^ SQ.STATUS.HEAD.w ∧
      (d.badHeader = true → t.vc.Answered d 9 0 s.vc.tickNo) ∧
      (d.badHeader = false → bit (d.word 1) 31 = true → bits (d.word 1) 3 0 ≠ s.vc.rd CASCADE.CFG.VC_ID →
        (d.order ≠ 2 → t.vc.Answered d 0xA 0 s.vc.tickNo) ∧
        (d.order = 2 → t.vc.desc? d.id = some d ∨ t.vc.Answered d 0xA 0 s.vc.tickNo)) ∧
      (d.badHeader = false → bit (d.word 1) 31 = false ∨ bits (d.word 1) 3 0 = s.vc.rd CASCADE.CFG.VC_ID →
        t.vc.desc? d.id = some d ∨ t.vc.desc? d.id = some { d with stage := .started })) ∧
  (∀ (s : State) (dt q : Nat), s.vc.inReset = false → s.vc.nextSq = some q → ∃ t, exec (.descriptorFetch dt none) s = .next t ∧
    t.vc.rd SQ.STATUS.HALT_CAUSE q = 1 ∧ t.vc.rd SQ.STATUS.STATE q ≠ 1 ∧ t.vc.rd SQ.STATUS.HEAD q = s.vc.rd SQ.STATUS.HEAD q) ∧
  (∀ (s : State) (dt : Nat) (c : Fin 16) (t0 : Nat), s.vc.inReset = false → (s.vc.cq c).coalSince = some t0 → s.vc.rd CQ.COAL.COAL_US c ≠ 0 →
    (t0 + 4000 * s.vc.rd CQ.COAL.COAL_US c ≤ (s.vc.elapse dt).now → s.vc.host.bme = true →
      ∃ t, exec (.coalesceTimeout dt c) s = .next t ∧ (t.vc.cq c).coalSince = none ∧ (t.vc.cq c).coalCount = 0 ∧
        (s.vc.host.pcie.masked (s.vc.rd CQ.CFG.VECTOR c) = false → Emit.msix (s.vc.rd CQ.CFG.VECTOR c) ∈ t.vc.out) ∧
        (s.vc.host.pcie.masked (s.vc.rd CQ.CFG.VECTOR c) = true → bit t.vc.pba (s.vc.rd CQ.CFG.VECTOR c) = true)) ∧
    (s.vc.host.bme = false → ∃ t, exec (.coalesceTimeout dt c) s = .next t ∧ t.vc = s.vc.elapse dt) ∧
    ((s.vc.elapse dt).now < t0 + 4000 * s.vc.rd CQ.COAL.COAL_US c → ∃ t, exec (.coalesceTimeout dt c) s = .next t ∧
      t.vc = s.vc.elapse dt)) ∧
  ∀ (s : State) (dt : Nat) (q : Fin 16) (req : BitVec 16) (w : Word), s.vc.inReset = false →
    (bits w.toNat 31 29 = 5 → s.vc.sqSize q ≤ bits w.toNat 11 0 → ∃ t, exec (.sqResume dt q req w) s = .next t ∧
      s.vc.Violated t.vc 3 (0x1100C + 0x40 * q.val) true) ∧
    (bits w.toNat 31 29 = 4 → s.vc.rd SQ.STATUS.STATE q = 3 → ∃ t, exec (.sqResume dt q req w) s = .next t ∧
      t.vc.rd SQ.STATUS.STATE q = 1 ∧ t.vc.rd SQ.STATUS.HEAD q = s.vc.rd SQ.STATUS.HEAD q) ∧
    (bits w.toNat 31 29 = 5 → s.vc.rd SQ.STATUS.STATE q = 3 → bits w.toNat 11 0 < s.vc.sqSize q →
      ∃ t, exec (.sqResume dt q req w) s = .next t ∧ t.vc.rd SQ.STATUS.STATE q = 1 ∧ t.vc.rd SQ.STATUS.HEAD q = bits w.toNat 11 0) ∧
    (bit w.toNat 31 = true → s.vc.rd SQ.STATUS.STATE q ≠ 3 → ∃ t, exec (.sqResume dt q req w) s = .next t ∧
      s.vc.Violated t.vc 3 (0x1100C + 0x40 * q.val) true) ∧
    (bits w.toNat 31 29 = 2 → s.vc.rd SQ.STATUS.STATE q = 1 ∨ s.vc.rd SQ.STATUS.STATE q = 2 →
      ∃ t, exec (.sqAbort dt q req w) s = .next t ∧ t.vc.rd SQ.STATUS.HALT_CAUSE q = 5 ∧
        (t.vc.rd SQ.STATUS.STATE q = 2 ∨ t.vc.rd SQ.STATUS.STATE q = 3) ∧
        ((∀ e ∈ s.vc.host.descs, e.sq ≠ q ∨ e.orphan = true) → t.vc.rd SQ.STATUS.STATE q = 3) ∧
        ∀ d, s.vc.desc? d.id = some d → d.sq = q → d.stage = .started → d.orphan = false → s.vc.withdrawable d = true →
          t.vc.Answered d 6 0 s.vc.tickNo) ∧
    (bits w.toNat 31 29 = 2 → s.vc.rd SQ.STATUS.STATE q ≠ 1 → s.vc.rd SQ.STATUS.STATE q ≠ 2 →
      ∃ t, exec (.sqAbort dt q req w) s = .next t ∧ t.vc.regs = s.vc.regs)

/-- The endpoint's own resets, Bus Master Enable and configuration space (R284, R286, R291): a function-level reset and a link loss leave
every queue disabled and started descriptors running without completions; clearing Bus Master Enable halts the active queues; setting it
writes the completions held of descriptors without the QUEUE order. Device ID and vendor's ID read as they are and ignore writes; D3hot
resets the queues as a link loss does; a write that unmasks a vector of the MSI-X table sends the message pending for it and clears its PBA
bit. -/
def Obligations.EndpointResets : Prop :=
  (∀ (s : State) (dt : Nat) (c : Instr), s.vc.inReset = false → c = .functionLevelReset dt ∨ c = .pcieLinkDown dt → ∃ t, exec c s = .next t ∧
    (∀ q, t.vc.rd SQ.STATUS.STATE q = 0 ∧ t.vc.rd SQ.CFG.EN q = 0 ∧ t.vc.rd CQ.CFG.EN q = 0 ∧ t.vc.sqTail q = 0 ∧ t.vc.cq q = {}) ∧
    t.vc.host.descs = (s.vc.host.descs.filter fun d => d.isStarted).map (fun d => { d with orphan := true }) ∧
    t.vc.rd GLOBAL.STATUS.BLOCKED = s.vc.rd GLOBAL.STATUS.BLOCKED ∧ t.vc.facets = s.vc.facets ∧ t.vc.strs = s.vc.strs) ∧
  (∀ (s : State) (dt : Nat), s.vc.inReset = false → ∃ t, exec (.busMasterClear dt) s = .next t ∧ t.vc.host.bme = false ∧ ∀ q : Fin 16,
    (s.vc.rd SQ.STATUS.STATE q = 1 → t.vc.rd SQ.STATUS.HALT_CAUSE q = 6 ∧ t.vc.rd SQ.STATUS.STATE q ≠ 1) ∧
    (s.vc.rd SQ.STATUS.STATE q ≠ 1 → t.vc.rd SQ.STATUS.STATE q = s.vc.rd SQ.STATUS.STATE q)) ∧
  (∀ (s : State) (dt : Nat) (req : BitVec 16) (be : BitVec 4) (w : Word), s.vc.inReset = false →
    (∃ t, exec (.registerRead dt req (.config .id) be) s = .next t ∧ t.vc.out = [.readRsp 0 (0x46080000 + (Config.vendorId 0).toNat)]) ∧
    (∃ t, exec (.registerWrite dt req (.config .id) be w) s = .next t ∧ t.vc = s.vc.elapse dt) ∧
    (w.toNat % 4 = 3 → ∃ t, exec (.registerWrite dt req (.config .power) 15 w) s = .next t ∧ t.vc.host.pcie.d3 = true ∧
      ∀ q, t.vc.rd SQ.STATUS.STATE q = 0 ∧ t.vc.rd CQ.CFG.EN q = 0) ∧
    (∀ k : Fin 32, s.vc.host.bme = true → s.vc.host.pcie.fmask = false → bit s.vc.pba k = true → bit w.toNat 0 = false →
      ∃ t, exec (.registerWrite dt req (.bar2 (BitVec.ofNat 13 (16 * k.val + 12))) 15 w) s = .next t ∧ Emit.msix k ∈ t.vc.out ∧
        bit t.vc.pba k = false ∧ t.vc.host.pcie.masked k = false)) ∧
  ∀ (s : State) (dt : Nat), s.vc.inReset = false → ∃ t, exec (.busMasterSet dt) s = .next t ∧ t.vc.host.bme = true ∧
    ∀ d st de tk, s.vc.desc? d.id = some d → d.stage = .done st de tk → d.orphan = false → d.order ≠ 1 →
      ∃ c tail ph, Emit.cqEntry c tail (d.tag * 65536 + st * 256 + d.sq) (d.slot * 65536 + ph) de (tk % 4294967296) ∈ t.vc.out

/-- NOP, VALVE_CTL, CELL_CLEAR and SNAPSHOT (R15, R37, R295, R300, R305, R306, R308): NOP ends with the status of its words; the others,
where their words and this VC's role do not refuse them, wait for the tick boundary. There a block blocks the valve; a deblock deblocks it
when no condition fails and no block takes effect at the same boundary, leaves it blocked with OK where one does, and otherwise gives the
conditions that fail; a clear marks its facets, waits for their reports, and ends with the number of its own tick; a snapshot, at the facet
commit, goes to host memory. That the words are judged at the command and the state at the boundary is the model's reading (log 108). -/
def Obligations.ValveDescriptors : Prop :=
  (∀ (s : State) (dt : Nat) (d : Desc), s.vc.inReset = false → s.vc.Started d 0 → ∃ t, exec (.nopDescriptor dt d.id) s = .next t ∧
    t.vc.Answered d (if d.zeroFrom 4 then 0 else 1) 0 s.vc.tickNo) ∧
  (∀ (s : State) (dt : Nat) (d : Desc), s.vc.inReset = false → s.vc.Started d 10 →
    (s.vc.rd CASCADE.CFG.ROLE = 2 → (∃ t, exec (.valveCtlBlock dt d.id) s = .next t ∧ t.vc.Answered d 0xA 0 s.vc.tickNo ∧
        t.vc.rd GLOBAL.STATUS.BLOCKED = s.vc.rd GLOBAL.STATUS.BLOCKED) ∧
      ∃ t, exec (.valveCtlDeblock dt d.id) s = .next t ∧ t.vc.Answered d 0xA 0 s.vc.tickNo ∧
        t.vc.rd GLOBAL.STATUS.BLOCKED = s.vc.rd GLOBAL.STATUS.BLOCKED) ∧
    (d.valveOk = false → s.vc.rd CASCADE.CFG.ROLE ≠ 2 → (∃ t, exec (.valveCtlBlock dt d.id) s = .next t ∧ t.vc.Answered d 1 0 s.vc.tickNo) ∧
      ∃ t, exec (.valveCtlDeblock dt d.id) s = .next t ∧ t.vc.Answered d 1 0 s.vc.tickNo) ∧
    (d.valveOk = true → s.vc.rd CASCADE.CFG.ROLE ≠ 2 →
      (bits (d.word 4) 31 28 = 2 → ∃ t, exec (.valveCtlBlock dt d.id) s = .next t ∧ s.vc.DescWaits t.vc d .failed) ∧
      (bits (d.word 4) 31 28 = 1 → ∃ t, exec (.valveCtlDeblock dt d.id) s = .next t ∧ s.vc.DescWaits t.vc d .failed))) ∧
  (∀ (v : Vc) (d : Desc) (buf : HostBuf), v.Due d 10 buf →
    let t := v.descNow d.id
    (bits (d.word 4) 31 28 = 2 → t.rd GLOBAL.STATUS.BLOCKED = 1 ∧ t.rd PROT.STATUS.HOST_BLK = 1 ∧ t.prot.blkTick.isSome = true ∧
      t.Answered d 0 0 v.tickNo) ∧
    (bits (d.word 4) 31 28 = 1 →
      (v.blocked = false → t.Answered d 0 0 v.tickNo ∧ t.rd GLOBAL.STATUS.BLOCKED = v.rd GLOBAL.STATUS.BLOCKED) ∧
      (v.blocked = true → v.deblockDetail ≠ 0 → t.Answered d 4 v.deblockDetail v.tickNo ∧
        t.rd GLOBAL.STATUS.BLOCKED = v.rd GLOBAL.STATUS.BLOCKED ∧ t.rd PROT.STATUS.HOST_BLK = v.rd PROT.STATUS.HOST_BLK) ∧
      (v.blocked = true → v.deblockDetail = 0 → v.prot.blkTick = none → t.Answered d 0 0 v.tickNo ∧ t.rd GLOBAL.STATUS.BLOCKED = 0 ∧
        t.rd PROT.STATUS.HOST_BLK = 0) ∧
      (v.blocked = true → v.deblockDetail = 0 → v.prot.blkTick.isSome = true → t.Answered d 0 0 v.tickNo ∧
        t.rd GLOBAL.STATUS.BLOCKED = v.rd GLOBAL.STATUS.BLOCKED ∧ t.rd PROT.STATUS.HOST_BLK = v.rd PROT.STATUS.HOST_BLK))) ∧
  (∀ (s : State) (dt : Nat) (d : Desc), s.vc.inReset = false → s.vc.Started d 11 →
    ∃ t, exec (.cellClear dt d.id) s = .next t ∧ s.vc.DescWaits t.vc d .failed) ∧
  (∀ (v : Vc) (d : Desc) (buf : HostBuf), v.Due d 11 buf →
    let t := v.descNow d.id
    (v.cellClearStatus d ≠ 0 → t.Answered d (v.cellClearStatus d) 0 v.tickNo ∧ t.facets = v.facets) ∧
    (v.cellClearStatus d = 0 → (∀ n ∈ d.clearRange, (t.facet n).clrPend = true ∧ (t.facet n).clrSeq = none) ∧
      t.desc? d.id = some { d with waiting := true, bound := none, aux := v.ticks, eff := v.tickNo })) ∧
  (∀ (s : State) (dt : Nat) (d : Desc), s.vc.inReset = false → s.vc.desc? d.id = some d → d.stage = .started → d.type = 11 → d.waiting = true →
    d.bound = none → d.orphan = false →
    let all := d.clearRange.all s.vc.clearedFacet
    let still := (d.clearRange.filter fun n => bit (s.vc.facet n).rflags 0 || bit (s.vc.facet n).rflags 2).length
    (all = true ∨ d.aux + 16 ≤ s.vc.ticks → ∃ t, exec (.cellClearDone dt d.id) s = .next t ∧
      t.vc.Answered d 0 (still + (if all then 0 else 2147483648)) d.eff) ∧
    (all = false → s.vc.ticks < d.aux + 16 → ∃ t, exec (.cellClearDone dt d.id) s = .next t ∧ t.vc = s.vc.elapse dt)) ∧
  (∀ (s : State) (dt : Nat) (d : Desc), s.vc.inReset = false → s.vc.Started d 9 →
    let bad := [7, 9, 10, 11, 13, 14, 15].any (bit (d.word 4)) || decide (8388608 ≤ d.word 4) || decide (1 < d.word 5) || !d.zeroFrom 9
    let fault := bufFault (d.word 6) (d.word 7) (d.word 8)
    (bad = true ∨ fault = 1 → ∃ t, exec (.snapshot dt d.id) s = .next t ∧ t.vc.Answered d 1 0 s.vc.tickNo) ∧
    (bad = false → fault = 2 → ∃ t, exec (.snapshot dt d.id) s = .next t ∧ t.vc.Answered d 2 0 s.vc.tickNo) ∧
    (bad = false → fault = 0 → ∃ t, exec (.snapshot dt d.id) s = .next t ∧ s.vc.DescWaits t.vc d .failed)) ∧
  ∀ (v : Vc) (d : Desc) (buf : HostBuf), v.Due d 9 buf →
    let u := v.modDesc d.id fun e => { e with waiting := false, bound := none }
    let bs := u.refreshLoad.snapshotBytes (d.word 4) (bit (d.word 5) 0)
    let t := v.descNow d.id
    (d.word 8 < bs.length → t.Answered d 2 bs.length v.tickNo) ∧
    (bs.length ≤ d.word 8 → v.host.bme = true → t.Answered d 0 0 v.tickNo ∧
      Emit.hostWrite (bufAddr (d.word 6) (d.word 7)) (bs.map (BitVec.ofNat 8)) ∈ t.out) ∧
    (bs.length ≤ d.word 8 → v.host.bme = false → t.Answered d 8 0 v.tickNo)

/-- CELL_MSG, LEDGER_READ and APERTURE_READ (R194, R307, R318, R325): a message enters its string's queue when there is room and its checks
pass, and otherwise waits or ends; a readout goes to host memory with its size, waits behind flash work or for its area, or ends with the
status of its checks. -/
def Obligations.ReadoutDescriptors : Prop :=
  (∀ (s : State) (dt : Nat) (d : Desc) (buf : HostBuf) (op : Fin 2), s.vc.inReset = false → s.vc.Started d 6 → d.aux = 0 → bits (d.word 4) 19 16 = op.val →
    let c : Instr := if op = 0 then .cellMsgRead dt d.id buf else .cellMsgWrite dt d.id buf
    let n := bits (d.word 4) 25 20
    let r := s.vc.cellMsgStatus d buf
    (s.vc.msgRoom n = false → ∃ t, exec c s = .next t ∧ t.vc = s.vc.elapse dt) ∧
    (s.vc.msgRoom n = true → r.1 ≠ 0 → ∃ t, exec c s = .next t ∧ t.vc.Answered d r.1 0 s.vc.tickNo ∧ t.vc.strs = s.vc.strs) ∧
    (s.vc.msgRoom n = true → r.1 = 0 → ∃ t, exec c s = .next t ∧ (t.vc.str n).msgs = (s.vc.str n).msgs ++
      [⟨.descriptor d.id, op.val, bits (d.word 4) 6 0, bits (d.word 5) 15 0, bits (d.word 5) 19 16, r.2, 0⟩])) ∧
  (∀ (s : State) (dt : Nat) (d : Desc) (ok : Bool), s.vc.inReset = false → s.vc.Started d 7 →
    let st := s.vc.ledgerReadStatus d
    let items := s.vc.ledgerItems (bits (d.word 4) 31 28) (d.word 5) (bits (d.word 6) 12 0)
    (st.1 ≠ 0 → ∃ t, exec (.ledgerRead dt d.id ok) s = .next t ∧ t.vc.Answered d st.1 st.2 s.vc.tickNo) ∧
    (st.1 = 0 → s.vc.boot.xspi ≠ [] → ∃ t, exec (.ledgerRead dt d.id ok) s = .next t ∧
      t.vc.desc? d.id = some { d with waiting := true, aux := 0 } ∧
      t.vc.boot.xspi = s.vc.boot.xspi ++ [{ kind := .ledgerRead d.id }]) ∧
    (st.1 = 0 → s.vc.boot.xspi = [] → s.vc.host.bme = true → ok = true ∨ 2 ≤ bits (d.word 4) 31 28 →
      ∃ t, exec (.ledgerRead dt d.id ok) s = .next t ∧ t.vc.Answered d 0 items.length s.vc.tickNo ∧
        Emit.hostWrite (bufAddr (d.word 7) (d.word 8)) (items.flatten.map (BitVec.ofNat 8)) ∈ t.vc.out) ∧
    (st.1 = 0 → s.vc.boot.xspi = [] → ok = false → bits (d.word 4) 31 28 < 2 → ∃ t, exec (.ledgerRead dt d.id ok) s = .next t ∧
      t.vc.Answered d 0x10 0 s.vc.tickNo)) ∧
  ∀ (s : State) (dt : Nat) (d : Desc), s.vc.inReset = false → s.vc.Started d 8 →
    let a := bits (d.word 4) 2 0
    let bad := decide (bits (d.word 4) 31 9 ≠ 0) || decide (bits (d.word 4) 7 3 ≠ 0) || decide (d.word 5 ≠ 0) ||
      (List.range 7).any (fun k => decide (d.word (9 + k) ≠ 0)) || decide (s.vc.apCount ≤ a)
    let fault := bufFault (d.word 6) (d.word 7) (d.word 8)
    let bs := (s.vc.area a).bytes
    (bad = true ∨ fault = 1 → ∃ t, exec (.apertureRead dt d.id) s = .next t ∧ t.vc.Answered d 1 0 s.vc.tickNo) ∧
    (bad = false → fault ≠ 1 → s.vc.apState = 3 → s.vc.apArea = a → ∃ t, exec (.apertureRead dt d.id) s = .next t ∧
      t.vc.desc? d.id = some { d with waiting := true, aux := 0 }) ∧
    (bad = false → fault = 0 → s.vc.apState ≠ 3 ∨ s.vc.apArea ≠ a →
      ((s.vc.area a).complete = false → ∃ t, exec (.apertureRead dt d.id) s = .next t ∧ t.vc.Answered d 4 0 s.vc.tickNo) ∧
      ((s.vc.area a).complete = true → d.word 8 < bs.length → ∃ t, exec (.apertureRead dt d.id) s = .next t ∧
        t.vc.Answered d 2 bs.length s.vc.tickNo ∧ t.vc.ap = s.vc.ap) ∧
      ((s.vc.area a).complete = true → bs.length ≤ d.word 8 → s.vc.host.bme = true → ∃ t, exec (.apertureRead dt d.id) s = .next t ∧
        t.vc.Answered d 0 bs.length s.vc.tickNo ∧ Emit.hostWrite (bufAddr (d.word 6) (d.word 7)) (bs.map (BitVec.ofNat 8)) ∈ t.vc.out ∧
        (bit (d.word 4) 8 = true → bit (t.vc.rd APERTURE.STATUS.UNREAD) a = false) ∧
        (bit (d.word 4) 8 = false → t.vc.ap = s.vc.ap)))

/-- FW_BLOCK, CONFIG_WRITE and the flash operations they need (R355, R360, R362, R365): a descriptor whose checks pass begins its erases and
programs, one operation at a time; the last one done and read back ends it; one that fails, or a copy that cannot be read back, ends its
request with FLASH_ERR, and a settings copy that failed is invalid. What bytes a failed operation leaves is free (log 20), and that a
WRITE's unstaging stands where its write fails is log 28: the model's choices. -/
def Obligations.FirmwareDescriptors : Prop :=
  (∀ (s : State) (dt : Nat) (d : Desc) (buf : HostBuf), s.vc.inReset = false → s.vc.Started d 4 →
    let r := s.vc.configStatus d buf
    (r.1 ≠ 0 → ∃ t, exec (.configWrite dt d.id buf) s = .next t ∧ t.vc.Answered d r.1 0 s.vc.tickNo ∧ t.vc.flash = s.vc.flash) ∧
    (r.1 = 0 → s.vc.boot.xspi = [] → ∃ t, exec (.configWrite dt d.id buf) s = .next t ∧ t.vc.flash = s.vc.flash ∧
      t.vc.boot.xspi = [⟨.config d.id s.vc.setTarget.1 s.vc.setTarget.2 r.2, true,
        writeOps (flashSettings s.vc.setTarget.1) (setBytes s.vc.setTarget.2 r.2)⟩])) ∧
  (∀ (s : State) (dt : Nat) (d : Desc) (buf : HostBuf) (op : Fin 3), s.vc.inReset = false → s.vc.Started d 5 → bits (d.word 4) 31 28 = op.val →
    let c : Instr := match op with
      | 0 => .fwWrite dt d.id buf
      | 1 => .fwVerify dt d.id buf
      | 2 => .fwActivate dt d.id buf
    let r := s.vc.fwStatus d buf
    let slot := bits (d.word 4) 0 0
    (r.1 ≠ 0 → ∃ t, exec c s = .next t ∧ t.vc.Answered d r.1 0 s.vc.tickNo ∧ t.vc.flash = s.vc.flash ∧
      (r.1 = 0x14 → t.vc.rd BOOT.ERRSTAT.ROLLBACK = 1)) ∧
    (r.1 = 0 → s.vc.boot.xspi = [] →
      (op = 0 → ∃ t, exec c s = .next t ∧ t.vc.flash = s.vc.flash ∧ t.vc.rd BOOT.SLOT_STATE.STATE slot = 1 ∧
        t.vc.boot.xspi = [⟨(s.vc.xOps (.fwWrite d.id slot (d.word 5) r.2)).1, true, (s.vc.xOps (.fwWrite d.id slot (d.word 5) r.2)).2⟩]) ∧
      (op = 1 → s.vc.inheritOps slot ≠ [] → ∃ t, exec c s = .next t ∧
        t.vc.boot.xspi = [⟨.fwVerify d.id slot, true, s.vc.inheritOps slot⟩]) ∧
      (op = 1 → s.vc.inheritOps slot = [] → s.vc.imageCheck slot ≠ 0 → ∃ t, exec c s = .next t ∧
        t.vc.Answered d (s.vc.imageCheck slot) 0 s.vc.tickNo ∧ t.vc.rd BOOT.SLOT_STATE.STATE slot = 4) ∧
      (op = 1 → s.vc.inheritOps slot = [] → s.vc.imageCheck slot = 0 → ∃ t ops, exec c s = .next t ∧
        t.vc.rd BOOT.SLOT_STATE.STATE slot = 2 ∧ t.vc.boot.xspi = [⟨.fwStage d.id (s.vc.hdr slot 3), true, ops⟩]) ∧
      (op = 2 → ∃ t, exec c s = .next t ∧ t.vc.flash = s.vc.flash ∧
        t.vc.boot.xspi = [⟨.fwActivate d.id, true, (s.vc.xOps (.fwActivate d.id)).2⟩]))) ∧
  (∀ (s : State) (dt : Nat) (readOk : Bool) (k : XKind) (o o' : FOp) (os : List FOp) (xs : List XReq), s.vc.inReset = false →
    s.vc.boot.xspi = ⟨k, true, o :: o' :: os⟩ :: xs →
    ∃ t, exec (.flashOperationDone dt true readOk) s = .next t ∧ t.vc.flash = o.run s.vc.flash ∧
      t.vc.boot.xspi = ⟨k, true, o' :: os⟩ :: xs ∧ t.vc.regs = s.vc.regs) ∧
  (∀ (s : State) (dt : Nat) (readOk : Bool) (k : XKind) (o : FOp) (os : List FOp) (d : Desc), s.vc.inReset = false →
    s.vc.boot.xspi = [⟨k, true, o :: os⟩] → (XReq.mk k true []).desc = some d.id → s.vc.desc? d.id = some d → d.stage = .started →
    d.orphan = false → ∃ t, exec (.flashOperationDone dt false readOk) s = .next t ∧ t.vc.flash = k.broken s.vc.free o os s.vc.flash ∧
      t.vc.rd BOOT.ERRSTAT.FLASH_ERR = 1 ∧ t.vc.Answered d 0x10 0 s.vc.tickNo ∧
      ∀ c seq bs, k = .config d.id c seq bs → c < 2 → t.vc.settings c = none) ∧
  (∀ (s : State) (dt : Nat) (readOk : Bool) (d : Desc) (o : FOp) (c seq : Nat) (bs : List Nat), s.vc.inReset = false →
    s.vc.boot.xspi = [⟨.config d.id c seq bs, true, [o]⟩] → s.vc.desc? d.id = some d → d.stage = .started → d.orphan = false →
    (readOk = true → ∃ t, exec (.flashOperationDone dt true readOk) s = .next t ∧ t.vc.flash = o.run s.vc.flash ∧ t.vc.boot.xspi = [] ∧
      t.vc.Answered d 0 seq s.vc.tickNo) ∧
    (readOk = false → c < 2 → ∃ t, exec (.flashOperationDone dt true readOk) s = .next t ∧ t.vc.settings c = none ∧
      t.vc.rd BOOT.ERRSTAT.FLASH_ERR = 1 ∧ t.vc.Answered d 0x10 0 s.vc.tickNo)) ∧
  ∀ (s : State) (dt : Nat) (ok readOk : Bool), s.vc.inReset = false → s.vc.boot.xspi = [] → ∃ t, exec (.flashOperationDone dt ok readOk) s = .next t ∧
    t.vc = s.vc.elapse dt

/-! ### Event ledger, Aperture recorder and companion ports -/

/-- The ledger's commands (R312 to R317, R326, R355, R402). With the xSPI unit idle and no closing or loss to record first, the next queued
record is programmed at its place under the next numbers, and only there; HOURS and PCYCLES go to the copy that is not in force, due
statistics to the older copy, with the next sequence number; a failure is counted and the second within 60 s is FAULT. With the unit at work
a write joins its queue, once. Outside RUN nothing is written. HOURS counts seconds, with the junction temperature of each facet in service.
CTRL flushes, resets the unit, clears the statistics, and in FAULT formats, the last two with their key and otherwise an access violation;
the end of a format starts the ledger anew. The layouts of the two kept areas (log 21), a UNIT_RST in FAULT that may or may not succeed (log
72) and the queue of the xSPI unit as the place of the ledger's writes (log 28) are the model's choices. -/
def Obligations.LedgerCommands : Prop :=
  (∀ (s : State) (dt : Nat) (q : QRec) (qs : List QRec), s.vc.inReset = false → s.vc.rd LEDGER.STATUS.STATE = 1 → s.vc.boot.xspi = [] →
    s.vc.ledger.queue = q :: qs → s.vc.ledger.closings = [] → s.vc.ledger.lostPend = 0 →
    let r := s.vc.rd LEDGER.NEXT_RSEQ.VALUE
    let ev := s.vc.nextEvent q
    let a := recordAt r
    let n := if 256 ≤ r ∧ (a - flashCirc) % 4096 = 0 then 4096 else 64
    ∃ t, exec (.ledgerFlashWrite dt true) s = .next t ∧ t.vc.ledger.queue = qs ∧ t.vc.boot.xspi = [] ∧
      t.vc.rd LEDGER.NEXT_RSEQ.VALUE = (r + 1) % 2 ^ 32 ∧ t.vc.rd LEDGER.NEXT_EVENT.VALUE = (ev + 1) % 2 ^ 32 ∧
      (∀ b, b < a ∨ a + n ≤ b → Memory.read t.vc.flash b = Memory.read s.vc.flash b) ∧
      (256 ≤ r + 1 → t.vc.rd LEDGER.STATUS.PERM_FULL = 1) ∧
      (n = 4096 ∨ (∀ i, i < 64 → Memory.read s.vc.flash (a + i) = 0xFF#8) →
        Memory.bytes t.vc.flash a 40 = bytesOfWords (s.vc.recWords q ev r) ∧
        ∀ rep vt, q.close = some (rep, vt) → Memory.bytes t.vc.flash (a + 40) 16 = bytesOfWords (closeWords rep vt))) ∧
  (∀ (s : State) (dt : Nat) (c : Instr), s.vc.inReset = false → s.vc.rd LEDGER.STATUS.STATE = 1 → s.vc.boot.xspi = [] →
    (c = .ledgerFlashWrite dt false ∧ (s.vc.ledger.queue ≠ [] ∨ s.vc.ledger.closings ≠ [])) ∨ c = .hoursSave dt false ∨
      (c = .statsWrite dt false ∧ s.vc.ledger.statsAt + 60 * s.vc.rd LEDGER.CFG.STATS_MIN ≤ s.vc.rd LEDGER.HOURS.VALUE) →
    ∃ t, exec c s = .next t ∧ t.vc.flash = s.vc.flash ∧ t.vc.ledger.failures = s.vc.ledger.failures + 1 ∧
      t.vc.ledger.queue = s.vc.ledger.queue ∧
      (s.vc.ledger.lastFail = none → t.vc.regs = s.vc.regs) ∧
      ∀ at_, s.vc.ledger.lastFail = some at_ → (s.vc.elapse dt).now < at_ + 240000000000 →
        t.vc.rd LEDGER.STATUS.STATE = 2 ∧ t.vc.rd LEDGER.ERRSTAT.FLASH_FAIL = 1) ∧
  (∀ (s : State) (dt : Nat) (ok : Bool) (c : Instr) (k : XKind), s.vc.inReset = false → s.vc.rd LEDGER.STATUS.STATE = 1 →
    s.vc.boot.xspi ≠ [] →
    (c = .ledgerFlashWrite dt ok ∧ k = .ledgerWrite ∧ (s.vc.ledger.queue ≠ [] ∨ s.vc.ledger.closings ≠ [])) ∨
      (c = .hoursSave dt ok ∧ k = .ledgerHours) ∨ (c = .statsWrite dt ok ∧ k = .ledgerStats ∧
        s.vc.ledger.statsAt + 60 * s.vc.rd LEDGER.CFG.STATS_MIN ≤ s.vc.rd LEDGER.HOURS.VALUE) →
    ∃ t, exec c s = .next t ∧ t.vc.flash = s.vc.flash ∧ t.vc.regs = s.vc.regs ∧ t.vc.ledger.queue = s.vc.ledger.queue ∧
      ((∀ x ∈ s.vc.boot.xspi, x.kind ≠ k) → t.vc.boot.xspi = s.vc.boot.xspi ++ [⟨k, false, []⟩]) ∧
      ((∃ x ∈ s.vc.boot.xspi, x.kind = k) → t.vc.boot.xspi = s.vc.boot.xspi)) ∧
  (∀ (s : State) (dt : Nat) (ok : Bool) (c : Instr), s.vc.rd LEDGER.STATUS.STATE ≠ 1 →
    c = .ledgerFlashWrite dt ok ∨ c = .hoursSave dt ok ∨ c = .statsWrite dt ok →
    ∃ t, exec c s = .next t ∧ t.vc = s.vc.elapse dt) ∧
  (∀ (s : State) (dt : Nat), s.vc.inReset = false → s.vc.rd LEDGER.STATUS.STATE = 1 → s.vc.boot.xspi = [] →
    (let n := nextCopy (keptHours s.vc.flash)
      ∃ t, exec (.hoursSave dt true) s = .next t ∧ t.vc.regs = s.vc.regs ∧ t.vc.ledger = s.vc.ledger ∧
        copyAt t.vc.flash (flashHours n.1) = some (n.2 % 2 ^ 32, s.vc.rd LEDGER.HOURS.VALUE, s.vc.rd LEDGER.PCYCLES.VALUE) ∧
        ∀ b, b < flashHours n.1 ∨ flashHours n.1 + 4096 ≤ b → Memory.read t.vc.flash b = Memory.read s.vc.flash b) ∧
    (s.vc.ledger.statsAt + 60 * s.vc.rd LEDGER.CFG.STATS_MIN ≤ s.vc.rd LEDGER.HOURS.VALUE →
      let x := statSeq s.vc.flash 0
      let y := statSeq s.vc.flash 1
      let a := flashStats (if x ≤ y then 0 else 1)
      let bs := statBytes (max x y + 1) s.vc.ledger.stats s.vc.ledger.fomMin
      ∃ t, exec (.statsWrite dt true) s = .next t ∧ t.vc.regs = s.vc.regs ∧ t.vc.ledger.statsAt = s.vc.rd LEDGER.HOURS.VALUE ∧
        Memory.bytes t.vc.flash a bs.length = bs ∧
        ∀ b, b < a ∨ a + 4096 * ceilDiv bs.length 4096 ≤ b → Memory.read t.vc.flash b = Memory.read s.vc.flash b)) ∧
  (∀ (s : State) (dt : Nat), s.vc.inReset = false → Tab.wf (fun _ => ({} : Facet)) s.vc.facets = true →
    ∃ t, exec (.hoursSecond dt) s = .next t ∧ t.vc.rd LEDGER.HOURS.VALUE = (s.vc.rd LEDGER.HOURS.VALUE + 1) % 2 ^ 32 ∧
      t.vc.flash = s.vc.flash ∧ ∀ n, t.vc.stat n = if (s.vc.facet n).inSvc && (s.vc.facet n).tjSeen then
        { s.vc.stat n with tj := bump (s.vc.stat n).tj (tjBin (s.vc.facet n).tj) } else s.vc.stat n) ∧
  (∀ (s : State) (dt : Nat) (req : BitVec 16) (w : Word), s.vc.inReset = false → s.vc.rd BOOT.STATUS.STATE ≠ 2 →
    (∀ x ∈ s.vc.boot.xspi.head?, x.begun = true ∧ x.ops ≠ []) →
    (bits w.toNat 3 0 = 2 → ∃ t, exec (.flush dt req w) s = .next t ∧ t.vc.ledger.isOpen = false ∧
      t.vc.rd LEDGER.STATUS.STATE = s.vc.rd LEDGER.STATUS.STATE ∧ t.vc.flash = s.vc.flash ∧
      (s.vc.rd LEDGER.STATUS.STATE = 1 → t.vc.ledger.statsAt = s.vc.rd LEDGER.HOURS.VALUE ∧
        (∃ x ∈ t.vc.boot.xspi, x.kind = .ledgerHours) ∧ ∃ x ∈ t.vc.boot.xspi, x.kind = .ledgerStats) ∧
      (s.vc.rd LEDGER.STATUS.STATE ≠ 1 → t.vc.boot.xspi = s.vc.boot.xspi)) ∧
    (bits w.toNat 3 0 = 4 → s.vc.rd LEDGER.STATUS.STATE = 2 → s.vc.rd BOOT.ALT.NO_LEDGER = 0 → ∃ t, exec (.unitRst dt req w) s = .next t ∧
      (t.vc.rd LEDGER.STATUS.STATE = 1 ∧ t.vc.ledger.failures = 0 ∧ t.vc.ledger.lastFail = none ∨
        t.vc.rd LEDGER.STATUS.STATE = 2 ∧ t.vc.ledger = s.vc.ledger)) ∧
    (bits w.toNat 3 0 = 4 → s.vc.rd LEDGER.STATUS.STATE ≠ 2 ∨ s.vc.rd BOOT.ALT.NO_LEDGER ≠ 0 → ∃ t, exec (.unitRst dt req w) s = .next t ∧
      t.vc.regs = s.vc.regs ∧ t.vc.ledger.queue = s.vc.ledger.queue ∧
      (s.vc.rd BOOT.ALT.NO_LEDGER = 0 → t.vc.ledger = { s.vc.ledger with failures := 0, lastFail := none }) ∧
      (s.vc.rd BOOT.ALT.NO_LEDGER ≠ 0 → t.vc.ledger = s.vc.ledger)) ∧
    (bits w.toNat 3 0 = 4 → ∃ t, exec (.unitRst dt req w) s = .next t ∧
      ∀ x ∈ t.vc.boot.xspi, x.kind = .ledgerWrite ∨ x.kind = .ledgerHours ∨ x.kind = .ledgerStats → x.begun = true) ∧
    (bits w.toNat 3 0 = 1 → bits w.toNat 31 16 = 0x6B1D → ∃ t, exec (.clrStats dt req w) s = .next t ∧ t.vc.ledger.stats = [] ∧
      t.vc.ledger.fomMin = [] ∧ t.vc.flash = s.vc.flash ∧
      (s.vc.rd LEDGER.STATUS.STATE = 1 → ∃ x ∈ t.vc.boot.xspi, x.kind = .ledgerStats)) ∧
    (bits w.toNat 3 0 = 8 → bits w.toNat 31 16 = 0x6B1D → s.vc.rd LEDGER.STATUS.STATE = 2 → ∃ t, exec (.format dt req w) s = .next t ∧
      t.vc.rd LEDGER.STATUS.STATE = 0 ∧ (∃ x ∈ t.vc.boot.xspi, x.kind = .ledgerFormat 1) ∧ t.vc.flash = s.vc.flash) ∧
    ∀ c : Instr, (c = .clrStats dt req w ∧ bits w.toNat 3 0 = 1 ∧ bits w.toNat 31 16 ≠ 0x6B1D) ∨
        (c = .format dt req w ∧ bits w.toNat 3 0 = 8 ∧ (bits w.toNat 31 16 ≠ 0x6B1D ∨ s.vc.rd LEDGER.STATUS.STATE ≠ 2)) →
      ∃ t, exec c s = .next t ∧ s.vc.Violated t.vc 3 0x110004 true ∧ t.vc.ledger.stats = s.vc.ledger.stats ∧
        t.vc.boot.xspi = s.vc.boot.xspi) ∧
  ∀ (s : State) (dt : Nat), s.vc.inReset = false →
    (∀ why os, s.vc.boot.xspi = [⟨.ledgerFormat why, true, os⟩] → ∃ t, exec (.ledgerFormatDone dt) s = .next t ∧
      t.vc.rd LEDGER.STATUS.STATE = 1 ∧ t.vc.boot.xspi = [] ∧ t.vc.rd LEDGER.HOURS.VALUE = 0 ∧
      t.vc.rd LEDGER.PCYCLES.VALUE = s.vc.formatCycles why ∧ t.vc.ledger.stats = [] ∧
      (s.vc.ledger.lostPend = 0 → t.vc.ledger.queue = [] ∧ t.vc.ledger.isOpen = true ∧ t.vc.ledger.lastRecs = [stRec 0x0D05 0 0 0 why]) ∧
      (s.vc.ledger.queue.length ≤ 64 → Memory.blankAt (runOps os s.vc.flash) flashPerm 0x15000 = true →
        Memory.bytes t.vc.flash flashPerm 4 = bytesOfWords [0x0D05 * 65536 + 32768])) ∧
    ((∀ why os xs, s.vc.boot.xspi ≠ ⟨.ledgerFormat why, true, os⟩ :: xs) →
      ∃ t, exec (.ledgerFormatDone dt) s = .next t ∧ t.vc = s.vc.elapse dt)

/-- The recorder's commands (R37, R320, R322 to R325, R327): a write of CTRL waits for the tick boundary. There START in OFF takes area 0,
or is an access violation where its settings do not allow it, and in another state does nothing; STOP, but in OFF, and FORCE are kept for
the next sampling point. The area in POST, with no readout waiting for it, completes when it is full or its time is over, and hold-off ends
with the next free area or FULL. That a write is judged at the command and takes its effect at the boundary is the model's choice (log 108).
-/
def Obligations.ApertureCommands : Prop :=
  (∀ (s : State) (dt : Nat) (req : BitVec 16) (w : Word) (c : Instr), s.vc.inReset = false → s.vc.rd BOOT.STATUS.STATE ≠ 2 →
    (c = .apertureStart dt req w ∧ bit w.toNat 0 = true) ∨ (c = .apertureStop dt req w ∧ bit w.toNat 1 = true) ∨
      (c = .force dt req w ∧ bit w.toNat 2 = true) →
    ∃ t, exec c s = .next t ∧ s.vc.WriteWaits t.vc req.toNat 0x12000C w.toNat) ∧
  (∀ (v : Vc) (req w : Nat), v.rd BOOT.STATUS.STATE ≠ 2 →
    let r := v.writeNow req 15 0x12000C w
    (bits w 2 0 = 1 → v.apState = 0 → v.apStartBad = false → r.apState = 1 ∧ r.apArea = 0 ∧ r.rd APERTURE.IGNCNT.IGNCNT = 0 ∧
      bit (r.rd APERTURE.STATUS.UNREAD) 0 = false ∧ (r.area 0).complete = false ∧ r.ap.forced = v.ap.forced ∧
      (r.area 0).chTable = (List.range 64).map fun n => v.word (0x120100 + 4 * n)) ∧
    (bit w 0 = true → v.apState = 0 → v.apStartBad = true → r.apState = 0 ∧ r.ap = v.ap ∧ v.Violated r 3 0x12000C true) ∧
    (bits w 2 0 = 1 → v.apState ≠ 0 → r.ap = v.ap ∧ r.regs = v.regs) ∧
    (bits w 2 0 = 2 → r.regs = v.regs ∧ r.ap = if v.apState ≠ 0 then { v.ap with stopReq := true } else v.ap) ∧
    (bits w 2 0 = 3 → v.apState ≠ 0 ∨ v.apStartBad = false → r.ap.stopReq = true) ∧
    (bits w 2 0 = 4 → r.regs = v.regs ∧ r.ap = { v.ap with forced := true })) ∧
  (∀ (s : State) (dt : Nat), s.vc.inReset = false →
    let a := s.vc.apArea
    let full := (s.vc.area a).postFull || decide (s.vc.ap.trigAt + s.vc.rd APERTURE.POSTMAX.VALUE ≤ s.vc.ticks)
    (s.vc.apState = 3 → full = true → a < 8 → (∀ d ∈ s.vc.host.descs, d.type = 8 → d.waiting = true → bits (d.word 4) 2 0 ≠ a) →
      ∃ t, exec (.apertureAreaComplete dt) s = .next t ∧ t.vc.apState = 4 ∧ (t.vc.area a).complete = true ∧
        (t.vc.area a).truncated = false ∧ (t.vc.area a).wrapped = decide (s.vc.apPre < (s.vc.area a).written) ∧
        (t.vc.area a).post = (s.vc.area a).post ∧ bit (t.vc.rd APERTURE.STATUS.UNREAD) a = true ∧ t.vc.rd APERTURE.ERRSTAT.DONE = 1) ∧
    (s.vc.apState ≠ 3 ∨ full = false → ∃ t, exec (.apertureAreaComplete dt) s = .next t ∧ t.vc = s.vc.elapse dt)) ∧
  ∀ (s : State) (dt : Nat), s.vc.inReset = false →
    let past := if s.vc.rd APERTURE.HOLDOFF.MODE ≠ 0 then decide (s.vc.rd APERTURE.HOLDOFF.VALUE ≤ s.vc.ap.ignored)
      else decide (s.vc.ap.trigAt + s.vc.rd APERTURE.HOLDOFF.VALUE ≤ s.vc.ticks)
    (∀ a, s.vc.apState = 4 → past = true → s.vc.nextArea = some a → a < 8 → ∃ t, exec (.holdoffEnd dt) s = .next t ∧
      t.vc.apState = 1 ∧ t.vc.apArea = a ∧ bit (t.vc.rd APERTURE.STATUS.UNREAD) a = false ∧ (t.vc.area a).complete = false) ∧
    (s.vc.apState = 4 → past = true → s.vc.nextArea = none → ∃ t, exec (.holdoffEnd dt) s = .next t ∧ t.vc.apState = 5 ∧
      t.vc.rd APERTURE.ERRSTAT.FULL = 1 ∧ t.vc.ap = s.vc.ap) ∧
    (s.vc.apState ≠ 4 ∨ past = false → ∃ t, exec (.holdoffEnd dt) s = .next t ∧ t.vc = s.vc.elapse dt)

/-- The VC's companion ports (R351 to R353): a request every 100 µs carries the waiting access or a POLL; a POLL is repeated until it is
answered, and the tenth unanswered one loses the link; an access takes the place of an unanswered POLL under a SEQ of its own (the model's
choice, log 119), is repeated until it is answered, and sent ten times ends with RESULT 4; a response that fails CHECK is counted, one that
answers the request sets the port's registers and ends the access, any other does nothing; an access is taken by a port that is on and idle,
and is otherwise an access violation; permits that have differed for more than 2 ms are a mismatch, which does not touch them. -/
def Obligations.CompanionPorts : Prop :=
  (∀ (s : State) (dt : Nat) (p : Fin 2), s.vc.inReset = false →
    let c := s.vc.comp p
    let due := s.vc.portOn p && (match c.sent with | some t0 => decide (t0 + 400000 ≤ (s.vc.elapse dt).now) | none => true)
    let seq := (c.seq + 1) % 256
    (due = true → c.out = none →
      let q := match c.acc with
        | some a => requestWord (1 + bits a 30 30) seq (bits a 15 8) (if bit a 30 then bits a 7 0 else 0)
        | none => requestWord 0 seq 0 0
      ∃ t, exec (.companionRequest dt) s = .next t ∧ (t.vc.comp p).out = some q ∧ (t.vc.comp p).seq = seq ∧
        (t.vc.comp p).sent = some (s.vc.elapse dt).now ∧ Emit.companion p (compBytes [q]) ∈ t.vc.out) ∧
    (∀ q, due = true → c.out = some q → c.acc = none → ∃ t, exec (.companionRequest dt) s = .next t ∧ (t.vc.comp p).out = some q ∧
      (t.vc.comp p).seq = c.seq ∧ (t.vc.comp p).misses = c.misses + 1 ∧ Emit.companion p (compBytes [q]) ∈ t.vc.out ∧
      (c.misses = 9 → t.vc.rd CPORT.LINK.UP p = 0 ∧ t.vc.rd CPORT.ERRSTAT.LINK_LOST p = 1)) ∧
    (∀ q a, due = true → c.out = some q → c.acc = some a → c.tries < 10 → ∃ t, exec (.companionRequest dt) s = .next t ∧
      (t.vc.comp p).tries = c.tries + 1 ∧ (t.vc.comp p).acc = some a ∧ (t.vc.comp p).misses = c.misses + 1 ∧
      (bits q 15 8 ≠ 0 → (t.vc.comp p).out = some q ∧ (t.vc.comp p).seq = c.seq ∧ Emit.companion p (compBytes [q]) ∈ t.vc.out) ∧
      (bits q 15 8 = 0 → (t.vc.comp p).seq = seq ∧
        (t.vc.comp p).out = some (requestWord (1 + bits a 30 30) seq (bits a 15 8) (if bit a 30 then bits a 7 0 else 0)))) ∧
    (∀ q a, due = true → c.out = some q → c.acc = some a → 10 ≤ c.tries → ∃ t, exec (.companionRequest dt) s = .next t ∧
      t.vc.rd CPORT.ACCSTAT.BUSY p = 0 ∧ t.vc.rd CPORT.ACCSTAT.RESULT p = 4 ∧ (t.vc.comp p).acc = none ∧ (t.vc.comp p).out = some (requestWord 0 seq 0 0)) ∧
    (due = false → ∃ t, exec (.companionRequest dt) s = .next t ∧ t.vc.comp p = c)) ∧
  (∀ (s : State) (dt : Nat) (p : Fin 2) (w0 w1 : DWord), s.vc.inReset = false →
    let good := decide (w0.toNat / 281474976710656 = check16 (bitsUp w0.toNat 0 48 ++ bitsUp w1.toNat 0 64))
    (good = false → ∃ t, exec (.companionResponseRx dt p w0 w1) s = .next t ∧ t.vc.comps = s.vc.comps ∧
      t.vc.rd CPORT.CRCCNT.CRCCNT p = sat CPORT.CRCCNT.CRCCNT.w (s.vc.rd CPORT.CRCCNT.CRCCNT p + 1) ∧
      t.vc.rd CPORT.ERRSTAT.CRC_ERR p = 1) ∧
    (good = true → (s.vc.comp p).out = none → ∃ t, exec (.companionResponseRx dt p w0 w1) s = .next t ∧ t.vc = s.vc.elapse dt) ∧
    ∀ q, good = true → (s.vc.comp p).out = some q →
      let answers := decide (bits w0.toNat 7 0 = 0x1E) && decide (bits w0.toNat 23 8 = bits q 23 8) &&
        decide (bits w0.toNat 39 32 = bits q 39 32)
      (answers = false → ∃ t, exec (.companionResponseRx dt p w0 w1) s = .next t ∧ t.vc = s.vc.elapse dt) ∧
      (answers = true → ∃ t, exec (.companionResponseRx dt p w0 w1) s = .next t ∧ (t.vc.comp p).out = none ∧ (t.vc.comp p).misses = 0 ∧
        t.vc.rd CPORT.LINK.UP p = 1 ∧ t.vc.rd CPORT.INSTATE.INSTATE p = bits w1.toNat 63 32 ∧
        t.vc.rd CPORT.STATUS.OUTSTATE p = bits w1.toNat 31 24 ∧ t.vc.rd CPORT.STATUS.FSV p = bits w1.toNat 23 16 ∧
        t.vc.rd CPORT.STATUS.LOCKOUT p = bits w1.toNat 15 8 ∧ t.vc.rd CPORT.STATUS.SC_STATUS p = bits w1.toNat 7 0 ∧
        (∀ b, b < 8 → bit w1.toNat (8 + b) = true → bit (s.vc.rd CPORT.STATUS.LOCKOUT p) b = false →
          t.vc.rd CPORT.ERRSTAT.LOCKOUT p = 1) ∧
        (bit (s.vc.rd CPORT.STATUS.SC_STATUS p) 7 = true → bit w1.toNat 7 = false → t.vc.rd CPORT.ERRSTAT.PERMIT_LOST p = 1) ∧
        (bits q 15 8 ≠ 0 → t.vc.rd CPORT.ACCSTAT.BUSY p = 0 ∧ t.vc.rd CPORT.ACCSTAT.DATA p = bits w0.toNat 47 40 ∧
          (bits w0.toNat 31 24 = 0 → t.vc.rd CPORT.ACCSTAT.RESULT p = 1) ∧
          (bits w0.toNat 31 24 = 1 → t.vc.rd CPORT.ACCSTAT.RESULT p = 2) ∧
          (1 < bits w0.toNat 31 24 → t.vc.rd CPORT.ACCSTAT.RESULT p = 3)) ∧
        (bits q 15 8 = 0 → t.vc.rd CPORT.ACCSTAT.BUSY p = s.vc.rd CPORT.ACCSTAT.BUSY p))) ∧
  (∀ (s : State) (dt : Nat) (p : Fin 2) (req : BitVec 16) (w : Word), s.vc.inReset = false → s.vc.rd BOOT.STATUS.STATE ≠ 2 →
    bit w.toNat 31 = true →
    (s.vc.rd CPORT.ACCSTAT.BUSY p = 0 → s.vc.portOn p = true → ∃ t, exec (.companionAccess dt p req w) s = .next t ∧
      t.vc.rd CPORT.ACCSTAT.BUSY p = 1 ∧ t.vc.rd CPORT.ACCSTAT.RESULT p = 0 ∧ (t.vc.comp p).acc = some w.toNat ∧
      t.vc.rd CPORT.ACCSTAT.ADDR p = bits w.toNat 15 8 ∧ t.vc.rd CPORT.ACCSTAT.DATA p = bits w.toNat 7 0) ∧
    (s.vc.rd CPORT.ACCSTAT.BUSY p ≠ 0 ∨ s.vc.portOn p = false → ∃ t, exec (.companionAccess dt p req w) s = .next t ∧
      t.vc.comps = s.vc.comps ∧ t.vc.rd CPORT.ACCSTAT.BUSY p = s.vc.rd CPORT.ACCSTAT.BUSY p ∧
      s.vc.Violated t.vc 3 (0x14010C + 0x40 * p.val) true)) ∧
  ∀ (s : State) (dt : Nat), s.vc.inReset = false →
    (∀ at_, s.vc.prot.differAt = some at_ → at_ + 8000000 < (s.vc.elapse dt).now → ∃ t, exec (.permitMismatch dt) s = .next t ∧ t.vc.rd COMPANION.ERRSTAT.PERMIT_MISMATCH = 1 ∧
      t.vc.prot = s.vc.prot) ∧
    ((∀ at_, s.vc.prot.differAt = some at_ → (s.vc.elapse dt).now ≤ at_ + 8000000) → ∃ t, exec (.permitMismatch dt) s = .next t ∧ t.vc = s.vc.elapse dt)

/-! ### Safety companion -/

/-- The safety cycle (R328, R335, R340 to R342): P and Q that agree command the switches and the permit as the functions decide; a
difference withdraws the permit at once and in a second cycle latches PQ with every output off. Whatever the cycle, a permit stands only in
RUN with no lock-out, every DOOR pair ACTIVE and the earthing switch OPEN, and a door output is commanded only with it CLOSED and every
DEENERG pair ACTIVE. -/
def Obligations.SafetyCycle : Prop :=
  ∀ (s : State) (dt : Nat) (n : Fin 2) (c : ScCycle),
    let w := s.swIn dt n
    let u := (w.readPins c).functions
    let p := u.mayPermit
    let o := u.wanted p
    let differ := (match c.qOuts with | some b => decide (b.toNat ≠ o) | none => false) ||
      (match c.qPermit with | some b => decide (b ≠ p) | none => false) || c.qLock
    ((s.sc n).power = false → ∃ t, exec (.safetyCycle dt n c) s = .next t ∧ t.scs = s.scs ∧ t.vc = s.vc.elapse dt) ∧
    ((s.sc n).power = true → ∃ t, exec (.safetyCycle dt n c) s = .next t ∧
      (differ = false → u.rd SC.GENCAUSE.PQ = 0 → (t.sc n).permitP = p ∧ (t.sc n).permitQ = p ∧ (t.sc n).cmdP = o ∧ (t.sc n).cmdQ = o ∧
        (t.swAt n).rd SC.STATUS.PERMIT = b2n p ∧ (t.swAt n).rd SC.STATUS.PQ_OK = 1 ∧ (t.sc n).pqRun = 0) ∧
      (differ = true → (t.sc n).permitP = false ∧ (t.sc n).permitQ = false ∧ (t.swAt n).rd SC.STATUS.PERMIT = 0 ∧
        (t.swAt n).rd SC.STATUS.PQ_OK = 0 ∧ (t.sc n).pqRun = (s.sc n).pqRun + 1 ∧
        (1 ≤ (s.sc n).pqRun → (t.swAt n).rd SC.GENCAUSE.PQ = 1 ∧ (t.sc n).cmdP = 0 ∧ (t.sc n).cmdQ = 0)) ∧
      ((t.sc n).permitP = true ∨ (t.sc n).permitQ = true → (t.swAt n).mode = 2 ∧ (t.swAt n).general = false ∧ (t.swAt n).acc = false ∧
        (t.swAt n).esw = false ∧ (t.swAt n).allActive 1 = true ∧ (t.swAt n).eswState = 0) ∧
      ∀ k, k < 8 → bit (t.sc n).cmdP k = true → bits ((t.swAt n).outCfg k) 6 4 = 1 → (t.swAt n).mode = 2 → (t.swAt n).eswState = 3 ∧
        (t.swAt n).allActive 2 = true ∧ (t.swAt n).acc = false ∧ (t.swAt n).general = false)

/-- Isolation link, field supply and output faults (R331, R335 to R339): a good frame sets the switches or the samples, a bad one is
counted; a field die without frames opens every output and withdraws the permit, as a low supply does, a logic die without frames withdraws
the permit; an overload or overtemperature locks its output alone; an open wire is shown where it is watched; an OFF test opens one switch
of an output that is on, in the output's slot of the test period, and its end reports a switch that does not open (SW_FAIL), two outputs
that follow each other (CROSS), and the three cases of a short to the supply (SHORT_FS). That the periods count from power-up, a test begins
exactly at its slot's start and the first period tests the high side (log 117), and how the pulses of a period are compared (log 81), are
the model's choices. -/
def Obligations.SafetyFieldSide : Prop :=
  (∀ (s : State) (dt : Nat) (n : Fin 2) (f : IsoFrame), (s.sc n).power = true →
    (∃ t, exec (.isoFrameRx dt n false f) s = .next t ∧ (t.swAt n).rd SC.ISOCNT.CNT = sat 8 ((s.swAt n).rd SC.ISOCNT.CNT + 1) ∧
      (t.sc n).badAt = some (s.vc.elapse dt).now ∧ (t.sc n).high = (s.sc n).high ∧ (t.sc n).low = (s.sc n).low) ∧
    (∃ t, exec (.isoFrameRx dt n true .toField) s = .next t ∧ (t.sc n).fieldAt = (s.vc.elapse dt).now ∧ (t.sc n).fieldDead = false ∧
      ∀ k, k < 8 → (bit (t.sc n).high k = (bit (s.sc n).cmdP k && !(s.sc n).supLow && decide ((s.swAt n).rd SC.OUTDIAG.LOCKED k = 0))) ∧
        (bit (t.sc n).low k = (bit (s.sc n).cmdQ k && !(s.sc n).supLow && decide ((s.swAt n).rd SC.OUTDIAG.LOCKED k = 0)))) ∧
    ∀ (cur loads : List (BitVec 16)) (op on : BitVec 8) (fsv : Byte), cur.length = 16 →
      ∃ t, exec (.isoFrameRx dt n true (.toLogic cur op on loads fsv)) s = .next t ∧ (t.sc n).loads = loads.map BitVec.toNat ∧
        (t.sc n).logicAt = (s.vc.elapse dt).now ∧
        (t.sc n).logicDead = false ∧ (t.sc n).outP = op.toNat ∧ (t.sc n).outN = on.toNat ∧ (t.swAt n).rd SC.FSV.V = fsv.toNat ∧
        ∀ i, i < 16 → (Tab.get (fun _ => ({} : InSt)) (t.sc n).inputs i).raw =
          inValue ((s.swAt n).inCfg i) (Tab.get (fun _ => ({} : InSt)) (s.sc n).inputs i).raw (cur.getD i 0).toNat) ∧
  (∀ (s : State) (dt : Nat) (n : Fin 2), (s.sc n).power = false →
    (∀ f, ∃ t, exec (.isoFrameRx dt n false f) s = .next t ∧ t.sc n = s.sc n) ∧
    (∃ t, exec (.isoFrameRx dt n true .toField) s = .next t ∧ t.sc n = s.sc n) ∧
    (∀ cur loads op on (fsv : Byte), ∃ t, exec (.isoFrameRx dt n true (.toLogic cur op on loads fsv)) s = .next t ∧
      t.sc n = { s.sc n with lowSince := if fsv.toNat < 128 then some ((s.sc n).lowSince.getD (s.vc.elapse dt).now) else none }) ∧
    ((s.sc n).fieldAt + 4000000 < (s.vc.elapse dt).now → ∃ t, exec (.isoTimeout dt n true) s = .next t ∧
      t.sc n = { s.sc n with fieldDead := true, high := 0, low := 0 }) ∧
    ∀ t0, (s.sc n).lowSince = some t0 → t0 + 8000000 < (s.vc.elapse dt).now → ∃ t, exec (.supplyLow dt n) s = .next t ∧
      t.sc n = { s.sc n with supLow := true, high := 0, low := 0 }) ∧
  (∀ (s : State) (dt : Nat) (n : Fin 2), (s.sc n).power = true →
    ((s.sc n).fieldAt + 4000000 < (s.vc.elapse dt).now → ∃ t, exec (.isoTimeout dt n true) s = .next t ∧ (t.sc n).fieldDead = true ∧
      (t.sc n).high = 0 ∧ (t.sc n).low = 0 ∧ (t.sc n).permitP = false ∧ (t.sc n).permitQ = false ∧
      (t.swAt n).rd SC.STATUS.PERMIT = 0 ∧ (t.swAt n).rd SC.GENCAUSE.ISO = 1) ∧
    ((s.vc.elapse dt).now ≤ (s.sc n).fieldAt + 4000000 → ∃ t, exec (.isoTimeout dt n true) s = .next t ∧ t.sc n = s.sc n) ∧
    ((s.sc n).logicAt + 4000000 < (s.vc.elapse dt).now → ∃ t, exec (.isoTimeout dt n false) s = .next t ∧ (t.sc n).logicDead = true ∧
      (t.sc n).permitP = false ∧ (t.sc n).permitQ = false ∧ (t.swAt n).rd SC.STATUS.PERMIT = 0 ∧ (t.swAt n).rd SC.GENCAUSE.ISO = 1) ∧
    ((s.vc.elapse dt).now ≤ (s.sc n).logicAt + 4000000 → ∃ t, exec (.isoTimeout dt n false) s = .next t ∧ t.sc n = s.sc n)) ∧
  (∀ (s : State) (dt : Nat) (n : Fin 2) (v : Byte), (s.sc n).power = true →
    (∃ t, exec (.fieldSupplySag dt n v) s = .next t ∧ (t.swAt n).rd SC.FSV.V = v.toNat ∧ (v.toNat < 144 →
      (t.swAt n).rd SC.SUPSTAT.SAG = 1 ∧ (t.swAt n).rd SC.SUPSTAT.SAG_SEEN = 1 ∧ (t.swAt n).rd SC.STATUS.SAG = 1)) ∧
    ∃ t, exec (.fieldSupplySagEnd dt n v) s = .next t ∧ (t.swAt n).rd SC.FSV.V = v.toNat ∧
      (t.swAt n).rd SC.SUPSTAT.SAG_SEEN = (s.swAt n).rd SC.SUPSTAT.SAG_SEEN ∧
      (148 < v.toNat → (t.swAt n).rd SC.SUPSTAT.SAG = 0 ∧ (t.swAt n).rd SC.STATUS.SAG = 0)) ∧
  (∀ (s : State) (dt : Nat) (n : Fin 2), (s.sc n).power = true →
    (∀ t0, (s.sc n).lowSince = some t0 → t0 + 8000000 < (s.vc.elapse dt).now → ∃ t, exec (.supplyLow dt n) s = .next t ∧
      (t.sc n).high = 0 ∧ (t.sc n).low = 0 ∧ (t.sc n).permitP = false ∧ (t.sc n).permitQ = false ∧
      (t.swAt n).rd SC.GENCAUSE.SUPPLY_LOW = 1 ∧ (t.swAt n).rd SC.SUPSTAT.LOW_SEEN = 1 ∧ (t.sc n).supLow = true) ∧
    ((∀ t0, (s.sc n).lowSince = some t0 → (s.vc.elapse dt).now ≤ t0 + 8000000) → ∃ t, exec (.supplyLow dt n) s = .next t ∧
      t.sc n = s.sc n)) ∧
  (∀ (s : State) (dt : Nat) (n : Fin 2) (k : Fin 8), (s.sc n).power = true →
    let on := (s.swAt n).isOn k
    (∀ (c : Instr) (f : Fld), (c = .outputOverload dt n k ∧ f = SC.OUTDIAG.OVERLOAD ∧ on = true) ∨
        (c = .outputOvertemp dt n k ∧ f = SC.OUTDIAG.OVERTEMP) → ∃ t, exec c s = .next t ∧ (t.swAt n).rd f k = 1 ∧
      (t.swAt n).rd SC.OUTDIAG.LOCKED k = 1 ∧ (t.swAt n).rd SC.GENCAUSE.OUTPUT = 1 ∧ (t.swAt n).isOn k = false ∧
      (t.sc n).permitP = false ∧ (t.sc n).permitQ = false ∧ ∀ j : Fin 8, j ≠ k → (t.swAt n).isOn j = (s.swAt n).isOn j ∧
        (t.swAt n).rd SC.OUTDIAG.LOCKED j = (s.swAt n).rd SC.OUTDIAG.LOCKED j) ∧
    (on = false → ∃ t, exec (.outputOverload dt n k) s = .next t ∧ t.sc n = s.sc n) ∧
    (on = true → bit ((s.swAt n).outCfg k) 3 = true → ∃ t, exec (.outputOpenWire dt n k) s = .next t ∧
      (t.swAt n).rd SC.OUTDIAG.OPEN_WIRE k = 1 ∧ (t.swAt n).isOn k = true ∧
      (t.swAt n).rd SC.OUTDIAG.LOCKED k = (s.swAt n).rd SC.OUTDIAG.LOCKED k) ∧
    (on = false ∨ bit ((s.swAt n).outCfg k) 3 = false → ∃ t, exec (.outputOpenWire dt n k) s = .next t ∧ t.sc n = s.sc n) ∧
    ∀ high : Bool,
      let since := (s.vc.elapse dt).now - (s.sc n).poweredAt
      let period := (s.swAt n).par 0x49 * 400000000
      let due := decide (since % period = k.val * (period / 8)) && decide (high = decide (since / period % 2 = 0))
      (on = true → (s.sc n).test = none → due = true → ∃ t, exec (.offTest dt n k high) s = .next t ∧
        (t.sc n).test = some ⟨k, high, (s.vc.elapse dt).now, (s.sc n).outP⟩ ∧ (t.sc n).regs = (s.sc n).regs) ∧
      (on = false ∨ (s.sc n).test ≠ none ∨ due = false → ∃ t, exec (.offTest dt n k high) s = .next t ∧ t.sc n = s.sc n)) ∧
  (∀ (s : State) (dt : Nat) (n : Fin 2) (c : ScCycle), (s.sc n).power = true → ∃ t, exec (.safetyCycle dt n c) s = .next t ∧
    (∀ j t0, j < 8 → (j, t0) ∈ (s.sc n).hotSince → t0 + (s.swAt n).par 0x49 * 400000000 ≤ (s.vc.elapse dt).now →
      (t.swAt n).rd SC.OUTDIAG.SHORT_FS j = 1 ∧ (t.swAt n).rd SC.OUTDIAG.LOCKED j = 1 ∧ (t.swAt n).isOn j = false) ∧
    ∀ j m, j < 8 → (j, m) ∈ (s.sc n).stuck → (∀ k, k < 8 → bit m k = true → (s.swAt n).isOn k = false) →
      (t.swAt n).rd SC.OUTDIAG.SHORT_FS j = 1 ∧ (t.swAt n).rd SC.OUTDIAG.LOCKED j = 1 ∧ (t.swAt n).isOn j = false) ∧
  ∀ (s : State) (dt : Nat) (n : Fin 2) (during : BitVec 8) (nUp : Bool), (s.sc n).power = true →
    ((s.sc n).test = none → ∃ t, exec (.offTestEnd dt n during nUp) s = .next t ∧ t.sc n = s.sc n) ∧
    ∀ x : OffTest, (s.sc n).test = some x →
      let ended := decide (x.since + 40000 * (s.swAt n).par 0x4A ≤ (s.vc.elapse dt).now)
      (ended = false → ∃ t, exec (.offTestEnd dt n during nUp) s = .next t ∧ t.sc n = s.sc n) ∧
      (ended = true → x.high = false → nUp = true → ∃ t, exec (.offTestEnd dt n during nUp) s = .next t ∧
        t.sc n = { s.sc n with test := none }) ∧
      (ended = true → x.high = false → nUp = false → ∃ t, exec (.offTestEnd dt n during nUp) s = .next t ∧ (t.sc n).test = none ∧
        (t.swAt n).rd SC.OUTDIAG.SW_FAIL x.k = 1 ∧ (t.swAt n).rd SC.OUTDIAG.LOCKED x.k = 1 ∧ bit (t.sc n).swFail x.k = true) ∧
      (ended = true → x.high = true → ∀ j, j < 8 → j ≠ x.k → (s.swAt n).isOn j = false → bit x.outP j = true →
        bit during.toNat j = false → ∃ t, exec (.offTestEnd dt n during nUp) s = .next t ∧ (t.sc n).test = none ∧
          (t.swAt n).rd SC.OUTDIAG.CROSS j = 1 ∧ (t.swAt n).rd SC.OUTDIAG.CROSS x.k = 1) ∧
      (ended = true → x.high = true → (∀ j, j < 8 → j ≠ x.k → (s.swAt n).isOn j = true ∨ bit x.outP j = false ∨ bit during.toNat j = true) →
        (bit during.toNat x.k = true → (∀ y ∈ (s.sc n).stuck, y.1 ≠ x.k → bit y.2 x.k = false) →
          (∀ j, j < 8 → j ≠ x.k → (s.swAt n).isOn j = false) → ∃ t, exec (.offTestEnd dt n during nUp) s = .next t ∧
            (t.sc n).test = none ∧ (t.swAt n).rd SC.OUTDIAG.SHORT_FS x.k = 1 ∧ (t.swAt n).rd SC.OUTDIAG.LOCKED x.k = 1 ∧
            (t.swAt n).rd SC.GENCAUSE.OUTPUT = 1) ∧
        (∀ j m, bit during.toNat x.k = true → (s.sc n).stuck = [(j, m)] → j < 8 → j ≠ x.k → bit m x.k = true →
          ∃ t, exec (.offTestEnd dt n during nUp) s = .next t ∧ (t.sc n).test = none ∧ (t.swAt n).rd SC.OUTDIAG.SHORT_FS j = 1 ∧
            (t.swAt n).rd SC.OUTDIAG.SHORT_FS x.k = 1 ∧ (t.swAt n).rd SC.OUTDIAG.LOCKED j = 1 ∧ (t.swAt n).rd SC.OUTDIAG.LOCKED x.k = 1) ∧
        (bit during.toNat x.k = false → (s.sc n).stuck = [] → (s.sc n).hotSince = [] →
          ∃ t, exec (.offTestEnd dt n during nUp) s = .next t ∧ (t.sc n).test = none ∧ (t.sc n).regs = (s.sc n).regs))

/-- Power-up of a companion (R346): every output off, the permit absent, GENERAL set with cause POWER_UP, which no command but a reset ends,
and no permit while it stands. -/
def Obligations.CompanionPowerUp : Prop :=
  (∀ (s : State) (dt : Nat) (n : Fin 2) (btn : Bool), ∃ t, exec (.scPowerUp dt n btn) s = .next t ∧ (t.sc n).power = true ∧
    (∀ k, (t.swAt n).isOn k = false) ∧ (t.sc n).cmdP = 0 ∧ (t.sc n).cmdQ = 0 ∧ (t.sc n).permitP = false ∧ (t.sc n).permitQ = false ∧
    (t.swAt n).general = true ∧ (t.swAt n).rd SC.GENCAUSE.POWER_UP = 1 ∧ (t.swAt n).rd SC.STATUS.PERMIT = 0) ∧
  (∀ (s : State) (dt : Nat) (n : Fin 2) (c : ScCycle), (s.sc n).power = true → (s.swAt n).rd SC.GENCAUSE.POWER_UP = 1 →
    ∃ t, exec (.safetyCycle dt n c) s = .next t ∧ (t.sc n).permitP = false ∧ (t.sc n).permitQ = false ∧
      (t.swAt n).rd SC.GENCAUSE.POWER_UP = 1) ∧
  ∀ (s t : State) (n : Fin 2) (c : Instr), (∀ dt ms, c ≠ .resetButton dt n ms) → (s.sc n).power = true →
    (s.swAt n).rd SC.GENCAUSE.POWER_UP = 1 → exec c s = .next t → (t.swAt n).rd SC.GENCAUSE.POWER_UP = 1

/-- The reset button, the earthing switch and the loss of power (R341, R344, R345, R350, R386): a reset of 100 ms to 3 s clears POWER_UP
and, where their causes are gone, the discrepancy, forced-access and feedback lock-outs, and completes a confirmation that is pending; any
other press does nothing; a request to the earthing switch is acted on in its states, refused in the closed or open state that does not
allow it, and waits its DELAY and its FBTIME; a companion without power gives no permit and keeps its log and its settings. That a request
is taken at its own command (log 58), a confirmation with a full log does nothing (log 93), what a copy's CRC covers (log 118) and the field
side's own supply (log 57) are the model's choices. -/
def Obligations.SafetyResetAndSwitch : Prop :=
  (∀ (s : State) (dt : Nat) (n : Fin 2) (ms : Nat), (s.sc n).power = true →
    ((s.swAt n).rd SC.RSTSTAT.STUCK ≠ 0 ∨ ms < 100 ∨ 3000 < ms → ∃ t, exec (.resetButton dt n ms) s = .next t ∧ t.sc n = s.sc n) ∧
    ((s.swAt n).rd SC.RSTSTAT.STUCK = 0 → 100 ≤ ms → ms ≤ 3000 → ∃ t, exec (.resetButton dt n ms) s = .next t ∧
      (t.swAt n).rd SC.RSTSTAT.DONE = 1 ∧ (t.swAt n).rd SC.GENCAUSE.POWER_UP = 0 ∧
      ((t.swAt n).acc = true ∨ (t.swAt n).esw = true → (t.swAt n).rd SC.RSTSTAT.REFUSED = 1) ∧
      (t.swAt n).rd SC.FUNCCAUSE.ACC_DISC =
        (if (s.swAt n).pairsClean (s.sc n).accDisc then 0 else (s.swAt n).rd SC.FUNCCAUSE.ACC_DISC) ∧
      (t.swAt n).rd SC.FUNCCAUSE.ACC_FORCED = (if (s.swAt n).allActive 1 then 0 else (s.swAt n).rd SC.FUNCCAUSE.ACC_FORCED) ∧
      (t.swAt n).rd SC.FUNCCAUSE.ESW_FB =
        (if (s.swAt n).fbOpen || (s.swAt n).fbClosed then 0 else (s.swAt n).rd SC.FUNCCAUSE.ESW_FB) ∧
      (t.swAt n).rd SC.GENCAUSE.PQ = (s.swAt n).rd SC.GENCAUSE.PQ ∧
      ((s.swAt n).rd SC.MODE.CONFIRM_PEND = 0 → (t.swAt n).rd SC.GENCAUSE.CONFIG = 0 ∧ (t.swAt n).mode = (s.swAt n).mode ∧
        (t.sc n).active = (s.sc n).active) ∧
      ((s.swAt n).rd SC.MODE.CONFIRM_PEND ≠ 0 → (s.vc.elapse dt).now ≤ (s.sc n).pendEnd → (s.sc n).log.length < 4096 → (t.swAt n).mode = 2 ∧
        (t.sc n).active = (s.sc n).pendSet ∧ (t.swAt n).rd SC.MODE.CONFIRM_PEND = 0 ∧ (t.swAt n).rd SC.GENCAUSE.CONFIG = 1 ∧
        (t.sc n).copyA.valid = true ∧ (t.sc n).copyA.set = paramBytes (s.sc n).pendSet ∧ (t.sc n).copyB = (t.sc n).copyA ∧
        (t.sc n).copyA.seq = max (s.sc n).copyA.validSeq (s.sc n).copyB.validSeq + 1 ∧
        ∃ e, (t.sc n).log = (s.sc n).log ++ [e]))) ∧
  (∀ (s : State) (dt : Nat) (n : Fin 2), (s.sc n).power = true →
    (∃ t, exec (.rstStuck dt n) s = .next t ∧ (t.swAt n).rd SC.RSTSTAT.STUCK = 1 ∧ (t.swAt n).rd SC.RSTSTAT.STUCK_SEEN = 1) ∧
    (∃ t, exec (.rstStuckClear dt n) s = .next t ∧ (t.swAt n).rd SC.RSTSTAT.STUCK = 0 ∧
      (t.swAt n).rd SC.RSTSTAT.STUCK_SEEN = (s.swAt n).rd SC.RSTSTAT.STUCK_SEEN) ∧
    ∃ t, exec (.scUnpowered dt n) s = .next t ∧ (t.sc n).power = false ∧ (t.sc n).permitP = false ∧ (t.sc n).permitQ = false ∧
      (t.sc n).log = (s.sc n).log ∧ (t.sc n).copyA = (s.sc n).copyA) ∧
  (∀ (s : State) (dt : Nat) (n : Fin 2), (s.sc n).power = true →
    let w := s.swAt n
    (w.req ≠ 1 → ∃ t, exec (.eswClose dt n) s = .next t ∧ t.sc n = s.sc n) ∧
    (w.req = 1 → w.eswState = 0 → w.mode = 2 → w.esw = false → w.general = false → ∃ t, exec (.eswClose dt n) s = .next t ∧
      (t.swAt n).eswState = 1 ∧ (t.sc n).permitP = false ∧ (t.sc n).req = 0 ∧ (t.sc n).eswSince = (s.vc.elapse dt).now) ∧
    (w.req = 1 → w.eswState = 3 ∨ (w.eswState = 0 ∧ (w.mode ≠ 2 ∨ w.esw = true ∨ w.general = true)) →
      ∃ t, exec (.eswClose dt n) s = .next t ∧ (t.swAt n).eswState = w.eswState ∧ (t.swAt n).rd SC.ESWSTAT.REFUSED = 1 ∧ (t.sc n).req = 0) ∧
    (w.req ≠ 2 → ∃ t, exec (.eswOpen dt n) s = .next t ∧ t.sc n = s.sc n) ∧
    (w.req = 2 → w.eswState = 3 → w.allActive 1 = true → w.esw = false → w.general = false → ∃ t, exec (.eswOpen dt n) s = .next t ∧
      (t.swAt n).eswState = 4 ∧ ∀ k, k < 8 → bit (w.funcOuts 1) k = true → (t.swAt n).isOn k = false) ∧
    (w.req = 2 → w.eswState = 0 ∨ (w.eswState = 3 ∧ (w.allActive 1 = false ∨ w.esw = true ∨ w.general = true)) →
      ∃ t, exec (.eswOpen dt n) s = .next t ∧ (t.swAt n).eswState = w.eswState ∧ (t.swAt n).rd SC.ESWSTAT.REFUSED = 1) ∧
    (w.req ≠ 3 → ∃ t, exec (.eswAbort dt n) s = .next t ∧ t.sc n = s.sc n) ∧
    (w.req = 3 → w.eswState = 1 → ∃ t, exec (.eswAbort dt n) s = .next t ∧ (t.swAt n).eswState = 0 ∧
      (t.swAt n).rd SC.ESWSTAT.REFUSED = 1) ∧
    (w.req = 3 → w.eswState = 2 ∨ w.eswState = 4 → ∃ t, exec (.eswAbort dt n) s = .next t ∧ (t.swAt n).eswState = 5 ∧
      (t.swAt n).rd SC.FUNCCAUSE.ESW_FB = 1 ∧ ∀ k, k < 8 → bit (w.funcOuts 2) k = true ∨ bit (w.funcOuts 3) k = true →
        (t.swAt n).isOn k = false)) ∧
  ∀ (s : State) (dt : Nat) (n : Fin 2), (s.sc n).power = true →
    let w := s.swAt n
    let waited := decide (w.eswSince + 4000000000 * bits (w.par 0x60) 3 0 ≤ (s.vc.elapse dt).now)
    let late := decide (w.eswSince + 4000000000 * bits (w.par 0x60) 7 4 ≤ (s.vc.elapse dt).now)
    (w.eswState = 1 → waited = true → w.allActive 2 = true → ∃ t, exec (.eswDelayExpiry dt n) s = .next t ∧ (t.swAt n).eswState = 2) ∧
    (w.eswState = 1 → waited = true → w.allActive 2 = false → ∃ t, exec (.eswDelayExpiry dt n) s = .next t ∧ (t.swAt n).eswState = 0 ∧
      (t.swAt n).rd SC.ESWSTAT.REFUSED = 1) ∧
    (w.eswState ≠ 1 ∨ waited = false → ∃ t, exec (.eswDelayExpiry dt n) s = .next t ∧ t.sc n = s.sc n) ∧
    (w.eswState = 2 ∨ w.eswState = 4 → late = true → ∃ t, exec (.eswFbTimeout dt n) s = .next t ∧ (t.swAt n).eswState = 5 ∧
      (t.swAt n).rd SC.FUNCCAUSE.ESW_FB = 1 ∧ (t.swAt n).esw = true ∧ (t.sc n).permitP = false) ∧
    ((w.eswState ≠ 2 ∧ w.eswState ≠ 4) ∨ late = false → ∃ t, exec (.eswFbTimeout dt n) s = .next t ∧ t.sc n = s.sc n)

/-- Requests over the companion link (R347 to R351, R354): one with a wrong CHECK or of another kind does nothing, a SEQ seen before repeats
the last response, and a new request is executed and answered: modes, password, parameters and confirmation act where they are allowed and
are REFUSED elsewhere. How parameters are staged and confirmed (log 56), when a request counts as new (log 59), the log's operating seconds
(log 80) and what a copy's CRC covers (log 118) are the model's choices. -/
def Obligations.SafetyRequests : Prop :=
  ∀ (s : State) (dt : Nat) (n : Fin 2) (q : DWord), (s.sc n).power = true →
    let w := s.swIn dt n
    let a := bits q.toNat 39 32
    let v := bits q.toNat 47 40
    let ok := requestOk q.toNat 2
    let new := (s.sc n).fresh q.toNat
    let open_ := w.rd SC.SECSTAT.UNLOCKED ≠ 0
    (∀ c : Instr, (c = .scPoll dt n q ∧ requestOk q.toNat 0 = false) ∨ (c = .scRead dt n q ∧ requestOk q.toNat 1 = false) ∨
        (c = .scWrite dt n q ∧ ok = false) → ∃ t, exec c s = .next t ∧ t.sc n = s.sc n ∧ t.vc.out = []) ∧
    (∀ (c : Instr) (r : Nat × Nat × Nat), (c = .scPoll dt n q ∧ requestOk q.toNat 0 = true) ∨
        (c = .scRead dt n q ∧ requestOk q.toNat 1 = true) ∨ (c = .scWrite dt n q ∧ ok = true) → (s.sc n).lastReq = some r →
      r.1 = bits q.toNat 23 16 → ∃ t, exec c s = .next t ∧ t.sc n = s.sc n ∧ t.vc.out = [.scResponse n (compBytes [r.2.1, r.2.2])]) ∧
    (requestOk q.toNat 0 = true → new → ∃ t, exec (.scPoll dt n q) s = .next t ∧ t.ScAnswered n q.toNat 0 ∧
      (t.sc n).regs = (s.sc n).regs) ∧
    (requestOk q.toNat 1 = true → new → ∃ t, exec (.scRead dt n q) s = .next t ∧ (t.sc n).regs = (s.sc n).regs ∧
      match w.byte a with
      | some b => t.ScAnswered n q.toNat 0 ∧ ∃ q' w0 w1, (t.sc n).lastReq = some (q', w0, w1) ∧ bits w0 47 40 = b % 256
      | none => t.ScAnswered n q.toNat 1) ∧
    (ok = true → new →
      (findRow scRows a = none → ∃ t, exec (.scWrite dt n q) s = .next t ∧ t.ScAnswered n q.toNat 1 ∧ (t.sc n).regs = (s.sc n).regs) ∧
      (a = 0x61 → 1 ≤ v → v ≤ 3 → ∃ t, exec (.scWrite dt n q) s = .next t ∧ t.ScAnswered n q.toNat 0 ∧ (t.sc n).req = v) ∧
      (a = 0x01 → v = 1 →
        (w.mode = 2 → open_ → ∃ t, exec (.modeEnter dt n q) s = .next t ∧ t.ScAnswered n q.toNat 0 ∧ (t.swAt n).mode = 1 ∧
          (t.sc n).permitP = false ∧ (t.sc n).cmdP = 0 ∧ (t.sc n).staged = (s.sc n).active) ∧
        (w.mode ≠ 2 ∨ ¬ open_ → ∃ t, exec (.modeEnter dt n q) s = .next t ∧ t.ScAnswered n q.toNat 2 ∧ (t.swAt n).mode = w.mode)) ∧
      (a = 0x01 → v = 2 →
        (w.mode = 1 → ∃ t, exec (.modeLeave dt n q) s = .next t ∧ t.ScAnswered n q.toNat 0 ∧ (t.swAt n).mode = 2 ∧
          (t.swAt n).rd SC.GENCAUSE.CONFIG = 1 ∧ (t.swAt n).general = true ∧ (t.sc n).permitP = false ∧
          (t.sc n).active = (s.sc n).active) ∧
        (w.mode ≠ 1 → ∃ t, exec (.modeLeave dt n q) s = .next t ∧ t.ScAnswered n q.toNat 2 ∧ (t.swAt n).mode = w.mode)) ∧
      (a = 0x84 →
        (w.rd SC.SECSTAT.BARRED ≠ 0 → ∃ t, exec (.scUnlock dt n q) s = .next t ∧ t.ScAnswered n q.toNat 2 ∧
          (t.swAt n).rd SC.SECSTAT.UNLOCKED = w.rd SC.SECSTAT.UNLOCKED) ∧
        (w.rd SC.SECSTAT.BARRED = 0 → (s.sc n).unlockB.set 3 v = (s.sc n).pwd → ∃ t, exec (.scUnlock dt n q) s = .next t ∧
          t.ScAnswered n q.toNat 0 ∧ (t.swAt n).rd SC.SECSTAT.UNLOCKED = 1 ∧ (t.swAt n).rd SC.SECSTAT.TRIES = 0 ∧
          (t.sc n).unlockEnd = w.now + 2400000000000) ∧
        (w.rd SC.SECSTAT.BARRED = 0 → (s.sc n).unlockB.set 3 v ≠ (s.sc n).pwd → ∃ t, exec (.scUnlock dt n q) s = .next t ∧
          t.ScAnswered n q.toNat 0 ∧ (t.swAt n).rd SC.SECSTAT.UNLOCKED = w.rd SC.SECSTAT.UNLOCKED ∧
          (w.rd SC.SECSTAT.TRIES < 2 → (t.swAt n).rd SC.SECSTAT.TRIES = w.rd SC.SECSTAT.TRIES + 1 ∧
            (t.swAt n).rd SC.SECSTAT.BARRED = 0) ∧
          (w.rd SC.SECSTAT.TRIES = 2 → (t.swAt n).rd SC.SECSTAT.BARRED = 1 ∧ (t.sc n).barEnd = w.now + 2400000000000))) ∧
      (a = 0x85 → v = 1 → ∃ t, exec (.relock dt n q) s = .next t ∧ t.ScAnswered n q.toNat 0 ∧ (t.swAt n).rd SC.SECSTAT.UNLOCKED = 0) ∧
      (a = 0x89 →
        (w.mode = 0 ∨ open_ → (s.sc n).log.length < 4096 → ∃ t, exec (.passwordChange dt n q) s = .next t ∧ t.ScAnswered n q.toNat 0 ∧
          (t.sc n).pwd = (s.sc n).pwdB.set 3 v ∧ ∃ e, (t.sc n).log = (s.sc n).log ++ [e]) ∧
        ((w.mode ≠ 0 ∧ ¬ open_) ∨ 4096 ≤ (s.sc n).log.length → ∃ t, exec (.passwordChange dt n q) s = .next t ∧
          t.ScAnswered n q.toNat 2 ∧ (t.sc n).pwd = (s.sc n).pwd)) ∧
      (a ∈ setAddrs →
        (paramTakes a v = false → ∃ t, exec (.scParameterWrite dt n q) s = .next t ∧ t.ScAnswered n q.toNat 2 ∧
          (t.sc n).active = (s.sc n).active ∧ (t.sc n).staged = (s.sc n).staged) ∧
        (paramTakes a v = true → w.mode ≠ 2 → ∃ t, exec (.scParameterWrite dt n q) s = .next t ∧ t.ScAnswered n q.toNat 0 ∧
          Tab.get paramReset (t.sc n).staged a = Nat.land v (paramMask a) ∧ (t.sc n).active = (s.sc n).active) ∧
        (paramTakes a v = true → w.mode = 2 → open_ → (s.sc n).log.length < 4096 → ∃ t, exec (.scParameterWrite dt n q) s = .next t ∧
          t.ScAnswered n q.toNat 0 ∧ (t.swAt n).par a = Nat.land v (paramMask a) ∧ (∀ b, b ≠ a → (t.swAt n).par b = (s.swAt n).par b) ∧
          (t.swAt n).rd SC.GENCAUSE.CONFIG = 1 ∧ (t.sc n).permitP = false ∧ (∃ e, (t.sc n).log = (s.sc n).log ++ [e]) ∧
          (t.sc n).copyA.valid = true ∧ (t.sc n).copyA.set = paramBytes (t.sc n).active ∧ (t.sc n).copyB = (t.sc n).copyA) ∧
        (paramTakes a v = true → w.mode = 2 → ¬ open_ ∨ 4096 ≤ (s.sc n).log.length → ∃ t, exec (.scParameterWrite dt n q) s = .next t ∧
          t.ScAnswered n q.toNat 2 ∧ (t.sc n).active = (s.sc n).active)) ∧
      (a = 0x91 →
        (w.mode = 2 ∨ 4096 ≤ (s.sc n).log.length → ∃ t, exec (.scConfirm dt n q) s = .next t ∧ t.ScAnswered n q.toNat 2 ∧
          (t.sc n).regs = (s.sc n).regs) ∧
        (w.mode ≠ 2 → (s.sc n).log.length < 4096 →
          (ofBytes ((s.sc n).confirmB.set 3 v) = setCrc (s.sc n).staged → consistent (s.sc n).staged = true →
            ∃ t, exec (.scConfirm dt n q) s = .next t ∧ t.ScAnswered n q.toNat 0 ∧ (t.swAt n).rd SC.MODE.CONFIRM_PEND = 1 ∧
              (t.sc n).pendSet = (s.sc n).staged ∧ (t.sc n).pendEnd = w.now + 120000000000) ∧
          (ofBytes ((s.sc n).confirmB.set 3 v) ≠ setCrc (s.sc n).staged ∨ consistent (s.sc n).staged = false →
            ∃ t, exec (.scConfirm dt n q) s = .next t ∧ t.ScAnswered n q.toNat 0 ∧ (t.swAt n).rd SC.SECSTAT.CRC_BAD = 1 ∧
              (t.swAt n).rd SC.MODE.CONFIRM_PEND = w.rd SC.MODE.CONFIRM_PEND)))) ∧
    (∃ t, exec (.unlockExpiry dt n) s = .next t ∧ (w.unlockEnd ≤ w.now → (t.swAt n).rd SC.SECSTAT.UNLOCKED = 0) ∧
      (w.now < w.unlockEnd → (t.swAt n).rd SC.SECSTAT.UNLOCKED = w.rd SC.SECSTAT.UNLOCKED) ∧
      (w.barEnd ≤ w.now → (t.swAt n).rd SC.SECSTAT.BARRED = 0) ∧
      (w.now < w.barEnd → (t.swAt n).rd SC.SECSTAT.BARRED = w.rd SC.SECSTAT.BARRED)) ∧
    ∃ t, exec (.confirmTimeout dt n) s = .next t ∧ (w.pendEnd ≤ w.now → (t.swAt n).rd SC.MODE.CONFIRM_PEND = 0) ∧
      (w.now < w.pendEnd → t.sc n = s.sc n)

/-! ### The whole machine -/

/-- The machine at reset: no command waits, the flash and the tables of parts are in canonical form, the special registers are sound, every
register of the controller reads its reset value (R51, R54), every cell is held in cold reset (R223) and no companion has power (R386), and
the flash reads erased (the model's choice, log 20). -/
def Obligations.ResetState : Prop :=
  State.reset.Canon ∧ State.reset.vc.Sound ∧ State.reset.pending = [] ∧ State.reset.vc.vt = 0 ∧ State.reset.vc.out = [] ∧
  (∀ (f : Fld) (i j : Nat), State.reset.vc.rd f i j = f.reset j) ∧
  State.reset.vc.rd GLOBAL.STATUS.BLOCKED = 1 ∧ State.reset.vc.rd TIME.STATUS.STEP_ARM = 1 ∧ State.reset.vc.rd BOOT.STATUS.STATE = 0 ∧
  (∀ n p, (State.reset.cellAt n p).run = false) ∧ (∀ n, (State.reset.sc n).power = false) ∧
  ∀ a, Memory.read State.reset.vc.flash a = 0xFF#8

/-- Every command, in every state whose waiting writes are those of the tick boundary (R37), runs to a next state; what it leaves: the
queue's rest, every register outside the groups it may change and the fields that an event or a violation writes (R45, R53), the flash
unless it is one of those that program it (R355), every cell and companion but at most one, and the controller's registers, flash and facets
where it changes a cell or a companion. That a write of LENS, PRISM, SCHED or APERTURE.CTRL changes its registers with the TICK at whose
boundary it takes effect (log 108), and that the ledger's writes may go to the flash with the commands named (log 28), are the model's
choices. -/
def Obligations.CommandFrames : Prop :=
  ∀ (c : Instr) (s : State), s.vc.HeldOk → ∃ t, exec c s = .next t ∧ t.pending = s.pending ∧
    (∀ gs, groupsOf c = some gs → ∀ (f : Fld) (i j : Nat), f.id ∉ violationFields → f.group ∉ gs → t.vc.rd f i j = s.vc.rd f i j) ∧
    (mayProgram c = false → t.vc.flash = s.vc.flash) ∧
    (∀ m n, m ≠ n → t.cell m ≠ s.cell m → t.cell n = s.cell n) ∧ (∀ m n, m ≠ n → t.sc m ≠ s.sc m → t.sc n = s.sc n) ∧
    ((∃ n, t.cell n ≠ s.cell n) ∨ (∃ n, t.sc n ≠ s.sc n) →
      t.vc.regs = s.vc.regs ∧ t.vc.flash = s.vc.flash ∧ t.vc.facets = s.vc.facets)

/-- Over every step the special registers stay sound: RESETCAUSE shows one of its causes (R48), a violation's OVERFLOW stands only beside
VALID (R56), the voter is in one of its three modes (R38, R41, R42), every queue has a size of R287, an SQ is DISABLED exactly while it is
not enabled (R303), the head and the tail of an enabled queue are inside it (R287, R288, R309), and only writes that take effect at the tick
boundary wait for it (R37, R52). -/
def Obligations.EveryStepKeepsSpecialRegisters : Prop :=
  ∀ s t : State, s.vc.Sound → step s = .next t → t.vc.Sound

/-- The flash (R355, R356) and the tables of cells, companions and TAPs keep their canonical form over every step: equal contents stay equal
data. -/
def Obligations.EveryStepKeepsCanonicalForm : Prop :=
  ∀ s t : State, s.Canon → step s = .next t → t.Canon
end

