-- ==== Sys2Proof/Laws/Tab.lean ====
section
/-!
SUPPORT. Laws/Tab.lean: what reading, setting and the canonical form of a sparse table have to do with each other.
-/
namespace Sys2Proof.Machine
set_option Elab.async false

theorem Tab.get_ins_same {α : Type} (d : Nat → α) (k : Nat) (v : α) (t : Tab α) (h : ∀ e ∈ t, e.1 ≠ k) :
    Tab.get d (Tab.ins k v t) k = v := by
  induction t with
  | nil => simp [Tab.ins, Tab.get]
  | cons e t ih =>
    obtain ⟨k', v'⟩ := e
    have hk : k' ≠ k := h (k', v') (by simp)
    simp only [Tab.ins]
    split
    · simp [Tab.get]
    · simp only [Tab.get, hk, if_false]
      exact ih fun e he => h e (by simp [he])

theorem Tab.get_ins_ne {α : Type} (d : Nat → α) (k j : Nat) (v : α) (t : Tab α) (h : j ≠ k) :
    Tab.get d (Tab.ins k v t) j = Tab.get d t j := by
  induction t with
  | nil => simp [Tab.ins, Tab.get, Ne.symm h]
  | cons e t ih =>
    obtain ⟨k', v'⟩ := e
    simp only [Tab.ins]
    split
    · simp [Tab.get, Ne.symm h]
    · simp only [Tab.get]
      split
      · rfl
      · exact ih

theorem Tab.get_filter_ne {α : Type} (d : Nat → α) (k j : Nat) (t : Tab α) (h : j ≠ k) :
    Tab.get d (t.filter fun e => e.1 ≠ k) j = Tab.get d t j := by
  induction t with
  | nil => rfl
  | cons e t ih =>
    obtain ⟨k', v'⟩ := e
    by_cases hk : k' = k
    · subst hk
      simp only [List.filter_cons, ne_eq, not_true, decide_false, Tab.get, Ne.symm h, if_false]
      exact ih
    · simp only [List.filter_cons, ne_eq, hk, not_false_eq_true, decide_true, if_true, Tab.get]
      split
      · rfl
      · exact ih

theorem Tab.get_absent {α : Type} (d : Nat → α) (k : Nat) (t : Tab α) (h : ∀ e ∈ t, e.1 ≠ k) : Tab.get d t k = d k := by
  induction t with
  | nil => rfl
  | cons e t ih =>
    obtain ⟨k', v'⟩ := e
    have hk : k' ≠ k := h (k', v') (by simp)
    simp only [Tab.get, hk, if_false]
    exact ih fun e he => h e (by simp [he])

/-- A value set is the value read. -/
@[simp] theorem Tab.get_set_same {α : Type} [DecidableEq α] (d : Nat → α) (t : Tab α) (k : Nat) (v : α) :
    Tab.get d (Tab.set d t k v) k = v := by
  have hf : ∀ e ∈ t.filter (fun e => e.1 ≠ k), e.1 ≠ k := by
    intro e he
    simpa using (List.mem_filter.1 he).2
  unfold Tab.set
  by_cases hv : v = d k
  · simp only [hv, if_true]
    exact Tab.get_absent d k _ hf
  · simp only [hv, if_false]
    exact Tab.get_ins_same d k v _ hf

/-- Setting a value leaves every other key. -/
theorem Tab.get_set_ne {α : Type} [DecidableEq α] (d : Nat → α) (t : Tab α) (k j : Nat) (v : α) (h : j ≠ k) :
    Tab.get d (Tab.set d t k v) j = Tab.get d t j := by
  unfold Tab.set
  by_cases hv : v = d k
  · simp only [hv, if_true]
    exact Tab.get_filter_ne d k j t h
  · simp only [hv, if_false]
    rw [Tab.get_ins_ne d k j v _ h]
    exact Tab.get_filter_ne d k j t h

theorem Tab.get_set {α : Type} [DecidableEq α] (d : Nat → α) (t : Tab α) (k j : Nat) (v : α) :
    Tab.get d (Tab.set d t k v) j = if j = k then v else Tab.get d t j := by
  by_cases h : j = k
  · subst h; simp
  · simp [h, Tab.get_set_ne d t k j v h]

/-! ### The canonical form -/

theorem Tab.wf_cons {α : Type} [DecidableEq α] (d : Nat → α) (k : Nat) (v : α) (t : Tab α) :
    Tab.wf d ((k, v) :: t) = true ↔ v ≠ d k ∧ (∀ e ∈ t, k < e.1) ∧ Tab.wf d t = true := by
  simp [Tab.wf, and_assoc]

theorem Tab.wf_filter {α : Type} [DecidableEq α] (d : Nat → α) (p : Nat × α → Bool) (t : Tab α) (h : Tab.wf d t = true) :
    Tab.wf d (t.filter p) = true := by
  induction t with
  | nil => rfl
  | cons e t ih =>
    obtain ⟨k, v⟩ := e
    obtain ⟨hv, hk, ht⟩ := (Tab.wf_cons d k v t).1 h
    rw [List.filter_cons]
    split
    · exact (Tab.wf_cons d k v _).2 ⟨hv, fun e he => hk e (List.mem_filter.1 he).1, ih ht⟩
    · exact ih ht

theorem Tab.mem_ins {α : Type} (k : Nat) (v : α) (t : Tab α) (e : Nat × α) (he : e ∈ Tab.ins k v t) : e = (k, v) ∨ e ∈ t := by
  induction t with
  | nil => simpa [Tab.ins] using he
  | cons a t ih =>
    obtain ⟨k', v'⟩ := a
    simp only [Tab.ins] at he
    split at he
    · simpa using he
    · rcases List.mem_cons.1 he with h | h
      · right; simp [h]
      · rcases ih h with h | h
        · left; exact h
        · right; simp [h]

theorem Tab.wf_ins {α : Type} [DecidableEq α] (d : Nat → α) (k : Nat) (v : α) (t : Tab α) (h : Tab.wf d t = true)
    (hk : ∀ e ∈ t, e.1 ≠ k) (hv : v ≠ d k) : Tab.wf d (Tab.ins k v t) = true := by
  induction t with
  | nil => simp [Tab.ins, Tab.wf, hv]
  | cons e t ih =>
    obtain ⟨k', v'⟩ := e
    obtain ⟨hv', hlt, ht⟩ := (Tab.wf_cons d k' v' t).1 h
    have hne : k' ≠ k := hk (k', v') (by simp)
    simp only [Tab.ins]
    split
    · rename_i hlt'
      refine (Tab.wf_cons d k v _).2 ⟨hv, ?_, h⟩
      intro e he
      rcases List.mem_cons.1 he with he | he
      · subst he; exact hlt'
      · exact Nat.lt_trans hlt' (hlt e he)
    · rename_i hge
      refine (Tab.wf_cons d k' v' _).2 ⟨hv', ?_, ih ht fun e he => hk e (by simp [he])⟩
      intro e he
      rcases Tab.mem_ins k v t e he with he | he
      · subst he; show k' < k; omega
      · exact hlt e he

/-- Setting a value keeps the canonical form. -/
theorem Tab.wf_set {α : Type} [DecidableEq α] (d : Nat → α) (t : Tab α) (k : Nat) (v : α) (h : Tab.wf d t = true) :
    Tab.wf d (Tab.set d t k v) = true := by
  have hf : ∀ e ∈ t.filter (fun e => e.1 ≠ k), e.1 ≠ k := by
    intro e he
    simpa using (List.mem_filter.1 he).2
  unfold Tab.set
  by_cases hv : v = d k
  · simp only [hv, if_true]
    exact Tab.wf_filter d _ t h
  · simp only [hv, if_false]
    exact Tab.wf_ins d k v _ (Tab.wf_filter d _ t h) hf hv

/-- The keys of a table after a value is set. -/
theorem Tab.mem_set {α : Type} [DecidableEq α] (d : Nat → α) (t : Tab α) (k : Nat) (v : α) (e : Nat × α)
    (he : e ∈ Tab.set d t k v) : e = (k, v) ∨ e ∈ t := by
  unfold Tab.set at he
  by_cases hv : v = d k
  · simp only [hv, if_true] at he
    exact Or.inr (List.mem_filter.1 he).1
  · simp only [hv, if_false] at he
    rcases Tab.mem_ins k v _ e he with h | h
    · exact Or.inl h
    · exact Or.inr (List.mem_filter.1 h).1

end Sys2Proof.Machine
end

