-- ==== Sys2Proof/Laws/State.lean ====
section
/-!
SUPPORT. Laws/State.lean: what each named update of the VC, a cell and a companion leaves, field by field, and what a
register reads after a write.
-/
namespace Sys2Proof.Machine
set_option Elab.async false

/-! ### The VC -/

@[simp] theorem Vc.wr_out (s : Vc) (f : Fld) (v i j : Nat) : (s.wr f v i j).out = s.out := rfl
@[simp] theorem Vc.wr_frac (s : Vc) (f : Fld) (v i j : Nat) : (s.wr f v i j).frac = s.frac := rfl
@[simp] theorem Vc.wr_now (s : Vc) (f : Fld) (v i j : Nat) : (s.wr f v i j).now = s.now := rfl
@[simp] theorem Vc.wr_ticks (s : Vc) (f : Fld) (v i j : Nat) : (s.wr f v i j).ticks = s.ticks := rfl
@[simp] theorem Vc.wr_free (s : Vc) (f : Fld) (v i j : Nat) : (s.wr f v i j).free = s.free := rfl
@[simp] theorem Vc.wr_facets (s : Vc) (f : Fld) (v i j : Nat) : (s.wr f v i j).facets = s.facets := rfl
@[simp] theorem Vc.wr_remotes (s : Vc) (f : Fld) (v i j : Nat) : (s.wr f v i j).remotes = s.remotes := rfl
@[simp] theorem Vc.wr_arms (s : Vc) (f : Fld) (v i j : Nat) : (s.wr f v i j).arms = s.arms := rfl
@[simp] theorem Vc.wr_strs (s : Vc) (f : Fld) (v i j : Nat) : (s.wr f v i j).strs = s.strs := rfl
@[simp] theorem Vc.wr_lanes (s : Vc) (f : Fld) (v i j : Nat) : (s.wr f v i j).lanes = s.lanes := rfl
@[simp] theorem Vc.wr_prot (s : Vc) (f : Fld) (v i j : Nat) : (s.wr f v i j).prot = s.prot := rfl
@[simp] theorem Vc.wr_host (s : Vc) (f : Fld) (v i j : Nat) : (s.wr f v i j).host = s.host := rfl
@[simp] theorem Vc.wr_ledger (s : Vc) (f : Fld) (v i j : Nat) : (s.wr f v i j).ledger = s.ledger := rfl
@[simp] theorem Vc.wr_ap (s : Vc) (f : Fld) (v i j : Nat) : (s.wr f v i j).ap = s.ap := rfl
@[simp] theorem Vc.wr_lens (s : Vc) (f : Fld) (v i j : Nat) : (s.wr f v i j).lens = s.lens := rfl
@[simp] theorem Vc.wr_sched (s : Vc) (f : Fld) (v i j : Nat) : (s.wr f v i j).sched = s.sched := rfl
@[simp] theorem Vc.wr_time (s : Vc) (f : Fld) (v i j : Nat) : (s.wr f v i j).time = s.time := rfl
@[simp] theorem Vc.wr_casc (s : Vc) (f : Fld) (v i j : Nat) : (s.wr f v i j).casc = s.casc := rfl
@[simp] theorem Vc.wr_voter (s : Vc) (f : Fld) (v i j : Nat) : (s.wr f v i j).voter = s.voter := rfl
@[simp] theorem Vc.wr_boot (s : Vc) (f : Fld) (v i j : Nat) : (s.wr f v i j).boot = s.boot := rfl
@[simp] theorem Vc.wr_comps (s : Vc) (f : Fld) (v i j : Nat) : (s.wr f v i j).comps = s.comps := rfl
@[simp] theorem Vc.wr_resetUntil (s : Vc) (f : Fld) (v i j : Nat) : (s.wr f v i j).resetUntil = s.resetUntil := rfl
@[simp] theorem Vc.wr_held (s : Vc) (f : Fld) (v i j : Nat) : (s.wr f v i j).held = s.held := rfl
@[simp] theorem Vc.set1_out (s : Vc) (f : Fld) (i j : Nat) : (s.set1 f i j).out = s.out := rfl
@[simp] theorem Vc.set1_frac (s : Vc) (f : Fld) (i j : Nat) : (s.set1 f i j).frac = s.frac := rfl
@[simp] theorem Vc.set1_now (s : Vc) (f : Fld) (i j : Nat) : (s.set1 f i j).now = s.now := rfl
@[simp] theorem Vc.set1_ticks (s : Vc) (f : Fld) (i j : Nat) : (s.set1 f i j).ticks = s.ticks := rfl
@[simp] theorem Vc.set1_free (s : Vc) (f : Fld) (i j : Nat) : (s.set1 f i j).free = s.free := rfl
@[simp] theorem Vc.set1_facets (s : Vc) (f : Fld) (i j : Nat) : (s.set1 f i j).facets = s.facets := rfl
@[simp] theorem Vc.set1_remotes (s : Vc) (f : Fld) (i j : Nat) : (s.set1 f i j).remotes = s.remotes := rfl
@[simp] theorem Vc.set1_arms (s : Vc) (f : Fld) (i j : Nat) : (s.set1 f i j).arms = s.arms := rfl
@[simp] theorem Vc.set1_strs (s : Vc) (f : Fld) (i j : Nat) : (s.set1 f i j).strs = s.strs := rfl
@[simp] theorem Vc.set1_lanes (s : Vc) (f : Fld) (i j : Nat) : (s.set1 f i j).lanes = s.lanes := rfl
@[simp] theorem Vc.set1_prot (s : Vc) (f : Fld) (i j : Nat) : (s.set1 f i j).prot = s.prot := rfl
@[simp] theorem Vc.set1_host (s : Vc) (f : Fld) (i j : Nat) : (s.set1 f i j).host = s.host := rfl
@[simp] theorem Vc.set1_ledger (s : Vc) (f : Fld) (i j : Nat) : (s.set1 f i j).ledger = s.ledger := rfl
@[simp] theorem Vc.set1_ap (s : Vc) (f : Fld) (i j : Nat) : (s.set1 f i j).ap = s.ap := rfl
@[simp] theorem Vc.set1_lens (s : Vc) (f : Fld) (i j : Nat) : (s.set1 f i j).lens = s.lens := rfl
@[simp] theorem Vc.set1_sched (s : Vc) (f : Fld) (i j : Nat) : (s.set1 f i j).sched = s.sched := rfl
@[simp] theorem Vc.set1_time (s : Vc) (f : Fld) (i j : Nat) : (s.set1 f i j).time = s.time := rfl
@[simp] theorem Vc.set1_casc (s : Vc) (f : Fld) (i j : Nat) : (s.set1 f i j).casc = s.casc := rfl
@[simp] theorem Vc.set1_voter (s : Vc) (f : Fld) (i j : Nat) : (s.set1 f i j).voter = s.voter := rfl
@[simp] theorem Vc.set1_boot (s : Vc) (f : Fld) (i j : Nat) : (s.set1 f i j).boot = s.boot := rfl
@[simp] theorem Vc.set1_comps (s : Vc) (f : Fld) (i j : Nat) : (s.set1 f i j).comps = s.comps := rfl
@[simp] theorem Vc.set1_resetUntil (s : Vc) (f : Fld) (i j : Nat) : (s.set1 f i j).resetUntil = s.resetUntil := rfl
@[simp] theorem Vc.set1_held (s : Vc) (f : Fld) (i j : Nat) : (s.set1 f i j).held = s.held := rfl
@[simp] theorem Vc.count_out (s : Vc) (f : Fld) (i j n : Nat) : (s.count f i j n).out = s.out := rfl
@[simp] theorem Vc.count_frac (s : Vc) (f : Fld) (i j n : Nat) : (s.count f i j n).frac = s.frac := rfl
@[simp] theorem Vc.count_now (s : Vc) (f : Fld) (i j n : Nat) : (s.count f i j n).now = s.now := rfl
@[simp] theorem Vc.count_ticks (s : Vc) (f : Fld) (i j n : Nat) : (s.count f i j n).ticks = s.ticks := rfl
@[simp] theorem Vc.count_free (s : Vc) (f : Fld) (i j n : Nat) : (s.count f i j n).free = s.free := rfl
@[simp] theorem Vc.count_facets (s : Vc) (f : Fld) (i j n : Nat) : (s.count f i j n).facets = s.facets := rfl
@[simp] theorem Vc.count_remotes (s : Vc) (f : Fld) (i j n : Nat) : (s.count f i j n).remotes = s.remotes := rfl
@[simp] theorem Vc.count_arms (s : Vc) (f : Fld) (i j n : Nat) : (s.count f i j n).arms = s.arms := rfl
@[simp] theorem Vc.count_strs (s : Vc) (f : Fld) (i j n : Nat) : (s.count f i j n).strs = s.strs := rfl
@[simp] theorem Vc.count_lanes (s : Vc) (f : Fld) (i j n : Nat) : (s.count f i j n).lanes = s.lanes := rfl
@[simp] theorem Vc.count_prot (s : Vc) (f : Fld) (i j n : Nat) : (s.count f i j n).prot = s.prot := rfl
@[simp] theorem Vc.count_host (s : Vc) (f : Fld) (i j n : Nat) : (s.count f i j n).host = s.host := rfl
@[simp] theorem Vc.count_ledger (s : Vc) (f : Fld) (i j n : Nat) : (s.count f i j n).ledger = s.ledger := rfl
@[simp] theorem Vc.count_ap (s : Vc) (f : Fld) (i j n : Nat) : (s.count f i j n).ap = s.ap := rfl
@[simp] theorem Vc.count_lens (s : Vc) (f : Fld) (i j n : Nat) : (s.count f i j n).lens = s.lens := rfl
@[simp] theorem Vc.count_sched (s : Vc) (f : Fld) (i j n : Nat) : (s.count f i j n).sched = s.sched := rfl
@[simp] theorem Vc.count_time (s : Vc) (f : Fld) (i j n : Nat) : (s.count f i j n).time = s.time := rfl
@[simp] theorem Vc.count_casc (s : Vc) (f : Fld) (i j n : Nat) : (s.count f i j n).casc = s.casc := rfl
@[simp] theorem Vc.count_voter (s : Vc) (f : Fld) (i j n : Nat) : (s.count f i j n).voter = s.voter := rfl
@[simp] theorem Vc.count_boot (s : Vc) (f : Fld) (i j n : Nat) : (s.count f i j n).boot = s.boot := rfl
@[simp] theorem Vc.count_comps (s : Vc) (f : Fld) (i j n : Nat) : (s.count f i j n).comps = s.comps := rfl
@[simp] theorem Vc.count_resetUntil (s : Vc) (f : Fld) (i j n : Nat) : (s.count f i j n).resetUntil = s.resetUntil := rfl
@[simp] theorem Vc.count_held (s : Vc) (f : Fld) (i j n : Nat) : (s.count f i j n).held = s.held := rfl
@[simp] theorem Vc.setBit_out (s : Vc) (f : Fld) (b i : Nat) : (s.setBit f b i).out = s.out := rfl
@[simp] theorem Vc.setBit_frac (s : Vc) (f : Fld) (b i : Nat) : (s.setBit f b i).frac = s.frac := rfl
@[simp] theorem Vc.setBit_now (s : Vc) (f : Fld) (b i : Nat) : (s.setBit f b i).now = s.now := rfl
@[simp] theorem Vc.setBit_ticks (s : Vc) (f : Fld) (b i : Nat) : (s.setBit f b i).ticks = s.ticks := rfl
@[simp] theorem Vc.setBit_free (s : Vc) (f : Fld) (b i : Nat) : (s.setBit f b i).free = s.free := rfl
@[simp] theorem Vc.setBit_facets (s : Vc) (f : Fld) (b i : Nat) : (s.setBit f b i).facets = s.facets := rfl
@[simp] theorem Vc.setBit_remotes (s : Vc) (f : Fld) (b i : Nat) : (s.setBit f b i).remotes = s.remotes := rfl
@[simp] theorem Vc.setBit_arms (s : Vc) (f : Fld) (b i : Nat) : (s.setBit f b i).arms = s.arms := rfl
@[simp] theorem Vc.setBit_strs (s : Vc) (f : Fld) (b i : Nat) : (s.setBit f b i).strs = s.strs := rfl
@[simp] theorem Vc.setBit_lanes (s : Vc) (f : Fld) (b i : Nat) : (s.setBit f b i).lanes = s.lanes := rfl
@[simp] theorem Vc.setBit_prot (s : Vc) (f : Fld) (b i : Nat) : (s.setBit f b i).prot = s.prot := rfl
@[simp] theorem Vc.setBit_host (s : Vc) (f : Fld) (b i : Nat) : (s.setBit f b i).host = s.host := rfl
@[simp] theorem Vc.setBit_ledger (s : Vc) (f : Fld) (b i : Nat) : (s.setBit f b i).ledger = s.ledger := rfl
@[simp] theorem Vc.setBit_ap (s : Vc) (f : Fld) (b i : Nat) : (s.setBit f b i).ap = s.ap := rfl
@[simp] theorem Vc.setBit_lens (s : Vc) (f : Fld) (b i : Nat) : (s.setBit f b i).lens = s.lens := rfl
@[simp] theorem Vc.setBit_sched (s : Vc) (f : Fld) (b i : Nat) : (s.setBit f b i).sched = s.sched := rfl
@[simp] theorem Vc.setBit_time (s : Vc) (f : Fld) (b i : Nat) : (s.setBit f b i).time = s.time := rfl
@[simp] theorem Vc.setBit_casc (s : Vc) (f : Fld) (b i : Nat) : (s.setBit f b i).casc = s.casc := rfl
@[simp] theorem Vc.setBit_voter (s : Vc) (f : Fld) (b i : Nat) : (s.setBit f b i).voter = s.voter := rfl
@[simp] theorem Vc.setBit_boot (s : Vc) (f : Fld) (b i : Nat) : (s.setBit f b i).boot = s.boot := rfl
@[simp] theorem Vc.setBit_comps (s : Vc) (f : Fld) (b i : Nat) : (s.setBit f b i).comps = s.comps := rfl
@[simp] theorem Vc.setBit_resetUntil (s : Vc) (f : Fld) (b i : Nat) : (s.setBit f b i).resetUntil = s.resetUntil := rfl
@[simp] theorem Vc.setBit_held (s : Vc) (f : Fld) (b i : Nat) : (s.setBit f b i).held = s.held := rfl
@[simp] theorem Vc.setFacet_out (s : Vc) (n : Nat) (x : Facet) : (s.setFacet n x).out = s.out := rfl
@[simp] theorem Vc.setFacet_frac (s : Vc) (n : Nat) (x : Facet) : (s.setFacet n x).frac = s.frac := rfl
@[simp] theorem Vc.setFacet_now (s : Vc) (n : Nat) (x : Facet) : (s.setFacet n x).now = s.now := rfl
@[simp] theorem Vc.setFacet_ticks (s : Vc) (n : Nat) (x : Facet) : (s.setFacet n x).ticks = s.ticks := rfl
@[simp] theorem Vc.setFacet_free (s : Vc) (n : Nat) (x : Facet) : (s.setFacet n x).free = s.free := rfl
@[simp] theorem Vc.setFacet_regs (s : Vc) (n : Nat) (x : Facet) : (s.setFacet n x).regs = s.regs := rfl
@[simp] theorem Vc.setFacet_remotes (s : Vc) (n : Nat) (x : Facet) : (s.setFacet n x).remotes = s.remotes := rfl
@[simp] theorem Vc.setFacet_arms (s : Vc) (n : Nat) (x : Facet) : (s.setFacet n x).arms = s.arms := rfl
@[simp] theorem Vc.setFacet_strs (s : Vc) (n : Nat) (x : Facet) : (s.setFacet n x).strs = s.strs := rfl
@[simp] theorem Vc.setFacet_lanes (s : Vc) (n : Nat) (x : Facet) : (s.setFacet n x).lanes = s.lanes := rfl
@[simp] theorem Vc.setFacet_prot (s : Vc) (n : Nat) (x : Facet) : (s.setFacet n x).prot = s.prot := rfl
@[simp] theorem Vc.setFacet_host (s : Vc) (n : Nat) (x : Facet) : (s.setFacet n x).host = s.host := rfl
@[simp] theorem Vc.setFacet_ledger (s : Vc) (n : Nat) (x : Facet) : (s.setFacet n x).ledger = s.ledger := rfl
@[simp] theorem Vc.setFacet_ap (s : Vc) (n : Nat) (x : Facet) : (s.setFacet n x).ap = s.ap := rfl
@[simp] theorem Vc.setFacet_lens (s : Vc) (n : Nat) (x : Facet) : (s.setFacet n x).lens = s.lens := rfl
@[simp] theorem Vc.setFacet_sched (s : Vc) (n : Nat) (x : Facet) : (s.setFacet n x).sched = s.sched := rfl
@[simp] theorem Vc.setFacet_time (s : Vc) (n : Nat) (x : Facet) : (s.setFacet n x).time = s.time := rfl
@[simp] theorem Vc.setFacet_casc (s : Vc) (n : Nat) (x : Facet) : (s.setFacet n x).casc = s.casc := rfl
@[simp] theorem Vc.setFacet_voter (s : Vc) (n : Nat) (x : Facet) : (s.setFacet n x).voter = s.voter := rfl
@[simp] theorem Vc.setFacet_boot (s : Vc) (n : Nat) (x : Facet) : (s.setFacet n x).boot = s.boot := rfl
@[simp] theorem Vc.setFacet_comps (s : Vc) (n : Nat) (x : Facet) : (s.setFacet n x).comps = s.comps := rfl
@[simp] theorem Vc.setFacet_resetUntil (s : Vc) (n : Nat) (x : Facet) : (s.setFacet n x).resetUntil = s.resetUntil := rfl
@[simp] theorem Vc.setFacet_held (s : Vc) (n : Nat) (x : Facet) : (s.setFacet n x).held = s.held := rfl
@[simp] theorem Vc.setStr_out (s : Vc) (n : Nat) (x : Str) : (s.setStr n x).out = s.out := rfl
@[simp] theorem Vc.setStr_frac (s : Vc) (n : Nat) (x : Str) : (s.setStr n x).frac = s.frac := rfl
@[simp] theorem Vc.setStr_now (s : Vc) (n : Nat) (x : Str) : (s.setStr n x).now = s.now := rfl
@[simp] theorem Vc.setStr_ticks (s : Vc) (n : Nat) (x : Str) : (s.setStr n x).ticks = s.ticks := rfl
@[simp] theorem Vc.setStr_free (s : Vc) (n : Nat) (x : Str) : (s.setStr n x).free = s.free := rfl
@[simp] theorem Vc.setStr_regs (s : Vc) (n : Nat) (x : Str) : (s.setStr n x).regs = s.regs := rfl
@[simp] theorem Vc.setStr_facets (s : Vc) (n : Nat) (x : Str) : (s.setStr n x).facets = s.facets := rfl
@[simp] theorem Vc.setStr_remotes (s : Vc) (n : Nat) (x : Str) : (s.setStr n x).remotes = s.remotes := rfl
@[simp] theorem Vc.setStr_arms (s : Vc) (n : Nat) (x : Str) : (s.setStr n x).arms = s.arms := rfl
@[simp] theorem Vc.setStr_lanes (s : Vc) (n : Nat) (x : Str) : (s.setStr n x).lanes = s.lanes := rfl
@[simp] theorem Vc.setStr_prot (s : Vc) (n : Nat) (x : Str) : (s.setStr n x).prot = s.prot := rfl
@[simp] theorem Vc.setStr_host (s : Vc) (n : Nat) (x : Str) : (s.setStr n x).host = s.host := rfl
@[simp] theorem Vc.setStr_ledger (s : Vc) (n : Nat) (x : Str) : (s.setStr n x).ledger = s.ledger := rfl
@[simp] theorem Vc.setStr_ap (s : Vc) (n : Nat) (x : Str) : (s.setStr n x).ap = s.ap := rfl
@[simp] theorem Vc.setStr_lens (s : Vc) (n : Nat) (x : Str) : (s.setStr n x).lens = s.lens := rfl
@[simp] theorem Vc.setStr_sched (s : Vc) (n : Nat) (x : Str) : (s.setStr n x).sched = s.sched := rfl
@[simp] theorem Vc.setStr_time (s : Vc) (n : Nat) (x : Str) : (s.setStr n x).time = s.time := rfl
@[simp] theorem Vc.setStr_casc (s : Vc) (n : Nat) (x : Str) : (s.setStr n x).casc = s.casc := rfl
@[simp] theorem Vc.setStr_voter (s : Vc) (n : Nat) (x : Str) : (s.setStr n x).voter = s.voter := rfl
@[simp] theorem Vc.setStr_boot (s : Vc) (n : Nat) (x : Str) : (s.setStr n x).boot = s.boot := rfl
@[simp] theorem Vc.setStr_comps (s : Vc) (n : Nat) (x : Str) : (s.setStr n x).comps = s.comps := rfl
@[simp] theorem Vc.setStr_resetUntil (s : Vc) (n : Nat) (x : Str) : (s.setStr n x).resetUntil = s.resetUntil := rfl
@[simp] theorem Vc.setStr_held (s : Vc) (n : Nat) (x : Str) : (s.setStr n x).held = s.held := rfl
@[simp] theorem Vc.setLane_out (s : Vc) (n : Nat) (x : LaneSt) : (s.setLane n x).out = s.out := rfl
@[simp] theorem Vc.setLane_frac (s : Vc) (n : Nat) (x : LaneSt) : (s.setLane n x).frac = s.frac := rfl
@[simp] theorem Vc.setLane_now (s : Vc) (n : Nat) (x : LaneSt) : (s.setLane n x).now = s.now := rfl
@[simp] theorem Vc.setLane_ticks (s : Vc) (n : Nat) (x : LaneSt) : (s.setLane n x).ticks = s.ticks := rfl
@[simp] theorem Vc.setLane_free (s : Vc) (n : Nat) (x : LaneSt) : (s.setLane n x).free = s.free := rfl
@[simp] theorem Vc.setLane_regs (s : Vc) (n : Nat) (x : LaneSt) : (s.setLane n x).regs = s.regs := rfl
@[simp] theorem Vc.setLane_facets (s : Vc) (n : Nat) (x : LaneSt) : (s.setLane n x).facets = s.facets := rfl
@[simp] theorem Vc.setLane_remotes (s : Vc) (n : Nat) (x : LaneSt) : (s.setLane n x).remotes = s.remotes := rfl
@[simp] theorem Vc.setLane_arms (s : Vc) (n : Nat) (x : LaneSt) : (s.setLane n x).arms = s.arms := rfl
@[simp] theorem Vc.setLane_strs (s : Vc) (n : Nat) (x : LaneSt) : (s.setLane n x).strs = s.strs := rfl
@[simp] theorem Vc.setLane_prot (s : Vc) (n : Nat) (x : LaneSt) : (s.setLane n x).prot = s.prot := rfl
@[simp] theorem Vc.setLane_host (s : Vc) (n : Nat) (x : LaneSt) : (s.setLane n x).host = s.host := rfl
@[simp] theorem Vc.setLane_ledger (s : Vc) (n : Nat) (x : LaneSt) : (s.setLane n x).ledger = s.ledger := rfl
@[simp] theorem Vc.setLane_ap (s : Vc) (n : Nat) (x : LaneSt) : (s.setLane n x).ap = s.ap := rfl
@[simp] theorem Vc.setLane_lens (s : Vc) (n : Nat) (x : LaneSt) : (s.setLane n x).lens = s.lens := rfl
@[simp] theorem Vc.setLane_sched (s : Vc) (n : Nat) (x : LaneSt) : (s.setLane n x).sched = s.sched := rfl
@[simp] theorem Vc.setLane_time (s : Vc) (n : Nat) (x : LaneSt) : (s.setLane n x).time = s.time := rfl
@[simp] theorem Vc.setLane_casc (s : Vc) (n : Nat) (x : LaneSt) : (s.setLane n x).casc = s.casc := rfl
@[simp] theorem Vc.setLane_voter (s : Vc) (n : Nat) (x : LaneSt) : (s.setLane n x).voter = s.voter := rfl
@[simp] theorem Vc.setLane_boot (s : Vc) (n : Nat) (x : LaneSt) : (s.setLane n x).boot = s.boot := rfl
@[simp] theorem Vc.setLane_comps (s : Vc) (n : Nat) (x : LaneSt) : (s.setLane n x).comps = s.comps := rfl
@[simp] theorem Vc.setLane_resetUntil (s : Vc) (n : Nat) (x : LaneSt) : (s.setLane n x).resetUntil = s.resetUntil := rfl
@[simp] theorem Vc.setLane_held (s : Vc) (n : Nat) (x : LaneSt) : (s.setLane n x).held = s.held := rfl
@[simp] theorem Vc.setChan_out (s : Vc) (n : Nat) (x : Chan) : (s.setChan n x).out = s.out := rfl
@[simp] theorem Vc.setChan_frac (s : Vc) (n : Nat) (x : Chan) : (s.setChan n x).frac = s.frac := rfl
@[simp] theorem Vc.setChan_now (s : Vc) (n : Nat) (x : Chan) : (s.setChan n x).now = s.now := rfl
@[simp] theorem Vc.setChan_ticks (s : Vc) (n : Nat) (x : Chan) : (s.setChan n x).ticks = s.ticks := rfl
@[simp] theorem Vc.setChan_free (s : Vc) (n : Nat) (x : Chan) : (s.setChan n x).free = s.free := rfl
@[simp] theorem Vc.setChan_regs (s : Vc) (n : Nat) (x : Chan) : (s.setChan n x).regs = s.regs := rfl
@[simp] theorem Vc.setChan_facets (s : Vc) (n : Nat) (x : Chan) : (s.setChan n x).facets = s.facets := rfl
@[simp] theorem Vc.setChan_remotes (s : Vc) (n : Nat) (x : Chan) : (s.setChan n x).remotes = s.remotes := rfl
@[simp] theorem Vc.setChan_arms (s : Vc) (n : Nat) (x : Chan) : (s.setChan n x).arms = s.arms := rfl
@[simp] theorem Vc.setChan_strs (s : Vc) (n : Nat) (x : Chan) : (s.setChan n x).strs = s.strs := rfl
@[simp] theorem Vc.setChan_lanes (s : Vc) (n : Nat) (x : Chan) : (s.setChan n x).lanes = s.lanes := rfl
@[simp] theorem Vc.setChan_host (s : Vc) (n : Nat) (x : Chan) : (s.setChan n x).host = s.host := rfl
@[simp] theorem Vc.setChan_ledger (s : Vc) (n : Nat) (x : Chan) : (s.setChan n x).ledger = s.ledger := rfl
@[simp] theorem Vc.setChan_ap (s : Vc) (n : Nat) (x : Chan) : (s.setChan n x).ap = s.ap := rfl
@[simp] theorem Vc.setChan_lens (s : Vc) (n : Nat) (x : Chan) : (s.setChan n x).lens = s.lens := rfl
@[simp] theorem Vc.setChan_sched (s : Vc) (n : Nat) (x : Chan) : (s.setChan n x).sched = s.sched := rfl
@[simp] theorem Vc.setChan_time (s : Vc) (n : Nat) (x : Chan) : (s.setChan n x).time = s.time := rfl
@[simp] theorem Vc.setChan_casc (s : Vc) (n : Nat) (x : Chan) : (s.setChan n x).casc = s.casc := rfl
@[simp] theorem Vc.setChan_voter (s : Vc) (n : Nat) (x : Chan) : (s.setChan n x).voter = s.voter := rfl
@[simp] theorem Vc.setChan_boot (s : Vc) (n : Nat) (x : Chan) : (s.setChan n x).boot = s.boot := rfl
@[simp] theorem Vc.setChan_comps (s : Vc) (n : Nat) (x : Chan) : (s.setChan n x).comps = s.comps := rfl
@[simp] theorem Vc.setChan_resetUntil (s : Vc) (n : Nat) (x : Chan) : (s.setChan n x).resetUntil = s.resetUntil := rfl
@[simp] theorem Vc.setChan_held (s : Vc) (n : Nat) (x : Chan) : (s.setChan n x).held = s.held := rfl
@[simp] theorem Vc.setToken_out (s : Vc) (n : Nat) (x : Token) : (s.setToken n x).out = s.out := rfl
@[simp] theorem Vc.setToken_frac (s : Vc) (n : Nat) (x : Token) : (s.setToken n x).frac = s.frac := rfl
@[simp] theorem Vc.setToken_now (s : Vc) (n : Nat) (x : Token) : (s.setToken n x).now = s.now := rfl
@[simp] theorem Vc.setToken_ticks (s : Vc) (n : Nat) (x : Token) : (s.setToken n x).ticks = s.ticks := rfl
@[simp] theorem Vc.setToken_free (s : Vc) (n : Nat) (x : Token) : (s.setToken n x).free = s.free := rfl
@[simp] theorem Vc.setToken_regs (s : Vc) (n : Nat) (x : Token) : (s.setToken n x).regs = s.regs := rfl
@[simp] theorem Vc.setToken_facets (s : Vc) (n : Nat) (x : Token) : (s.setToken n x).facets = s.facets := rfl
@[simp] theorem Vc.setToken_remotes (s : Vc) (n : Nat) (x : Token) : (s.setToken n x).remotes = s.remotes := rfl
@[simp] theorem Vc.setToken_arms (s : Vc) (n : Nat) (x : Token) : (s.setToken n x).arms = s.arms := rfl
@[simp] theorem Vc.setToken_strs (s : Vc) (n : Nat) (x : Token) : (s.setToken n x).strs = s.strs := rfl
@[simp] theorem Vc.setToken_lanes (s : Vc) (n : Nat) (x : Token) : (s.setToken n x).lanes = s.lanes := rfl
@[simp] theorem Vc.setToken_host (s : Vc) (n : Nat) (x : Token) : (s.setToken n x).host = s.host := rfl
@[simp] theorem Vc.setToken_ledger (s : Vc) (n : Nat) (x : Token) : (s.setToken n x).ledger = s.ledger := rfl
@[simp] theorem Vc.setToken_ap (s : Vc) (n : Nat) (x : Token) : (s.setToken n x).ap = s.ap := rfl
@[simp] theorem Vc.setToken_lens (s : Vc) (n : Nat) (x : Token) : (s.setToken n x).lens = s.lens := rfl
@[simp] theorem Vc.setToken_sched (s : Vc) (n : Nat) (x : Token) : (s.setToken n x).sched = s.sched := rfl
@[simp] theorem Vc.setToken_time (s : Vc) (n : Nat) (x : Token) : (s.setToken n x).time = s.time := rfl
@[simp] theorem Vc.setToken_casc (s : Vc) (n : Nat) (x : Token) : (s.setToken n x).casc = s.casc := rfl
@[simp] theorem Vc.setToken_voter (s : Vc) (n : Nat) (x : Token) : (s.setToken n x).voter = s.voter := rfl
@[simp] theorem Vc.setToken_boot (s : Vc) (n : Nat) (x : Token) : (s.setToken n x).boot = s.boot := rfl
@[simp] theorem Vc.setToken_comps (s : Vc) (n : Nat) (x : Token) : (s.setToken n x).comps = s.comps := rfl
@[simp] theorem Vc.setToken_resetUntil (s : Vc) (n : Nat) (x : Token) : (s.setToken n x).resetUntil = s.resetUntil := rfl
@[simp] theorem Vc.setToken_held (s : Vc) (n : Nat) (x : Token) : (s.setToken n x).held = s.held := rfl
@[simp] theorem Vc.setCq_out (s : Vc) (n : Nat) (x : CqSt) : (s.setCq n x).out = s.out := rfl
@[simp] theorem Vc.setCq_frac (s : Vc) (n : Nat) (x : CqSt) : (s.setCq n x).frac = s.frac := rfl
@[simp] theorem Vc.setCq_now (s : Vc) (n : Nat) (x : CqSt) : (s.setCq n x).now = s.now := rfl
@[simp] theorem Vc.setCq_ticks (s : Vc) (n : Nat) (x : CqSt) : (s.setCq n x).ticks = s.ticks := rfl
@[simp] theorem Vc.setCq_free (s : Vc) (n : Nat) (x : CqSt) : (s.setCq n x).free = s.free := rfl
@[simp] theorem Vc.setCq_regs (s : Vc) (n : Nat) (x : CqSt) : (s.setCq n x).regs = s.regs := rfl
@[simp] theorem Vc.setCq_facets (s : Vc) (n : Nat) (x : CqSt) : (s.setCq n x).facets = s.facets := rfl
@[simp] theorem Vc.setCq_remotes (s : Vc) (n : Nat) (x : CqSt) : (s.setCq n x).remotes = s.remotes := rfl
@[simp] theorem Vc.setCq_arms (s : Vc) (n : Nat) (x : CqSt) : (s.setCq n x).arms = s.arms := rfl
@[simp] theorem Vc.setCq_strs (s : Vc) (n : Nat) (x : CqSt) : (s.setCq n x).strs = s.strs := rfl
@[simp] theorem Vc.setCq_lanes (s : Vc) (n : Nat) (x : CqSt) : (s.setCq n x).lanes = s.lanes := rfl
@[simp] theorem Vc.setCq_prot (s : Vc) (n : Nat) (x : CqSt) : (s.setCq n x).prot = s.prot := rfl
@[simp] theorem Vc.setCq_ledger (s : Vc) (n : Nat) (x : CqSt) : (s.setCq n x).ledger = s.ledger := rfl
@[simp] theorem Vc.setCq_ap (s : Vc) (n : Nat) (x : CqSt) : (s.setCq n x).ap = s.ap := rfl
@[simp] theorem Vc.setCq_lens (s : Vc) (n : Nat) (x : CqSt) : (s.setCq n x).lens = s.lens := rfl
@[simp] theorem Vc.setCq_sched (s : Vc) (n : Nat) (x : CqSt) : (s.setCq n x).sched = s.sched := rfl
@[simp] theorem Vc.setCq_time (s : Vc) (n : Nat) (x : CqSt) : (s.setCq n x).time = s.time := rfl
@[simp] theorem Vc.setCq_casc (s : Vc) (n : Nat) (x : CqSt) : (s.setCq n x).casc = s.casc := rfl
@[simp] theorem Vc.setCq_voter (s : Vc) (n : Nat) (x : CqSt) : (s.setCq n x).voter = s.voter := rfl
@[simp] theorem Vc.setCq_boot (s : Vc) (n : Nat) (x : CqSt) : (s.setCq n x).boot = s.boot := rfl
@[simp] theorem Vc.setCq_comps (s : Vc) (n : Nat) (x : CqSt) : (s.setCq n x).comps = s.comps := rfl
@[simp] theorem Vc.setCq_resetUntil (s : Vc) (n : Nat) (x : CqSt) : (s.setCq n x).resetUntil = s.resetUntil := rfl
@[simp] theorem Vc.setCq_held (s : Vc) (n : Nat) (x : CqSt) : (s.setCq n x).held = s.held := rfl
@[simp] theorem Vc.setSqTail_out (s : Vc) (n v : Nat) : (s.setSqTail n v).out = s.out := rfl
@[simp] theorem Vc.setSqTail_frac (s : Vc) (n v : Nat) : (s.setSqTail n v).frac = s.frac := rfl
@[simp] theorem Vc.setSqTail_now (s : Vc) (n v : Nat) : (s.setSqTail n v).now = s.now := rfl
@[simp] theorem Vc.setSqTail_ticks (s : Vc) (n v : Nat) : (s.setSqTail n v).ticks = s.ticks := rfl
@[simp] theorem Vc.setSqTail_free (s : Vc) (n v : Nat) : (s.setSqTail n v).free = s.free := rfl
@[simp] theorem Vc.setSqTail_regs (s : Vc) (n v : Nat) : (s.setSqTail n v).regs = s.regs := rfl
@[simp] theorem Vc.setSqTail_facets (s : Vc) (n v : Nat) : (s.setSqTail n v).facets = s.facets := rfl
@[simp] theorem Vc.setSqTail_remotes (s : Vc) (n v : Nat) : (s.setSqTail n v).remotes = s.remotes := rfl
@[simp] theorem Vc.setSqTail_arms (s : Vc) (n v : Nat) : (s.setSqTail n v).arms = s.arms := rfl
@[simp] theorem Vc.setSqTail_strs (s : Vc) (n v : Nat) : (s.setSqTail n v).strs = s.strs := rfl
@[simp] theorem Vc.setSqTail_lanes (s : Vc) (n v : Nat) : (s.setSqTail n v).lanes = s.lanes := rfl
@[simp] theorem Vc.setSqTail_prot (s : Vc) (n v : Nat) : (s.setSqTail n v).prot = s.prot := rfl
@[simp] theorem Vc.setSqTail_ledger (s : Vc) (n v : Nat) : (s.setSqTail n v).ledger = s.ledger := rfl
@[simp] theorem Vc.setSqTail_ap (s : Vc) (n v : Nat) : (s.setSqTail n v).ap = s.ap := rfl
@[simp] theorem Vc.setSqTail_lens (s : Vc) (n v : Nat) : (s.setSqTail n v).lens = s.lens := rfl
@[simp] theorem Vc.setSqTail_sched (s : Vc) (n v : Nat) : (s.setSqTail n v).sched = s.sched := rfl
@[simp] theorem Vc.setSqTail_time (s : Vc) (n v : Nat) : (s.setSqTail n v).time = s.time := rfl
@[simp] theorem Vc.setSqTail_casc (s : Vc) (n v : Nat) : (s.setSqTail n v).casc = s.casc := rfl
@[simp] theorem Vc.setSqTail_voter (s : Vc) (n v : Nat) : (s.setSqTail n v).voter = s.voter := rfl
@[simp] theorem Vc.setSqTail_boot (s : Vc) (n v : Nat) : (s.setSqTail n v).boot = s.boot := rfl
@[simp] theorem Vc.setSqTail_comps (s : Vc) (n v : Nat) : (s.setSqTail n v).comps = s.comps := rfl
@[simp] theorem Vc.setSqTail_resetUntil (s : Vc) (n v : Nat) : (s.setSqTail n v).resetUntil = s.resetUntil := rfl
@[simp] theorem Vc.setSqTail_held (s : Vc) (n v : Nat) : (s.setSqTail n v).held = s.held := rfl
@[simp] theorem Vc.setStat_out (s : Vc) (n : Nat) (x : FacetStat) : (s.setStat n x).out = s.out := rfl
@[simp] theorem Vc.setStat_frac (s : Vc) (n : Nat) (x : FacetStat) : (s.setStat n x).frac = s.frac := rfl
@[simp] theorem Vc.setStat_now (s : Vc) (n : Nat) (x : FacetStat) : (s.setStat n x).now = s.now := rfl
@[simp] theorem Vc.setStat_ticks (s : Vc) (n : Nat) (x : FacetStat) : (s.setStat n x).ticks = s.ticks := rfl
@[simp] theorem Vc.setStat_free (s : Vc) (n : Nat) (x : FacetStat) : (s.setStat n x).free = s.free := rfl
@[simp] theorem Vc.setStat_regs (s : Vc) (n : Nat) (x : FacetStat) : (s.setStat n x).regs = s.regs := rfl
@[simp] theorem Vc.setStat_facets (s : Vc) (n : Nat) (x : FacetStat) : (s.setStat n x).facets = s.facets := rfl
@[simp] theorem Vc.setStat_remotes (s : Vc) (n : Nat) (x : FacetStat) : (s.setStat n x).remotes = s.remotes := rfl
@[simp] theorem Vc.setStat_arms (s : Vc) (n : Nat) (x : FacetStat) : (s.setStat n x).arms = s.arms := rfl
@[simp] theorem Vc.setStat_strs (s : Vc) (n : Nat) (x : FacetStat) : (s.setStat n x).strs = s.strs := rfl
@[simp] theorem Vc.setStat_lanes (s : Vc) (n : Nat) (x : FacetStat) : (s.setStat n x).lanes = s.lanes := rfl
@[simp] theorem Vc.setStat_prot (s : Vc) (n : Nat) (x : FacetStat) : (s.setStat n x).prot = s.prot := rfl
@[simp] theorem Vc.setStat_host (s : Vc) (n : Nat) (x : FacetStat) : (s.setStat n x).host = s.host := rfl
@[simp] theorem Vc.setStat_ap (s : Vc) (n : Nat) (x : FacetStat) : (s.setStat n x).ap = s.ap := rfl
@[simp] theorem Vc.setStat_lens (s : Vc) (n : Nat) (x : FacetStat) : (s.setStat n x).lens = s.lens := rfl
@[simp] theorem Vc.setStat_sched (s : Vc) (n : Nat) (x : FacetStat) : (s.setStat n x).sched = s.sched := rfl
@[simp] theorem Vc.setStat_time (s : Vc) (n : Nat) (x : FacetStat) : (s.setStat n x).time = s.time := rfl
@[simp] theorem Vc.setStat_casc (s : Vc) (n : Nat) (x : FacetStat) : (s.setStat n x).casc = s.casc := rfl
@[simp] theorem Vc.setStat_voter (s : Vc) (n : Nat) (x : FacetStat) : (s.setStat n x).voter = s.voter := rfl
@[simp] theorem Vc.setStat_boot (s : Vc) (n : Nat) (x : FacetStat) : (s.setStat n x).boot = s.boot := rfl
@[simp] theorem Vc.setStat_comps (s : Vc) (n : Nat) (x : FacetStat) : (s.setStat n x).comps = s.comps := rfl
@[simp] theorem Vc.setStat_resetUntil (s : Vc) (n : Nat) (x : FacetStat) : (s.setStat n x).resetUntil = s.resetUntil := rfl
@[simp] theorem Vc.setStat_held (s : Vc) (n : Nat) (x : FacetStat) : (s.setStat n x).held = s.held := rfl
@[simp] theorem Vc.asHost_out (s : Vc) (q : Nat) : (s.asHost q).out = s.out := rfl
@[simp] theorem Vc.asHost_frac (s : Vc) (q : Nat) : (s.asHost q).frac = s.frac := rfl
@[simp] theorem Vc.asHost_now (s : Vc) (q : Nat) : (s.asHost q).now = s.now := rfl
@[simp] theorem Vc.asHost_ticks (s : Vc) (q : Nat) : (s.asHost q).ticks = s.ticks := rfl
@[simp] theorem Vc.asHost_free (s : Vc) (q : Nat) : (s.asHost q).free = s.free := rfl
@[simp] theorem Vc.asHost_regs (s : Vc) (q : Nat) : (s.asHost q).regs = s.regs := rfl
@[simp] theorem Vc.asHost_facets (s : Vc) (q : Nat) : (s.asHost q).facets = s.facets := rfl
@[simp] theorem Vc.asHost_remotes (s : Vc) (q : Nat) : (s.asHost q).remotes = s.remotes := rfl
@[simp] theorem Vc.asHost_arms (s : Vc) (q : Nat) : (s.asHost q).arms = s.arms := rfl
@[simp] theorem Vc.asHost_strs (s : Vc) (q : Nat) : (s.asHost q).strs = s.strs := rfl
@[simp] theorem Vc.asHost_lanes (s : Vc) (q : Nat) : (s.asHost q).lanes = s.lanes := rfl
@[simp] theorem Vc.asHost_prot (s : Vc) (q : Nat) : (s.asHost q).prot = s.prot := rfl
@[simp] theorem Vc.asHost_ledger (s : Vc) (q : Nat) : (s.asHost q).ledger = s.ledger := rfl
@[simp] theorem Vc.asHost_ap (s : Vc) (q : Nat) : (s.asHost q).ap = s.ap := rfl
@[simp] theorem Vc.asHost_lens (s : Vc) (q : Nat) : (s.asHost q).lens = s.lens := rfl
@[simp] theorem Vc.asHost_sched (s : Vc) (q : Nat) : (s.asHost q).sched = s.sched := rfl
@[simp] theorem Vc.asHost_time (s : Vc) (q : Nat) : (s.asHost q).time = s.time := rfl
@[simp] theorem Vc.asHost_casc (s : Vc) (q : Nat) : (s.asHost q).casc = s.casc := rfl
@[simp] theorem Vc.asHost_voter (s : Vc) (q : Nat) : (s.asHost q).voter = s.voter := rfl
@[simp] theorem Vc.asHost_boot (s : Vc) (q : Nat) : (s.asHost q).boot = s.boot := rfl
@[simp] theorem Vc.asHost_comps (s : Vc) (q : Nat) : (s.asHost q).comps = s.comps := rfl
@[simp] theorem Vc.asHost_resetUntil (s : Vc) (q : Nat) : (s.asHost q).resetUntil = s.resetUntil := rfl
@[simp] theorem Vc.asHost_held (s : Vc) (q : Nat) : (s.asHost q).held = s.held := rfl
@[simp] theorem Vc.emit_frac (s : Vc) (e : Emit) : (s.emit e).frac = s.frac := rfl
@[simp] theorem Vc.emit_now (s : Vc) (e : Emit) : (s.emit e).now = s.now := rfl
@[simp] theorem Vc.emit_ticks (s : Vc) (e : Emit) : (s.emit e).ticks = s.ticks := rfl
@[simp] theorem Vc.emit_free (s : Vc) (e : Emit) : (s.emit e).free = s.free := rfl
@[simp] theorem Vc.emit_regs (s : Vc) (e : Emit) : (s.emit e).regs = s.regs := rfl
@[simp] theorem Vc.emit_facets (s : Vc) (e : Emit) : (s.emit e).facets = s.facets := rfl
@[simp] theorem Vc.emit_remotes (s : Vc) (e : Emit) : (s.emit e).remotes = s.remotes := rfl
@[simp] theorem Vc.emit_arms (s : Vc) (e : Emit) : (s.emit e).arms = s.arms := rfl
@[simp] theorem Vc.emit_strs (s : Vc) (e : Emit) : (s.emit e).strs = s.strs := rfl
@[simp] theorem Vc.emit_lanes (s : Vc) (e : Emit) : (s.emit e).lanes = s.lanes := rfl
@[simp] theorem Vc.emit_prot (s : Vc) (e : Emit) : (s.emit e).prot = s.prot := rfl
@[simp] theorem Vc.emit_host (s : Vc) (e : Emit) : (s.emit e).host = s.host := rfl
@[simp] theorem Vc.emit_ledger (s : Vc) (e : Emit) : (s.emit e).ledger = s.ledger := rfl
@[simp] theorem Vc.emit_ap (s : Vc) (e : Emit) : (s.emit e).ap = s.ap := rfl
@[simp] theorem Vc.emit_lens (s : Vc) (e : Emit) : (s.emit e).lens = s.lens := rfl
@[simp] theorem Vc.emit_sched (s : Vc) (e : Emit) : (s.emit e).sched = s.sched := rfl
@[simp] theorem Vc.emit_time (s : Vc) (e : Emit) : (s.emit e).time = s.time := rfl
@[simp] theorem Vc.emit_casc (s : Vc) (e : Emit) : (s.emit e).casc = s.casc := rfl
@[simp] theorem Vc.emit_voter (s : Vc) (e : Emit) : (s.emit e).voter = s.voter := rfl
@[simp] theorem Vc.emit_boot (s : Vc) (e : Emit) : (s.emit e).boot = s.boot := rfl
@[simp] theorem Vc.emit_comps (s : Vc) (e : Emit) : (s.emit e).comps = s.comps := rfl
@[simp] theorem Vc.emit_resetUntil (s : Vc) (e : Emit) : (s.emit e).resetUntil = s.resetUntil := rfl
@[simp] theorem Vc.emit_held (s : Vc) (e : Emit) : (s.emit e).held = s.held := rfl
@[simp] theorem Vc.elapse_ticks (s : Vc) (dt : Nat) : (s.elapse dt).ticks = s.ticks := rfl
@[simp] theorem Vc.elapse_free (s : Vc) (dt : Nat) : (s.elapse dt).free = s.free := rfl
@[simp] theorem Vc.elapse_regs (s : Vc) (dt : Nat) : (s.elapse dt).regs = s.regs := rfl
@[simp] theorem Vc.elapse_facets (s : Vc) (dt : Nat) : (s.elapse dt).facets = s.facets := rfl
@[simp] theorem Vc.elapse_remotes (s : Vc) (dt : Nat) : (s.elapse dt).remotes = s.remotes := rfl
@[simp] theorem Vc.elapse_arms (s : Vc) (dt : Nat) : (s.elapse dt).arms = s.arms := rfl
@[simp] theorem Vc.elapse_strs (s : Vc) (dt : Nat) : (s.elapse dt).strs = s.strs := rfl
@[simp] theorem Vc.elapse_lanes (s : Vc) (dt : Nat) : (s.elapse dt).lanes = s.lanes := rfl
@[simp] theorem Vc.elapse_prot (s : Vc) (dt : Nat) : (s.elapse dt).prot = s.prot := rfl
@[simp] theorem Vc.elapse_host (s : Vc) (dt : Nat) : (s.elapse dt).host = s.host := rfl
@[simp] theorem Vc.elapse_ledger (s : Vc) (dt : Nat) : (s.elapse dt).ledger = s.ledger := rfl
@[simp] theorem Vc.elapse_ap (s : Vc) (dt : Nat) : (s.elapse dt).ap = s.ap := rfl
@[simp] theorem Vc.elapse_lens (s : Vc) (dt : Nat) : (s.elapse dt).lens = s.lens := rfl
@[simp] theorem Vc.elapse_sched (s : Vc) (dt : Nat) : (s.elapse dt).sched = s.sched := rfl
@[simp] theorem Vc.elapse_time (s : Vc) (dt : Nat) : (s.elapse dt).time = s.time := rfl
@[simp] theorem Vc.elapse_casc (s : Vc) (dt : Nat) : (s.elapse dt).casc = s.casc := rfl
@[simp] theorem Vc.elapse_voter (s : Vc) (dt : Nat) : (s.elapse dt).voter = s.voter := rfl
@[simp] theorem Vc.elapse_boot (s : Vc) (dt : Nat) : (s.elapse dt).boot = s.boot := rfl
@[simp] theorem Vc.elapse_comps (s : Vc) (dt : Nat) : (s.elapse dt).comps = s.comps := rfl
@[simp] theorem Vc.elapse_resetUntil (s : Vc) (dt : Nat) : (s.elapse dt).resetUntil = s.resetUntil := rfl
@[simp] theorem Vc.elapse_held (s : Vc) (dt : Nat) : (s.elapse dt).held = s.held := rfl

/-- A field written is the field read, cut to its width. -/
@[simp] theorem Vc.rd_wr_same (s : Vc) (f : Fld) (v i j : Nat) : (s.wr f v i j).rd f i j = v % 2 ^ f.w :=
  Tab.get_set_same _ _ _ _

theorem Tab.get_dflt_congr {α : Type} (d e : Nat → α) (t : Tab α) (k : Nat) (h : d k = e k) : Tab.get d t k = Tab.get e t k := by
  induction t with
  | nil => exact h
  | cons a t ih => simp only [Tab.get, ih]

/-- Setting a key under one default leaves what another default reads at another key. -/
theorem Tab.get_set_other {α : Type} [DecidableEq α] (d e : Nat → α) (t : Tab α) (k j : Nat) (v : α) (h : j ≠ k) :
    Tab.get e (Tab.set d t k v) j = Tab.get e t j := by
  have h1 : Tab.get e (Tab.set d t k v) j = Tab.get (fun x => if x = j then e j else d x) (Tab.set d t k v) j :=
    Tab.get_dflt_congr _ _ _ _ (by simp)
  have h2 : Tab.set d t k v = Tab.set (fun x => if x = j then e j else d x) t k v := by
    simp [Tab.set, Ne.symm h]
  rw [h1, h2, Tab.get_set_ne _ _ _ _ _ h]
  exact Tab.get_dflt_congr _ _ _ _ (by simp)

/-- Fields of other registers have other keys. -/
theorem Fld.key_ne_id (f g : Fld) (i j k l : Nat) (h : f.id ≠ g.id) : f.key i j ≠ g.key k l := by
  unfold Fld.key
  omega

theorem Fld.key_ne_idx (f : Fld) (i j k l : Nat) (h : i % 1024 ≠ k % 1024 ∨ j % 1024 ≠ l % 1024) : f.key i j ≠ f.key k l := by
  unfold Fld.key
  omega

/-- A write of one field leaves every other field. -/
theorem Vc.rd_wr_ne (s : Vc) (f g : Fld) (v i j k l : Nat) (h : g.id ≠ f.id) : (s.wr f v i j).rd g k l = s.rd g k l := by
  unfold Vc.rd Vc.wr
  dsimp only
  exact Tab.get_set_other (fun _ => f.reset j) (fun _ => g.reset l) s.regs (f.key i j) (g.key k l) (v % 2 ^ f.w)
    (Fld.key_ne_id g f k l i j h)

/-- A write of one element of a field leaves the others. -/
theorem Vc.rd_wr_idx (s : Vc) (f : Fld) (v i j k l : Nat) (h : k % 1024 ≠ i % 1024 ∨ l % 1024 ≠ j % 1024) :
    (s.wr f v i j).rd f k l = s.rd f k l := by
  unfold Vc.rd Vc.wr
  dsimp only
  exact Tab.get_set_other (fun _ => f.reset j) (fun _ => f.reset l) s.regs (f.key i j) (f.key k l) (v % 2 ^ f.w)
    (Fld.key_ne_idx f k l i j h)

/-- The same for a value that fits. -/
theorem Vc.rd_wr_val (s : Vc) (f : Fld) (v i j : Nat) (h : v < 2 ^ f.w) : (s.wr f v i j).rd f i j = v := by
  rw [Vc.rd_wr_same, Nat.mod_eq_of_lt h]

/-- Of a state given by its parts, registers read what its table of fields holds: the next lemma names that state again. -/
theorem Vc.rd_mk {out vt frac now resetUntil ticks free regs held facets remotes arms strs lanes prot host ledger ap lens sched time casc voter boot comps flash} (f : Fld) (i j : Nat) :
    (Vc.mk out vt frac now resetUntil ticks free regs held facets remotes arms strs lanes prot host ledger ap lens sched time casc voter boot comps flash).rd f i j = Tab.get (fun _ => f.reset j) regs (f.key i j) := rfl
theorem Vc.get_regs (s : Vc) (f : Fld) (i j : Nat) : Tab.get (fun _ => f.reset j) s.regs (f.key i j) = s.rd f i j := rfl

/-- What a register reads is what the table of fields holds. -/
theorem Vc.rd_congr (s t : Vc) (h : s.regs = t.regs) (f : Fld) (i j : Nat) : s.rd f i j = t.rd f i j := by
  unfold Vc.rd
  rw [h]

@[simp] theorem Vc.rd_setFacet (s : Vc) (n : Nat) (x : Facet) (g : Fld) (k l : Nat) : (s.setFacet n x).rd g k l = s.rd g k l := rfl
@[simp] theorem Vc.rd_setStr (s : Vc) (n : Nat) (x : Str) (g : Fld) (k l : Nat) : (s.setStr n x).rd g k l = s.rd g k l := rfl
@[simp] theorem Vc.rd_setLane (s : Vc) (n : Nat) (x : LaneSt) (g : Fld) (k l : Nat) : (s.setLane n x).rd g k l = s.rd g k l := rfl
@[simp] theorem Vc.rd_setChan (s : Vc) (n : Nat) (x : Chan) (g : Fld) (k l : Nat) : (s.setChan n x).rd g k l = s.rd g k l := rfl
@[simp] theorem Vc.rd_setToken (s : Vc) (n : Nat) (x : Token) (g : Fld) (k l : Nat) : (s.setToken n x).rd g k l = s.rd g k l := rfl
@[simp] theorem Vc.rd_setCq (s : Vc) (n : Nat) (x : CqSt) (g : Fld) (k l : Nat) : (s.setCq n x).rd g k l = s.rd g k l := rfl
@[simp] theorem Vc.rd_setSqTail (s : Vc) (n v : Nat) (g : Fld) (k l : Nat) : (s.setSqTail n v).rd g k l = s.rd g k l := rfl
@[simp] theorem Vc.rd_setStat (s : Vc) (n : Nat) (x : FacetStat) (g : Fld) (k l : Nat) : (s.setStat n x).rd g k l = s.rd g k l := rfl
@[simp] theorem Vc.rd_asHost (s : Vc) (q : Nat) (g : Fld) (k l : Nat) : (s.asHost q).rd g k l = s.rd g k l := rfl
@[simp] theorem Vc.rd_emit (s : Vc) (e : Emit) (g : Fld) (k l : Nat) : (s.emit e).rd g k l = s.rd g k l := rfl
@[simp] theorem Vc.rd_elapse (s : Vc) (dt : Nat) (g : Fld) (k l : Nat) : (s.elapse dt).rd g k l = s.rd g k l := rfl

/-! ### A cell -/

@[simp] theorem Cw.wr_run (w : Cw) (f : Fld) (v i : Nat) : (w.wr f v i).run = w.run := rfl
@[simp] theorem Cw.wr_shadow (w : Cw) (f : Fld) (v i : Nat) : (w.wr f v i).shadow = w.shadow := rfl
@[simp] theorem Cw.wr_up (w : Cw) (f : Fld) (v i : Nat) : (w.wr f v i).up = w.up := rfl
@[simp] theorem Cw.wr_down (w : Cw) (f : Fld) (v i : Nat) : (w.wr f v i).down = w.down := rfl
@[simp] theorem Cw.wr_testEnd (w : Cw) (f : Fld) (v i : Nat) : (w.wr f v i).testEnd = w.testEnd := rfl
@[simp] theorem Cw.wr_off (w : Cw) (f : Fld) (v i : Nat) : (w.wr f v i).off = w.off := rfl
@[simp] theorem Cw.wr_timed (w : Cw) (f : Fld) (v i : Nat) : (w.wr f v i).timed = w.timed := rfl
@[simp] theorem Cw.wr_split (w : Cw) (f : Fld) (v i : Nat) : (w.wr f v i).split = w.split := rfl
@[simp] theorem Cw.wr_est (w : Cw) (f : Fld) (v i : Nat) : (w.wr f v i).est = w.est := rfl
@[simp] theorem Cw.wr_steer (w : Cw) (f : Fld) (v i : Nat) : (w.wr f v i).steer = w.steer := rfl
@[simp] theorem Cw.wr_flashAt (w : Cw) (f : Fld) (v i : Nat) : (w.wr f v i).flashAt = w.flashAt := rfl
@[simp] theorem Cw.wr_queue (w : Cw) (f : Fld) (v i : Nat) : (w.wr f v i).queue = w.queue := rfl
@[simp] theorem Cw.wr_lastSeq (w : Cw) (f : Fld) (v i : Nat) : (w.wr f v i).lastSeq = w.lastSeq := rfl
@[simp] theorem Cw.wr_grid (w : Cw) (f : Fld) (v i : Nat) : (w.wr f v i).grid = w.grid := rfl
@[simp] theorem Cw.wr_lastInst (w : Cw) (f : Fld) (v i : Nat) : (w.wr f v i).lastInst = w.lastInst := rfl
@[simp] theorem Cw.wr_aux (w : Cw) (f : Fld) (v i : Nat) : (w.wr f v i).aux = w.aux := rfl
@[simp] theorem Cw.wr_auxOld (w : Cw) (f : Fld) (v i : Nat) : (w.wr f v i).auxOld = w.auxOld := rfl
@[simp] theorem Cw.wr_faultFor (w : Cw) (f : Fld) (v i : Nat) : (w.wr f v i).faultFor = w.faultFor := rfl
@[simp] theorem Cw.wr_lpar (w : Cw) (f : Fld) (v i : Nat) : (w.wr f v i).lpar = w.lpar := rfl
@[simp] theorem Cw.wr_lgen (w : Cw) (f : Fld) (v i : Nat) : (w.wr f v i).lgen = w.lgen := rfl
@[simp] theorem Cw.wr_flashed (w : Cw) (f : Fld) (v i : Nat) : (w.wr f v i).flashed = w.flashed := rfl
@[simp] theorem Cw.wr_fgenHold (w : Cw) (f : Fld) (v i : Nat) : (w.wr f v i).fgenHold = w.fgenHold := rfl
@[simp] theorem Cw.wr_lastFgen (w : Cw) (f : Fld) (v i : Nat) : (w.wr f v i).lastFgen = w.lastFgen := rfl
@[simp] theorem Cw.wr_acted (w : Cw) (f : Fld) (v i : Nat) : (w.wr f v i).acted = w.acted := rfl
@[simp] theorem Cw.wr_wdogOn (w : Cw) (f : Fld) (v i : Nat) : (w.wr f v i).wdogOn = w.wdogOn := rfl
@[simp] theorem Cw.wr_accepted (w : Cw) (f : Fld) (v i : Nat) : (w.wr f v i).accepted = w.accepted := rfl
@[simp] theorem Cw.wr_wdog (w : Cw) (f : Fld) (v i : Nat) : (w.wr f v i).wdog = w.wdog := rfl
@[simp] theorem Cw.wr_hdrX (w : Cw) (f : Fld) (v i : Nat) : (w.wr f v i).hdrX = w.hdrX := rfl
@[simp] theorem Cw.wr_hdrY (w : Cw) (f : Fld) (v i : Nat) : (w.wr f v i).hdrY = w.hdrY := rfl
@[simp] theorem Cw.wr_gate (w : Cw) (f : Fld) (v i : Nat) : (w.wr f v i).gate = w.gate := rfl
@[simp] theorem Cw.wr_pins (w : Cw) (f : Fld) (v i : Nat) : (w.wr f v i).pins = w.pins := rfl
@[simp] theorem Cw.wr_fireAt (w : Cw) (f : Fld) (v i : Nat) : (w.wr f v i).fireAt = w.fireAt := rfl
@[simp] theorem Cw.wr_bypOn (w : Cw) (f : Fld) (v i : Nat) : (w.wr f v i).bypOn = w.bypOn := rfl
@[simp] theorem Cw.wr_ov3Since (w : Cw) (f : Fld) (v i : Nat) : (w.wr f v i).ov3Since = w.ov3Since := rfl
@[simp] theorem Cw.wr_adc (w : Cw) (f : Fld) (v i : Nat) : (w.wr f v i).adc = w.adc := rfl
@[simp] theorem Cw.wr_armed (w : Cw) (f : Fld) (v i : Nat) : (w.wr f v i).armed = w.armed := rfl
@[simp] theorem Cw.wr_img (w : Cw) (f : Fld) (v i : Nat) : (w.wr f v i).img = w.img := rfl
@[simp] theorem Cw.wr_blks (w : Cw) (f : Fld) (v i : Nat) : (w.wr f v i).blks = w.blks := rfl
@[simp] theorem Cw.wr_digest (w : Cw) (f : Fld) (v i : Nat) : (w.wr f v i).digest = w.digest := rfl
@[simp] theorem Cw.wr_imgLen (w : Cw) (f : Fld) (v i : Nat) : (w.wr f v i).imgLen = w.imgLen := rfl
@[simp] theorem Cw.wr_imgVer (w : Cw) (f : Fld) (v i : Nat) : (w.wr f v i).imgVer = w.imgVer := rfl
@[simp] theorem Cw.wr_recheck (w : Cw) (f : Fld) (v i : Nat) : (w.wr f v i).recheck = w.recheck := rfl
@[simp] theorem Cw.wr_kickAt (w : Cw) (f : Fld) (v i : Nat) : (w.wr f v i).kickAt = w.kickAt := rfl
@[simp] theorem Cw.wr_expired (w : Cw) (f : Fld) (v i : Nat) : (w.wr f v i).expired = w.expired := rfl
@[simp] theorem Cw.wr_fwFault (w : Cw) (f : Fld) (v i : Nat) : (w.wr f v i).fwFault = w.fwFault := rfl
@[simp] theorem Cw.wr_halted (w : Cw) (f : Fld) (v i : Nat) : (w.wr f v i).halted = w.halted := rfl
@[simp] theorem Cw.wr_lastTag (w : Cw) (f : Fld) (v i : Nat) : (w.wr f v i).lastTag = w.lastTag := rfl
@[simp] theorem Cw.wr_resps (w : Cw) (f : Fld) (v i : Nat) : (w.wr f v i).resps = w.resps := rfl
@[simp] theorem Cw.wr_calVals (w : Cw) (f : Fld) (v i : Nat) : (w.wr f v i).calVals = w.calVals := rfl
@[simp] theorem Cw.wr_n (w : Cw) (f : Fld) (v i : Nat) : (w.wr f v i).n = w.n := rfl
@[simp] theorem Cw.wr_now (w : Cw) (f : Fld) (v i : Nat) : (w.wr f v i).now = w.now := rfl
@[simp] theorem Cw.wr_out (w : Cw) (f : Fld) (v i : Nat) : (w.wr f v i).out = w.out := rfl
@[simp] theorem Cw.wr_reflUp (w : Cw) (f : Fld) (v i : Nat) : (w.wr f v i).reflUp = w.reflUp := rfl
@[simp] theorem Cw.wr_reflDown (w : Cw) (f : Fld) (v i : Nat) : (w.wr f v i).reflDown = w.reflDown := rfl
@[simp] theorem Cw.wr_sendUp (w : Cw) (f : Fld) (v i : Nat) : (w.wr f v i).sendUp = w.sendUp := rfl
@[simp] theorem Cw.wr_sendDown (w : Cw) (f : Fld) (v i : Nat) : (w.wr f v i).sendDown = w.sendDown := rfl
@[simp] theorem Cw.wr_cyc (w : Cw) (f : Fld) (v i : Nat) : (w.wr f v i).cyc = w.cyc := rfl
@[simp] theorem Cw.wr_syncEnd (w : Cw) (f : Fld) (v i : Nat) : (w.wr f v i).syncEnd = w.syncEnd := rfl
@[simp] theorem Cw.wr_ov2Cyc (w : Cw) (f : Fld) (v i : Nat) : (w.wr f v i).ov2Cyc = w.ov2Cyc := rfl
@[simp] theorem Cw.wr_fireArmed (w : Cw) (f : Fld) (v i : Nat) : (w.wr f v i).fireArmed = w.fireArmed := rfl
@[simp] theorem Cw.wr_ov3Fired (w : Cw) (f : Fld) (v i : Nat) : (w.wr f v i).ov3Fired = w.ov3Fired := rfl
@[simp] theorem Cw.wr_held (w : Cw) (f : Fld) (v i : Nat) : (w.wr f v i).held = w.held := rfl
@[simp] theorem Cw.wr_core (w : Cw) (f : Fld) (v i : Nat) : (w.wr f v i).core = w.core := rfl
@[simp] theorem Cw.wr_sram (w : Cw) (f : Fld) (v i : Nat) : (w.wr f v i).sram = w.sram := rfl
@[simp] theorem Cw.wr_steerAt (w : Cw) (f : Fld) (v i : Nat) : (w.wr f v i).steerAt = w.steerAt := rfl
@[simp] theorem Cw.wr_fgenAt (w : Cw) (f : Fld) (v i : Nat) : (w.wr f v i).fgenAt = w.fgenAt := rfl
@[simp] theorem Cw.wr_actedAt (w : Cw) (f : Fld) (v i : Nat) : (w.wr f v i).actedAt = w.actedAt := rfl
@[simp] theorem Cw.wr_passUp (w : Cw) (f : Fld) (v i : Nat) : (w.wr f v i).passUp = w.passUp := rfl
@[simp] theorem Cw.wr_passDown (w : Cw) (f : Fld) (v i : Nat) : (w.wr f v i).passDown = w.passDown := rfl
@[simp] theorem Cw.wr_latchAt (w : Cw) (f : Fld) (v i : Nat) : (w.wr f v i).latchAt = w.latchAt := rfl
@[simp] theorem Cw.set1_run (w : Cw) (f : Fld) (i : Nat) : (w.set1 f i).run = w.run := rfl
@[simp] theorem Cw.set1_shadow (w : Cw) (f : Fld) (i : Nat) : (w.set1 f i).shadow = w.shadow := rfl
@[simp] theorem Cw.set1_up (w : Cw) (f : Fld) (i : Nat) : (w.set1 f i).up = w.up := rfl
@[simp] theorem Cw.set1_down (w : Cw) (f : Fld) (i : Nat) : (w.set1 f i).down = w.down := rfl
@[simp] theorem Cw.set1_testEnd (w : Cw) (f : Fld) (i : Nat) : (w.set1 f i).testEnd = w.testEnd := rfl
@[simp] theorem Cw.set1_off (w : Cw) (f : Fld) (i : Nat) : (w.set1 f i).off = w.off := rfl
@[simp] theorem Cw.set1_timed (w : Cw) (f : Fld) (i : Nat) : (w.set1 f i).timed = w.timed := rfl
@[simp] theorem Cw.set1_split (w : Cw) (f : Fld) (i : Nat) : (w.set1 f i).split = w.split := rfl
@[simp] theorem Cw.set1_est (w : Cw) (f : Fld) (i : Nat) : (w.set1 f i).est = w.est := rfl
@[simp] theorem Cw.set1_steer (w : Cw) (f : Fld) (i : Nat) : (w.set1 f i).steer = w.steer := rfl
@[simp] theorem Cw.set1_flashAt (w : Cw) (f : Fld) (i : Nat) : (w.set1 f i).flashAt = w.flashAt := rfl
@[simp] theorem Cw.set1_queue (w : Cw) (f : Fld) (i : Nat) : (w.set1 f i).queue = w.queue := rfl
@[simp] theorem Cw.set1_lastSeq (w : Cw) (f : Fld) (i : Nat) : (w.set1 f i).lastSeq = w.lastSeq := rfl
@[simp] theorem Cw.set1_grid (w : Cw) (f : Fld) (i : Nat) : (w.set1 f i).grid = w.grid := rfl
@[simp] theorem Cw.set1_lastInst (w : Cw) (f : Fld) (i : Nat) : (w.set1 f i).lastInst = w.lastInst := rfl
@[simp] theorem Cw.set1_aux (w : Cw) (f : Fld) (i : Nat) : (w.set1 f i).aux = w.aux := rfl
@[simp] theorem Cw.set1_auxOld (w : Cw) (f : Fld) (i : Nat) : (w.set1 f i).auxOld = w.auxOld := rfl
@[simp] theorem Cw.set1_faultFor (w : Cw) (f : Fld) (i : Nat) : (w.set1 f i).faultFor = w.faultFor := rfl
@[simp] theorem Cw.set1_lpar (w : Cw) (f : Fld) (i : Nat) : (w.set1 f i).lpar = w.lpar := rfl
@[simp] theorem Cw.set1_lgen (w : Cw) (f : Fld) (i : Nat) : (w.set1 f i).lgen = w.lgen := rfl
@[simp] theorem Cw.set1_flashed (w : Cw) (f : Fld) (i : Nat) : (w.set1 f i).flashed = w.flashed := rfl
@[simp] theorem Cw.set1_fgenHold (w : Cw) (f : Fld) (i : Nat) : (w.set1 f i).fgenHold = w.fgenHold := rfl
@[simp] theorem Cw.set1_lastFgen (w : Cw) (f : Fld) (i : Nat) : (w.set1 f i).lastFgen = w.lastFgen := rfl
@[simp] theorem Cw.set1_acted (w : Cw) (f : Fld) (i : Nat) : (w.set1 f i).acted = w.acted := rfl
@[simp] theorem Cw.set1_wdogOn (w : Cw) (f : Fld) (i : Nat) : (w.set1 f i).wdogOn = w.wdogOn := rfl
@[simp] theorem Cw.set1_accepted (w : Cw) (f : Fld) (i : Nat) : (w.set1 f i).accepted = w.accepted := rfl
@[simp] theorem Cw.set1_wdog (w : Cw) (f : Fld) (i : Nat) : (w.set1 f i).wdog = w.wdog := rfl
@[simp] theorem Cw.set1_hdrX (w : Cw) (f : Fld) (i : Nat) : (w.set1 f i).hdrX = w.hdrX := rfl
@[simp] theorem Cw.set1_hdrY (w : Cw) (f : Fld) (i : Nat) : (w.set1 f i).hdrY = w.hdrY := rfl
@[simp] theorem Cw.set1_gate (w : Cw) (f : Fld) (i : Nat) : (w.set1 f i).gate = w.gate := rfl
@[simp] theorem Cw.set1_pins (w : Cw) (f : Fld) (i : Nat) : (w.set1 f i).pins = w.pins := rfl
@[simp] theorem Cw.set1_fireAt (w : Cw) (f : Fld) (i : Nat) : (w.set1 f i).fireAt = w.fireAt := rfl
@[simp] theorem Cw.set1_bypOn (w : Cw) (f : Fld) (i : Nat) : (w.set1 f i).bypOn = w.bypOn := rfl
@[simp] theorem Cw.set1_ov3Since (w : Cw) (f : Fld) (i : Nat) : (w.set1 f i).ov3Since = w.ov3Since := rfl
@[simp] theorem Cw.set1_adc (w : Cw) (f : Fld) (i : Nat) : (w.set1 f i).adc = w.adc := rfl
@[simp] theorem Cw.set1_armed (w : Cw) (f : Fld) (i : Nat) : (w.set1 f i).armed = w.armed := rfl
@[simp] theorem Cw.set1_img (w : Cw) (f : Fld) (i : Nat) : (w.set1 f i).img = w.img := rfl
@[simp] theorem Cw.set1_blks (w : Cw) (f : Fld) (i : Nat) : (w.set1 f i).blks = w.blks := rfl
@[simp] theorem Cw.set1_digest (w : Cw) (f : Fld) (i : Nat) : (w.set1 f i).digest = w.digest := rfl
@[simp] theorem Cw.set1_imgLen (w : Cw) (f : Fld) (i : Nat) : (w.set1 f i).imgLen = w.imgLen := rfl
@[simp] theorem Cw.set1_imgVer (w : Cw) (f : Fld) (i : Nat) : (w.set1 f i).imgVer = w.imgVer := rfl
@[simp] theorem Cw.set1_recheck (w : Cw) (f : Fld) (i : Nat) : (w.set1 f i).recheck = w.recheck := rfl
@[simp] theorem Cw.set1_kickAt (w : Cw) (f : Fld) (i : Nat) : (w.set1 f i).kickAt = w.kickAt := rfl
@[simp] theorem Cw.set1_expired (w : Cw) (f : Fld) (i : Nat) : (w.set1 f i).expired = w.expired := rfl
@[simp] theorem Cw.set1_fwFault (w : Cw) (f : Fld) (i : Nat) : (w.set1 f i).fwFault = w.fwFault := rfl
@[simp] theorem Cw.set1_halted (w : Cw) (f : Fld) (i : Nat) : (w.set1 f i).halted = w.halted := rfl
@[simp] theorem Cw.set1_lastTag (w : Cw) (f : Fld) (i : Nat) : (w.set1 f i).lastTag = w.lastTag := rfl
@[simp] theorem Cw.set1_resps (w : Cw) (f : Fld) (i : Nat) : (w.set1 f i).resps = w.resps := rfl
@[simp] theorem Cw.set1_calVals (w : Cw) (f : Fld) (i : Nat) : (w.set1 f i).calVals = w.calVals := rfl
@[simp] theorem Cw.set1_n (w : Cw) (f : Fld) (i : Nat) : (w.set1 f i).n = w.n := rfl
@[simp] theorem Cw.set1_now (w : Cw) (f : Fld) (i : Nat) : (w.set1 f i).now = w.now := rfl
@[simp] theorem Cw.set1_out (w : Cw) (f : Fld) (i : Nat) : (w.set1 f i).out = w.out := rfl
@[simp] theorem Cw.set1_reflUp (w : Cw) (f : Fld) (i : Nat) : (w.set1 f i).reflUp = w.reflUp := rfl
@[simp] theorem Cw.set1_reflDown (w : Cw) (f : Fld) (i : Nat) : (w.set1 f i).reflDown = w.reflDown := rfl
@[simp] theorem Cw.set1_sendUp (w : Cw) (f : Fld) (i : Nat) : (w.set1 f i).sendUp = w.sendUp := rfl
@[simp] theorem Cw.set1_sendDown (w : Cw) (f : Fld) (i : Nat) : (w.set1 f i).sendDown = w.sendDown := rfl
@[simp] theorem Cw.set1_cyc (w : Cw) (f : Fld) (i : Nat) : (w.set1 f i).cyc = w.cyc := rfl
@[simp] theorem Cw.set1_syncEnd (w : Cw) (f : Fld) (i : Nat) : (w.set1 f i).syncEnd = w.syncEnd := rfl
@[simp] theorem Cw.set1_ov2Cyc (w : Cw) (f : Fld) (i : Nat) : (w.set1 f i).ov2Cyc = w.ov2Cyc := rfl
@[simp] theorem Cw.set1_fireArmed (w : Cw) (f : Fld) (i : Nat) : (w.set1 f i).fireArmed = w.fireArmed := rfl
@[simp] theorem Cw.set1_ov3Fired (w : Cw) (f : Fld) (i : Nat) : (w.set1 f i).ov3Fired = w.ov3Fired := rfl
@[simp] theorem Cw.set1_held (w : Cw) (f : Fld) (i : Nat) : (w.set1 f i).held = w.held := rfl
@[simp] theorem Cw.set1_core (w : Cw) (f : Fld) (i : Nat) : (w.set1 f i).core = w.core := rfl
@[simp] theorem Cw.set1_sram (w : Cw) (f : Fld) (i : Nat) : (w.set1 f i).sram = w.sram := rfl
@[simp] theorem Cw.set1_steerAt (w : Cw) (f : Fld) (i : Nat) : (w.set1 f i).steerAt = w.steerAt := rfl
@[simp] theorem Cw.set1_fgenAt (w : Cw) (f : Fld) (i : Nat) : (w.set1 f i).fgenAt = w.fgenAt := rfl
@[simp] theorem Cw.set1_actedAt (w : Cw) (f : Fld) (i : Nat) : (w.set1 f i).actedAt = w.actedAt := rfl
@[simp] theorem Cw.set1_passUp (w : Cw) (f : Fld) (i : Nat) : (w.set1 f i).passUp = w.passUp := rfl
@[simp] theorem Cw.set1_passDown (w : Cw) (f : Fld) (i : Nat) : (w.set1 f i).passDown = w.passDown := rfl
@[simp] theorem Cw.set1_latchAt (w : Cw) (f : Fld) (i : Nat) : (w.set1 f i).latchAt = w.latchAt := rfl
@[simp] theorem Cw.emit_run (w : Cw) (e : Emit) : (w.emit e).run = w.run := rfl
@[simp] theorem Cw.emit_regs (w : Cw) (e : Emit) : (w.emit e).regs = w.regs := rfl
@[simp] theorem Cw.emit_shadow (w : Cw) (e : Emit) : (w.emit e).shadow = w.shadow := rfl
@[simp] theorem Cw.emit_up (w : Cw) (e : Emit) : (w.emit e).up = w.up := rfl
@[simp] theorem Cw.emit_down (w : Cw) (e : Emit) : (w.emit e).down = w.down := rfl
@[simp] theorem Cw.emit_testEnd (w : Cw) (e : Emit) : (w.emit e).testEnd = w.testEnd := rfl
@[simp] theorem Cw.emit_off (w : Cw) (e : Emit) : (w.emit e).off = w.off := rfl
@[simp] theorem Cw.emit_timed (w : Cw) (e : Emit) : (w.emit e).timed = w.timed := rfl
@[simp] theorem Cw.emit_split (w : Cw) (e : Emit) : (w.emit e).split = w.split := rfl
@[simp] theorem Cw.emit_est (w : Cw) (e : Emit) : (w.emit e).est = w.est := rfl
@[simp] theorem Cw.emit_steer (w : Cw) (e : Emit) : (w.emit e).steer = w.steer := rfl
@[simp] theorem Cw.emit_flashAt (w : Cw) (e : Emit) : (w.emit e).flashAt = w.flashAt := rfl
@[simp] theorem Cw.emit_queue (w : Cw) (e : Emit) : (w.emit e).queue = w.queue := rfl
@[simp] theorem Cw.emit_lastSeq (w : Cw) (e : Emit) : (w.emit e).lastSeq = w.lastSeq := rfl
@[simp] theorem Cw.emit_grid (w : Cw) (e : Emit) : (w.emit e).grid = w.grid := rfl
@[simp] theorem Cw.emit_lastInst (w : Cw) (e : Emit) : (w.emit e).lastInst = w.lastInst := rfl
@[simp] theorem Cw.emit_aux (w : Cw) (e : Emit) : (w.emit e).aux = w.aux := rfl
@[simp] theorem Cw.emit_auxOld (w : Cw) (e : Emit) : (w.emit e).auxOld = w.auxOld := rfl
@[simp] theorem Cw.emit_faultFor (w : Cw) (e : Emit) : (w.emit e).faultFor = w.faultFor := rfl
@[simp] theorem Cw.emit_lpar (w : Cw) (e : Emit) : (w.emit e).lpar = w.lpar := rfl
@[simp] theorem Cw.emit_lgen (w : Cw) (e : Emit) : (w.emit e).lgen = w.lgen := rfl
@[simp] theorem Cw.emit_flashed (w : Cw) (e : Emit) : (w.emit e).flashed = w.flashed := rfl
@[simp] theorem Cw.emit_fgenHold (w : Cw) (e : Emit) : (w.emit e).fgenHold = w.fgenHold := rfl
@[simp] theorem Cw.emit_lastFgen (w : Cw) (e : Emit) : (w.emit e).lastFgen = w.lastFgen := rfl
@[simp] theorem Cw.emit_acted (w : Cw) (e : Emit) : (w.emit e).acted = w.acted := rfl
@[simp] theorem Cw.emit_wdogOn (w : Cw) (e : Emit) : (w.emit e).wdogOn = w.wdogOn := rfl
@[simp] theorem Cw.emit_accepted (w : Cw) (e : Emit) : (w.emit e).accepted = w.accepted := rfl
@[simp] theorem Cw.emit_wdog (w : Cw) (e : Emit) : (w.emit e).wdog = w.wdog := rfl
@[simp] theorem Cw.emit_hdrX (w : Cw) (e : Emit) : (w.emit e).hdrX = w.hdrX := rfl
@[simp] theorem Cw.emit_hdrY (w : Cw) (e : Emit) : (w.emit e).hdrY = w.hdrY := rfl
@[simp] theorem Cw.emit_gate (w : Cw) (e : Emit) : (w.emit e).gate = w.gate := rfl
@[simp] theorem Cw.emit_pins (w : Cw) (e : Emit) : (w.emit e).pins = w.pins := rfl
@[simp] theorem Cw.emit_fireAt (w : Cw) (e : Emit) : (w.emit e).fireAt = w.fireAt := rfl
@[simp] theorem Cw.emit_bypOn (w : Cw) (e : Emit) : (w.emit e).bypOn = w.bypOn := rfl
@[simp] theorem Cw.emit_ov3Since (w : Cw) (e : Emit) : (w.emit e).ov3Since = w.ov3Since := rfl
@[simp] theorem Cw.emit_adc (w : Cw) (e : Emit) : (w.emit e).adc = w.adc := rfl
@[simp] theorem Cw.emit_armed (w : Cw) (e : Emit) : (w.emit e).armed = w.armed := rfl
@[simp] theorem Cw.emit_img (w : Cw) (e : Emit) : (w.emit e).img = w.img := rfl
@[simp] theorem Cw.emit_blks (w : Cw) (e : Emit) : (w.emit e).blks = w.blks := rfl
@[simp] theorem Cw.emit_digest (w : Cw) (e : Emit) : (w.emit e).digest = w.digest := rfl
@[simp] theorem Cw.emit_imgLen (w : Cw) (e : Emit) : (w.emit e).imgLen = w.imgLen := rfl
@[simp] theorem Cw.emit_imgVer (w : Cw) (e : Emit) : (w.emit e).imgVer = w.imgVer := rfl
@[simp] theorem Cw.emit_recheck (w : Cw) (e : Emit) : (w.emit e).recheck = w.recheck := rfl
@[simp] theorem Cw.emit_kickAt (w : Cw) (e : Emit) : (w.emit e).kickAt = w.kickAt := rfl
@[simp] theorem Cw.emit_expired (w : Cw) (e : Emit) : (w.emit e).expired = w.expired := rfl
@[simp] theorem Cw.emit_fwFault (w : Cw) (e : Emit) : (w.emit e).fwFault = w.fwFault := rfl
@[simp] theorem Cw.emit_halted (w : Cw) (e : Emit) : (w.emit e).halted = w.halted := rfl
@[simp] theorem Cw.emit_lastTag (w : Cw) (e : Emit) : (w.emit e).lastTag = w.lastTag := rfl
@[simp] theorem Cw.emit_resps (w : Cw) (e : Emit) : (w.emit e).resps = w.resps := rfl
@[simp] theorem Cw.emit_calVals (w : Cw) (e : Emit) : (w.emit e).calVals = w.calVals := rfl
@[simp] theorem Cw.emit_n (w : Cw) (e : Emit) : (w.emit e).n = w.n := rfl
@[simp] theorem Cw.emit_now (w : Cw) (e : Emit) : (w.emit e).now = w.now := rfl
@[simp] theorem Cw.emit_reflUp (w : Cw) (e : Emit) : (w.emit e).reflUp = w.reflUp := rfl
@[simp] theorem Cw.emit_reflDown (w : Cw) (e : Emit) : (w.emit e).reflDown = w.reflDown := rfl
@[simp] theorem Cw.emit_sendUp (w : Cw) (e : Emit) : (w.emit e).sendUp = w.sendUp := rfl
@[simp] theorem Cw.emit_sendDown (w : Cw) (e : Emit) : (w.emit e).sendDown = w.sendDown := rfl
@[simp] theorem Cw.emit_cyc (w : Cw) (e : Emit) : (w.emit e).cyc = w.cyc := rfl
@[simp] theorem Cw.emit_syncEnd (w : Cw) (e : Emit) : (w.emit e).syncEnd = w.syncEnd := rfl
@[simp] theorem Cw.emit_ov2Cyc (w : Cw) (e : Emit) : (w.emit e).ov2Cyc = w.ov2Cyc := rfl
@[simp] theorem Cw.emit_fireArmed (w : Cw) (e : Emit) : (w.emit e).fireArmed = w.fireArmed := rfl
@[simp] theorem Cw.emit_ov3Fired (w : Cw) (e : Emit) : (w.emit e).ov3Fired = w.ov3Fired := rfl
@[simp] theorem Cw.emit_held (w : Cw) (e : Emit) : (w.emit e).held = w.held := rfl
@[simp] theorem Cw.emit_core (w : Cw) (e : Emit) : (w.emit e).core = w.core := rfl
@[simp] theorem Cw.emit_sram (w : Cw) (e : Emit) : (w.emit e).sram = w.sram := rfl
@[simp] theorem Cw.emit_steerAt (w : Cw) (e : Emit) : (w.emit e).steerAt = w.steerAt := rfl
@[simp] theorem Cw.emit_fgenAt (w : Cw) (e : Emit) : (w.emit e).fgenAt = w.fgenAt := rfl
@[simp] theorem Cw.emit_actedAt (w : Cw) (e : Emit) : (w.emit e).actedAt = w.actedAt := rfl
@[simp] theorem Cw.emit_passUp (w : Cw) (e : Emit) : (w.emit e).passUp = w.passUp := rfl
@[simp] theorem Cw.emit_passDown (w : Cw) (e : Emit) : (w.emit e).passDown = w.passDown := rfl
@[simp] theorem Cw.emit_latchAt (w : Cw) (e : Emit) : (w.emit e).latchAt = w.latchAt := rfl

@[simp] theorem Cw.rd_wr_same (w : Cw) (f : Fld) (v i : Nat) : (w.wr f v i).rd f i = v % 2 ^ f.w :=
  Tab.get_set_same _ _ _ _

theorem Cw.rd_wr_ne (w : Cw) (f g : Fld) (v i k : Nat) (h : g.id ≠ f.id) : (w.wr f v i).rd g k = w.rd g k := by
  unfold Cw.rd Cw.wr
  dsimp only
  exact Tab.get_set_other (fun _ => f.reset 0) (fun _ => g.reset 0) w.regs (f.key i 0) (g.key k 0) (v % 2 ^ f.w)
    (Fld.key_ne_id g f k 0 i 0 h)

@[simp] theorem Cw.rd_emit (w : Cw) (e : Emit) (g : Fld) (k : Nat) : (w.emit e).rd g k = w.rd g k := rfl

/-! ### A companion -/

@[simp] theorem Sw.wr_copyA (w : Sw) (f : Fld) (v i : Nat) : (w.wr f v i).copyA = w.copyA := rfl
@[simp] theorem Sw.wr_copyB (w : Sw) (f : Fld) (v i : Nat) : (w.wr f v i).copyB = w.copyB := rfl
@[simp] theorem Sw.wr_pwd (w : Sw) (f : Fld) (v i : Nat) : (w.wr f v i).pwd = w.pwd := rfl
@[simp] theorem Sw.wr_log (w : Sw) (f : Fld) (v i : Nat) : (w.wr f v i).log = w.log := rfl
@[simp] theorem Sw.wr_seconds (w : Sw) (f : Fld) (v i : Nat) : (w.wr f v i).seconds = w.seconds := rfl
@[simp] theorem Sw.wr_power (w : Sw) (f : Fld) (v i : Nat) : (w.wr f v i).power = w.power := rfl
@[simp] theorem Sw.wr_poweredAt (w : Sw) (f : Fld) (v i : Nat) : (w.wr f v i).poweredAt = w.poweredAt := rfl
@[simp] theorem Sw.wr_active (w : Sw) (f : Fld) (v i : Nat) : (w.wr f v i).active = w.active := rfl
@[simp] theorem Sw.wr_staged (w : Sw) (f : Fld) (v i : Nat) : (w.wr f v i).staged = w.staged := rfl
@[simp] theorem Sw.wr_inputs (w : Sw) (f : Fld) (v i : Nat) : (w.wr f v i).inputs = w.inputs := rfl
@[simp] theorem Sw.wr_disc (w : Sw) (f : Fld) (v i : Nat) : (w.wr f v i).disc = w.disc := rfl
@[simp] theorem Sw.wr_accDisc (w : Sw) (f : Fld) (v i : Nat) : (w.wr f v i).accDisc = w.accDisc := rfl
@[simp] theorem Sw.wr_accWb (w : Sw) (f : Fld) (v i : Nat) : (w.wr f v i).accWb = w.accWb := rfl
@[simp] theorem Sw.wr_eswDisc (w : Sw) (f : Fld) (v i : Nat) : (w.wr f v i).eswDisc = w.eswDisc := rfl
@[simp] theorem Sw.wr_eswWb (w : Sw) (f : Fld) (v i : Nat) : (w.wr f v i).eswWb = w.eswWb := rfl
@[simp] theorem Sw.wr_req (w : Sw) (f : Fld) (v i : Nat) : (w.wr f v i).req = w.req := rfl
@[simp] theorem Sw.wr_eswSince (w : Sw) (f : Fld) (v i : Nat) : (w.wr f v i).eswSince = w.eswSince := rfl
@[simp] theorem Sw.wr_cmdP (w : Sw) (f : Fld) (v i : Nat) : (w.wr f v i).cmdP = w.cmdP := rfl
@[simp] theorem Sw.wr_cmdQ (w : Sw) (f : Fld) (v i : Nat) : (w.wr f v i).cmdQ = w.cmdQ := rfl
@[simp] theorem Sw.wr_high (w : Sw) (f : Fld) (v i : Nat) : (w.wr f v i).high = w.high := rfl
@[simp] theorem Sw.wr_low (w : Sw) (f : Fld) (v i : Nat) : (w.wr f v i).low = w.low := rfl
@[simp] theorem Sw.wr_swFail (w : Sw) (f : Fld) (v i : Nat) : (w.wr f v i).swFail = w.swFail := rfl
@[simp] theorem Sw.wr_test (w : Sw) (f : Fld) (v i : Nat) : (w.wr f v i).test = w.test := rfl
@[simp] theorem Sw.wr_stuck (w : Sw) (f : Fld) (v i : Nat) : (w.wr f v i).stuck = w.stuck := rfl
@[simp] theorem Sw.wr_hotSince (w : Sw) (f : Fld) (v i : Nat) : (w.wr f v i).hotSince = w.hotSince := rfl
@[simp] theorem Sw.wr_outP (w : Sw) (f : Fld) (v i : Nat) : (w.wr f v i).outP = w.outP := rfl
@[simp] theorem Sw.wr_outN (w : Sw) (f : Fld) (v i : Nat) : (w.wr f v i).outN = w.outN := rfl
@[simp] theorem Sw.wr_permitP (w : Sw) (f : Fld) (v i : Nat) : (w.wr f v i).permitP = w.permitP := rfl
@[simp] theorem Sw.wr_permitQ (w : Sw) (f : Fld) (v i : Nat) : (w.wr f v i).permitQ = w.permitQ := rfl
@[simp] theorem Sw.wr_pqRun (w : Sw) (f : Fld) (v i : Nat) : (w.wr f v i).pqRun = w.pqRun := rfl
@[simp] theorem Sw.wr_rbRun (w : Sw) (f : Fld) (v i : Nat) : (w.wr f v i).rbRun = w.rbRun := rfl
@[simp] theorem Sw.wr_absentOk (w : Sw) (f : Fld) (v i : Nat) : (w.wr f v i).absentOk = w.absentOk := rfl
@[simp] theorem Sw.wr_fieldAt (w : Sw) (f : Fld) (v i : Nat) : (w.wr f v i).fieldAt = w.fieldAt := rfl
@[simp] theorem Sw.wr_logicAt (w : Sw) (f : Fld) (v i : Nat) : (w.wr f v i).logicAt = w.logicAt := rfl
@[simp] theorem Sw.wr_badAt (w : Sw) (f : Fld) (v i : Nat) : (w.wr f v i).badAt = w.badAt := rfl
@[simp] theorem Sw.wr_fieldDead (w : Sw) (f : Fld) (v i : Nat) : (w.wr f v i).fieldDead = w.fieldDead := rfl
@[simp] theorem Sw.wr_logicDead (w : Sw) (f : Fld) (v i : Nat) : (w.wr f v i).logicDead = w.logicDead := rfl
@[simp] theorem Sw.wr_lowSince (w : Sw) (f : Fld) (v i : Nat) : (w.wr f v i).lowSince = w.lowSince := rfl
@[simp] theorem Sw.wr_supLow (w : Sw) (f : Fld) (v i : Nat) : (w.wr f v i).supLow = w.supLow := rfl
@[simp] theorem Sw.wr_unlockB (w : Sw) (f : Fld) (v i : Nat) : (w.wr f v i).unlockB = w.unlockB := rfl
@[simp] theorem Sw.wr_pwdB (w : Sw) (f : Fld) (v i : Nat) : (w.wr f v i).pwdB = w.pwdB := rfl
@[simp] theorem Sw.wr_confirmB (w : Sw) (f : Fld) (v i : Nat) : (w.wr f v i).confirmB = w.confirmB := rfl
@[simp] theorem Sw.wr_unlockEnd (w : Sw) (f : Fld) (v i : Nat) : (w.wr f v i).unlockEnd = w.unlockEnd := rfl
@[simp] theorem Sw.wr_barEnd (w : Sw) (f : Fld) (v i : Nat) : (w.wr f v i).barEnd = w.barEnd := rfl
@[simp] theorem Sw.wr_pendSet (w : Sw) (f : Fld) (v i : Nat) : (w.wr f v i).pendSet = w.pendSet := rfl
@[simp] theorem Sw.wr_pendEnd (w : Sw) (f : Fld) (v i : Nat) : (w.wr f v i).pendEnd = w.pendEnd := rfl
@[simp] theorem Sw.wr_lastReq (w : Sw) (f : Fld) (v i : Nat) : (w.wr f v i).lastReq = w.lastReq := rfl
@[simp] theorem Sw.wr_n (w : Sw) (f : Fld) (v i : Nat) : (w.wr f v i).n = w.n := rfl
@[simp] theorem Sw.wr_now (w : Sw) (f : Fld) (v i : Nat) : (w.wr f v i).now = w.now := rfl
@[simp] theorem Sw.wr_out (w : Sw) (f : Fld) (v i : Nat) : (w.wr f v i).out = w.out := rfl
@[simp] theorem Sw.wr_loads (w : Sw) (f : Fld) (v i : Nat) : (w.wr f v i).loads = w.loads := rfl
@[simp] theorem Sw.set1_copyA (w : Sw) (f : Fld) (i : Nat) : (w.set1 f i).copyA = w.copyA := rfl
@[simp] theorem Sw.set1_copyB (w : Sw) (f : Fld) (i : Nat) : (w.set1 f i).copyB = w.copyB := rfl
@[simp] theorem Sw.set1_pwd (w : Sw) (f : Fld) (i : Nat) : (w.set1 f i).pwd = w.pwd := rfl
@[simp] theorem Sw.set1_log (w : Sw) (f : Fld) (i : Nat) : (w.set1 f i).log = w.log := rfl
@[simp] theorem Sw.set1_seconds (w : Sw) (f : Fld) (i : Nat) : (w.set1 f i).seconds = w.seconds := rfl
@[simp] theorem Sw.set1_power (w : Sw) (f : Fld) (i : Nat) : (w.set1 f i).power = w.power := rfl
@[simp] theorem Sw.set1_poweredAt (w : Sw) (f : Fld) (i : Nat) : (w.set1 f i).poweredAt = w.poweredAt := rfl
@[simp] theorem Sw.set1_active (w : Sw) (f : Fld) (i : Nat) : (w.set1 f i).active = w.active := rfl
@[simp] theorem Sw.set1_staged (w : Sw) (f : Fld) (i : Nat) : (w.set1 f i).staged = w.staged := rfl
@[simp] theorem Sw.set1_inputs (w : Sw) (f : Fld) (i : Nat) : (w.set1 f i).inputs = w.inputs := rfl
@[simp] theorem Sw.set1_disc (w : Sw) (f : Fld) (i : Nat) : (w.set1 f i).disc = w.disc := rfl
@[simp] theorem Sw.set1_accDisc (w : Sw) (f : Fld) (i : Nat) : (w.set1 f i).accDisc = w.accDisc := rfl
@[simp] theorem Sw.set1_accWb (w : Sw) (f : Fld) (i : Nat) : (w.set1 f i).accWb = w.accWb := rfl
@[simp] theorem Sw.set1_eswDisc (w : Sw) (f : Fld) (i : Nat) : (w.set1 f i).eswDisc = w.eswDisc := rfl
@[simp] theorem Sw.set1_eswWb (w : Sw) (f : Fld) (i : Nat) : (w.set1 f i).eswWb = w.eswWb := rfl
@[simp] theorem Sw.set1_req (w : Sw) (f : Fld) (i : Nat) : (w.set1 f i).req = w.req := rfl
@[simp] theorem Sw.set1_eswSince (w : Sw) (f : Fld) (i : Nat) : (w.set1 f i).eswSince = w.eswSince := rfl
@[simp] theorem Sw.set1_cmdP (w : Sw) (f : Fld) (i : Nat) : (w.set1 f i).cmdP = w.cmdP := rfl
@[simp] theorem Sw.set1_cmdQ (w : Sw) (f : Fld) (i : Nat) : (w.set1 f i).cmdQ = w.cmdQ := rfl
@[simp] theorem Sw.set1_high (w : Sw) (f : Fld) (i : Nat) : (w.set1 f i).high = w.high := rfl
@[simp] theorem Sw.set1_low (w : Sw) (f : Fld) (i : Nat) : (w.set1 f i).low = w.low := rfl
@[simp] theorem Sw.set1_swFail (w : Sw) (f : Fld) (i : Nat) : (w.set1 f i).swFail = w.swFail := rfl
@[simp] theorem Sw.set1_test (w : Sw) (f : Fld) (i : Nat) : (w.set1 f i).test = w.test := rfl
@[simp] theorem Sw.set1_stuck (w : Sw) (f : Fld) (i : Nat) : (w.set1 f i).stuck = w.stuck := rfl
@[simp] theorem Sw.set1_hotSince (w : Sw) (f : Fld) (i : Nat) : (w.set1 f i).hotSince = w.hotSince := rfl
@[simp] theorem Sw.set1_outP (w : Sw) (f : Fld) (i : Nat) : (w.set1 f i).outP = w.outP := rfl
@[simp] theorem Sw.set1_outN (w : Sw) (f : Fld) (i : Nat) : (w.set1 f i).outN = w.outN := rfl
@[simp] theorem Sw.set1_permitP (w : Sw) (f : Fld) (i : Nat) : (w.set1 f i).permitP = w.permitP := rfl
@[simp] theorem Sw.set1_permitQ (w : Sw) (f : Fld) (i : Nat) : (w.set1 f i).permitQ = w.permitQ := rfl
@[simp] theorem Sw.set1_pqRun (w : Sw) (f : Fld) (i : Nat) : (w.set1 f i).pqRun = w.pqRun := rfl
@[simp] theorem Sw.set1_rbRun (w : Sw) (f : Fld) (i : Nat) : (w.set1 f i).rbRun = w.rbRun := rfl
@[simp] theorem Sw.set1_absentOk (w : Sw) (f : Fld) (i : Nat) : (w.set1 f i).absentOk = w.absentOk := rfl
@[simp] theorem Sw.set1_fieldAt (w : Sw) (f : Fld) (i : Nat) : (w.set1 f i).fieldAt = w.fieldAt := rfl
@[simp] theorem Sw.set1_logicAt (w : Sw) (f : Fld) (i : Nat) : (w.set1 f i).logicAt = w.logicAt := rfl
@[simp] theorem Sw.set1_badAt (w : Sw) (f : Fld) (i : Nat) : (w.set1 f i).badAt = w.badAt := rfl
@[simp] theorem Sw.set1_fieldDead (w : Sw) (f : Fld) (i : Nat) : (w.set1 f i).fieldDead = w.fieldDead := rfl
@[simp] theorem Sw.set1_logicDead (w : Sw) (f : Fld) (i : Nat) : (w.set1 f i).logicDead = w.logicDead := rfl
@[simp] theorem Sw.set1_lowSince (w : Sw) (f : Fld) (i : Nat) : (w.set1 f i).lowSince = w.lowSince := rfl
@[simp] theorem Sw.set1_supLow (w : Sw) (f : Fld) (i : Nat) : (w.set1 f i).supLow = w.supLow := rfl
@[simp] theorem Sw.set1_unlockB (w : Sw) (f : Fld) (i : Nat) : (w.set1 f i).unlockB = w.unlockB := rfl
@[simp] theorem Sw.set1_pwdB (w : Sw) (f : Fld) (i : Nat) : (w.set1 f i).pwdB = w.pwdB := rfl
@[simp] theorem Sw.set1_confirmB (w : Sw) (f : Fld) (i : Nat) : (w.set1 f i).confirmB = w.confirmB := rfl
@[simp] theorem Sw.set1_unlockEnd (w : Sw) (f : Fld) (i : Nat) : (w.set1 f i).unlockEnd = w.unlockEnd := rfl
@[simp] theorem Sw.set1_barEnd (w : Sw) (f : Fld) (i : Nat) : (w.set1 f i).barEnd = w.barEnd := rfl
@[simp] theorem Sw.set1_pendSet (w : Sw) (f : Fld) (i : Nat) : (w.set1 f i).pendSet = w.pendSet := rfl
@[simp] theorem Sw.set1_pendEnd (w : Sw) (f : Fld) (i : Nat) : (w.set1 f i).pendEnd = w.pendEnd := rfl
@[simp] theorem Sw.set1_lastReq (w : Sw) (f : Fld) (i : Nat) : (w.set1 f i).lastReq = w.lastReq := rfl
@[simp] theorem Sw.set1_n (w : Sw) (f : Fld) (i : Nat) : (w.set1 f i).n = w.n := rfl
@[simp] theorem Sw.set1_now (w : Sw) (f : Fld) (i : Nat) : (w.set1 f i).now = w.now := rfl
@[simp] theorem Sw.set1_out (w : Sw) (f : Fld) (i : Nat) : (w.set1 f i).out = w.out := rfl
@[simp] theorem Sw.set1_loads (w : Sw) (f : Fld) (i : Nat) : (w.set1 f i).loads = w.loads := rfl
@[simp] theorem Sw.emit_copyA (w : Sw) (e : Emit) : (w.emit e).copyA = w.copyA := rfl
@[simp] theorem Sw.emit_copyB (w : Sw) (e : Emit) : (w.emit e).copyB = w.copyB := rfl
@[simp] theorem Sw.emit_pwd (w : Sw) (e : Emit) : (w.emit e).pwd = w.pwd := rfl
@[simp] theorem Sw.emit_log (w : Sw) (e : Emit) : (w.emit e).log = w.log := rfl
@[simp] theorem Sw.emit_seconds (w : Sw) (e : Emit) : (w.emit e).seconds = w.seconds := rfl
@[simp] theorem Sw.emit_power (w : Sw) (e : Emit) : (w.emit e).power = w.power := rfl
@[simp] theorem Sw.emit_poweredAt (w : Sw) (e : Emit) : (w.emit e).poweredAt = w.poweredAt := rfl
@[simp] theorem Sw.emit_regs (w : Sw) (e : Emit) : (w.emit e).regs = w.regs := rfl
@[simp] theorem Sw.emit_active (w : Sw) (e : Emit) : (w.emit e).active = w.active := rfl
@[simp] theorem Sw.emit_staged (w : Sw) (e : Emit) : (w.emit e).staged = w.staged := rfl
@[simp] theorem Sw.emit_inputs (w : Sw) (e : Emit) : (w.emit e).inputs = w.inputs := rfl
@[simp] theorem Sw.emit_disc (w : Sw) (e : Emit) : (w.emit e).disc = w.disc := rfl
@[simp] theorem Sw.emit_accDisc (w : Sw) (e : Emit) : (w.emit e).accDisc = w.accDisc := rfl
@[simp] theorem Sw.emit_accWb (w : Sw) (e : Emit) : (w.emit e).accWb = w.accWb := rfl
@[simp] theorem Sw.emit_eswDisc (w : Sw) (e : Emit) : (w.emit e).eswDisc = w.eswDisc := rfl
@[simp] theorem Sw.emit_eswWb (w : Sw) (e : Emit) : (w.emit e).eswWb = w.eswWb := rfl
@[simp] theorem Sw.emit_req (w : Sw) (e : Emit) : (w.emit e).req = w.req := rfl
@[simp] theorem Sw.emit_eswSince (w : Sw) (e : Emit) : (w.emit e).eswSince = w.eswSince := rfl
@[simp] theorem Sw.emit_cmdP (w : Sw) (e : Emit) : (w.emit e).cmdP = w.cmdP := rfl
@[simp] theorem Sw.emit_cmdQ (w : Sw) (e : Emit) : (w.emit e).cmdQ = w.cmdQ := rfl
@[simp] theorem Sw.emit_high (w : Sw) (e : Emit) : (w.emit e).high = w.high := rfl
@[simp] theorem Sw.emit_low (w : Sw) (e : Emit) : (w.emit e).low = w.low := rfl
@[simp] theorem Sw.emit_swFail (w : Sw) (e : Emit) : (w.emit e).swFail = w.swFail := rfl
@[simp] theorem Sw.emit_test (w : Sw) (e : Emit) : (w.emit e).test = w.test := rfl
@[simp] theorem Sw.emit_stuck (w : Sw) (e : Emit) : (w.emit e).stuck = w.stuck := rfl
@[simp] theorem Sw.emit_hotSince (w : Sw) (e : Emit) : (w.emit e).hotSince = w.hotSince := rfl
@[simp] theorem Sw.emit_outP (w : Sw) (e : Emit) : (w.emit e).outP = w.outP := rfl
@[simp] theorem Sw.emit_outN (w : Sw) (e : Emit) : (w.emit e).outN = w.outN := rfl
@[simp] theorem Sw.emit_permitP (w : Sw) (e : Emit) : (w.emit e).permitP = w.permitP := rfl
@[simp] theorem Sw.emit_permitQ (w : Sw) (e : Emit) : (w.emit e).permitQ = w.permitQ := rfl
@[simp] theorem Sw.emit_pqRun (w : Sw) (e : Emit) : (w.emit e).pqRun = w.pqRun := rfl
@[simp] theorem Sw.emit_rbRun (w : Sw) (e : Emit) : (w.emit e).rbRun = w.rbRun := rfl
@[simp] theorem Sw.emit_absentOk (w : Sw) (e : Emit) : (w.emit e).absentOk = w.absentOk := rfl
@[simp] theorem Sw.emit_fieldAt (w : Sw) (e : Emit) : (w.emit e).fieldAt = w.fieldAt := rfl
@[simp] theorem Sw.emit_logicAt (w : Sw) (e : Emit) : (w.emit e).logicAt = w.logicAt := rfl
@[simp] theorem Sw.emit_badAt (w : Sw) (e : Emit) : (w.emit e).badAt = w.badAt := rfl
@[simp] theorem Sw.emit_fieldDead (w : Sw) (e : Emit) : (w.emit e).fieldDead = w.fieldDead := rfl
@[simp] theorem Sw.emit_logicDead (w : Sw) (e : Emit) : (w.emit e).logicDead = w.logicDead := rfl
@[simp] theorem Sw.emit_lowSince (w : Sw) (e : Emit) : (w.emit e).lowSince = w.lowSince := rfl
@[simp] theorem Sw.emit_supLow (w : Sw) (e : Emit) : (w.emit e).supLow = w.supLow := rfl
@[simp] theorem Sw.emit_unlockB (w : Sw) (e : Emit) : (w.emit e).unlockB = w.unlockB := rfl
@[simp] theorem Sw.emit_pwdB (w : Sw) (e : Emit) : (w.emit e).pwdB = w.pwdB := rfl
@[simp] theorem Sw.emit_confirmB (w : Sw) (e : Emit) : (w.emit e).confirmB = w.confirmB := rfl
@[simp] theorem Sw.emit_unlockEnd (w : Sw) (e : Emit) : (w.emit e).unlockEnd = w.unlockEnd := rfl
@[simp] theorem Sw.emit_barEnd (w : Sw) (e : Emit) : (w.emit e).barEnd = w.barEnd := rfl
@[simp] theorem Sw.emit_pendSet (w : Sw) (e : Emit) : (w.emit e).pendSet = w.pendSet := rfl
@[simp] theorem Sw.emit_pendEnd (w : Sw) (e : Emit) : (w.emit e).pendEnd = w.pendEnd := rfl
@[simp] theorem Sw.emit_lastReq (w : Sw) (e : Emit) : (w.emit e).lastReq = w.lastReq := rfl
@[simp] theorem Sw.emit_n (w : Sw) (e : Emit) : (w.emit e).n = w.n := rfl
@[simp] theorem Sw.emit_now (w : Sw) (e : Emit) : (w.emit e).now = w.now := rfl
@[simp] theorem Sw.emit_loads (w : Sw) (e : Emit) : (w.emit e).loads = w.loads := rfl

@[simp] theorem Sw.rd_wr_same (w : Sw) (f : Fld) (v i : Nat) : (w.wr f v i).rd f i = v % 2 ^ f.w :=
  Tab.get_set_same _ _ _ _

theorem Sw.rd_wr_ne (w : Sw) (f g : Fld) (v i k : Nat) (h : g.id ≠ f.id) : (w.wr f v i).rd g k = w.rd g k := by
  unfold Sw.rd Sw.wr
  dsimp only
  exact Tab.get_set_other (fun _ => f.reset 0) (fun _ => g.reset 0) w.regs (f.key i 0) (g.key k 0) (v % 2 ^ f.w)
    (Fld.key_ne_id g f k 0 i 0 h)

@[simp] theorem Sw.rd_emit (w : Sw) (e : Emit) (g : Fld) (k : Nat) : (w.emit e).rd g k = w.rd g k := rfl

end Sys2Proof.Machine
end

