-- ==== Sys2Proof/Laws/Events.lean ====
section
/-!
SUPPORT. Laws/Events.lean: what interrupts, error records, block flashes, the protection latch and access violations change.
-/
namespace Sys2Proof.Machine
set_option Elab.async false
open Reg

/-! ### Which parts of the VC -/

/-- Only registers, the ledger, and what is sent differ. -/
def Vc.EvOnly (s t : Vc) : Prop := ∃ regs ledger out, t = { s with regs := regs, ledger := ledger, out := out }

/-- Only registers, the ledger, protection, the host interface, Aperture, and what is sent differ. -/
def Vc.PrOnly (s t : Vc) : Prop := ∃ regs ledger prot host ap out,
  t = { s with regs := regs, ledger := ledger, prot := prot, host := host, ap := ap, out := out }

theorem Vc.EvOnly.refl (s : Vc) : s.EvOnly s := ⟨_, _, _, rfl⟩
theorem Vc.EvOnly.wr {s t : Vc} (f : Fld) (v i j : Nat) (h : s.EvOnly t) : s.EvOnly (t.wr f v i j) := by
  obtain ⟨_, _, _, rfl⟩ := h
  exact ⟨_, _, _, rfl⟩
theorem Vc.EvOnly.set1 {s t : Vc} (f : Fld) (i j : Nat) (h : s.EvOnly t) : s.EvOnly (t.set1 f i j) := h.wr _ _ _ _
theorem Vc.EvOnly.count {s t : Vc} (f : Fld) (i j n : Nat) (h : s.EvOnly t) : s.EvOnly (t.count f i j n) := h.wr _ _ _ _
theorem Vc.EvOnly.setBit {s t : Vc} (f : Fld) (b i : Nat) (h : s.EvOnly t) : s.EvOnly (t.setBit f b i) := h.wr _ _ _ _
theorem Vc.EvOnly.emit {s t : Vc} (e : Emit) (h : s.EvOnly t) : s.EvOnly (t.emit e) := by
  obtain ⟨_, _, _, rfl⟩ := h
  exact ⟨_, _, _, rfl⟩
theorem Vc.EvOnly.setLedger {s t : Vc} (l : LedgerSt) (h : s.EvOnly t) : s.EvOnly { t with ledger := l } := by
  obtain ⟨_, _, _, rfl⟩ := h
  exact ⟨_, _, _, rfl⟩
theorem Vc.EvOnly.ite {s t u : Vc} (c : Prop) [Decidable c] (h : s.EvOnly t) (h' : s.EvOnly u) : s.EvOnly (if c then t else u) := by
  split <;> assumption
theorem Vc.EvOnly.foldl {α : Type} {s : Vc} (f : Vc → α → Vc) (hf : ∀ t a, s.EvOnly t → s.EvOnly (f t a)) (l : List α) (t : Vc)
    (h : s.EvOnly t) : s.EvOnly (l.foldl f t) := by
  induction l generalizing t with
  | nil => exact h
  | cons a l ih => exact ih _ (hf _ _ h)

theorem Vc.EvOnly.irq {s t : Vc} (src : Nat) (h : s.EvOnly t) : s.EvOnly (t.irq src) := by
  unfold Vc.irq Vc.msix
  dsimp only
  have h1 := h.setBit HOSTQ.IRQSTAT.PEND src 0
  exact .ite _ h (.ite _ (.ite _ h1 (.ite _ (h1.setBit _ _ _) (.emit _ h1))) h1)

theorem Vc.EvOnly.summary {s t : Vc} (l c : Nat) (h : s.EvOnly t) : s.EvOnly (t.summary l c) := h.wr _ _ _ _
theorem Vc.EvOnly.corrected {s t : Vc} (l : Nat) (h : s.EvOnly t) : s.EvOnly (t.corrected l) := h.wr _ _ _ _

theorem Vc.EvOnly.errRec {s t : Vc} (r : Rec) (h : s.EvOnly t) : s.EvOnly (t.errRec r) := by
  unfold Vc.errRec
  have h1 : s.EvOnly (if (decide (r.ladder = 1) && decide (0 < r.cls)) = true then t.summary r.level r.cls else t) :=
    .ite _ (h.summary _ _) h
  generalize (if (decide (r.ladder = 1) && decide (0 < r.cls)) = true then t.summary r.level r.cls else t) = u at *
  dsimp only
  exact .ite _ h1 (.wr _ _ _ _ (.wr _ _ _ _ (.wr _ _ _ _ (.wr _ _ _ _ (.wr _ _ _ _ (.wr _ _ _ _ (.wr _ _ _ _ h1)))))))

theorem Vc.EvOnly.queueRec {s t : Vc} (q : QRec) (h : s.EvOnly t) : s.EvOnly (t.queueRec q) := by
  unfold Vc.queueRec
  dsimp only
  exact .ite _ (.ite _ (.irq _ (.set1 _ _ _ (h.setLedger _))) (h.setLedger _)) (.setLedger _ (.irq _ (.set1 _ _ _ (h.count _ _ _ _))))

theorem Vc.EvOnly.closeRecs {s t : Vc} (h : s.EvOnly t) : s.EvOnly t.closeRecs := by
  unfold Vc.closeRecs
  dsimp only
  exact .ite _ (h.setLedger _) h

theorem Vc.EvOnly.event {s t : Vc} (rs : List Rec) (h : s.EvOnly t) : s.EvOnly (t.event rs) := by
  have hq : ∀ (rs : List Rec) (p : Vc × Bool), s.EvOnly p.1 →
      s.EvOnly (rs.foldl (fun (p : Vc × Bool) r => (p.1.queueRec ⟨r, p.1.vt, p.2, none⟩, false)) p).1 := by
    intro rs
    induction rs with
    | nil => exact fun p h => h
    | cons r rs ih => exact fun p h => ih _ (h.queueRec _)
  unfold Vc.event
  split
  · exact h
  · have h1 : s.EvOnly (rs.foldl Vc.errRec t) := .foldl _ (fun _ _ h => h.errRec _) _ _ h
    generalize rs.foldl Vc.errRec t = u at *
    dsimp only
    refine .ite _ (.ite _ (.closeRecs (h1.setLedger _)) (h1.setLedger _)) (hq _ _ ?_)
    exact .setLedger _ h1.closeRecs

theorem Vc.EvOnly.pr {s t : Vc} (h : s.EvOnly t) : s.PrOnly t := by
  obtain ⟨_, _, _, rfl⟩ := h
  exact ⟨_, _, _, _, _, _, rfl⟩

theorem Vc.PrOnly.refl (s : Vc) : s.PrOnly s := ⟨_, _, _, _, _, _, rfl⟩
theorem Vc.PrOnly.trans {s t u : Vc} (h : s.PrOnly t) (h' : t.PrOnly u) : s.PrOnly u := by
  obtain ⟨_, _, _, _, _, _, rfl⟩ := h
  obtain ⟨_, _, _, _, _, _, rfl⟩ := h'
  exact ⟨_, _, _, _, _, _, rfl⟩
theorem Vc.PrOnly.ev {s t u : Vc} (h : s.PrOnly t) (h' : t.EvOnly u) : s.PrOnly u := h.trans h'.pr
theorem Vc.PrOnly.setProt {s t : Vc} (l : ProtSt) (h : s.PrOnly t) : s.PrOnly { t with prot := l } := by
  obtain ⟨_, _, _, _, _, _, rfl⟩ := h
  exact ⟨_, _, _, _, _, _, rfl⟩
theorem Vc.PrOnly.setProtAp {s t : Vc} (l : ProtSt) (a : ApSt) (h : s.PrOnly t) : s.PrOnly { t with prot := l, ap := a } := by
  obtain ⟨_, _, _, _, _, _, rfl⟩ := h
  exact ⟨_, _, _, _, _, _, rfl⟩
theorem Vc.PrOnly.setHost {s t : Vc} (l : HostSt) (h : s.PrOnly t) : s.PrOnly { t with host := l } := by
  obtain ⟨_, _, _, _, _, _, rfl⟩ := h
  exact ⟨_, _, _, _, _, _, rfl⟩
theorem Vc.PrOnly.ite {s t u : Vc} (c : Prop) [Decidable c] (h : s.PrOnly t) (h' : s.PrOnly u) : s.PrOnly (if c then t else u) := by
  split <;> assumption

theorem Vc.EvOnly.cascBlocks {s t : Vc} (ps : List Nat) (k : Nat) (h : s.EvOnly t) : s.EvOnly (t.cascBlocks ps k) := by
  unfold Vc.cascBlocks
  exact .foldl _ (fun t a h => .ite _ (h.emit _) h) _ _ h

theorem Vc.PrOnly.foldl {α : Type} {s : Vc} (f : Vc → α → Vc) (hf : ∀ t a, s.PrOnly t → s.PrOnly (f t a)) (l : List α) {t : Vc}
    (h : s.PrOnly t) : s.PrOnly (l.foldl f t) := by
  induction l generalizing t with
  | nil => exact h
  | cons a l ih => exact ih (hf _ _ h)
theorem Vc.PrOnly.wr {s t : Vc} (f : Fld) (v i j : Nat) (h : s.PrOnly t) : s.PrOnly (t.wr f v i j) := h.ev (.wr _ _ _ _ (.refl _))
theorem Vc.PrOnly.set1 {s t : Vc} (f : Fld) (i j : Nat) (h : s.PrOnly t) : s.PrOnly (t.set1 f i j) := h.wr _ _ _ _
theorem Vc.PrOnly.emit {s t : Vc} (e : Emit) (h : s.PrOnly t) : s.PrOnly (t.emit e) := h.ev (.emit _ (.refl _))
theorem Vc.PrOnly.cascBlocks {s t : Vc} (ps : List Nat) (k : Nat) (h : s.PrOnly t) : s.PrOnly (t.cascBlocks ps k) :=
  h.ev (.cascBlocks _ _ (.refl _))
theorem Vc.PrOnly.event {s t : Vc} (rs : List Rec) (h : s.PrOnly t) : s.PrOnly (t.event rs) := h.ev (.event _ (.refl _))
theorem Vc.PrOnly.irq {s t : Vc} (src : Nat) (h : s.PrOnly t) : s.PrOnly (t.irq src) := h.ev (.irq _ (.refl _))

theorem Vc.PrOnly.markSeen {s t : Vc} (id : Nat × Nat) (h : s.PrOnly t) : s.PrOnly (t.markSeen id) := by
  unfold Vc.markSeen
  exact .ite _ h (.setProt _ h)
theorem Vc.PrOnly.nextFlash {s t : Vc} (h : s.PrOnly t) : s.PrOnly t.nextFlash := .setProt _ h

theorem Vc.PrOnly.flashEvent {s t : Vc} (c : Nat) (fr : Option (Nat × Nat)) (ps : List Nat) (h : s.PrOnly t) :
    s.PrOnly (t.flashEvent c fr ps) := by
  unfold Vc.flashEvent
  have h1 : s.PrOnly (if fr.isSome then t else t.nextFlash) := .ite _ h h.nextFlash
  dsimp only [forN]
  generalize (if fr.isSome then t else t.nextFlash) = u at *
  refine .ite _ (h.cascBlocks _ _) (.cascBlocks _ _ (.setProtAp _ _ (.wr _ _ _ _ (.emit _ (.foldl _ ?_ _ (h1.markSeen _))))))
  exact fun t a h => .ite _ (.emit _ (h.wr _ _ _ _)) (h.wr _ _ _ _)

theorem Vc.PrOnly.latchCause {s t : Vc} (c : Nat) (pre : List Rec) (l ch v x : Nat) (fr : Option (Nat × Nat)) (ps : List Nat)
    (h : s.PrOnly t) : s.PrOnly (t.latchCause c pre l ch v x fr ps) := by
  unfold Vc.latchCause
  have h1 : s.PrOnly (t.setBit PROT.LATCH.CAUSE (c - 1)) := h.wr _ _ _ _
  dsimp only
  generalize t.setBit PROT.LATCH.CAUSE (c - 1) = u at *
  exact .event _ (.ite _ h1 (.flashEvent _ _ _ (.irq _ (.set1 _ _ _
    (.wr _ _ _ _ (.wr _ _ _ _ (.wr _ _ _ _ (.wr _ _ _ _ (.wr _ _ _ _ h1)))))))))

theorem Vc.PrOnly.hostBlock {s t : Vc} (h : s.PrOnly t) : s.PrOnly t.hostBlock := by
  unfold Vc.hostBlock
  have h1 : s.PrOnly ((t.set1 PROT.STATUS.HOST_BLK).set1 GLOBAL.STATUS.BLOCKED) := .set1 _ _ _ (.set1 _ _ _ h)
  exact .ite _ (.flashEvent _ _ _ (.setProt _ h1)) (.setProt _ h1)

theorem Vc.PrOnly.violation {s t : Vc} (c a : Nat) (w : Bool) (q b : Nat) (i : Bool) (h : s.PrOnly t) :
    s.PrOnly (t.violation c a w q b i) := by
  unfold Vc.violation
  have h1 : s.PrOnly (({ t with host := { t.host with access := { t.host.access with bad := true } } } : Vc).count ERR.VIOL_CNT.COUNT) :=
    (h.setHost { t.host with access := { t.host.access with bad := true } }).wr _ _ _ _
  dsimp only at h1 ⊢
  generalize Vc.count _ ERR.VIOL_CNT.COUNT = u at *
  exact .ite _ (h1.wr _ _ _ _) (.event _ (.irq 0 (.set1 _ _ _
    (.wr _ _ _ _ (.wr _ _ _ _ (.wr _ _ _ _ (.wr _ _ _ _ (.wr _ _ _ _ (.wr _ _ _ _ (.wr _ _ _ _ h1))))))))))

theorem Vc.PrOnly.aer {s t : Vc} (c : Nat) (x : TlpHdr) (h : s.PrOnly t) : s.PrOnly (t.aer c x) := .emit _ (.setHost _ h)

theorem Vc.PrOnly.badWrite {s t : Vc} (c a : Nat) (h : s.PrOnly t) : s.PrOnly (t.badWrite c a) := by
  unfold Vc.badWrite
  have h1 := h.violation c a true t.host.access.req t.host.access.byteEn t.host.access.internal
  exact .ite _ h1 (.aer _ _ h1)

/-! ### Field by field -/

@[simp] theorem Vc.irq_frac (s : Vc) (src : Nat) : (s.irq src).frac = s.frac := by obtain ⟨_, _, _, h⟩ := Vc.EvOnly.irq src (.refl s); rw [h]
@[simp] theorem Vc.irq_now (s : Vc) (src : Nat) : (s.irq src).now = s.now := by obtain ⟨_, _, _, h⟩ := Vc.EvOnly.irq src (.refl s); rw [h]
@[simp] theorem Vc.irq_ticks (s : Vc) (src : Nat) : (s.irq src).ticks = s.ticks := by obtain ⟨_, _, _, h⟩ := Vc.EvOnly.irq src (.refl s); rw [h]
@[simp] theorem Vc.irq_free (s : Vc) (src : Nat) : (s.irq src).free = s.free := by obtain ⟨_, _, _, h⟩ := Vc.EvOnly.irq src (.refl s); rw [h]
@[simp] theorem Vc.irq_facets (s : Vc) (src : Nat) : (s.irq src).facets = s.facets := by obtain ⟨_, _, _, h⟩ := Vc.EvOnly.irq src (.refl s); rw [h]
@[simp] theorem Vc.irq_remotes (s : Vc) (src : Nat) : (s.irq src).remotes = s.remotes := by obtain ⟨_, _, _, h⟩ := Vc.EvOnly.irq src (.refl s); rw [h]
@[simp] theorem Vc.irq_arms (s : Vc) (src : Nat) : (s.irq src).arms = s.arms := by obtain ⟨_, _, _, h⟩ := Vc.EvOnly.irq src (.refl s); rw [h]
@[simp] theorem Vc.irq_strs (s : Vc) (src : Nat) : (s.irq src).strs = s.strs := by obtain ⟨_, _, _, h⟩ := Vc.EvOnly.irq src (.refl s); rw [h]
@[simp] theorem Vc.irq_lanes (s : Vc) (src : Nat) : (s.irq src).lanes = s.lanes := by obtain ⟨_, _, _, h⟩ := Vc.EvOnly.irq src (.refl s); rw [h]
@[simp] theorem Vc.irq_prot (s : Vc) (src : Nat) : (s.irq src).prot = s.prot := by obtain ⟨_, _, _, h⟩ := Vc.EvOnly.irq src (.refl s); rw [h]
@[simp] theorem Vc.irq_host (s : Vc) (src : Nat) : (s.irq src).host = s.host := by obtain ⟨_, _, _, h⟩ := Vc.EvOnly.irq src (.refl s); rw [h]
@[simp] theorem Vc.irq_ap (s : Vc) (src : Nat) : (s.irq src).ap = s.ap := by obtain ⟨_, _, _, h⟩ := Vc.EvOnly.irq src (.refl s); rw [h]
@[simp] theorem Vc.irq_lens (s : Vc) (src : Nat) : (s.irq src).lens = s.lens := by obtain ⟨_, _, _, h⟩ := Vc.EvOnly.irq src (.refl s); rw [h]
@[simp] theorem Vc.irq_sched (s : Vc) (src : Nat) : (s.irq src).sched = s.sched := by obtain ⟨_, _, _, h⟩ := Vc.EvOnly.irq src (.refl s); rw [h]
@[simp] theorem Vc.irq_time (s : Vc) (src : Nat) : (s.irq src).time = s.time := by obtain ⟨_, _, _, h⟩ := Vc.EvOnly.irq src (.refl s); rw [h]
@[simp] theorem Vc.irq_casc (s : Vc) (src : Nat) : (s.irq src).casc = s.casc := by obtain ⟨_, _, _, h⟩ := Vc.EvOnly.irq src (.refl s); rw [h]
@[simp] theorem Vc.irq_voter (s : Vc) (src : Nat) : (s.irq src).voter = s.voter := by obtain ⟨_, _, _, h⟩ := Vc.EvOnly.irq src (.refl s); rw [h]
@[simp] theorem Vc.irq_boot (s : Vc) (src : Nat) : (s.irq src).boot = s.boot := by obtain ⟨_, _, _, h⟩ := Vc.EvOnly.irq src (.refl s); rw [h]
@[simp] theorem Vc.irq_comps (s : Vc) (src : Nat) : (s.irq src).comps = s.comps := by obtain ⟨_, _, _, h⟩ := Vc.EvOnly.irq src (.refl s); rw [h]
@[simp] theorem Vc.event_frac (s : Vc) (rs : List Rec) : (s.event rs).frac = s.frac := by obtain ⟨_, _, _, h⟩ := Vc.EvOnly.event rs (.refl s); rw [h]
@[simp] theorem Vc.event_now (s : Vc) (rs : List Rec) : (s.event rs).now = s.now := by obtain ⟨_, _, _, h⟩ := Vc.EvOnly.event rs (.refl s); rw [h]
@[simp] theorem Vc.event_ticks (s : Vc) (rs : List Rec) : (s.event rs).ticks = s.ticks := by obtain ⟨_, _, _, h⟩ := Vc.EvOnly.event rs (.refl s); rw [h]
@[simp] theorem Vc.event_free (s : Vc) (rs : List Rec) : (s.event rs).free = s.free := by obtain ⟨_, _, _, h⟩ := Vc.EvOnly.event rs (.refl s); rw [h]
@[simp] theorem Vc.event_facets (s : Vc) (rs : List Rec) : (s.event rs).facets = s.facets := by obtain ⟨_, _, _, h⟩ := Vc.EvOnly.event rs (.refl s); rw [h]
@[simp] theorem Vc.event_remotes (s : Vc) (rs : List Rec) : (s.event rs).remotes = s.remotes := by obtain ⟨_, _, _, h⟩ := Vc.EvOnly.event rs (.refl s); rw [h]
@[simp] theorem Vc.event_arms (s : Vc) (rs : List Rec) : (s.event rs).arms = s.arms := by obtain ⟨_, _, _, h⟩ := Vc.EvOnly.event rs (.refl s); rw [h]
@[simp] theorem Vc.event_strs (s : Vc) (rs : List Rec) : (s.event rs).strs = s.strs := by obtain ⟨_, _, _, h⟩ := Vc.EvOnly.event rs (.refl s); rw [h]
@[simp] theorem Vc.event_lanes (s : Vc) (rs : List Rec) : (s.event rs).lanes = s.lanes := by obtain ⟨_, _, _, h⟩ := Vc.EvOnly.event rs (.refl s); rw [h]
@[simp] theorem Vc.event_prot (s : Vc) (rs : List Rec) : (s.event rs).prot = s.prot := by obtain ⟨_, _, _, h⟩ := Vc.EvOnly.event rs (.refl s); rw [h]
@[simp] theorem Vc.event_host (s : Vc) (rs : List Rec) : (s.event rs).host = s.host := by obtain ⟨_, _, _, h⟩ := Vc.EvOnly.event rs (.refl s); rw [h]
@[simp] theorem Vc.event_ap (s : Vc) (rs : List Rec) : (s.event rs).ap = s.ap := by obtain ⟨_, _, _, h⟩ := Vc.EvOnly.event rs (.refl s); rw [h]
@[simp] theorem Vc.event_lens (s : Vc) (rs : List Rec) : (s.event rs).lens = s.lens := by obtain ⟨_, _, _, h⟩ := Vc.EvOnly.event rs (.refl s); rw [h]
@[simp] theorem Vc.event_sched (s : Vc) (rs : List Rec) : (s.event rs).sched = s.sched := by obtain ⟨_, _, _, h⟩ := Vc.EvOnly.event rs (.refl s); rw [h]
@[simp] theorem Vc.event_time (s : Vc) (rs : List Rec) : (s.event rs).time = s.time := by obtain ⟨_, _, _, h⟩ := Vc.EvOnly.event rs (.refl s); rw [h]
@[simp] theorem Vc.event_casc (s : Vc) (rs : List Rec) : (s.event rs).casc = s.casc := by obtain ⟨_, _, _, h⟩ := Vc.EvOnly.event rs (.refl s); rw [h]
@[simp] theorem Vc.event_voter (s : Vc) (rs : List Rec) : (s.event rs).voter = s.voter := by obtain ⟨_, _, _, h⟩ := Vc.EvOnly.event rs (.refl s); rw [h]
@[simp] theorem Vc.event_boot (s : Vc) (rs : List Rec) : (s.event rs).boot = s.boot := by obtain ⟨_, _, _, h⟩ := Vc.EvOnly.event rs (.refl s); rw [h]
@[simp] theorem Vc.event_comps (s : Vc) (rs : List Rec) : (s.event rs).comps = s.comps := by obtain ⟨_, _, _, h⟩ := Vc.EvOnly.event rs (.refl s); rw [h]
@[simp] theorem Vc.corrected_frac (s : Vc) (l : Nat) : (s.corrected l).frac = s.frac := by obtain ⟨_, _, _, h⟩ := Vc.EvOnly.corrected l (.refl s); rw [h]
@[simp] theorem Vc.corrected_now (s : Vc) (l : Nat) : (s.corrected l).now = s.now := by obtain ⟨_, _, _, h⟩ := Vc.EvOnly.corrected l (.refl s); rw [h]
@[simp] theorem Vc.corrected_ticks (s : Vc) (l : Nat) : (s.corrected l).ticks = s.ticks := by obtain ⟨_, _, _, h⟩ := Vc.EvOnly.corrected l (.refl s); rw [h]
@[simp] theorem Vc.corrected_free (s : Vc) (l : Nat) : (s.corrected l).free = s.free := by obtain ⟨_, _, _, h⟩ := Vc.EvOnly.corrected l (.refl s); rw [h]
@[simp] theorem Vc.corrected_facets (s : Vc) (l : Nat) : (s.corrected l).facets = s.facets := by obtain ⟨_, _, _, h⟩ := Vc.EvOnly.corrected l (.refl s); rw [h]
@[simp] theorem Vc.corrected_remotes (s : Vc) (l : Nat) : (s.corrected l).remotes = s.remotes := by obtain ⟨_, _, _, h⟩ := Vc.EvOnly.corrected l (.refl s); rw [h]
@[simp] theorem Vc.corrected_arms (s : Vc) (l : Nat) : (s.corrected l).arms = s.arms := by obtain ⟨_, _, _, h⟩ := Vc.EvOnly.corrected l (.refl s); rw [h]
@[simp] theorem Vc.corrected_strs (s : Vc) (l : Nat) : (s.corrected l).strs = s.strs := by obtain ⟨_, _, _, h⟩ := Vc.EvOnly.corrected l (.refl s); rw [h]
@[simp] theorem Vc.corrected_lanes (s : Vc) (l : Nat) : (s.corrected l).lanes = s.lanes := by obtain ⟨_, _, _, h⟩ := Vc.EvOnly.corrected l (.refl s); rw [h]
@[simp] theorem Vc.corrected_prot (s : Vc) (l : Nat) : (s.corrected l).prot = s.prot := by obtain ⟨_, _, _, h⟩ := Vc.EvOnly.corrected l (.refl s); rw [h]
@[simp] theorem Vc.corrected_host (s : Vc) (l : Nat) : (s.corrected l).host = s.host := by obtain ⟨_, _, _, h⟩ := Vc.EvOnly.corrected l (.refl s); rw [h]
@[simp] theorem Vc.corrected_ap (s : Vc) (l : Nat) : (s.corrected l).ap = s.ap := by obtain ⟨_, _, _, h⟩ := Vc.EvOnly.corrected l (.refl s); rw [h]
@[simp] theorem Vc.corrected_lens (s : Vc) (l : Nat) : (s.corrected l).lens = s.lens := by obtain ⟨_, _, _, h⟩ := Vc.EvOnly.corrected l (.refl s); rw [h]
@[simp] theorem Vc.corrected_sched (s : Vc) (l : Nat) : (s.corrected l).sched = s.sched := by obtain ⟨_, _, _, h⟩ := Vc.EvOnly.corrected l (.refl s); rw [h]
@[simp] theorem Vc.corrected_time (s : Vc) (l : Nat) : (s.corrected l).time = s.time := by obtain ⟨_, _, _, h⟩ := Vc.EvOnly.corrected l (.refl s); rw [h]
@[simp] theorem Vc.corrected_casc (s : Vc) (l : Nat) : (s.corrected l).casc = s.casc := by obtain ⟨_, _, _, h⟩ := Vc.EvOnly.corrected l (.refl s); rw [h]
@[simp] theorem Vc.corrected_voter (s : Vc) (l : Nat) : (s.corrected l).voter = s.voter := by obtain ⟨_, _, _, h⟩ := Vc.EvOnly.corrected l (.refl s); rw [h]
@[simp] theorem Vc.corrected_boot (s : Vc) (l : Nat) : (s.corrected l).boot = s.boot := by obtain ⟨_, _, _, h⟩ := Vc.EvOnly.corrected l (.refl s); rw [h]
@[simp] theorem Vc.corrected_comps (s : Vc) (l : Nat) : (s.corrected l).comps = s.comps := by obtain ⟨_, _, _, h⟩ := Vc.EvOnly.corrected l (.refl s); rw [h]
@[simp] theorem Vc.flashEvent_frac (s : Vc) (c : Nat) (fr : Option (Nat × Nat)) (ps : List Nat) : (s.flashEvent c fr ps).frac = s.frac := by obtain ⟨_, _, _, _, _, _, h⟩ := Vc.PrOnly.flashEvent c fr ps (.refl s); rw [h]
@[simp] theorem Vc.flashEvent_now (s : Vc) (c : Nat) (fr : Option (Nat × Nat)) (ps : List Nat) : (s.flashEvent c fr ps).now = s.now := by obtain ⟨_, _, _, _, _, _, h⟩ := Vc.PrOnly.flashEvent c fr ps (.refl s); rw [h]
@[simp] theorem Vc.flashEvent_ticks (s : Vc) (c : Nat) (fr : Option (Nat × Nat)) (ps : List Nat) : (s.flashEvent c fr ps).ticks = s.ticks := by obtain ⟨_, _, _, _, _, _, h⟩ := Vc.PrOnly.flashEvent c fr ps (.refl s); rw [h]
@[simp] theorem Vc.flashEvent_free (s : Vc) (c : Nat) (fr : Option (Nat × Nat)) (ps : List Nat) : (s.flashEvent c fr ps).free = s.free := by obtain ⟨_, _, _, _, _, _, h⟩ := Vc.PrOnly.flashEvent c fr ps (.refl s); rw [h]
@[simp] theorem Vc.flashEvent_facets (s : Vc) (c : Nat) (fr : Option (Nat × Nat)) (ps : List Nat) : (s.flashEvent c fr ps).facets = s.facets := by obtain ⟨_, _, _, _, _, _, h⟩ := Vc.PrOnly.flashEvent c fr ps (.refl s); rw [h]
@[simp] theorem Vc.flashEvent_remotes (s : Vc) (c : Nat) (fr : Option (Nat × Nat)) (ps : List Nat) : (s.flashEvent c fr ps).remotes = s.remotes := by obtain ⟨_, _, _, _, _, _, h⟩ := Vc.PrOnly.flashEvent c fr ps (.refl s); rw [h]
@[simp] theorem Vc.flashEvent_arms (s : Vc) (c : Nat) (fr : Option (Nat × Nat)) (ps : List Nat) : (s.flashEvent c fr ps).arms = s.arms := by obtain ⟨_, _, _, _, _, _, h⟩ := Vc.PrOnly.flashEvent c fr ps (.refl s); rw [h]
@[simp] theorem Vc.flashEvent_strs (s : Vc) (c : Nat) (fr : Option (Nat × Nat)) (ps : List Nat) : (s.flashEvent c fr ps).strs = s.strs := by obtain ⟨_, _, _, _, _, _, h⟩ := Vc.PrOnly.flashEvent c fr ps (.refl s); rw [h]
@[simp] theorem Vc.flashEvent_lanes (s : Vc) (c : Nat) (fr : Option (Nat × Nat)) (ps : List Nat) : (s.flashEvent c fr ps).lanes = s.lanes := by obtain ⟨_, _, _, _, _, _, h⟩ := Vc.PrOnly.flashEvent c fr ps (.refl s); rw [h]
@[simp] theorem Vc.flashEvent_lens (s : Vc) (c : Nat) (fr : Option (Nat × Nat)) (ps : List Nat) : (s.flashEvent c fr ps).lens = s.lens := by obtain ⟨_, _, _, _, _, _, h⟩ := Vc.PrOnly.flashEvent c fr ps (.refl s); rw [h]
@[simp] theorem Vc.flashEvent_sched (s : Vc) (c : Nat) (fr : Option (Nat × Nat)) (ps : List Nat) : (s.flashEvent c fr ps).sched = s.sched := by obtain ⟨_, _, _, _, _, _, h⟩ := Vc.PrOnly.flashEvent c fr ps (.refl s); rw [h]
@[simp] theorem Vc.flashEvent_time (s : Vc) (c : Nat) (fr : Option (Nat × Nat)) (ps : List Nat) : (s.flashEvent c fr ps).time = s.time := by obtain ⟨_, _, _, _, _, _, h⟩ := Vc.PrOnly.flashEvent c fr ps (.refl s); rw [h]
@[simp] theorem Vc.flashEvent_casc (s : Vc) (c : Nat) (fr : Option (Nat × Nat)) (ps : List Nat) : (s.flashEvent c fr ps).casc = s.casc := by obtain ⟨_, _, _, _, _, _, h⟩ := Vc.PrOnly.flashEvent c fr ps (.refl s); rw [h]
@[simp] theorem Vc.flashEvent_voter (s : Vc) (c : Nat) (fr : Option (Nat × Nat)) (ps : List Nat) : (s.flashEvent c fr ps).voter = s.voter := by obtain ⟨_, _, _, _, _, _, h⟩ := Vc.PrOnly.flashEvent c fr ps (.refl s); rw [h]
@[simp] theorem Vc.flashEvent_boot (s : Vc) (c : Nat) (fr : Option (Nat × Nat)) (ps : List Nat) : (s.flashEvent c fr ps).boot = s.boot := by obtain ⟨_, _, _, _, _, _, h⟩ := Vc.PrOnly.flashEvent c fr ps (.refl s); rw [h]
@[simp] theorem Vc.flashEvent_comps (s : Vc) (c : Nat) (fr : Option (Nat × Nat)) (ps : List Nat) : (s.flashEvent c fr ps).comps = s.comps := by obtain ⟨_, _, _, _, _, _, h⟩ := Vc.PrOnly.flashEvent c fr ps (.refl s); rw [h]
@[simp] theorem Vc.latchCause_frac (s : Vc) (c : Nat) (pre : List Rec) (l ch v x : Nat) (fr : Option (Nat × Nat)) (ps : List Nat) : (s.latchCause c pre l ch v x fr ps).frac = s.frac := by obtain ⟨_, _, _, _, _, _, h⟩ := Vc.PrOnly.latchCause c pre l ch v x fr ps (.refl s); rw [h]
@[simp] theorem Vc.latchCause_now (s : Vc) (c : Nat) (pre : List Rec) (l ch v x : Nat) (fr : Option (Nat × Nat)) (ps : List Nat) : (s.latchCause c pre l ch v x fr ps).now = s.now := by obtain ⟨_, _, _, _, _, _, h⟩ := Vc.PrOnly.latchCause c pre l ch v x fr ps (.refl s); rw [h]
@[simp] theorem Vc.latchCause_ticks (s : Vc) (c : Nat) (pre : List Rec) (l ch v x : Nat) (fr : Option (Nat × Nat)) (ps : List Nat) : (s.latchCause c pre l ch v x fr ps).ticks = s.ticks := by obtain ⟨_, _, _, _, _, _, h⟩ := Vc.PrOnly.latchCause c pre l ch v x fr ps (.refl s); rw [h]
@[simp] theorem Vc.latchCause_free (s : Vc) (c : Nat) (pre : List Rec) (l ch v x : Nat) (fr : Option (Nat × Nat)) (ps : List Nat) : (s.latchCause c pre l ch v x fr ps).free = s.free := by obtain ⟨_, _, _, _, _, _, h⟩ := Vc.PrOnly.latchCause c pre l ch v x fr ps (.refl s); rw [h]
@[simp] theorem Vc.latchCause_facets (s : Vc) (c : Nat) (pre : List Rec) (l ch v x : Nat) (fr : Option (Nat × Nat)) (ps : List Nat) : (s.latchCause c pre l ch v x fr ps).facets = s.facets := by obtain ⟨_, _, _, _, _, _, h⟩ := Vc.PrOnly.latchCause c pre l ch v x fr ps (.refl s); rw [h]
@[simp] theorem Vc.latchCause_remotes (s : Vc) (c : Nat) (pre : List Rec) (l ch v x : Nat) (fr : Option (Nat × Nat)) (ps : List Nat) : (s.latchCause c pre l ch v x fr ps).remotes = s.remotes := by obtain ⟨_, _, _, _, _, _, h⟩ := Vc.PrOnly.latchCause c pre l ch v x fr ps (.refl s); rw [h]
@[simp] theorem Vc.latchCause_arms (s : Vc) (c : Nat) (pre : List Rec) (l ch v x : Nat) (fr : Option (Nat × Nat)) (ps : List Nat) : (s.latchCause c pre l ch v x fr ps).arms = s.arms := by obtain ⟨_, _, _, _, _, _, h⟩ := Vc.PrOnly.latchCause c pre l ch v x fr ps (.refl s); rw [h]
@[simp] theorem Vc.latchCause_strs (s : Vc) (c : Nat) (pre : List Rec) (l ch v x : Nat) (fr : Option (Nat × Nat)) (ps : List Nat) : (s.latchCause c pre l ch v x fr ps).strs = s.strs := by obtain ⟨_, _, _, _, _, _, h⟩ := Vc.PrOnly.latchCause c pre l ch v x fr ps (.refl s); rw [h]
@[simp] theorem Vc.latchCause_lanes (s : Vc) (c : Nat) (pre : List Rec) (l ch v x : Nat) (fr : Option (Nat × Nat)) (ps : List Nat) : (s.latchCause c pre l ch v x fr ps).lanes = s.lanes := by obtain ⟨_, _, _, _, _, _, h⟩ := Vc.PrOnly.latchCause c pre l ch v x fr ps (.refl s); rw [h]
@[simp] theorem Vc.latchCause_lens (s : Vc) (c : Nat) (pre : List Rec) (l ch v x : Nat) (fr : Option (Nat × Nat)) (ps : List Nat) : (s.latchCause c pre l ch v x fr ps).lens = s.lens := by obtain ⟨_, _, _, _, _, _, h⟩ := Vc.PrOnly.latchCause c pre l ch v x fr ps (.refl s); rw [h]
@[simp] theorem Vc.latchCause_sched (s : Vc) (c : Nat) (pre : List Rec) (l ch v x : Nat) (fr : Option (Nat × Nat)) (ps : List Nat) : (s.latchCause c pre l ch v x fr ps).sched = s.sched := by obtain ⟨_, _, _, _, _, _, h⟩ := Vc.PrOnly.latchCause c pre l ch v x fr ps (.refl s); rw [h]
@[simp] theorem Vc.latchCause_time (s : Vc) (c : Nat) (pre : List Rec) (l ch v x : Nat) (fr : Option (Nat × Nat)) (ps : List Nat) : (s.latchCause c pre l ch v x fr ps).time = s.time := by obtain ⟨_, _, _, _, _, _, h⟩ := Vc.PrOnly.latchCause c pre l ch v x fr ps (.refl s); rw [h]
@[simp] theorem Vc.latchCause_casc (s : Vc) (c : Nat) (pre : List Rec) (l ch v x : Nat) (fr : Option (Nat × Nat)) (ps : List Nat) : (s.latchCause c pre l ch v x fr ps).casc = s.casc := by obtain ⟨_, _, _, _, _, _, h⟩ := Vc.PrOnly.latchCause c pre l ch v x fr ps (.refl s); rw [h]
@[simp] theorem Vc.latchCause_voter (s : Vc) (c : Nat) (pre : List Rec) (l ch v x : Nat) (fr : Option (Nat × Nat)) (ps : List Nat) : (s.latchCause c pre l ch v x fr ps).voter = s.voter := by obtain ⟨_, _, _, _, _, _, h⟩ := Vc.PrOnly.latchCause c pre l ch v x fr ps (.refl s); rw [h]
@[simp] theorem Vc.latchCause_boot (s : Vc) (c : Nat) (pre : List Rec) (l ch v x : Nat) (fr : Option (Nat × Nat)) (ps : List Nat) : (s.latchCause c pre l ch v x fr ps).boot = s.boot := by obtain ⟨_, _, _, _, _, _, h⟩ := Vc.PrOnly.latchCause c pre l ch v x fr ps (.refl s); rw [h]
@[simp] theorem Vc.latchCause_comps (s : Vc) (c : Nat) (pre : List Rec) (l ch v x : Nat) (fr : Option (Nat × Nat)) (ps : List Nat) : (s.latchCause c pre l ch v x fr ps).comps = s.comps := by obtain ⟨_, _, _, _, _, _, h⟩ := Vc.PrOnly.latchCause c pre l ch v x fr ps (.refl s); rw [h]
@[simp] theorem Vc.hostBlock_frac (s : Vc) : (s.hostBlock).frac = s.frac := by obtain ⟨_, _, _, _, _, _, h⟩ := Vc.PrOnly.hostBlock  (.refl s); rw [h]
@[simp] theorem Vc.hostBlock_now (s : Vc) : (s.hostBlock).now = s.now := by obtain ⟨_, _, _, _, _, _, h⟩ := Vc.PrOnly.hostBlock  (.refl s); rw [h]
@[simp] theorem Vc.hostBlock_ticks (s : Vc) : (s.hostBlock).ticks = s.ticks := by obtain ⟨_, _, _, _, _, _, h⟩ := Vc.PrOnly.hostBlock  (.refl s); rw [h]
@[simp] theorem Vc.hostBlock_free (s : Vc) : (s.hostBlock).free = s.free := by obtain ⟨_, _, _, _, _, _, h⟩ := Vc.PrOnly.hostBlock  (.refl s); rw [h]
@[simp] theorem Vc.hostBlock_facets (s : Vc) : (s.hostBlock).facets = s.facets := by obtain ⟨_, _, _, _, _, _, h⟩ := Vc.PrOnly.hostBlock  (.refl s); rw [h]
@[simp] theorem Vc.hostBlock_remotes (s : Vc) : (s.hostBlock).remotes = s.remotes := by obtain ⟨_, _, _, _, _, _, h⟩ := Vc.PrOnly.hostBlock  (.refl s); rw [h]
@[simp] theorem Vc.hostBlock_arms (s : Vc) : (s.hostBlock).arms = s.arms := by obtain ⟨_, _, _, _, _, _, h⟩ := Vc.PrOnly.hostBlock  (.refl s); rw [h]
@[simp] theorem Vc.hostBlock_strs (s : Vc) : (s.hostBlock).strs = s.strs := by obtain ⟨_, _, _, _, _, _, h⟩ := Vc.PrOnly.hostBlock  (.refl s); rw [h]
@[simp] theorem Vc.hostBlock_lanes (s : Vc) : (s.hostBlock).lanes = s.lanes := by obtain ⟨_, _, _, _, _, _, h⟩ := Vc.PrOnly.hostBlock  (.refl s); rw [h]
@[simp] theorem Vc.hostBlock_lens (s : Vc) : (s.hostBlock).lens = s.lens := by obtain ⟨_, _, _, _, _, _, h⟩ := Vc.PrOnly.hostBlock  (.refl s); rw [h]
@[simp] theorem Vc.hostBlock_sched (s : Vc) : (s.hostBlock).sched = s.sched := by obtain ⟨_, _, _, _, _, _, h⟩ := Vc.PrOnly.hostBlock  (.refl s); rw [h]
@[simp] theorem Vc.hostBlock_time (s : Vc) : (s.hostBlock).time = s.time := by obtain ⟨_, _, _, _, _, _, h⟩ := Vc.PrOnly.hostBlock  (.refl s); rw [h]
@[simp] theorem Vc.hostBlock_casc (s : Vc) : (s.hostBlock).casc = s.casc := by obtain ⟨_, _, _, _, _, _, h⟩ := Vc.PrOnly.hostBlock  (.refl s); rw [h]
@[simp] theorem Vc.hostBlock_voter (s : Vc) : (s.hostBlock).voter = s.voter := by obtain ⟨_, _, _, _, _, _, h⟩ := Vc.PrOnly.hostBlock  (.refl s); rw [h]
@[simp] theorem Vc.hostBlock_boot (s : Vc) : (s.hostBlock).boot = s.boot := by obtain ⟨_, _, _, _, _, _, h⟩ := Vc.PrOnly.hostBlock  (.refl s); rw [h]
@[simp] theorem Vc.hostBlock_comps (s : Vc) : (s.hostBlock).comps = s.comps := by obtain ⟨_, _, _, _, _, _, h⟩ := Vc.PrOnly.hostBlock  (.refl s); rw [h]
@[simp] theorem Vc.violation_frac (s : Vc) (c a : Nat) (w : Bool) (q b : Nat) (i : Bool) : (s.violation c a w q b i).frac = s.frac := by obtain ⟨_, _, _, _, _, _, h⟩ := Vc.PrOnly.violation c a w q b i (.refl s); rw [h]
@[simp] theorem Vc.violation_now (s : Vc) (c a : Nat) (w : Bool) (q b : Nat) (i : Bool) : (s.violation c a w q b i).now = s.now := by obtain ⟨_, _, _, _, _, _, h⟩ := Vc.PrOnly.violation c a w q b i (.refl s); rw [h]
@[simp] theorem Vc.violation_ticks (s : Vc) (c a : Nat) (w : Bool) (q b : Nat) (i : Bool) : (s.violation c a w q b i).ticks = s.ticks := by obtain ⟨_, _, _, _, _, _, h⟩ := Vc.PrOnly.violation c a w q b i (.refl s); rw [h]
@[simp] theorem Vc.violation_free (s : Vc) (c a : Nat) (w : Bool) (q b : Nat) (i : Bool) : (s.violation c a w q b i).free = s.free := by obtain ⟨_, _, _, _, _, _, h⟩ := Vc.PrOnly.violation c a w q b i (.refl s); rw [h]
@[simp] theorem Vc.violation_facets (s : Vc) (c a : Nat) (w : Bool) (q b : Nat) (i : Bool) : (s.violation c a w q b i).facets = s.facets := by obtain ⟨_, _, _, _, _, _, h⟩ := Vc.PrOnly.violation c a w q b i (.refl s); rw [h]
@[simp] theorem Vc.violation_remotes (s : Vc) (c a : Nat) (w : Bool) (q b : Nat) (i : Bool) : (s.violation c a w q b i).remotes = s.remotes := by obtain ⟨_, _, _, _, _, _, h⟩ := Vc.PrOnly.violation c a w q b i (.refl s); rw [h]
@[simp] theorem Vc.violation_arms (s : Vc) (c a : Nat) (w : Bool) (q b : Nat) (i : Bool) : (s.violation c a w q b i).arms = s.arms := by obtain ⟨_, _, _, _, _, _, h⟩ := Vc.PrOnly.violation c a w q b i (.refl s); rw [h]
@[simp] theorem Vc.violation_strs (s : Vc) (c a : Nat) (w : Bool) (q b : Nat) (i : Bool) : (s.violation c a w q b i).strs = s.strs := by obtain ⟨_, _, _, _, _, _, h⟩ := Vc.PrOnly.violation c a w q b i (.refl s); rw [h]
@[simp] theorem Vc.violation_lanes (s : Vc) (c a : Nat) (w : Bool) (q b : Nat) (i : Bool) : (s.violation c a w q b i).lanes = s.lanes := by obtain ⟨_, _, _, _, _, _, h⟩ := Vc.PrOnly.violation c a w q b i (.refl s); rw [h]
@[simp] theorem Vc.violation_lens (s : Vc) (c a : Nat) (w : Bool) (q b : Nat) (i : Bool) : (s.violation c a w q b i).lens = s.lens := by obtain ⟨_, _, _, _, _, _, h⟩ := Vc.PrOnly.violation c a w q b i (.refl s); rw [h]
@[simp] theorem Vc.violation_sched (s : Vc) (c a : Nat) (w : Bool) (q b : Nat) (i : Bool) : (s.violation c a w q b i).sched = s.sched := by obtain ⟨_, _, _, _, _, _, h⟩ := Vc.PrOnly.violation c a w q b i (.refl s); rw [h]
@[simp] theorem Vc.violation_time (s : Vc) (c a : Nat) (w : Bool) (q b : Nat) (i : Bool) : (s.violation c a w q b i).time = s.time := by obtain ⟨_, _, _, _, _, _, h⟩ := Vc.PrOnly.violation c a w q b i (.refl s); rw [h]
@[simp] theorem Vc.violation_casc (s : Vc) (c a : Nat) (w : Bool) (q b : Nat) (i : Bool) : (s.violation c a w q b i).casc = s.casc := by obtain ⟨_, _, _, _, _, _, h⟩ := Vc.PrOnly.violation c a w q b i (.refl s); rw [h]
@[simp] theorem Vc.violation_voter (s : Vc) (c a : Nat) (w : Bool) (q b : Nat) (i : Bool) : (s.violation c a w q b i).voter = s.voter := by obtain ⟨_, _, _, _, _, _, h⟩ := Vc.PrOnly.violation c a w q b i (.refl s); rw [h]
@[simp] theorem Vc.violation_boot (s : Vc) (c a : Nat) (w : Bool) (q b : Nat) (i : Bool) : (s.violation c a w q b i).boot = s.boot := by obtain ⟨_, _, _, _, _, _, h⟩ := Vc.PrOnly.violation c a w q b i (.refl s); rw [h]
@[simp] theorem Vc.violation_comps (s : Vc) (c a : Nat) (w : Bool) (q b : Nat) (i : Bool) : (s.violation c a w q b i).comps = s.comps := by obtain ⟨_, _, _, _, _, _, h⟩ := Vc.PrOnly.violation c a w q b i (.refl s); rw [h]
@[simp] theorem Vc.badWrite_frac (s : Vc) (c a : Nat) : (s.badWrite c a).frac = s.frac := by obtain ⟨_, _, _, _, _, _, h⟩ := Vc.PrOnly.badWrite c a (.refl s); rw [h]
@[simp] theorem Vc.badWrite_now (s : Vc) (c a : Nat) : (s.badWrite c a).now = s.now := by obtain ⟨_, _, _, _, _, _, h⟩ := Vc.PrOnly.badWrite c a (.refl s); rw [h]
@[simp] theorem Vc.badWrite_ticks (s : Vc) (c a : Nat) : (s.badWrite c a).ticks = s.ticks := by obtain ⟨_, _, _, _, _, _, h⟩ := Vc.PrOnly.badWrite c a (.refl s); rw [h]
@[simp] theorem Vc.badWrite_free (s : Vc) (c a : Nat) : (s.badWrite c a).free = s.free := by obtain ⟨_, _, _, _, _, _, h⟩ := Vc.PrOnly.badWrite c a (.refl s); rw [h]
@[simp] theorem Vc.badWrite_facets (s : Vc) (c a : Nat) : (s.badWrite c a).facets = s.facets := by obtain ⟨_, _, _, _, _, _, h⟩ := Vc.PrOnly.badWrite c a (.refl s); rw [h]
@[simp] theorem Vc.badWrite_remotes (s : Vc) (c a : Nat) : (s.badWrite c a).remotes = s.remotes := by obtain ⟨_, _, _, _, _, _, h⟩ := Vc.PrOnly.badWrite c a (.refl s); rw [h]
@[simp] theorem Vc.badWrite_arms (s : Vc) (c a : Nat) : (s.badWrite c a).arms = s.arms := by obtain ⟨_, _, _, _, _, _, h⟩ := Vc.PrOnly.badWrite c a (.refl s); rw [h]
@[simp] theorem Vc.badWrite_strs (s : Vc) (c a : Nat) : (s.badWrite c a).strs = s.strs := by obtain ⟨_, _, _, _, _, _, h⟩ := Vc.PrOnly.badWrite c a (.refl s); rw [h]
@[simp] theorem Vc.badWrite_lanes (s : Vc) (c a : Nat) : (s.badWrite c a).lanes = s.lanes := by obtain ⟨_, _, _, _, _, _, h⟩ := Vc.PrOnly.badWrite c a (.refl s); rw [h]
@[simp] theorem Vc.badWrite_lens (s : Vc) (c a : Nat) : (s.badWrite c a).lens = s.lens := by obtain ⟨_, _, _, _, _, _, h⟩ := Vc.PrOnly.badWrite c a (.refl s); rw [h]
@[simp] theorem Vc.badWrite_sched (s : Vc) (c a : Nat) : (s.badWrite c a).sched = s.sched := by obtain ⟨_, _, _, _, _, _, h⟩ := Vc.PrOnly.badWrite c a (.refl s); rw [h]
@[simp] theorem Vc.badWrite_time (s : Vc) (c a : Nat) : (s.badWrite c a).time = s.time := by obtain ⟨_, _, _, _, _, _, h⟩ := Vc.PrOnly.badWrite c a (.refl s); rw [h]
@[simp] theorem Vc.badWrite_casc (s : Vc) (c a : Nat) : (s.badWrite c a).casc = s.casc := by obtain ⟨_, _, _, _, _, _, h⟩ := Vc.PrOnly.badWrite c a (.refl s); rw [h]
@[simp] theorem Vc.badWrite_voter (s : Vc) (c a : Nat) : (s.badWrite c a).voter = s.voter := by obtain ⟨_, _, _, _, _, _, h⟩ := Vc.PrOnly.badWrite c a (.refl s); rw [h]
@[simp] theorem Vc.badWrite_boot (s : Vc) (c a : Nat) : (s.badWrite c a).boot = s.boot := by obtain ⟨_, _, _, _, _, _, h⟩ := Vc.PrOnly.badWrite c a (.refl s); rw [h]
@[simp] theorem Vc.badWrite_comps (s : Vc) (c a : Nat) : (s.badWrite c a).comps = s.comps := by obtain ⟨_, _, _, _, _, _, h⟩ := Vc.PrOnly.badWrite c a (.refl s); rw [h]

end Sys2Proof.Machine
end

