-- ==== Sys2Proof/Laws/EventRegs.lean ====
section
/-!
SUPPORT. Laws/EventRegs.lean: which register fields interrupts, error records, block flashes, the protection latch and access violations
may write.
-/
namespace Sys2Proof.Machine
set_option Elab.async false
open Reg

/-- Every field with an identity outside a list reads as before. -/
def Vc.RdSame (ids : List Nat) (s t : Vc) : Prop := ∀ (g : Fld) (k l : Nat), g.id ∉ ids → t.rd g k l = s.rd g k l

/-- Fields that an event of the ledger or an interrupt may write. -/
def eventIds : List Nat :=
  [ERR.SUMMARY.UNIT.id, ERR.SUMMARY.CLUSTER.id, ERR.SUMMARY.REGION.id, ERR.SUMMARY.DIE.id, ERR.SUMMARY.PACKAGE.id, ERR.SUMMARY.SYSTEM.id,
   ERR.LAST.LEVEL.id, ERR.LAST.CLASS.id, ERR.LAST.DIE.id, ERR.LAST.REGION.id, ERR.LAST.LADDER.id, ERR.LAST.CODE.id, ERR.LAST_VT.VT.id,
   LEDGER.ERRSTAT.IRQ_REC.id, LEDGER.ERRSTAT.LOST.id, LEDGER.LOSTCNT.VALUE.id, HOSTQ.IRQSTAT.PEND.id]

/-- Fields that a block flash may write besides. -/
def flashIds : List Nat := [STRING.STATUS.FGEN.id, PROT.FLASHCNT.COUNT.id]

/-- Fields that the protection latch or a host block may write besides. -/
def latchIds : List Nat :=
  eventIds ++ flashIds ++ [PROT.LATCH.CAUSE.id, PROT.FIRSTCAUSE.CAUSE.id, PROT.FIRSTCAUSE.LANE.id, PROT.FIRSTCAUSE.CH.id,
    PROT.FIRSTCAUSE.VALUE.id, PROT.FIRST_VT.VT.id, GLOBAL.STATUS.BLOCKED.id, PROT.STATUS.HOST_BLK.id]

/-- Fields that an access violation may write. -/
def violIds : List Nat :=
  eventIds ++ [ERR.VIOL_CNT.COUNT.id, ERR.VIOL_ADDR.ADDR.id, ERR.VIOL_INFO.REQ_ID.id, ERR.VIOL_INFO.INTERNAL.id, ERR.VIOL_INFO.BYTE_EN.id,
    ERR.VIOL_INFO.WRITE.id, ERR.VIOL_INFO.CAUSE.id, ERR.VIOL_INFO.OVERFLOW.id, ERR.VIOL_INFO.VALID.id]

variable {ids : List Nat} {s t u : Vc}

theorem Vc.RdSame.refl (ids : List Nat) (s : Vc) : Vc.RdSame ids s s := fun _ _ _ _ => rfl
theorem Vc.RdSame.mono {ids' : List Nat} (hi : ∀ x ∈ ids, x ∈ ids') (h : Vc.RdSame ids s t) : Vc.RdSame ids' s t :=
  fun g k l hg => h g k l fun hx => hg (hi _ hx)
theorem Vc.RdSame.trans (h : Vc.RdSame ids s t) (h' : Vc.RdSame ids t u) : Vc.RdSame ids s u :=
  fun g k l hg => (h' g k l hg).trans (h g k l hg)
theorem Vc.RdSame.wr (f : Fld) (v i j : Nat) (hf : f.id ∈ ids) (h : Vc.RdSame ids s t) : Vc.RdSame ids s (t.wr f v i j) :=
  fun g k l hg => (Vc.rd_wr_ne t f g v i j k l fun e => hg (e ▸ hf)).trans (h g k l hg)
theorem Vc.RdSame.regs (hr : u.regs = t.regs) (h : Vc.RdSame ids s t) : Vc.RdSame ids s u :=
  fun g k l hg => (Vc.rd_congr u t hr g k l).trans (h g k l hg)
theorem Vc.RdSame.emit (e : Emit) (h : Vc.RdSame ids s t) : Vc.RdSame ids s (t.emit e) := h.regs rfl
theorem Vc.RdSame.ite (c : Prop) [Decidable c] (h : Vc.RdSame ids s t) (h' : Vc.RdSame ids s u) : Vc.RdSame ids s (if c then t else u) := by
  split <;> assumption
theorem Vc.RdSame.foldl {α : Type} (f : Vc → α → Vc) (hf : ∀ t a, Vc.RdSame ids s t → Vc.RdSame ids s (f t a)) (l : List α)
    (h : Vc.RdSame ids s t) : Vc.RdSame ids s (l.foldl f t) := by
  induction l generalizing t with
  | nil => exact h
  | cons a l ih => exact ih (hf _ _ h)

theorem Vc.RdSame.irq (src : Nat) (hf : HOSTQ.IRQSTAT.PEND.id ∈ ids) (h : Vc.RdSame ids s t) : Vc.RdSame ids s (t.irq src) := by
  unfold Vc.irq Vc.msix Vc.setBit
  dsimp only
  have h1 := h.wr _ (withBit (t.rd HOSTQ.IRQSTAT.PEND 0 0) src) 0 0 hf
  exact .ite _ h (.ite _ (.ite _ h1 (.ite _ (.wr _ _ _ _ hf h1) (.emit _ h1))) h1)

theorem Vc.summaryFld_id (l : Nat) : (summaryFld l).id ∈ eventIds := by
  unfold summaryFld
  split <;> decide

theorem Vc.RdSame.errRec (r : Rec) (h : Vc.RdSame eventIds s t) : Vc.RdSame eventIds s (t.errRec r) := by
  unfold Vc.errRec
  have h1 : Vc.RdSame eventIds s (if (decide (r.ladder = 1) && decide (0 < r.cls)) = true then t.summary r.level r.cls else t) :=
    .ite _ (h.wr _ _ _ _ (Vc.summaryFld_id _)) h
  generalize (if (decide (r.ladder = 1) && decide (0 < r.cls)) = true then t.summary r.level r.cls else t) = u at *
  dsimp only
  refine .ite _ h1 ?_
  repeat' refine .wr _ _ _ _ (by decide) ?_
  exact h1

theorem Vc.RdSame.queueRec (q : QRec) (h : Vc.RdSame eventIds s t) : Vc.RdSame eventIds s (t.queueRec q) := by
  unfold Vc.queueRec Vc.set1 Vc.count
  dsimp only
  exact .ite _ (.ite _ (.irq _ (by decide) (.wr _ _ _ _ (by decide) (.regs rfl h))) (.regs rfl h))
    (.regs (t := Vc.irq _ _) rfl (.irq _ (by decide) (.wr _ _ _ _ (by decide) (h.wr _ _ _ _ (by decide)))))

theorem Vc.closeRecs_regs (s : Vc) : s.closeRecs.regs = s.regs := by
  unfold Vc.closeRecs
  dsimp only
  split <;> rfl

theorem Vc.RdSame.event (rs : List Rec) (hi : ∀ x ∈ eventIds, x ∈ ids) (h : Vc.RdSame ids s t) : Vc.RdSame ids s (t.event rs) := by
  refine h.trans (.mono hi ?_)
  have hq : ∀ (rs : List Rec) (p : Vc × Bool), Vc.RdSame eventIds t p.1 →
      Vc.RdSame eventIds t (rs.foldl (fun (p : Vc × Bool) r => (p.1.queueRec ⟨r, p.1.vt, p.2, none⟩, false)) p).1 := by
    intro rs
    induction rs with
    | nil => exact fun p h => h
    | cons r rs ih => exact fun p h => ih _ (h.queueRec _)
  unfold Vc.event
  split
  · exact .refl _ _
  · have h1 : Vc.RdSame eventIds t (rs.foldl Vc.errRec t) := .foldl _ (fun _ _ h => h.errRec _) _ (.refl _ _)
    generalize rs.foldl Vc.errRec t = u at *
    dsimp only
    exact .ite _ (.ite _ (.regs ((Vc.closeRecs_regs _).trans rfl) h1) (.regs rfl h1))
      (hq _ _ (.regs (t := u.closeRecs) rfl (.regs (Vc.closeRecs_regs u) h1)))

theorem Vc.RdSame.cascBlocks (ps : List Nat) (k : Nat) (h : Vc.RdSame ids s t) : Vc.RdSame ids s (t.cascBlocks ps k) := by
  unfold Vc.cascBlocks
  exact .foldl _ (fun t a h => .ite _ (h.emit _) h) _ h

theorem Vc.RdSame.count (f : Fld) (i j n : Nat) (hf : f.id ∈ ids) (h : Vc.RdSame ids s t) : Vc.RdSame ids s (t.count f i j n) :=
  h.wr _ _ _ _ hf

theorem Vc.RdSame.flashString (k n : Nat) (hf : STRING.STATUS.FGEN.id ∈ ids) (h : Vc.RdSame ids s t) :
    Vc.RdSame ids s (t.flashString k n) := by
  unfold Vc.flashString
  exact .ite _ (.emit _ (h.wr _ _ _ _ hf)) (h.wr _ _ _ _ hf)

theorem Vc.RdSame.flashEvent (c : Nat) (fr : Option (Nat × Nat)) (ps : List Nat) (hi : ∀ x ∈ flashIds, x ∈ ids) (h : Vc.RdSame ids s t) :
    Vc.RdSame ids s (t.flashEvent c fr ps) := by
  unfold Vc.flashEvent
  have h1 : Vc.RdSame ids s (if fr.isSome then t else t.nextFlash) := .ite _ h (.regs (t := t) rfl h)
  dsimp only [forN]
  generalize (if fr.isSome then t else t.nextFlash) = u at *
  have h2 (i : Nat × Nat) : Vc.RdSame ids s (u.markSeen i) := by
    unfold Vc.markSeen
    exact .ite _ h1 (.regs (t := u) rfl h1)
  have h3 (o : Nat × Nat) : Vc.RdSame ids s ((((List.range 48).foldl (fun s n => s.flashString (flashBlock o.1 o.2 c) n)
      (u.markSeen o)).emit .unsentBlocked).count PROT.FLASHCNT.COUNT) :=
    .count _ _ _ _ (hi _ (by decide)) (.emit _ (.foldl _ (fun _ _ h => h.flashString _ _ (hi _ (by decide))) _ (h2 _)))
  refine .ite _ (h.cascBlocks _ _) (.cascBlocks _ _ (.regs ?_ (h3 (fr.getD (u.rd CASCADE.CFG.VC_ID, u.prot.fseq)))))
  with_reducible rfl

theorem Vc.RdSame.latchCause (c : Nat) (pre : List Rec) (l ch v x : Nat) (fr : Option (Nat × Nat)) (ps : List Nat)
    (hi : ∀ x ∈ latchIds, x ∈ ids) (h : Vc.RdSame ids s t) : Vc.RdSame ids s (t.latchCause c pre l ch v x fr ps) := by
  refine h.trans (.mono hi ?_)
  unfold Vc.latchCause
  have h1 : Vc.RdSame latchIds t (t.setBit PROT.LATCH.CAUSE (c - 1)) := .wr _ _ _ _ (by decide) (.refl _ _)
  dsimp only
  generalize t.setBit PROT.LATCH.CAUSE (c - 1) = u at *
  have h2 : Vc.RdSame latchIds t ((((((u.wr PROT.FIRSTCAUSE.CAUSE c).wr PROT.FIRSTCAUSE.LANE l).wr PROT.FIRSTCAUSE.CH ch).wr
      PROT.FIRSTCAUSE.VALUE v).wr PROT.FIRST_VT.VT u.vt).set1 GLOBAL.STATUS.BLOCKED) := by
    unfold Vc.set1
    repeat' refine .wr _ _ _ _ (by decide) ?_
    exact h1
  exact .event _ (by decide) (.ite _ h1 (.flashEvent _ _ _ (by decide) (.irq _ (by decide) h2)))

theorem Vc.RdSame.hostBlock (hi : ∀ x ∈ latchIds, x ∈ ids) (h : Vc.RdSame ids s t) : Vc.RdSame ids s t.hostBlock := by
  refine h.trans (.mono hi ?_)
  unfold Vc.hostBlock Vc.set1
  have h1 : Vc.RdSame latchIds t ((t.wr PROT.STATUS.HOST_BLK 1).wr GLOBAL.STATUS.BLOCKED 1) :=
    .wr _ _ _ _ (by decide) (.wr _ _ _ _ (by decide) (.refl _ _))
  generalize (t.wr PROT.STATUS.HOST_BLK 1).wr GLOBAL.STATUS.BLOCKED 1 = u at *
  exact .ite _ (.flashEvent _ _ _ (by decide) (.regs (t := u) rfl h1)) (.regs (t := u) rfl h1)

theorem Vc.RdSame.violation (c a : Nat) (w : Bool) (q b : Nat) (i : Bool) (hi : ∀ x ∈ violIds, x ∈ ids) (h : Vc.RdSame ids s t) :
    Vc.RdSame ids s (t.violation c a w q b i) := by
  refine h.trans (.mono hi ?_)
  have he : ∀ x ∈ eventIds, x ∈ violIds := by decide
  unfold Vc.violation
  have h1 : Vc.RdSame violIds t (({ t with host := { t.host with access := { t.host.access with bad := true } } } : Vc).count ERR.VIOL_CNT.COUNT) :=
    .count _ _ _ _ (by decide) (.regs (t := t) rfl (.refl _ _))
  dsimp only at h1 ⊢
  generalize Vc.count _ ERR.VIOL_CNT.COUNT = v at *
  refine .ite _ (.wr _ _ _ _ (by decide) h1) (.event _ he (.irq _ (by decide) ?_))
  unfold Vc.set1
  repeat' refine .wr _ _ _ _ (by decide) ?_
  exact h1

theorem Vc.RdSame.aer (c : Nat) (x : TlpHdr) (h : Vc.RdSame ids s t) : Vc.RdSame ids s (t.aer c x) := .regs (t := t) rfl h

theorem Vc.RdSame.badWrite (c a : Nat) (hi : ∀ x ∈ violIds, x ∈ ids) (h : Vc.RdSame ids s t) : Vc.RdSame ids s (t.badWrite c a) := by
  unfold Vc.badWrite
  have h1 := h.violation c a true t.host.access.req t.host.access.byteEn t.host.access.internal hi
  exact .ite _ h1 (.aer _ _ h1)

/-! ### As equations -/

@[simp] theorem Vc.rd_event (s : Vc) (rs : List Rec) (g : Fld) (k l : Nat) (h : g.id ∉ eventIds) : (s.event rs).rd g k l = s.rd g k l :=
  Vc.RdSame.event rs (fun _ h => h) (.refl _ s) g k l h
theorem Vc.rd_irq (s : Vc) (src : Nat) (g : Fld) (k l : Nat) (h : g.id ≠ HOSTQ.IRQSTAT.PEND.id) : (s.irq src).rd g k l = s.rd g k l :=
  Vc.RdSame.irq (ids := [HOSTQ.IRQSTAT.PEND.id]) src (by simp) (.refl _ s) g k l (by simpa using h)
@[simp] theorem Vc.rd_corrected (s : Vc) (v : Nat) (g : Fld) (k l : Nat) (h : g.id ∉ eventIds) : (s.corrected v).rd g k l = s.rd g k l :=
  Vc.rd_wr_ne _ _ _ _ _ _ _ _ fun e => h (e ▸ Vc.summaryFld_id v)
@[simp] theorem Vc.rd_flashEvent (s : Vc) (c : Nat) (fr : Option (Nat × Nat)) (ps : List Nat) (g : Fld) (k l : Nat) (h : g.id ∉ flashIds) :
    (s.flashEvent c fr ps).rd g k l = s.rd g k l := Vc.RdSame.flashEvent c fr ps (fun _ h => h) (.refl _ s) g k l h
@[simp] theorem Vc.rd_latchCause (s : Vc) (c : Nat) (pre : List Rec) (a ch v x : Nat) (fr : Option (Nat × Nat)) (ps : List Nat) (g : Fld) (k l : Nat)
    (h : g.id ∉ latchIds) : (s.latchCause c pre a ch v x fr ps).rd g k l = s.rd g k l :=
  Vc.RdSame.latchCause c pre a ch v x fr ps (fun _ h => h) (.refl _ s) g k l h
@[simp] theorem Vc.rd_hostBlock (s : Vc) (g : Fld) (k l : Nat) (h : g.id ∉ latchIds) : s.hostBlock.rd g k l = s.rd g k l :=
  Vc.RdSame.hostBlock (fun _ h => h) (.refl _ s) g k l h
@[simp] theorem Vc.rd_badWrite (s : Vc) (c a : Nat) (g : Fld) (k l : Nat) (h : g.id ∉ violIds) : (s.badWrite c a).rd g k l = s.rd g k l :=
  Vc.RdSame.badWrite c a (fun _ h => h) (.refl _ s) g k l h

end Sys2Proof.Machine
end

