-- ==== Sys2Proof/Laws/Flash.lean ====
section
/-!
SUPPORT. Laws/Flash.lean: every operation of the VC but those of the xSPI unit, the ledger, the image slots and the resets leaves the flash
as it was.
-/
namespace Sys2Proof.Machine
set_option Elab.async false
open Reg

@[simp] theorem foldl_flash {α : Type} (f : Vc → α → Vc) (h : ∀ s a, (f s a).flash = s.flash) (l : List α) (s : Vc) :
    (l.foldl f s).flash = s.flash := by
  induction l generalizing s with
  | nil => rfl
  | cons a l ih => rw [List.foldl_cons, ih, h]
@[simp] theorem forN_flash (n : Nat) (s : Vc) (f : Vc → Nat → Vc) (h : ∀ s a, (f s a).flash = s.flash) :
    (forN n s f).flash = s.flash := foldl_flash f h _ s
@[simp] theorem foldl1_flash {α β : Type} (f : Vc × β → α → Vc × β) (h : ∀ s a, (f s a).1.flash = s.1.flash) (l : List α)
    (s : Vc × β) : (l.foldl f s).1.flash = s.1.flash := by
  induction l generalizing s with
  | nil => rfl
  | cons a l ih => rw [List.foldl_cons, ih, h]
@[simp] theorem ite_flash (c : Prop) [Decidable c] (a b : Vc) : (if c then a else b).flash = if c then a.flash else b.flash :=
  apply_ite _ _ _ _
@[simp] theorem ite1_flash {β : Type} (c : Prop) [Decidable c] (a b : Vc × β) :
    (if c then a else b).1.flash = if c then a.1.flash else b.1.flash := apply_ite (fun x : Vc × β => x.1.flash) _ _ _

@[simp] theorem Vc.wr_flash (s : Vc) (f : Fld) (v : Nat) (i : Nat) (j : Nat) : (Vc.wr s f v i j).flash = s.flash := by
  unfold Vc.wr
  with_reducible rfl

@[simp] theorem Vc.set1_flash (s : Vc) (f : Fld) (i : Nat) (j : Nat) : (Vc.set1 s f i j).flash = s.flash := by
  simp [Vc.set1]

@[simp] theorem Vc.count_flash (s : Vc) (f : Fld) (i : Nat) (j : Nat) (n : Nat) : (Vc.count s f i j n).flash = s.flash := by
  simp [Vc.count]

@[simp] theorem Vc.setBit_flash (s : Vc) (f : Fld) (b : Nat) (i : Nat) : (Vc.setBit s f b i).flash = s.flash := by
  simp [Vc.setBit]

@[simp] theorem Vc.setFacet_flash (s : Vc) (n : Nat) (f : Facet) : (Vc.setFacet s n f).flash = s.flash := by
  unfold Vc.setFacet
  with_reducible rfl

@[simp] theorem Vc.setStr_flash (s : Vc) (n : Nat) (x : Str) : (Vc.setStr s n x).flash = s.flash := by
  unfold Vc.setStr
  with_reducible rfl

@[simp] theorem Vc.setLane_flash (s : Vc) (n : Nat) (x : LaneSt) : (Vc.setLane s n x).flash = s.flash := by
  unfold Vc.setLane
  with_reducible rfl

@[simp] theorem Vc.setChan_flash (s : Vc) (n : Nat) (x : Chan) : (Vc.setChan s n x).flash = s.flash := by
  unfold Vc.setChan
  with_reducible rfl

@[simp] theorem Vc.setToken_flash (s : Vc) (n : Nat) (x : Token) : (Vc.setToken s n x).flash = s.flash := by
  unfold Vc.setToken
  with_reducible rfl

@[simp] theorem Vc.setCq_flash (s : Vc) (n : Nat) (x : CqSt) : (Vc.setCq s n x).flash = s.flash := by
  unfold Vc.setCq
  with_reducible rfl

@[simp] theorem Vc.setSqTail_flash (s : Vc) (n v : Nat) : (Vc.setSqTail s n v).flash = s.flash := by
  unfold Vc.setSqTail
  with_reducible rfl

@[simp] theorem Vc.setStat_flash (s : Vc) (n : Nat) (x : FacetStat) : (Vc.setStat s n x).flash = s.flash := by
  unfold Vc.setStat
  with_reducible rfl

@[simp] theorem Vc.emit_flash (s : Vc) (e : Emit) : (Vc.emit s e).flash = s.flash := by
  unfold Vc.emit
  with_reducible rfl

@[simp] theorem Vc.elapse_flash (s : Vc) (dt : Nat) : (Vc.elapse s dt).flash = s.flash := by
  unfold Vc.elapse
  with_reducible rfl

@[simp] theorem Vc.toRelease_flash (s : Vc) : (Vc.toRelease s).flash = s.flash := by
  simp [Vc.toRelease]

@[simp] theorem Vc.msix_flash (s : Vc) (v : Nat) : (Vc.msix s v).flash = s.flash := by
  simp [Vc.msix]

@[simp] theorem Vc.msixPending_flash (s : Vc) : (Vc.msixPending s).flash = s.flash := by
  simp [Vc.msixPending]

@[simp] theorem Vc.irq_flash (s : Vc) (src : Nat) : (Vc.irq s src).flash = s.flash := by
  simp [Vc.irq]

@[simp] theorem Vc.summary_flash (s : Vc) (level cls : Nat) : (Vc.summary s level cls).flash = s.flash := by
  simp [Vc.summary]

@[simp] theorem Vc.corrected_flash (s : Vc) (level : Nat) : (Vc.corrected s level).flash = s.flash := by
  simp [Vc.corrected]

@[simp] theorem Vc.errRec_flash (s : Vc) (r : Rec) : (Vc.errRec s r).flash = s.flash := by
  simp [Vc.errRec]

@[simp] theorem Vc.queueRec_flash (s : Vc) (q : QRec) : (Vc.queueRec s q).flash = s.flash := by
  simp [Vc.queueRec]

@[simp] theorem Vc.closeRecs_flash (s : Vc) : (Vc.closeRecs s).flash = s.flash := by
  simp [Vc.closeRecs]

@[simp] theorem Vc.event_flash (s : Vc) (rs : List Rec) : (Vc.event s rs).flash = s.flash := by
  unfold Vc.event
  split <;> simp

@[simp] theorem Vc.cascBlocks_flash (s : Vc) (pairs : List Nat) (payload : Nat) : (Vc.cascBlocks s pairs payload).flash = s.flash := by
  simp [Vc.cascBlocks]

@[simp] theorem Vc.markSeen_flash (s : Vc) (id : Nat × Nat) : (Vc.markSeen s id).flash = s.flash := by
  simp [Vc.markSeen]

@[simp] theorem Vc.nextFlash_flash (s : Vc) : (Vc.nextFlash s).flash = s.flash := by
  unfold Vc.nextFlash
  with_reducible rfl

@[simp] theorem Vc.flashString_flash (s : Vc) (blk n : Nat) : (Vc.flashString s blk n).flash = s.flash := by
  unfold Vc.flashString
  dsimp only
  split <;> simp

@[simp] theorem Vc.flashEvent_flash (s : Vc) (cause : Nat) (from? : Option (Nat × Nat)) (pairs : List Nat) : (Vc.flashEvent s cause from? pairs).flash = s.flash := by
  simp [Vc.flashEvent]

@[simp] theorem Vc.latchCause_flash (s : Vc) (cause : Nat) (pre : List Rec) (lane ch value index : Nat)
    (from? : Option (Nat × Nat) := none) (pairs : List Nat) : (Vc.latchCause s cause pre lane ch value index from? pairs).flash = s.flash := by
  simp [Vc.latchCause]

@[simp] theorem Vc.hostBlock_flash (s : Vc) : (Vc.hostBlock s).flash = s.flash := by
  simp [Vc.hostBlock]

@[simp] theorem Vc.violation_flash (s : Vc) (cause addr : Nat) (write : Bool) (reqId byteEn : Nat) (internal : Bool) : (Vc.violation s cause addr write reqId byteEn internal).flash = s.flash := by
  simp [Vc.violation]

@[simp] theorem Vc.aer_flash (s : Vc) (cause : Nat) (h : TlpHdr) : (Vc.aer s cause h).flash = s.flash := by
  simp [Vc.aer]

@[simp] theorem Vc.badWrite_flash (s : Vc) (cause addr : Nat) : (Vc.badWrite s cause addr).flash = s.flash := by
  simp [Vc.badWrite]

@[simp] theorem Vc.asHost_flash (s : Vc) (req : Nat) : (Vc.asHost s req).flash = s.flash := by
  unfold Vc.asHost
  with_reducible rfl

@[simp] theorem Vc.hold_flash (s : Vc) (h : Held) : (Vc.hold s h).flash = s.flash := by
  unfold Vc.hold
  with_reducible rfl

@[simp] theorem Vc.modDesc_flash (s : Vc) (id : Nat) (f : Desc → Desc) : (Vc.modDesc s id f).flash = s.flash := by
  unfold Vc.modDesc
  with_reducible rfl

@[simp] theorem Vc.cqMessage_flash (s : Vc) (c : Nat) : (Vc.cqMessage s c).flash = s.flash := by
  simp [Vc.cqMessage]

@[simp] theorem Vc.post_flash (s : Vc) (d : Desc) (status detail tick : Nat) : (Vc.post s d status detail tick).flash = s.flash := by
  unfold Vc.post
  (repeat' split) <;> simp_all

@[simp] theorem Vc.checkHalted_flash (s : Vc) (q : Nat) : (Vc.checkHalted s q).flash = s.flash := by
  simp [Vc.checkHalted]

@[simp] theorem Vc.postOne_flash (s : Vc) (id : Nat) : (Vc.postOne s id).flash = s.flash := by
  unfold Vc.postOne
  (repeat' split) <;> simp

@[simp] theorem Vc.haltSq_flash (s : Vc) (q cause tag slot : Nat) : (Vc.haltSq s q cause tag slot).flash = s.flash := by
  simp [Vc.haltSq]

@[simp] theorem Vc.endDesc_flash (s : Vc) (d : Desc) (status detail tick : Nat) : (Vc.endDesc s d status detail tick).flash = s.flash := by
  simp [Vc.endDesc]

@[simp] theorem Vc.startOne_flash (s : Vc) (id : Nat) : (Vc.startOne s id).flash = s.flash := by
  unfold Vc.startOne
  split <;> simp

@[simp] theorem Vc.pump_flash (s : Vc) : (Vc.pump s).flash = s.flash := by
  simp [Vc.pump]

@[simp] theorem Vc.finishAt_flash (s : Vc) (id status detail tick : Nat) : (Vc.finishAt s id status detail tick).flash = s.flash := by
  unfold Vc.finishAt
  split <;> simp

@[simp] theorem Vc.finish_flash (s : Vc) (id status : Nat) (detail : Nat) : (Vc.finish s id status detail).flash = s.flash := by
  simp [Vc.finish]

@[simp] theorem Vc.withDesc_flash (s : Vc) (id type : Nat) (f : Vc → Desc → Vc) (h : ∀ s d, (f s d).flash = s.flash) :
    (s.withDesc id type f).flash = s.flash := by
  unfold Vc.withDesc
  repeat' (first | with_reducible rfl | (simp [h]; done) | split)

@[simp] theorem Vc.wait_flash (s : Vc) (id : Nat) (aux : Nat) : (Vc.wait s id aux).flash = s.flash := by
  simp [Vc.wait]

@[simp] theorem Vc.holdDesc_flash (s : Vc) (id : Nat) (buf : HostBuf) : (Vc.holdDesc s id buf).flash = s.flash := by
  simp [Vc.holdDesc]

@[simp] theorem Vc.writeBuf_flash (s : Vc) (d : Desc) (addr : Nat) (bs : List Nat) (detail : Nat) : (Vc.writeBuf s d addr bs detail).flash = s.flash := by
  simp [Vc.writeBuf]

@[simp] theorem Vc.sqDoorbell_flash (s : Vc) (q w : Nat) : (Vc.sqDoorbell s q w).flash = s.flash := by
  simp [Vc.sqDoorbell]

@[simp] theorem Vc.cqDoorbell_flash (s : Vc) (q w : Nat) : (Vc.cqDoorbell s q w).flash = s.flash := by
  simp [Vc.cqDoorbell]

@[simp] theorem Vc.sqCfg_flash (s : Vc) (q w : Nat) : (Vc.sqCfg s q w).flash = s.flash := by
  simp [Vc.sqCfg]

@[simp] theorem Vc.cqCfg_flash (s : Vc) (q w : Nat) : (Vc.cqCfg s q w).flash = s.flash := by
  simp [Vc.cqCfg]

@[simp] theorem Vc.withdraw_flash (s : Vc) (d : Desc) : (Vc.withdraw s d).flash = s.flash := by
  simp [Vc.withdraw]

@[simp] theorem Vc.abortSq_flash (s : Vc) (q : Nat) : (Vc.abortSq s q).flash = s.flash := by
  simp [Vc.abortSq]

@[simp] theorem Vc.resumeSq_flash (s : Vc) (q : Nat) (setHead : Bool) (head : Nat) : (Vc.resumeSq s q setHead head).flash = s.flash := by
  simp [Vc.resumeSq]

@[simp] theorem Vc.sqCtrl_flash (s : Vc) (q w : Nat) : (Vc.sqCtrl s q w).flash = s.flash := by
  simp [Vc.sqCtrl]

@[simp] theorem Vc.fetchDesc_flash (s : Vc) (ws : Option (List Nat)) : (Vc.fetchDesc s ws).flash = s.flash := by
  unfold Vc.fetchDesc
  split
  · rfl
  · dsimp only
    split
    · simp
    · split
      · simp
      · split <;> simp

@[simp] theorem Vc.coalesce_flash (s : Vc) (c : Nat) : (Vc.coalesce s c).flash = s.flash := by
  unfold Vc.coalesce
  split <;> simp

@[simp] theorem Vc.hostqReset_flash (s : Vc) : (Vc.hostqReset s).flash = s.flash := by
  unfold Vc.hostqReset
  with_reducible rfl

@[simp] theorem Vc.bmeClear_flash (s : Vc) : (Vc.bmeClear s).flash = s.flash := by
  simp [Vc.bmeClear]

@[simp] theorem Vc.bmeSet_flash (s : Vc) : (Vc.bmeSet s).flash = s.flash := by
  simp [Vc.bmeSet]

@[simp] theorem Vc.setPcie_flash (s : Vc) (p : PcieSt) : (Vc.setPcie s p).flash = s.flash := by
  unfold Vc.setPcie
  with_reducible rfl

@[simp] theorem Vc.cfgPut_flash (s : Vc) (r : CfgReg) (w : Nat) : (Vc.cfgPut s r w).flash = s.flash := by
  unfold Vc.cfgPut
  split <;> simp

@[simp] theorem Vc.cfgWrite_flash (s : Vc) (r : CfgReg) (byteEn w : Nat) : (Vc.cfgWrite s r byteEn w).flash = s.flash := by
  simp [Vc.cfgWrite]

@[simp] theorem Vc.bar2Write_flash (s : Vc) (a byteEn w : Nat) : (Vc.bar2Write s a byteEn w).flash = s.flash := by
  simp [Vc.bar2Write]

@[simp] theorem Vc.setArm_flash (s : Vc) (a : Nat) (x : ArmSt) : (Vc.setArm s a x).flash = s.flash := by
  unfold Vc.setArm
  with_reducible rfl

@[simp] theorem Vc.setRemote_flash (s : Vc) (g : Nat) (x : Remote) : (Vc.setRemote s g x).flash = s.flash := by
  unfold Vc.setRemote
  with_reducible rfl

@[simp] theorem Vc.setCtx_flash (s : Vc) (c : Nat) (x : Ctx) : (Vc.setCtx s c x).flash = s.flash := by
  unfold Vc.setCtx
  with_reducible rfl

@[simp] theorem Vc.spare_flash (s : Vc) (a code data : Nat) (pre : List Rec) : (Vc.spare s a code data pre).flash = s.flash := by
  simp [Vc.spare]

@[simp] theorem Vc.markMismatch_flash (s : Vc) (f : Facet) : (Vc.markMismatch s f).flash = s.flash := by
  simp [Vc.markMismatch]

@[simp] theorem Vc.leaveService_flash (s : Vc) (n cause : Nat) : (Vc.leaveService s n cause).flash = s.flash := by
  unfold Vc.leaveService
  dsimp only
  (repeat' split) <;> simp

@[simp] theorem Vc.stringLeaves_flash (s : Vc) (n cause : Nat) : (Vc.stringLeaves s n cause).flash = s.flash := by
  simp [Vc.stringLeaves]

@[simp] theorem Vc.enterService_flash (s : Vc) (n tick : Nat) : (Vc.enterService s n tick).flash = s.flash := by
  simp [Vc.enterService]

@[simp] theorem Vc.takeReport_flash (s : Vc) (n : Nat) (r : RxRep) (f : Facet) (badOther : Bool) : (Vc.takeReport s n r f badOther).flash = s.flash := by
  simp [Vc.takeReport]

@[simp] theorem Vc.missReport_flash (s : Vc) (n : Nat) (f : Facet) : (Vc.missReport s n f).flash = s.flash := by
  simp [Vc.missReport]

@[simp] theorem Vc.keepUnmapped_flash (s : Vc) (n : Nat) : (Vc.keepUnmapped s n).flash = s.flash := by
  simp [Vc.keepUnmapped]

@[simp] theorem Vc.commitFacet_flash (s : Vc) (n : Nat) (rx : List RxRep) : (Vc.commitFacet s n rx).flash = s.flash := by
  unfold Vc.commitFacet
  dsimp only
  split <;> simp

@[simp] theorem Vc.issueLocal_flash (s : Vc) (n mode edge newC eff : Nat) : (Vc.issueLocal s n mode edge newC eff).flash = s.flash := by
  simp [Vc.issueLocal]

@[simp] theorem Vc.issueOne_flash (s : Vc) (eff : Nat) (i : Issue) : (Vc.issueOne s eff i).flash = s.flash := by
  simp [Vc.issueOne]

@[simp] theorem Vc.putAgg_flash (s : Vc) (a : Nat) : (Vc.putAgg s a).flash = s.flash := by
  simp [Vc.putAgg]

@[simp] theorem Vc.selectArmTick_flash (s : Vc) (a : Nat) : (Vc.selectArmTick s a).1.flash = s.flash := by
  simp [Vc.selectArmTick]

@[simp] theorem Vc.armForm_flash (s : Vc) (a : Nat) : (Vc.armForm s a).flash = s.flash := by
  simp [Vc.armForm]

@[simp] theorem Vc.armRelease_flash (s : Vc) (a : Nat) : (Vc.armRelease s a).flash = s.flash := by
  simp [Vc.armRelease]

@[simp] theorem Vc.armCtl_flash (s : Vc) (a w : Nat) : (Vc.armCtl s a w).flash = s.flash := by
  simp [Vc.armCtl]

@[simp] theorem Vc.mapFacets_flash (s : Vc) (n : Nat) : (Vc.mapFacets s n).flash = s.flash := by
  simp [Vc.mapFacets]

@[simp] theorem Vc.strMap_flash (s : Vc) (n w : Nat) : (Vc.strMap s n w).flash = s.flash := by
  simp [Vc.strMap]

@[simp] theorem Vc.facetCtl_flash (s : Vc) (id op : Nat) (buf : HostBuf) : (Vc.facetCtl s id op buf).flash = s.flash := by
  simp [Vc.facetCtl]

@[simp] theorem Vc.facetOp_flash (s : Vc) (op n k : Nat) (bs : List Nat) : (Vc.facetOp s op n k bs).flash = s.flash := by
  unfold Vc.facetOp
  split <;> simp

@[simp] theorem Vc.facetNow_flash (s : Vc) (d : Desc) (buf : HostBuf) : (Vc.facetNow s d buf).flash = s.flash := by
  simp [Vc.facetNow]

@[simp] theorem Vc.windowRead_flash (s : Vc) (n w : Nat) : (Vc.windowRead s n w).1.flash = s.flash := by
  unfold Vc.windowRead
  (repeat' split) <;> simp

@[simp] theorem Vc.putLnk_flash (s : Vc) (l : Nat) (x : Lnk) : (Vc.putLnk s l x).flash = s.flash := by
  simp [Vc.putLnk]

@[simp] theorem Vc.emitLane_flash (s : Vc) (l : Nat) (e : LinkEnd → Emit) : (Vc.emitLane s l e).flash = s.flash := by
  unfold Vc.emitLane
  split <;> simp

@[simp] theorem Vc.useEntry_flash (s : Vc) (l : Nat) (e : Option Nat) : (Vc.useEntry s l e).flash = s.flash := by
  simp [Vc.useEntry]

@[simp] theorem Vc.train_flash (s : Vc) (l : Nat) (o : LnkOut) : (Vc.train s l o).flash = s.flash := by
  unfold Vc.train
  (repeat' split) <;> simp

@[simp] theorem Vc.settle_flash (s : Vc) (l : Nat) : (Vc.settle s l).flash = s.flash := by
  simp [Vc.settle]

@[simp] theorem Vc.bringUp_flash (s : Vc) (l : Nat) : (Vc.bringUp s l).flash = s.flash := by
  simp [Vc.bringUp]

@[simp] theorem Vc.refreshLane_flash (s : Vc) (l : Nat) : (Vc.refreshLane s l).flash = s.flash := by
  simp [Vc.refreshLane]

@[simp] theorem Vc.refreshPort_flash (s : Vc) (n : Nat) : (Vc.refreshPort s n).flash = s.flash := by
  simp [Vc.refreshPort]

@[simp] theorem Vc.loseLane_flash (s : Vc) (l : Nat) : (Vc.loseLane s l).flash = s.flash := by
  simp [Vc.loseLane]

@[simp] theorem Vc.codeError_flash (s : Vc) (l : Nat) : (Vc.codeError s l).flash = s.flash := by
  simp [Vc.codeError]

@[simp] theorem Vc.trainError_flash (s : Vc) (l : Nat) : (Vc.trainError s l).flash = s.flash := by
  simp [Vc.trainError]

@[simp] theorem Vc.trainRx_flash (s : Vc) (l : Nat) (f : TrainFrame) (k : Lnk → LnkCfg → Nat → TrainFrame → LnkOut) : (Vc.trainRx s l f k).flash = s.flash := by
  simp [Vc.trainRx]

@[simp] theorem Vc.mlaneSlots_flash (s : Vc) (l : Nat) (foms : List (Option Nat)) : (Vc.mlaneSlots s l foms).flash = s.flash := by
  simp [Vc.mlaneSlots]

@[simp] theorem Vc.fomMeasure_flash (s : Vc) (l fom : Nat) : (Vc.fomMeasure s l fom).flash = s.flash := by
  simp [Vc.fomMeasure]

@[simp] theorem Vc.retrain_flash (s : Vc) (l : Nat) : (Vc.retrain s l).flash = s.flash := by
  simp [Vc.retrain]

@[simp] theorem Vc.clrFommin_flash (s : Vc) (l : Nat) : (Vc.clrFommin s l).flash = s.flash := by
  simp [Vc.clrFommin]

@[simp] theorem Vc.testSends_flash (s : Vc) (l : Nat) : (Vc.testSends s l).flash = s.flash := by
  simp [Vc.testSends]

@[simp] theorem Vc.laneTest_flash (s : Vc) (l w : Nat) : (Vc.laneTest s l w).flash = s.flash := by
  simp [Vc.laneTest]

@[simp] theorem Vc.testBit_flash (s : Vc) (l : Nat) (t : Nat × Nat) (b : Bool) : (Vc.testBit s l t b).flash = s.flash := by
  unfold Vc.testBit
  dsimp only
  split <;> simp

@[simp] theorem Vc.testBits_flash (s : Vc) (l : Nat) (rx : List Bool) : (Vc.testBits s l rx).flash = s.flash := by
  unfold Vc.testBits
  split <;> simp

@[simp] theorem Vc.alignWrite_flash (s : Vc) (l w : Nat) : (Vc.alignWrite s l w).flash = s.flash := by
  simp [Vc.alignWrite]

@[simp] theorem Vc.refreshCasc_flash (s : Vc) : (Vc.refreshCasc s).flash = s.flash := by
  simp [Vc.refreshCasc]

@[simp] theorem Vc.nextTag_flash (s : Vc) (n : Nat) : (Vc.nextTag s n).1.flash = s.flash := by
  simp [Vc.nextTag]

@[simp] theorem Vc.sendMsg_flash (s : Vc) (n op dest addr len : Nat) (payload : List Nat) : (Vc.sendMsg s n op dest addr len payload).1.flash = s.flash := by
  simp [Vc.sendMsg]

@[simp] theorem Vc.queueMsg_flash (s : Vc) (n : Nat) (m : Msg) : (Vc.queueMsg s n m).flash = s.flash := by
  simp [Vc.queueMsg]

@[simp] theorem Vc.loadBegin_flash (s : Vc) (n : Nat) : (Vc.loadBegin s n).flash = s.flash := by
  unfold Vc.loadBegin
  dsimp only
  split <;> simp

@[simp] theorem Vc.msgResult_flash (s : Vc) (n res reason : Nat) (payload : List Nat) : (Vc.msgResult s n res reason payload).flash = s.flash := by
  unfold Vc.msgResult
  dsimp only
  (repeat' split) <;> simp

@[simp] theorem Vc.cellMsgSend_flash (s : Vc) (n : Nat) : (Vc.cellMsgSend s n).flash = s.flash := by
  unfold Vc.cellMsgSend
  dsimp only
  (repeat' split) <;> simp

@[simp] theorem Vc.msgResponse_flash (s : Vc) (n d : Nat) (m : MsgFrame) : (Vc.msgResponse s n d m).flash = s.flash := by
  unfold Vc.msgResponse
  split <;> simp

@[simp] theorem Vc.msgTimeout_flash (s : Vc) (n : Nat) : (Vc.msgTimeout s n).flash = s.flash := by
  unfold Vc.msgTimeout
  split <;> simp

@[simp] theorem Vc.cancelMsgs_flash (s : Vc) (n : Nat) : (Vc.cancelMsgs s n).flash = s.flash := by
  unfold Vc.cancelMsgs
  refine (foldl_flash _ ?_ _ _).trans ?_ <;> intros <;> first | (simp; done) | (split <;> simp)

@[simp] theorem Vc.strEnter_flash (s : Vc) (n st : Nat) : (Vc.strEnter s n st).flash = s.flash := by
  simp [Vc.strEnter]

@[simp] theorem Vc.strFail_flash (s : Vc) (n code : Nat) : (Vc.strFail s n code).flash = s.flash := by
  simp [Vc.strFail]

@[simp] theorem Vc.endHolds_flash (s : Vc) (n : Nat) : (Vc.endHolds s n).flash = s.flash := by
  simp [Vc.endHolds]

@[simp] theorem Vc.strClear_flash (s : Vc) (n : Nat) : (Vc.strClear s n).flash = s.flash := by
  simp [Vc.strClear]

@[simp] theorem Vc.strStart_flash (s : Vc) (n : Nat) : (Vc.strStart s n).flash = s.flash := by
  simp [Vc.strStart]

@[simp] theorem Vc.sendAssign_flash (s : Vc) (n : Nat) : (Vc.sendAssign s n).flash = s.flash := by
  unfold Vc.sendAssign
  dsimp only
  split <;> simp

@[simp] theorem Vc.trainDone_flash (s : Vc) (n : Nat) : (Vc.trainDone s n).flash = s.flash := by
  simp [Vc.trainDone]

@[simp] theorem Vc.trainTimeout_flash (s : Vc) (n : Nat) : (Vc.trainTimeout s n).flash = s.flash := by
  simp [Vc.trainTimeout]

@[simp] theorem Vc.assignRepeat_flash (s : Vc) (n : Nat) : (Vc.assignRepeat s n).flash = s.flash := by
  simp [Vc.assignRepeat]

@[simp] theorem Vc.assignTimeout_flash (s : Vc) (n : Nat) : (Vc.assignTimeout s n).flash = s.flash := by
  simp [Vc.assignTimeout]

@[simp] theorem Vc.assignReturn_flash (s : Vc) (n : Nat) (m : MsgFrame) : (Vc.assignReturn s n m).flash = s.flash := by
  simp [Vc.assignReturn]

@[simp] theorem Vc.echoRx_flash (s : Vc) (n num turn rttPs : Nat) : (Vc.echoRx s n num turn rttPs).flash = s.flash := by
  simp [Vc.echoRx]

@[simp] theorem Vc.echoTimeout_flash (s : Vc) (n : Nat) : (Vc.echoTimeout s n).flash = s.flash := by
  simp [Vc.echoTimeout]

@[simp] theorem Vc.calibrationDone_flash (s : Vc) (n : Nat) : (Vc.calibrationDone s n).flash = s.flash := by
  simp [Vc.calibrationDone]

@[simp] theorem Vc.ownResult_flash (s : Vc) (n : Nat) (answered : Bool) : (Vc.ownResult s n answered).flash = s.flash := by
  simp [Vc.ownResult]

@[simp] theorem Vc.writePath_flash (s : Vc) (n p ack : Nat) (d : Int × Int) : (Vc.writePath s n p ack d).flash = s.flash := by
  simp [Vc.writePath]

@[simp] theorem Vc.imageLoadDone_flash (s : Vc) (n : Nat) (rx : List Nat) (replies : List (Option (Nat × Nat))) (acks : List Nat) : (Vc.imageLoadDone s n rx replies acks).flash = s.flash := by
  unfold Vc.imageLoadDone
  dsimp only
  split <;> simp

@[simp] theorem Vc.syncComplete_flash (s : Vc) (n : Nat) : (Vc.syncComplete s n).flash = s.flash := by
  simp [Vc.syncComplete]

@[simp] theorem Vc.syncTimeout_flash (s : Vc) (n : Nat) : (Vc.syncTimeout s n).flash = s.flash := by
  simp [Vc.syncTimeout]

@[simp] theorem Vc.strDown_flash (s : Vc) (n : Nat) : (Vc.strDown s n).flash = s.flash := by
  simp [Vc.strDown]

@[simp] theorem Vc.strStop_flash (s : Vc) (n : Nat) : (Vc.strStop s n).flash = s.flash := by
  simp [Vc.strStop]

@[simp] theorem Vc.stopEnd_flash (s : Vc) (n : Nat) : (Vc.stopEnd s n).flash = s.flash := by
  simp [Vc.stopEnd]

@[simp] theorem Vc.strLoad_flash (s : Vc) (n : Nat) : (Vc.strLoad s n).flash = s.flash := by
  simp [Vc.strLoad]

@[simp] theorem Vc.loadEnd_flash (s : Vc) (n : Nat) : (Vc.loadEnd s n).flash = s.flash := by
  unfold Vc.loadEnd
  dsimp only
  split <;> simp

@[simp] theorem Vc.strCtrl_flash (s : Vc) (n w : Nat) : (Vc.strCtrl s n w).flash = s.flash := by
  simp [Vc.strCtrl]

@[simp] theorem Vc.sweepReturn_flash (s : Vc) (n : Nat) (endY : Bool) (h : List Block) (start : Nat) (reps : List DWord)
    (tr : Option (Block × Block)) : (Vc.sweepReturn s n endY h start reps tr).flash = s.flash := by
  unfold Vc.sweepReturn
  (repeat' split) <;> simp

@[simp] theorem Vc.breakFields_flash (s : Vc) (n : Nat) : (Vc.breakFields s n).flash = s.flash := by
  unfold Vc.breakFields
  dsimp only
  (repeat' split) <;> simp

@[simp] theorem Vc.holdLink_flash (s : Vc) (n i : Nat) : (Vc.holdLink s n i).flash = s.flash := by
  simp [Vc.holdLink]

@[simp] theorem Vc.keepBreaks_flash (s : Vc) (n : Nat) (links : List Nat) : (Vc.keepBreaks s n links).flash = s.flash := by
  simp [Vc.keepBreaks]

@[simp] theorem Vc.onsets_flash (s : Vc) (n : Nat) (links : List Nat) : (Vc.onsets s n links).flash = s.flash := by
  simp [Vc.onsets]

@[simp] theorem Vc.breaks_flash (s : Vc) (n : Nat) (cut : List Nat) : (Vc.breaks s n cut).flash = s.flash := by
  simp [Vc.breaks]

@[simp] theorem Vc.retTime_flash (s : Vc) (n : Nat) : (Vc.retTime s n).flash = s.flash := by
  simp [Vc.retTime]

@[simp] theorem Vc.strCommit_flash (s : Vc) (n : Nat) : (Vc.strCommit s n).flash = s.flash := by
  simp [Vc.strCommit]

@[simp] theorem Vc.heldSlot_flash (s : Vc) (i eff : Nat) : (Vc.heldSlot s i eff).flash = s.flash := by
  simp [Vc.heldSlot]

@[simp] theorem Vc.slotWord_flash (s : Vc) (n p seq eff : Nat) : (Vc.slotWord s n p seq eff).1.flash = s.flash := by
  unfold Vc.slotWord
  (repeat' split) <;> simp

@[simp] theorem Vc.launch_flash (s : Vc) (n extra : Nat) : (Vc.launch s n extra).flash = s.flash := by
  simp [Vc.launch]

@[simp] theorem Vc.releasePort_flash (s : Vc) (n : Nat) : (Vc.releasePort s n).flash = s.flash := by
  simp [Vc.releasePort]

@[simp] theorem Vc.laneCtrl_flash (s : Vc) (l w : Nat) : (Vc.laneCtrl s l w).flash = s.flash := by
  simp [Vc.laneCtrl]

@[simp] theorem Vc.strLaneLoss_flash (s : Vc) (l : Nat) : (Vc.strLaneLoss s l).flash = s.flash := by
  simp [Vc.strLaneLoss]

@[simp] theorem Vc.copyUpset_flash (s : Vc) (u : CmpUpset) : (Vc.copyUpset s u).flash = s.flash := by
  unfold Vc.copyUpset
  with_reducible rfl

@[simp] theorem Vc.copyCheck_flash (s : Vc) (ups : List CmpUpset) : (Vc.copyCheck s ups).flash = s.flash := by
  simp [Vc.copyCheck]

@[simp] theorem Vc.copyWritten_flash (s : Vc) (k : Nat) : (Vc.copyWritten s k).flash = s.flash := by
  unfold Vc.copyWritten
  with_reducible rfl

@[simp] theorem Vc.clearRuns_flash (s : Vc) : (Vc.clearRuns s).flash = s.flash := by
  simp [Vc.clearRuns]

@[simp] theorem Vc.holdOut_flash (s : Vc) (i : Nat) : (Vc.holdOut s i).flash = s.flash := by
  simp [Vc.holdOut]

@[simp] theorem Vc.disagrees_flash (s : Vc) (i : Nat) : (Vc.disagrees s i).flash = s.flash := by
  simp [Vc.disagrees]

@[simp] theorem Vc.judgeRuns_flash (s : Vc) (k : Nat) (ov : Nat → Bool) : (Vc.judgeRuns s k ov).flash = s.flash := by
  unfold Vc.judgeRuns
  dsimp only
  (repeat' split) <;> simp

@[simp] theorem Vc.compare_flash (s : Vc) (l ch x : Nat) (overrange : Bool) (bad : Nat) : (Vc.compare s l ch x overrange bad).flash = s.flash := by
  simp [Vc.compare]

@[simp] theorem Vc.apSample_flash (s : Vc) (l ch x tag : Nat) : (Vc.apSample s l ch x tag).flash = s.flash := by
  unfold Vc.apSample
  with_reducible rfl

@[simp] theorem Vc.takeSample_flash (s : Vc) (l ch x stat bad tag : Nat) : (Vc.takeSample s l ch x stat bad tag).flash = s.flash := by
  simp [Vc.takeSample]

@[simp] theorem Vc.measFrame_flash (s : Vc) (l : Nat) (bs : List Block) (bad : Nat) : (Vc.measFrame s l bs bad).flash = s.flash := by
  simp [Vc.measFrame]

@[simp] theorem Vc.measMiss_flash (s : Vc) (l ch : Nat) : (Vc.measMiss s l ch).flash = s.flash := by
  simp [Vc.measMiss]

@[simp] theorem Vc.chanRestart_flash (s : Vc) (l ch : Nat) (newly : Bool) : (Vc.chanRestart s l ch newly).flash = s.flash := by
  simp [Vc.chanRestart]

@[simp] theorem Vc.watchPermit_flash (s : Vc) : (Vc.watchPermit s).flash = s.flash := by
  unfold Vc.watchPermit
  with_reducible rfl

@[simp] theorem Vc.permitLevel_flash (s : Vc) (pinB level : Bool) : (Vc.permitLevel s pinB level).flash = s.flash := by
  simp [Vc.permitLevel]

@[simp] theorem Vc.permitChange_flash (s : Vc) (pinB level : Bool) (ns : Nat) : (Vc.permitChange s pinB level ns).flash = s.flash := by
  simp [Vc.permitChange]

@[simp] theorem Vc.protClear_flash (s : Vc) : (Vc.protClear s).flash = s.flash := by
  simp [Vc.protClear]

@[simp] theorem Vc.protCtrl_flash (s : Vc) (w : Nat) : (Vc.protCtrl s w).flash = s.flash := by
  simp [Vc.protCtrl]

@[simp] theorem Vc.protTest_flash (s : Vc) (w : Nat) : (Vc.protTest s w).flash = s.flash := by
  simp [Vc.protTest]

@[simp] theorem Vc.tokCfg_flash (s : Vc) (a w : Nat) : (Vc.tokCfg s a w).flash = s.flash := by
  simp [Vc.tokCfg]

@[simp] theorem Vc.tokenExpiry_flash (s : Vc) (a : Nat) : (Vc.tokenExpiry s a).flash = s.flash := by
  simp [Vc.tokenExpiry]

@[simp] theorem Vc.fireWrite_flash (s : Vc) (w : Nat) : (Vc.fireWrite s w).flash = s.flash := by
  simp [Vc.fireWrite]

@[simp] theorem Vc.fireCheck_flash (s : Vc) (n : Nat) : (Vc.fireCheck s n).flash = s.flash := by
  simp [Vc.fireCheck]

@[simp] theorem Vc.fireTick_flash (s : Vc) : (Vc.fireTick s).flash = s.flash := by
  simp [Vc.fireTick]

@[simp] theorem Vc.fireAdvance_flash (s : Vc) : (Vc.fireAdvance s).flash = s.flash := by
  unfold Vc.fireAdvance
  split <;> simp

@[simp] theorem Vc.firingEnd_flash (s : Vc) : (Vc.firingEnd s).flash = s.flash := by
  unfold Vc.firingEnd
  split <;> simp

@[simp] theorem Vc.blkCopy_flash (s : Vc) (pair : Nat) (good : Bool) : (Vc.blkCopy s pair good).flash = s.flash := by
  simp [Vc.blkCopy]

@[simp] theorem Vc.cascadeBlock_flash (s : Vc) (pair : Nat) (b : Block) : (Vc.cascadeBlock s pair b).flash = s.flash := by
  simp [Vc.cascadeBlock]

@[simp] theorem Vc.lostRecord_flash (s : Vc) : (Vc.lostRecord s).flash = s.flash := by
  simp [Vc.lostRecord]

@[simp] theorem Vc.recordDone_flash (s : Vc) (q : QRec) (ev rseq : Nat) : (Vc.recordDone s q ev rseq).flash = s.flash := by
  simp [Vc.recordDone]

@[simp] theorem Vc.ledgerWritten_flash (s : Vc) (cls : List (Nat × Nat × Nat)) (q : Option QRec) (ev rseq : Nat) : (Vc.ledgerWritten s cls q ev rseq).flash = s.flash := by
  unfold Vc.ledgerWritten
  split <;> simp

@[simp] theorem Vc.ledgerFail_flash (s : Vc) : (Vc.ledgerFail s).flash = s.flash := by
  simp [Vc.ledgerFail]

@[simp] theorem Vc.xQueue_flash (s : Vc) (k : XKind) : (Vc.xQueue s k).flash = s.flash := by
  unfold Vc.xQueue
  with_reducible rfl

@[simp] theorem Vc.hoursSecond_flash (s : Vc) : (Vc.hoursSecond s).flash = s.flash := by
  simp [Vc.hoursSecond]

@[simp] theorem Vc.statsMark_flash (s : Vc) : (Vc.statsMark s).flash = s.flash := by
  unfold Vc.statsMark
  with_reducible rfl

@[simp] theorem Vc.ledgerFlush_flash (s : Vc) : (Vc.ledgerFlush s).flash = s.flash := by
  simp [Vc.ledgerFlush]

@[simp] theorem Vc.ledgerUnitRst_flash (s : Vc) : (Vc.ledgerUnitRst s).flash = s.flash := by
  simp [Vc.ledgerUnitRst]

@[simp] theorem Vc.clrStats_flash (s : Vc) : (Vc.clrStats s).flash = s.flash := by
  simp [Vc.clrStats]

@[simp] theorem Vc.formatBegin_flash (s : Vc) (why : Nat) : (Vc.formatBegin s why).flash = s.flash := by
  simp [Vc.formatBegin]

@[simp] theorem Vc.formatFail_flash (s : Vc) (why : Nat) : (Vc.formatFail s why).flash = s.flash := by
  simp [Vc.formatFail]

@[simp] theorem Vc.ledgerCtrl_flash (s : Vc) (w : Nat) : (Vc.ledgerCtrl s w).flash = s.flash := by
  simp [Vc.ledgerCtrl]

@[simp] theorem Vc.ledgerNumbers_flash (s : Vc) : (Vc.ledgerNumbers s).flash = s.flash := by
  simp [Vc.ledgerNumbers]

@[simp] theorem Vc.ledgerHours_flash (s : Vc) : (Vc.ledgerHours s).flash = s.flash := by
  unfold Vc.ledgerHours
  dsimp only
  (repeat' split) <;> simp

@[simp] theorem Vc.ledgerStats_flash (s : Vc) : (Vc.ledgerStats s).flash = s.flash := by
  unfold Vc.ledgerStats
  dsimp only
  split <;> simp

@[simp] theorem Vc.ledgerBoot_flash (s : Vc) : (Vc.ledgerBoot s).flash = s.flash := by
  unfold Vc.ledgerBoot
  dsimp only
  split <;> simp

@[simp] theorem Vc.ledgerReadNow_flash (s : Vc) (id : Nat) (ok : Bool) : (Vc.ledgerReadNow s id ok).flash = s.flash := by
  unfold Vc.ledgerReadNow
  split <;> simp

@[simp] theorem Vc.ledgerRead_flash (s : Vc) (id : Nat) (ok : Bool) : (Vc.ledgerRead s id ok).flash = s.flash := by
  simp [Vc.ledgerRead]

@[simp] theorem Vc.refreshLoad_flash (s : Vc) : (Vc.refreshLoad s).flash = s.flash := by
  simp [Vc.refreshLoad]

@[simp] theorem Vc.endSwap_flash (s : Vc) (c status : Nat) : (Vc.endSwap s c status).flash = s.flash := by
  unfold Vc.endSwap
  dsimp only
  (repeat' split) <;> simp

@[simp] theorem Vc.dropStep_flash (s : Vc) (c : Nat) : (Vc.dropStep s c).flash = s.flash := by
  simp [Vc.dropStep]

@[simp] theorem Vc.ctxLeave_flash (s : Vc) (c st : Nat) : (Vc.ctxLeave s c st).flash = s.flash := by
  simp [Vc.ctxLeave]

@[simp] theorem Vc.lensAction_flash (s : Vc) (c act code data at_ : Nat) : (Vc.lensAction s c act code data at_).flash = s.flash := by
  simp [Vc.lensAction]

@[simp] theorem Vc.ctxFault_flash (s : Vc) (c code data at_ : Nat) : (Vc.ctxFault s c code data at_).flash = s.flash := by
  simp [Vc.ctxFault]

@[simp] theorem Vc.refuseStart_flash (s : Vc) (c code : Nat) : (Vc.refuseStart s c code).flash = s.flash := by
  simp [Vc.refuseStart]

@[simp] theorem Vc.ctxStart_flash (s : Vc) (c : Nat) : (Vc.ctxStart s c).flash = s.flash := by
  simp [Vc.ctxStart]

@[simp] theorem Vc.ctxCtrl_flash (s : Vc) (c w : Nat) : (Vc.ctxCtrl s c w).flash = s.flash := by
  simp [Vc.ctxCtrl]

@[simp] theorem Vc.handShift_flash (s : Vc) (c k : Nat) : (Vc.handShift s c k).flash = s.flash := by
  simp [Vc.handShift]

@[simp] theorem Vc.saturation_flash (s : Vc) (c : Nat) (j : Job) (at_ : Nat) : (Vc.saturation s c j at_).flash = s.flash := by
  simp [Vc.saturation]

@[simp] theorem Vc.cascSend_flash (s : Vc) (c : Nat) : (Vc.cascSend s c).flash = s.flash := by
  simp [Vc.cascSend]

@[simp] theorem Vc.commitStep_flash (s : Vc) (c : Nat) (at_ : Nat) : (Vc.commitStep s c at_).flash = s.flash := by
  unfold Vc.commitStep
  split <;> simp

@[simp] theorem Vc.overrun_flash (s : Vc) (c cause : Nat) : (Vc.overrun s c cause).flash = s.flash := by
  simp [Vc.overrun]

@[simp] theorem Vc.lateStep_flash (s : Vc) (c : Nat) : (Vc.lateStep s c).flash = s.flash := by
  simp [Vc.lateStep]

@[simp] theorem Vc.stepOverrun_flash (s : Vc) (c : Nat) : (Vc.stepOverrun s c).flash = s.flash := by
  simp [Vc.stepOverrun]

@[simp] theorem Vc.keepTotals_flash (s : Vc) (due : List Nat) : (Vc.keepTotals s due).flash = s.flash := by
  simp [Vc.keepTotals]

@[simp] theorem Vc.takeStep_flash (s : Vc) (v : Vc) (c k : Nat) : (Vc.takeStep s v c k).flash = s.flash := by
  simp [Vc.takeStep]

@[simp] theorem Vc.shiftReady_flash (s : Vc) (tp c : Nat) : (Vc.shiftReady s tp c).flash = s.flash := by
  unfold Vc.shiftReady
  split <;> simp

@[simp] theorem Vc.lateCommit_flash (s : Vc) : (Vc.lateCommit s).flash = s.flash := by
  unfold Vc.lateCommit
  (repeat' split) <;> simp

@[simp] theorem Vc.runJobs_flash (u : Nat) (l : List Nat) : ∀ (s : Vc) (c : Nat), (Vc.runJobs u l s c).1.flash = s.flash := by
  induction l with
  | nil => intro s c; rfl
  | cons a l ih =>
    intro s c
    unfold Vc.runJobs
    repeat' (first | with_reducible rfl | (simp [ih]; done) | split | (dsimp only; split))

@[simp] theorem Vc.lensTick_flash (s : Vc) (k : Nat) : (Vc.lensTick s k).flash = s.flash := by
  simp [Vc.lensTick]

@[simp] theorem Vc.takeBlockReqs_flash (s : Vc) : (Vc.takeBlockReqs s).1.flash = s.flash := by
  unfold Vc.takeBlockReqs
  with_reducible rfl

@[simp] theorem Vc.coefRead_flash (s : Vc) (d : Desc) (buf : HostBuf) : (Vc.coefRead s d buf).flash = s.flash := by
  unfold Vc.coefRead
  split <;> simp

@[simp] theorem Vc.coefLoad_flash (s : Vc) (id : Nat) (dir : Bool) (buf : HostBuf) : (Vc.coefLoad s id dir buf).flash = s.flash := by
  simp [Vc.coefLoad]

@[simp] theorem Vc.coefNow_flash (s : Vc) (d : Desc) (buf : HostBuf) : (Vc.coefNow s d buf).flash = s.flash := by
  simp [Vc.coefNow]

@[simp] theorem Vc.coefSwap_flash (s : Vc) (id : Nat) : (Vc.coefSwap s id).flash = s.flash := by
  simp [Vc.coefSwap]

@[simp] theorem Vc.swapNow_flash (s : Vc) (d : Desc) : (Vc.swapNow s d).flash = s.flash := by
  simp [Vc.swapNow]

@[simp] theorem Vc.setPoint_flash (s : Vc) (n w : Nat) : (Vc.setPoint s n w).flash = s.flash := by
  simp [Vc.setPoint]

@[simp] theorem Vc.clrLoad_flash (s : Vc) (w : Nat) : (Vc.clrLoad s w).flash = s.flash := by
  simp [Vc.clrLoad]

@[simp] theorem Vc.takeAsdu_flash (s : Vc) (v : Nat) (a : Asdu) : (Vc.takeAsdu s v a).flash = s.flash := by
  simp [Vc.takeAsdu]

@[simp] theorem Vc.svFrame_flash (s : Vc) (f : SvFrame) : (Vc.svFrame s f).flash = s.flash := by
  simp [Vc.svFrame]

@[simp] theorem Vc.toTick_flash (s : Vc) : (Vc.toTick s).flash = s.flash := by
  simp [Vc.toTick]

@[simp] theorem Vc.timeEvent_flash (s : Vc) (f : Fld) (b : Nat) : (Vc.timeEvent s f b).flash = s.flash := by
  simp [Vc.timeEvent]

@[simp] theorem Vc.servoTo_flash (s : Vc) (st : Nat) : (Vc.servoTo s st).flash = s.flash := by
  simp [Vc.servoTo]

@[simp] theorem Vc.moveVt_flash (s : Vc) (v : Nat) : (Vc.moveVt s v).flash = s.flash := rfl

@[simp] theorem Vc.stepVt_flash (s : Vc) (o : Int) : (Vc.stepVt s o).flash = s.flash := by
  simp [Vc.stepVt]

@[simp] theorem Vc.asListen_flash (s : Vc) (o : Int) : (Vc.asListen s o).flash = s.flash := by
  simp [Vc.asListen]

@[simp] theorem Vc.steer_flash (s : Vc) (o dt : Int) : (Vc.steer s o dt).flash = s.flash := by
  simp [Vc.steer]

@[simp] theorem Vc.lockEnd_flash (s : Vc) (o : Int) : (Vc.lockEnd s o).flash = s.flash := by
  simp [Vc.lockEnd]

@[simp] theorem Vc.useSync_flash (s : Vc) (o master : Int) : (Vc.useSync s o master).flash = s.flash := by
  simp [Vc.useSync]

@[simp] theorem Vc.heard_flash (s : Vc) (p : Bool) : (Vc.heard s p).flash = s.flash := by
  unfold Vc.heard
  with_reducible rfl

@[simp] theorem Vc.syncComplete1588_flash (s : Vc) (rx : Int) (master : Int) : (Vc.syncComplete1588 s rx master).flash = s.flash := by
  simp [Vc.syncComplete1588]

@[simp] theorem Vc.ptpSync_flash (s : Vc) (m : PtpMsg) : (Vc.ptpSync s m).flash = s.flash := by
  simp [Vc.ptpSync]

@[simp] theorem Vc.ptpFollowUp_flash (s : Vc) (m : PtpMsg) : (Vc.ptpFollowUp s m).flash = s.flash := by
  unfold Vc.ptpFollowUp
  dsimp only
  split <;> simp

@[simp] theorem Vc.holdover_flash (s : Vc) (f : Fld) : (Vc.holdover s f).flash = s.flash := by
  simp [Vc.holdover]

@[simp] theorem Vc.bmca_flash (s : Vc) : (Vc.bmca s).flash = s.flash := by
  unfold Vc.bmca
  dsimp only
  (repeat' split) <;> simp

@[simp] theorem Vc.ptpAnnounce_flash (s : Vc) (m : PtpMsg) (g : GmData) : (Vc.ptpAnnounce s m g).flash = s.flash := by
  simp [Vc.ptpAnnounce]

@[simp] theorem Vc.syncTimeout1588_flash (s : Vc) : (Vc.syncTimeout1588 s).flash = s.flash := by
  simp [Vc.syncTimeout1588]

@[simp] theorem Vc.announceTimeout_flash (s : Vc) : (Vc.announceTimeout s).flash = s.flash := by
  unfold Vc.announceTimeout
  split <;> simp

@[simp] theorem Vc.pdelayTimeout_flash (s : Vc) : (Vc.pdelayTimeout s).flash = s.flash := by
  unfold Vc.pdelayTimeout
  split <;> simp

@[simp] theorem Vc.pdelaySend_flash (s : Vc) : (Vc.pdelaySend s).flash = s.flash := by
  simp [Vc.pdelaySend]

@[simp] theorem Vc.pdelayReqRx_flash (s : Vc) (m : PtpMsg) : (Vc.pdelayReqRx s m).flash = s.flash := by
  simp [Vc.pdelayReqRx]

@[simp] theorem Vc.pdelayDone_flash (s : Vc) (d2 : Int) : (Vc.pdelayDone s d2).flash = s.flash := by
  simp [Vc.pdelayDone]

@[simp] theorem Vc.pdelayResp_flash (s : Vc) (m : PtpMsg) (followUp : Bool) : (Vc.pdelayResp s m followUp).flash = s.flash := by
  unfold Vc.pdelayResp
  first
    | with_reducible rfl
    | (simp; done)
    | ((repeat' split) <;> first | with_reducible rfl | (simp; done) | (simp_all; done))
    | (repeat' (first
        | with_reducible rfl
        | (simp; done)
        | (dsimp only; refine (foldl_flash _ ?_ _ _).trans ?_ <;> intros)
        | (dsimp only; refine (foldl1_flash _ ?_ _ _).trans ?_ <;> intros)
        | (refine (forN_flash _ _ _ ?_).trans ?_ <;> intros)
        | split
        | (intros; split)
        | (simp; split)
        | (simp; intros; split)))

@[simp] theorem Vc.stepApply_flash (s : Vc) : (Vc.stepApply s).flash = s.flash := by
  simp [Vc.stepApply]

@[simp] theorem Vc.ptpEnable_flash (s : Vc) (en : Bool) : (Vc.ptpEnable s en).flash = s.flash := by
  simp [Vc.ptpEnable]

@[simp] theorem Vc.timeCfg_flash (s : Vc) (w : Nat) : (Vc.timeCfg s w).flash = s.flash := by
  simp [Vc.timeCfg]

@[simp] theorem Vc.rearm_flash (s : Vc) : (Vc.rearm s).flash = s.flash := by
  simp [Vc.rearm]

@[simp] theorem Vc.timeCtrl_flash (s : Vc) (w : Nat) : (Vc.timeCtrl s w).flash = s.flash := by
  simp [Vc.timeCtrl]

@[simp] theorem Vc.rateWrite_flash (s : Vc) (high : Bool) (w : Nat) (addr : Nat) : (Vc.rateWrite s high w addr).flash = s.flash := by
  simp [Vc.rateWrite]

@[simp] theorem Vc.setItem_flash (s : Vc) (j : Nat) (x : ItemSt) : (Vc.setItem s j x).flash = s.flash := by
  unfold Vc.setItem
  with_reducible rfl

@[simp] theorem Vc.setRun_flash (s : Vc) (n : Nat) (r : Option Run) : (Vc.setRun s n r).flash = s.flash := by
  unfold Vc.setRun
  with_reducible rfl

@[simp] theorem Vc.setHart_flash (s : Vc) (n : Nat) (h : Hart) : (Vc.setHart s n h).flash = s.flash := by
  unfold Vc.setHart
  with_reducible rfl

@[simp] theorem Vc.setItemState_flash (s : Vc) (j st : Nat) : (Vc.setItemState s j st).flash = s.flash := by
  simp [Vc.setItemState]

@[simp] theorem Vc.ctlResult_flash (s : Vc) (host : Bool) (j r : Nat) : (Vc.ctlResult s host j r).flash = s.flash := by
  simp [Vc.ctlResult]

@[simp] theorem Vc.itemArm_flash (s : Vc) (j : Nat) (host : Bool) : (Vc.itemArm s j host).flash = s.flash := by
  simp [Vc.itemArm]

@[simp] theorem Vc.itemFree_flash (s : Vc) (j : Nat) (host : Bool) : (Vc.itemFree s j host).flash = s.flash := by
  simp [Vc.itemFree]

@[simp] theorem Vc.itemCancel_flash (s : Vc) (j : Nat) (host : Bool) : (Vc.itemCancel s j host).flash = s.flash := by
  unfold Vc.itemCancel
  with_reducible rfl

@[simp] theorem Vc.ctlOver_flash (s : Vc) : (Vc.ctlOver s).flash = s.flash := by
  unfold Vc.ctlOver
  with_reducible rfl

@[simp] theorem Vc.itemCtl_flash (s : Vc) (w : Nat) : (Vc.itemCtl s w).flash = s.flash := by
  unfold Vc.itemCtl
  (repeat' split) <;> simp

@[simp] theorem Vc.freeFrame_flash (s : Vc) (j : Nat) : (Vc.freeFrame s j).flash = s.flash := by
  unfold Vc.freeFrame
  with_reducible rfl

@[simp] theorem Vc.startRun_flash (s : Vc) (n j : Nat) (swap : Nat) : (Vc.startRun s n j swap).flash = s.flash := by
  simp [Vc.startRun]

@[simp] theorem Vc.saveFrame_flash (s : Vc) (n j : Nat) : (Vc.saveFrame s n j).flash = s.flash := by
  unfold Vc.saveFrame
  with_reducible rfl

@[simp] theorem Vc.dispatch_flash (s : Vc) : (Vc.dispatch s).flash = s.flash := by
  unfold Vc.dispatch
  refine forN_flash _ _ _ fun s a => ?_
  split
  · rfl
  · split <;> simp

@[simp] theorem Vc.preemptOnce_flash (s : Vc) : (Vc.preemptOnce s).flash = s.flash := by
  unfold Vc.preemptOnce
  (repeat' split) <;> simp

@[simp] theorem Vc.decrease_flash (s : Vc) (j : Nat) : (Vc.decrease s j).flash = s.flash := by
  unfold Vc.decrease
  split <;> simp

@[simp] theorem Vc.dropItem_flash (s : Vc) (j : Nat) : (Vc.dropItem s j).flash = s.flash := by
  unfold Vc.dropItem
  dsimp only
  rw [Vc.freeFrame_flash]
  refine forN_flash _ _ _ ?_
  intro s n
  split
  · split <;> simp
  · rfl

@[simp] theorem Vc.succPolicies_flash (s : Vc) (j : Nat) : (s.succPolicies j).1.flash = s.flash := by
  unfold Vc.succPolicies
  refine (foldl1_flash _ ?_ _ _).trans rfl
  intro p e
  split <;> simp

@[simp] theorem Vc.cancelOne_flash (p : Vc × List Nat) (e : Nat × Bool × Bool) : (Vc.cancelOne p e).1.flash = p.1.flash := by
  unfold Vc.cancelOne
  dsimp only
  split
  · simp
  · split <;> simp

@[simp] theorem Vc.cancelWaves_flash (n : Nat) : ∀ (s : Vc) (l : List (Nat × Bool × Bool)), (Vc.cancelWaves n s l).flash = s.flash := by
  induction n with
  | zero => intro s l; rfl
  | succ n ih =>
    intro s l
    unfold Vc.cancelWaves
    repeat' (first | with_reducible rfl | (simp [ih]; done) | split)

@[simp] theorem Vc.complete_flash (s : Vc) (x : Notice) : (Vc.complete s x).flash = s.flash := by
  simp [Vc.complete]

@[simp] theorem Vc.trapItem_flash (s : Vc) (x : Notice) (cause tval : Nat) : (Vc.trapItem s x cause tval).flash = s.flash := by
  simp [Vc.trapItem]

@[simp] theorem Vc.applySetpoints_flash (s : Vc) (js : List Nat) : (Vc.applySetpoints s js).flash = s.flash := by
  simp [Vc.applySetpoints]

@[simp] theorem Vc.makeReady_flash (s : Vc) : (Vc.makeReady s).flash = s.flash := by
  simp [Vc.makeReady]

@[simp] theorem Vc.applyNotice_flash (s : Vc) (x : Notice) : (Vc.applyNotice s x).flash = s.flash := by
  unfold Vc.applyNotice
  split <;> simp

@[simp] theorem Vc.schedEnd_flash (s : Vc) : (Vc.schedEnd s).flash = s.flash := by
  simp [Vc.schedEnd]

@[simp] theorem Vc.missAct_flash (s : Vc) (j : Nat) : (Vc.missAct s j).flash = s.flash := by
  unfold Vc.missAct
  dsimp only
  split <;> simp

@[simp] theorem Vc.schedRest_flash (s : Vc) (traps : List (Nat × Bool × Bool)) : (Vc.schedRest s traps).flash = s.flash := by
  simp [Vc.schedRest]

@[simp] theorem Vc.schedCommit_flash (s : Vc) (k : Nat) : (Vc.schedCommit s k).flash = s.flash := by
  simp [Vc.schedCommit]

@[simp] theorem Vc.coreEnds_flash (s : Vc) (n result : Nat) (trap : Option (Nat × Nat)) (late odd : BitVec 3) :
    (Vc.coreEnds s n result trap late odd).flash = s.flash := by
  unfold Vc.coreEnds
  split <;> simp

@[simp] theorem Vc.coreSetpoint_flash (s : Vc) (n sp v : Nat) : (Vc.coreSetpoint s n sp v).flash = s.flash := by
  unfold Vc.coreSetpoint
  split <;> simp

@[simp] theorem Vc.deadlineCancel_flash (s : Vc) (j : Nat) : (Vc.deadlineCancel s j).flash = s.flash := by
  simp [Vc.deadlineCancel]

@[simp] theorem Vc.deadlineMiss_flash (s : Vc) (j : Nat) : (Vc.deadlineMiss s j).flash = s.flash := by
  simp [Vc.deadlineMiss]

@[simp] theorem Vc.setDie_flash (s : Vc) (d st : Nat) : (Vc.setDie s d st).flash = s.flash := by
  simp [Vc.setDie]

@[simp] theorem Vc.resetDie_flash (s : Vc) (d st : Nat) : (Vc.resetDie s d st).flash = s.flash := by
  simp [Vc.resetDie]

@[simp] theorem Vc.abandonCopy_flash (s : Vc) : (Vc.abandonCopy s).flash = s.flash := by
  simp [Vc.abandonCopy]

@[simp] theorem Vc.voteLost_flash (s : Vc) (f : Fld) (b : Nat) (pre : List Rec) : (Vc.voteLost s f b pre).flash = s.flash := by
  simp [Vc.voteLost]

@[simp] theorem Vc.doubleFault_flash (s : Vc) (ds : List Nat) : (Vc.doubleFault s ds).flash = s.flash := by
  simp [Vc.doubleFault]

@[simp] theorem Vc.dieFault_flash (s : Vc) (d : Nat) : (Vc.dieFault s d).flash = s.flash := by
  unfold Vc.dieFault
  (repeat' split) <;> simp

@[simp] theorem Vc.dieFaults_flash (s : Vc) (ds : List Nat) : (Vc.dieFaults s ds).flash = s.flash := by
  unfold Vc.dieFaults
  (repeat' split) <;> simp

@[simp] theorem Vc.realignFail_flash (s : Vc) (d : Nat) : (Vc.realignFail s d).flash = s.flash := by
  simp [Vc.realignFail]

@[simp] theorem Vc.channelDown_flash (s : Vc) (d : Nat) : (Vc.channelDown s d).flash = s.flash := by
  simp [Vc.channelDown]

@[simp] theorem Vc.flitRx_flash (s : Vc) (d data crc : Nat) (replay : Bool) : (Vc.flitRx s d data crc replay).flash = s.flash := by
  simp [Vc.flitRx]

@[simp] theorem Vc.selfTestDone_flash (s : Vc) (d : Nat) (pass : Bool) : (Vc.selfTestDone s d pass).flash = s.flash := by
  simp [Vc.selfTestDone]

@[simp] theorem Vc.voterCtrl_flash (s : Vc) (w : Nat) : (Vc.voterCtrl s w).flash = s.flash := by
  simp [Vc.voterCtrl]

@[simp] theorem Vc.copyTick_flash (s : Vc) : (Vc.copyTick s).flash = s.flash := by
  simp [Vc.copyTick]

@[simp] theorem Vc.copyDone_flash (s : Vc) (d : Nat) (agrees : Bool) : (Vc.copyDone s d agrees).flash = s.flash := by
  simp [Vc.copyDone]

@[simp] theorem Vc.voteEnd_flash (s : Vc) (bad : List Nat) (split : Bool) : (Vc.voteEnd s bad split).flash = s.flash := by
  simp [Vc.voteEnd]

@[simp] theorem Vc.voteTick_flash (s : Vc) (dies : List DieData) (reqs far : List Nat) : (Vc.voteTick s dies reqs far).flash = s.flash := by
  simp [Vc.voteTick]

@[simp] theorem Vc.cascCopies_flash (s : Vc) (bad : Nat) : (Vc.cascCopies s bad).1.flash = s.flash := by
  unfold Vc.cascCopies
  split <;> simp

@[simp] theorem Vc.cascOff_flash (s : Vc) : (Vc.cascOff s).flash = s.flash := by
  simp [Vc.cascOff]

@[simp] theorem Vc.cascFail_flash (s : Vc) (f : Fld) (b : Nat) : (Vc.cascFail s f b).flash = s.flash := by
  simp [Vc.cascFail]

@[simp] theorem Vc.setVcId_flash (s : Vc) (id : Nat) : (Vc.setVcId s id).flash = s.flash := by
  simp [Vc.setVcId]

@[simp] theorem Vc.noMember_flash (s : Vc) : (Vc.noMember s).flash = s.flash := by
  simp [Vc.noMember]

@[simp] theorem Vc.cascStart_flash (s : Vc) : (Vc.cascStart s).flash = s.flash := by
  simp [Vc.cascStart]

@[simp] theorem Vc.cascStop_flash (s : Vc) : (Vc.cascStop s).flash = s.flash := by
  simp [Vc.cascStop]

@[simp] theorem Vc.cascCtrl_flash (s : Vc) (w : Nat) : (Vc.cascCtrl s w).flash = s.flash := by
  simp [Vc.cascCtrl]

@[simp] theorem Vc.enumFrame_flash (s : Vc) (id count bad : Nat) : (Vc.enumFrame s id count bad).flash = s.flash := by
  simp [Vc.enumFrame]

@[simp] theorem Vc.enumAck_flash (s : Vc) (acks : List (Nat × Nat)) (bad : Nat) : (Vc.enumAck s acks bad).flash = s.flash := by
  simp [Vc.enumAck]

@[simp] theorem Vc.enumTimeout_flash (s : Vc) : (Vc.enumTimeout s).flash = s.flash := by
  simp [Vc.enumTimeout]

@[simp] theorem Vc.tickAlign_flash (s : Vc) (delay vt tickNo tickOfs : Nat) : (Vc.tickAlign s delay vt tickNo tickOfs).flash = s.flash := by
  simp [Vc.tickAlign]

@[simp] theorem Vc.cascReady_flash (s : Vc) : (Vc.cascReady s).flash = s.flash := by
  simp [Vc.cascReady]

@[simp] theorem Vc.cascLaneLost_flash (s : Vc) (l : Nat) (unit : Rec) : (Vc.cascLaneLost s l unit).flash = s.flash := by
  simp [Vc.cascLaneLost]

@[simp] theorem Vc.cascForward_flash (s : Vc) (kind : Nat) (ws : List Nat) : (Vc.cascForward s kind ws).flash = s.flash := by
  simp [Vc.cascForward]

@[simp] theorem Vc.armNotes_flash (s : Vc) (notes : List ArmNote) (bad : Nat) : (Vc.armNotes s notes bad).flash = s.flash := by
  simp [Vc.armNotes]

@[simp] theorem Vc.cascCommands_flash (s : Vc) (dest : Nat) (cmds : List (Nat × Nat)) (bad : Nat) : (Vc.cascCommands s dest cmds bad).flash = s.flash := by
  simp [Vc.cascCommands]

@[simp] theorem Vc.sliceRx_flash (s : Vc) (home vc str : Nat) (ws : List Nat) (bad : Nat) : (Vc.sliceRx s home vc str ws bad).flash = s.flash := by
  simp [Vc.sliceRx]

@[simp] theorem Vc.cascValue_flash (s : Vc) (origin slot value period bad : Nat) : (Vc.cascValue s origin slot value period bad).flash = s.flash := by
  simp [Vc.cascValue]

@[simp] theorem Vc.memberStatus_flash (s : Vc) (vc conds : Nat) (strs : List RemStr) (bad : Nat) : (Vc.memberStatus s vc conds strs bad).flash = s.flash := by
  simp [Vc.memberStatus]

@[simp] theorem Vc.cascVals_flash (s : Vc) : (Vc.cascVals s).flash = s.flash := by
  unfold Vc.cascVals
  with_reducible rfl

@[simp] theorem Vc.sliceCommit_flash (s : Vc) (sl : List (Nat × Nat)) : (Vc.sliceCommit s sl).flash = s.flash := by
  unfold Vc.sliceCommit
  first
    | with_reducible rfl
    | (simp; done)
    | ((repeat' split) <;> first | with_reducible rfl | (simp; done) | (simp_all; done))
    | (repeat' (first
        | with_reducible rfl
        | (simp; done)
        | (dsimp only; refine (foldl_flash _ ?_ _ _).trans ?_ <;> intros)
        | (dsimp only; refine (foldl1_flash _ ?_ _ _).trans ?_ <;> intros)
        | (refine (forN_flash _ _ _ ?_).trans ?_ <;> intros)
        | split
        | (intros; split)
        | (simp; split)
        | (simp; intros; split)))

@[simp] theorem Vc.noteFacet_flash (s : Vc) (was st i : Nat) : (Vc.noteFacet s was st i).flash = s.flash := by
  unfold Vc.noteFacet
  split
  · split <;> simp
  · split <;> simp

@[simp] theorem Vc.noteCommit_flash (s : Vc) (n : ArmNote) : (Vc.noteCommit s n).flash = s.flash := by
  unfold Vc.noteCommit
  dsimp only
  split
  · rfl
  · refine (forN_flash _ _ _ ?_).trans rfl
    intro s m
    split <;> simp

@[simp] theorem Vc.cascSlices_flash (s : Vc) : (Vc.cascSlices s).flash = s.flash := by
  simp [Vc.cascSlices]

@[simp] theorem Vc.cascIssue_flash (s : Vc) (iss : List Issue) : (Vc.cascIssue s iss).flash = s.flash := by
  simp [Vc.cascIssue]

@[simp] theorem Vc.setArea_flash (s : Vc) (a : Nat) (x : ApArea) : (Vc.setArea s a x).flash = s.flash := by
  unfold Vc.setArea
  with_reducible rfl

@[simp] theorem Vc.apTo_flash (s : Vc) (st : Nat) : (Vc.apTo s st).flash = s.flash := by
  simp [Vc.apTo]

@[simp] theorem Vc.apWrite_flash (s : Vc) (e : ApEnt) : (Vc.apWrite s e).flash = s.flash := by
  unfold Vc.apWrite
  split <;> simp

@[simp] theorem Vc.apChange_flash (s : Vc) (vt n tag v : Nat) : (Vc.apChange s vt n tag v).flash = s.flash := by
  simp [Vc.apChange]

@[simp] theorem Vc.fullSet_flash (s : Vc) (vt : Nat) : (Vc.fullSet s vt).flash = s.flash := by
  unfold Vc.fullSet
  repeat' (first | with_reducible rfl | (simp; done) | split | (dsimp only; refine (foldl_flash _ ?_ _ _).trans ?_ <;> intros))

@[simp] theorem Vc.takeArea_flash (s : Vc) (a vt : Nat) : (Vc.takeArea s a vt).flash = s.flash := by
  simp [Vc.takeArea]

@[simp] theorem Vc.apFacets_flash (s : Vc) : (Vc.apFacets s).flash = s.flash := by
  simp [Vc.apFacets]

@[simp] theorem Vc.apRelease_flash (s : Vc) (a : Nat) : (Vc.apRelease s a).flash = s.flash := by
  simp [Vc.apRelease]

@[simp] theorem Vc.apReadNow_flash (s : Vc) (d : Desc) : (Vc.apReadNow s d).flash = s.flash := by
  simp [Vc.apReadNow]

@[simp] theorem Vc.apServe_flash (s : Vc) (a : Nat) : (Vc.apServe s a).flash = s.flash := by
  simp [Vc.apServe]

@[simp] theorem Vc.ignoreTrig_flash (s : Vc) : (Vc.ignoreTrig s).flash = s.flash := by
  simp [Vc.ignoreTrig]

@[simp] theorem Vc.takeTrig_flash (s : Vc) (mask : Nat) : (Vc.takeTrig s mask).flash = s.flash := by
  simp [Vc.takeTrig]

@[simp] theorem Vc.areaDone_flash (s : Vc) (trunc : Bool) : (Vc.areaDone s trunc).flash = s.flash := by
  simp [Vc.areaDone]

@[simp] theorem Vc.apStopNow_flash (s : Vc) : (Vc.apStopNow s).flash = s.flash := by
  simp [Vc.apStopNow]

@[simp] theorem Vc.apClear_flash (s : Vc) : (Vc.apClear s).flash = s.flash := by
  unfold Vc.apClear
  with_reducible rfl

@[simp] theorem Vc.apTake_flash (p : Vc × List (Nat × Nat × Option Nat)) (e : Nat × Nat × Nat) : (Vc.apTake p e).1.flash = p.1.flash := by
  unfold Vc.apTake
  dsimp only
  split
  · split <;> simp
  · simp

@[simp] theorem Vc.apTrigs_flash (s : Vc) (mask : Nat) : (Vc.apTrigs s mask).flash = s.flash := by
  unfold Vc.apTrigs
  split <;> simp

@[simp] theorem Vc.apSamplePoint_flash (s : Vc) : (Vc.apSamplePoint s).flash = s.flash := by
  simp [Vc.apSamplePoint]

@[simp] theorem Vc.apStart_flash (s : Vc) : (Vc.apStart s).flash = s.flash := by
  simp [Vc.apStart]

@[simp] theorem Vc.apCtrl_flash (s : Vc) (w : Nat) : (Vc.apCtrl s w).flash = s.flash := by
  simp [Vc.apCtrl]

@[simp] theorem Vc.apRead_flash (s : Vc) (id : Nat) : (Vc.apRead s id).flash = s.flash := by
  simp [Vc.apRead]

@[simp] theorem Vc.apAreaComplete_flash (s : Vc) : (Vc.apAreaComplete s).flash = s.flash := by
  simp [Vc.apAreaComplete]

@[simp] theorem Vc.holdoffEnd_flash (s : Vc) : (Vc.holdoffEnd s).flash = s.flash := by
  unfold Vc.holdoffEnd
  (repeat' split) <;> simp

@[simp] theorem Vc.nopDesc_flash (s : Vc) (id : Nat) : (Vc.nopDesc s id).flash = s.flash := by
  simp [Vc.nopDesc]

@[simp] theorem Vc.deblock_flash (s : Vc) : (Vc.deblock s).flash = s.flash := by
  simp [Vc.deblock]

@[simp] theorem Vc.valveCtl_flash (s : Vc) (id op : Nat) : (Vc.valveCtl s id op).flash = s.flash := by
  simp [Vc.valveCtl]

@[simp] theorem Vc.deblockNow_flash (s : Vc) (id : Nat) : (Vc.deblockNow s id).flash = s.flash := by
  simp [Vc.deblockNow]

@[simp] theorem Vc.valveNow_flash (s : Vc) (d : Desc) : (Vc.valveNow s d).flash = s.flash := by
  simp [Vc.valveNow]

@[simp] theorem Vc.cellClear_flash (s : Vc) (id : Nat) : (Vc.cellClear s id).flash = s.flash := by
  simp [Vc.cellClear]

@[simp] theorem Vc.clearNow_flash (s : Vc) (d : Desc) : (Vc.clearNow s d).flash = s.flash := by
  simp [Vc.clearNow]

@[simp] theorem Vc.cellClearDone_flash (s : Vc) (id : Nat) : (Vc.cellClearDone s id).flash = s.flash := by
  unfold Vc.cellClearDone
  split <;> simp

@[simp] theorem Vc.cellMsg_flash (s : Vc) (id op : Nat) (buf : HostBuf) : (Vc.cellMsg s id op buf).flash = s.flash := by
  simp [Vc.cellMsg]

@[simp] theorem Vc.snapshot_flash (s : Vc) (id : Nat) : (Vc.snapshot s id).flash = s.flash := by
  simp [Vc.snapshot]

@[simp] theorem Vc.snapNow_flash (s : Vc) (d : Desc) : (Vc.snapNow s d).flash = s.flash := by
  simp [Vc.snapNow]

@[simp] theorem Vc.setComp_flash (s : Vc) (p : Nat) (x : Comp) : (Vc.setComp s p x).flash = s.flash := by
  unfold Vc.setComp
  with_reducible rfl

@[simp] theorem Vc.accEnd_flash (s : Vc) (p result data : Nat) : (Vc.accEnd s p result data).flash = s.flash := by
  simp [Vc.accEnd]

@[simp] theorem Vc.portMiss_flash (s : Vc) (p : Nat) : (Vc.portMiss s p).flash = s.flash := by
  simp [Vc.portMiss]

@[simp] theorem Vc.portRequest_flash (s : Vc) (p : Nat) : (Vc.portRequest s p).flash = s.flash := by
  simp [Vc.portRequest]

@[simp] theorem Vc.companionRequest_flash (s : Vc) : (Vc.companionRequest s).flash = s.flash := by
  simp [Vc.companionRequest]

@[simp] theorem Vc.companionResponse_flash (s : Vc) (p w0 w1 : Nat) : (Vc.companionResponse s p w0 w1).flash = s.flash := by
  unfold Vc.companionResponse
  first
    | with_reducible rfl
    | (simp; done)
    | ((repeat' split) <;> first | with_reducible rfl | (simp; done) | (simp_all; done))
    | (repeat' (first
        | with_reducible rfl
        | (simp; done)
        | (dsimp only; refine (foldl_flash _ ?_ _ _).trans ?_ <;> intros)
        | (dsimp only; refine (foldl1_flash _ ?_ _ _).trans ?_ <;> intros)
        | (refine (forN_flash _ _ _ ?_).trans ?_ <;> intros)
        | split
        | (intros; split)
        | (simp; split)
        | (simp; intros; split)))

@[simp] theorem Vc.companionAccess_flash (s : Vc) (p w : Nat) : (Vc.companionAccess s p w).flash = s.flash := by
  simp [Vc.companionAccess]

@[simp] theorem Vc.companionCfg_flash (s : Vc) (w : Nat) : (Vc.companionCfg s w).flash = s.flash := by
  simp [Vc.companionCfg]

@[simp] theorem Vc.permitCheck_flash (s : Vc) : (Vc.permitCheck s).flash = s.flash := by
  simp [Vc.permitCheck]

@[simp] theorem Vc.bootErr_flash (s : Vc) (f : Fld) (b : Nat) : (Vc.bootErr s f b).flash = s.flash := by
  simp [Vc.bootErr]

@[simp] theorem Vc.imageBad_flash (s : Vc) (slot code : Nat) : (Vc.imageBad s slot code).flash = s.flash := by
  simp [Vc.imageBad]

@[simp] theorem Vc.raiseSvn_flash (s : Vc) (svn : Nat) : (Vc.raiseSvn s svn).flash = s.flash := by
  simp [Vc.raiseSvn]

@[simp] theorem Vc.showPtr_flash (s : Vc) : (Vc.showPtr s).flash = s.flash := by
  simp [Vc.showPtr]

@[simp] theorem Vc.xFail_flash (s : Vc) (k : XKind) : (Vc.xFail s k).flash = s.flash := by
  unfold Vc.xFail
  (repeat' split) <;> simp

@[simp] theorem Vc.receiving_flash (s : Vc) (k : XKind) : (Vc.receiving s k).flash = s.flash := by
  unfold Vc.receiving
  split <;> simp

@[simp] theorem Vc.afterReset_flash (s : Vc) (cause : Nat) : (Vc.afterReset s cause).flash = s.flash := by
  simp [Vc.afterReset]

@[simp] theorem Vc.resetKeep_flash (s : Vc) : (Vc.resetKeep s).flash = s.flash := by
  unfold Vc.resetKeep
  with_reducible rfl

@[simp] theorem Vc.holdDies_flash (s : Vc) (ds : List Nat) : (Vc.holdDies s ds).flash = s.flash := by
  simp [Vc.holdDies]

@[simp] theorem Vc.putPart_flash (s : Vc) (p : Part) (w i j : Nat) : (Vc.putPart s p w i j).flash = s.flash := by
  unfold Vc.putPart
  split <;> simp

@[simp] theorem Vc.putRow_flash (s : Vc) (r : Row) (w i j : Nat) : (Vc.putRow s r w i j).flash = s.flash := by
  simp [Vc.putRow]

@[simp] theorem Vc.putIf_flash (s : Vc) (ok : Bool) (r : Row) (addr w i j : Nat) : (Vc.putIf s ok r addr w i j).flash = s.flash := by
  simp [Vc.putIf]

@[simp] theorem Vc.tickCfg_flash (s : Vc) (r : Row) (addr w : Nat) : (Vc.tickCfg s r addr w).flash = s.flash := by
  simp [Vc.tickCfg]

@[simp] theorem Vc.violInfo_flash (s : Vc) (r : Row) (w : Nat) : (Vc.violInfo s r w).flash = s.flash := by
  simp [Vc.violInfo]

@[simp] theorem Vc.clrSummary_flash (s : Vc) (w : Nat) : (Vc.clrSummary s w).flash = s.flash := by
  simp [Vc.clrSummary]

@[simp] theorem Vc.lensCfg_flash (s : Vc) (r : Row) (addr w : Nat) : (Vc.lensCfg s r addr w).flash = s.flash := by
  simp [Vc.lensCfg]

@[simp] theorem Vc.svCtl_flash (s : Vc) (r : Row) (addr w v : Nat) : (Vc.svCtl s r addr w v).flash = s.flash := by
  simp [Vc.svCtl]

@[simp] theorem Vc.supCfg_flash (s : Vc) (r : Row) (addr w c : Nat) : (Vc.supCfg s r addr w c).flash = s.flash := by
  simp [Vc.supCfg]

@[simp] theorem Vc.armCfg_flash (s : Vc) (r : Row) (addr w a j : Nat) : (Vc.armCfg s r addr w a j).flash = s.flash := by
  simp [Vc.armCfg]

@[simp] theorem Vc.protCfg_flash (s : Vc) (r : Row) (w i j : Nat) : (Vc.protCfg s r w i j).flash = s.flash := by
  simp [Vc.protCfg]

@[simp] theorem Vc.trimDelays_flash (s : Vc) (n : Nat) : (Vc.trimDelays s n).flash = s.flash := by
  simp [Vc.trimDelays]

@[simp] theorem Vc.laneCfg_flash (s : Vc) (r : Row) (addr w l j : Nat) (eq : Bool) : (Vc.laneCfg s r addr w l j eq).flash = s.flash := by
  simp [Vc.laneCfg]

@[simp] theorem Vc.tsrcCfg_flash (s : Vc) (r : Row) (addr w t : Nat) : (Vc.tsrcCfg s r addr w t).flash = s.flash := by
  simp [Vc.tsrcCfg]

@[simp] theorem Vc.apCfg_flash (s : Vc) (r : Row) (addr w i : Nat) : (Vc.apCfg s r addr w i).flash = s.flash := by
  simp [Vc.apCfg]

@[simp] theorem Vc.readRow_flash (s : Vc) (r : Row) (addr i j : Nat) : (Vc.readRow s r addr i j).1.flash = s.flash := by
  unfold Vc.readRow
  (repeat' split) <;> simp

@[simp] theorem Vc.badRead_flash (s : Vc) (cause addr req byteEn : Nat) : (Vc.badRead s cause addr req byteEn).flash = s.flash := by
  simp [Vc.badRead]

@[simp] theorem Vc.answerRead_flash (x : Vc × Nat) : (Vc.answerRead x).flash = x.1.flash := by
  unfold Vc.answerRead
  simp

@[simp] theorem Vc.windowAt_flash (s : Vc) (addr : Nat) : (Vc.windowAt s addr).1.flash = s.flash := by
  simp [Vc.windowAt]

@[simp] theorem Vc.barRead_flash (s : Vc) (req addr byteEn : Nat) : (Vc.barRead s req addr byteEn).flash = s.flash := by
  unfold Vc.barRead
  split
  · simp only [Vc.badRead_flash]
  · split
    · simp only [Vc.answerRead_flash, Vc.windowAt_flash]
    · split
      · simp only [Vc.badRead_flash]
      · simp only [Vc.answerRead_flash, Vc.readRow_flash]

@[simp] theorem Vc.pcieRead_flash (s : Vc) (req : Nat) (addr : PcieAddr) (byteEn : Nat) : (Vc.pcieRead s req addr byteEn).flash = s.flash := by
  unfold Vc.pcieRead
  split <;> simp

@[simp] theorem Vc.tcmWrite_flash (s : Vc) (k size v : Nat) : (Vc.tcmWrite s k size v).flash = s.flash := by
  unfold Vc.tcmWrite
  dsimp only

@[simp] theorem Vc.coreNext_flash (s : Vc) (n : Nat) (h : Hart) : (Vc.coreNext s n h).flash = s.flash := by
  simp [Vc.coreNext]

@[simp] theorem Vc.coreTrap_flash (s : Vc) (n cause tval : Nat) : (Vc.coreTrap s n cause tval).flash = s.flash := by
  simp [Vc.coreTrap]

theorem Vc.itemTableWrite_flash {s t : Vc} {a v : Nat} (h : s.itemTableWrite a v = some t) : t.flash = s.flash := by
  unfold Vc.itemTableWrite at h
  split at h
  · split at h
    · obtain rfl := Option.some.inj h
      simp
    · cases h
  · cases h

theorem Vc.coreItemCtl_flash {s t : Vc} {v : Nat} (h : s.coreItemCtl v = some t) : t.flash = s.flash := by
  unfold Vc.coreItemCtl at h
  split at h
  · obtain rfl := Option.some.inj h; simp
  · cases h

theorem Vc.coreStore_flash {s t : Vc} {n j a size v : Nat} (h : s.coreStore n j a size v = some t) : t.flash = s.flash := by
  unfold Vc.coreStore at h
  split at h
  · obtain rfl := Option.some.inj h; simp
  · split at h
    · cases h
    · split at h
      · dsimp only at h
        split at h
        · obtain rfl := Option.some.inj h; rfl
        · cases h
      · split at h
        · exact Vc.itemTableWrite_flash h
        · split at h
          · exact Vc.coreItemCtl_flash h
          · cases h

@[simp] theorem Vc.coreAct_flash (s : Vc) (n j : Nat) (a : HartAct) : (Vc.coreAct s n j a).flash = s.flash := by
  unfold Vc.coreAct
  split
  · simp
  · split <;> simp
  · split
    · next t h => simp [Vc.coreStore_flash h]
    · simp
  · simp

@[simp] theorem Vc.coreStep_flash (s : Vc) (n : Nat) : (Vc.coreStep s n).flash = s.flash := by
  unfold Vc.coreStep
  split
  · rfl
  · split <;> simp

@[simp] theorem Vc.runCores_flash (s : Vc) : (Vc.runCores s).flash = s.flash := by
  simp [Vc.runCores]

@[simp] theorem Vc.stringHalt_flash (s : Vc) (n : Nat) : (Vc.stringHalt s n).flash = s.flash := by
  simp [Vc.stringHalt]

@[simp] theorem Vc.bootHalt_flash (s : Vc) : (Vc.bootHalt s).flash = s.flash := by
  simp [Vc.bootHalt]

@[simp] theorem Vc.bootSlot_flash (s : Vc) (slot : Nat) (trial fallback : Bool) : (Vc.bootSlot s slot trial fallback).flash = s.flash := by
  simp [Vc.bootSlot]

@[simp] theorem Vc.raisePrimary_flash (s : Vc) (prim : Nat) : (Vc.raisePrimary s prim).flash = s.flash := by
  simp [Vc.raisePrimary]

@[simp] theorem Vc.startCounts_flash (s : Vc) : (Vc.startCounts s).flash = s.flash := by
  simp [Vc.startCounts]

@[simp] theorem Vc.diesSeen_flash (s : Vc) (pass : Nat) : (Vc.diesSeen s pass).flash = s.flash := by
  unfold Vc.diesSeen
  with_reducible rfl

@[simp] theorem Vc.diesStep_flash (s : Vc) (pass : Nat) : (Vc.diesStep s pass).1.flash = s.flash := by
  simp [Vc.diesStep]

@[simp] theorem Vc.settingsDefault_flash (s : Vc) : (Vc.settingsDefault s).flash = s.flash := by
  simp [Vc.settingsDefault]

@[simp] theorem Vc.bootReady_flash (s : Vc) : (Vc.bootReady s).flash = s.flash := by
  simp [Vc.bootReady]

@[simp] theorem Vc.prismTiming_flash (s : Vc) : (Vc.prismTiming s).flash = s.flash := by
  simp [Vc.prismTiming]

@[simp] theorem Vc.facetCommit_flash (s : Vc) : (Vc.facetCommit s).flash = s.flash := by
  simp [Vc.facetCommit]

@[simp] theorem Vc.selectAll_flash (s : Vc) : (Vc.selectAll s).1.flash = s.flash := by
  simp [Vc.selectAll]

@[simp] theorem Vc.memberReport_flash (s : Vc) : (Vc.memberReport s).flash = s.flash := by
  simp [Vc.memberReport]

@[simp] theorem Vc.coreCtlNow_flash (s : Vc) (op j : Nat) : (Vc.coreCtlNow s op j).flash = s.flash := by
  unfold Vc.coreCtlNow
  split <;> simp

@[simp] theorem Vc.tableNow_flash (s : Vc) (addr w : Nat) : (Vc.tableNow s addr w).flash = s.flash := by
  unfold Vc.tableNow
  split <;> simp

@[simp] theorem Vc.typeNow_flash (s : Vc) (d : Desc) (buf : HostBuf) : (Vc.typeNow s d buf).flash = s.flash := by
  unfold Vc.typeNow
  split <;> simp

@[simp] theorem Vc.descNow_flash (s : Vc) (id : Nat) : (Vc.descNow s id).flash = s.flash := by
  unfold Vc.descNow
  (repeat' split) <;> simp

@[simp] theorem Vc.dropHolds_flash (s : Vc) (n p : Nat) : (Vc.dropHolds s n p).flash = s.flash := by
  simp [Vc.dropHolds]

@[simp] theorem Vc.laneBack_flash (s : Vc) (l : Nat) : (Vc.laneBack s l).flash = s.flash := by
  simp [Vc.laneBack]

@[simp] theorem Vc.blockLock_flash (s : Vc) (l : Nat) : (Vc.blockLock s l).flash = s.flash := by
  simp [Vc.blockLock]

@[simp] theorem Vc.linkReturn_flash (s : Vc) (l : Nat) : (Vc.linkReturn s l).flash = s.flash := by
  simp [Vc.linkReturn]

@[simp] theorem Vc.noProgress_flash (s : Vc) (l : Nat) : (Vc.noProgress s l).flash = s.flash := by
  simp [Vc.noProgress]

@[simp] theorem Vc.finalTimeout_flash (s : Vc) (l : Nat) : (Vc.finalTimeout s l).flash = s.flash := by
  simp [Vc.finalTimeout]

@[simp] theorem Vc.lockLost_flash (s : Vc) (l : Nat) : (Vc.lockLost s l).flash = s.flash := by
  simp [Vc.lockLost]

@[simp] theorem Vc.codeRx_flash (s : Vc) (l : Nat) (rx : RxWords) : (Vc.codeRx s l rx).flash = s.flash := by
  simp [Vc.codeRx]

@[simp] theorem Vc.linkFault_flash (s : Vc) (l : Nat) (b : Block) : (Vc.linkFault s l b).flash = s.flash := by
  simp [Vc.linkFault]

@[simp] theorem Vc.probeRx_flash (s : Vc) (l : Nat) (b : Block) (turn : Nat) : (Vc.probeRx s l b turn).flash = s.flash := by
  unfold Vc.probeRx
  split <;> simp

@[simp] theorem Vc.echoBlockRx_flash (s : Vc) (l : Nat) (b : Block) (rttPs : Nat) : (Vc.echoBlockRx s l b rttPs).flash = s.flash := by
  unfold Vc.echoBlockRx
  split <;> simp

@[simp] theorem Vc.startAgain_flash (s : Vc) (l bst wait : Nat) : (Vc.startAgain s l bst wait).flash = s.flash := by
  simp [Vc.startAgain]

@[simp] theorem Vc.frameError_flash (s : Vc) (l : Nat) (f : TrainFrame) : (Vc.frameError s l f).flash = s.flash := by
  simp [Vc.frameError]

@[simp] theorem Vc.trialSlots_flash (s : Vc) (l : Nat) (foms : List (Option Nat)) : (Vc.trialSlots s l foms).flash = s.flash := by
  simp [Vc.trialSlots]

@[simp] theorem Vc.commandFrame_flash (s : Vc) (dest : Nat) (cmds : List (Nat × Nat)) (deblock : Bool) (notes : List ArmNote) (bad : Nat) : (Vc.commandFrame s dest cmds deblock notes bad).flash = s.flash := by
  simp [Vc.commandFrame]

end Sys2Proof.Machine
end

