-- ==== Sys2Proof/Laws/Memory.lean ====
section
/-!
SUPPORT. Laws/Memory.lean: the flash: what its operations read as afterwards, and that each keeps its canonical form.
-/
namespace Sys2Proof.Machine
set_option Elab.async false

@[simp] theorem Memory.read_write_same (m : List Host.Cell) (a : Nat) (b : BitVec 8) :
    Memory.read (Memory.write m a b) a = b := Tab.get_set_same _ _ _ _

theorem Memory.read_write_ne (m : List Host.Cell) (a c : Nat) (b : BitVec 8) (h : c ≠ a) :
    Memory.read (Memory.write m a b) c = Memory.read m c := Tab.get_set_ne _ _ _ _ _ h

theorem Memory.wf_write (m : List Host.Cell) (a : Nat) (b : BitVec 8) (h : Memory.wf m = true) :
    Memory.wf (Memory.write m a b) = true := Tab.wf_set _ _ _ _ h

theorem Memory.wf_erase (m : List Host.Cell) (a n : Nat) (h : Memory.wf m = true) : Memory.wf (Memory.erase m a n) = true :=
  Tab.wf_filter _ _ _ h

theorem Memory.wf_program (m : List Host.Cell) (a : Nat) (bs : List Nat) (h : Memory.wf m = true) :
    Memory.wf (Memory.program m a bs) = true := by
  unfold Memory.program
  suffices ∀ (p : List Host.Cell × Nat), Memory.wf p.1 = true → Memory.wf (bs.foldl (fun (p : List Host.Cell × Nat) b =>
      (Memory.write p.1 p.2 (Memory.read p.1 p.2 &&& BitVec.ofNat 8 b), p.2 + 1)) p).1 = true from this (m, a) h
  induction bs with
  | nil => intro p hp; exact hp
  | cons b bs ih => intro p hp; exact ih _ (Memory.wf_write _ _ _ hp)

theorem Memory.wf_cut (m : List Host.Cell) (use a n : Nat) (h : Memory.wf m = true) : Memory.wf (Memory.cut m use a n) = true := by
  unfold Memory.cut
  generalize List.range n = l
  induction l generalizing m with
  | nil => exact h
  | cons i l ih => exact ih _ (Memory.wf_write _ _ _ h)

theorem Memory.get_filter {α : Type} (d : Nat → α) (p : Nat → Bool) (t : Tab α) (k : Nat) (hk : p k = true) :
    Tab.get d (t.filter fun e => p e.1) k = Tab.get d t k := by
  induction t with
  | nil => rfl
  | cons e t ih =>
    obtain ⟨j, v⟩ := e
    rw [List.filter_cons]
    by_cases hj : p j = true
    · simp only [hj, if_true, Tab.get, ih]
    · have hne : j ≠ k := by rintro rfl; exact hj hk
      simp only [hj, Tab.get, hne, if_false]
      exact ih

/-- An erase leaves the bytes outside its range. -/
theorem Memory.read_erase_out (m : List Host.Cell) (a n c : Nat) (h : c < a ∨ a + n ≤ c) :
    Memory.read (Memory.erase m a n) c = Memory.read m c :=
  Memory.get_filter Memory.blank (fun x => decide (x < a) || decide (a + n ≤ x)) m c (by simpa using h)

/-- An erase makes the bytes of its range read as erased. -/
theorem Memory.read_erase_in (m : List Host.Cell) (a n c : Nat) (h : a ≤ c ∧ c < a + n) :
    Memory.read (Memory.erase m a n) c = 0xFF#8 := by
  unfold Memory.read Memory.erase
  refine Tab.get_absent Memory.blank c _ ?_
  intro e he
  have := (List.mem_filter.1 he).2
  simp only [Bool.or_eq_true, decide_eq_true_eq] at this
  omega

/-- Programming leaves the bytes outside its range. -/
theorem Memory.read_program_out (m : List Host.Cell) (a : Nat) (bs : List Nat) (c : Nat) (h : c < a ∨ a + bs.length ≤ c) :
    Memory.read (Memory.program m a bs) c = Memory.read m c := by
  unfold Memory.program
  induction bs generalizing m a with
  | nil => rfl
  | cons b bs ih =>
    have h' : c < a + 1 ∨ a + 1 + bs.length ≤ c := by simp only [List.length_cons] at h; omega
    have hne : c ≠ a := by simp only [List.length_cons] at h; omega
    rw [List.foldl_cons]
    exact (ih _ _ h').trans (Memory.read_write_ne _ _ _ _ hne)

/-- Programming leaves in each byte of its range the bits that both the old byte and the new have. -/
theorem Memory.read_program_in (m : List Host.Cell) (a : Nat) (bs : List Nat) (i : Nat) (h : i < bs.length) :
    Memory.read (Memory.program m a bs) (a + i) = Memory.read m (a + i) &&& BitVec.ofNat 8 (bs.getD i 0) := by
  induction bs generalizing m a i with
  | nil => simp at h
  | cons b bs ih =>
    have step : Memory.program m a (b :: bs) =
        Memory.program (Memory.write m a (Memory.read m a &&& BitVec.ofNat 8 b)) (a + 1) bs := rfl
    rw [step]
    cases i with
    | zero =>
      rw [Memory.read_program_out _ _ _ _ (Or.inl (by omega))]
      simp
    | succ i =>
      have := ih (Memory.write m a (Memory.read m a &&& BitVec.ofNat 8 b)) (a + 1) i (by simpa using h)
      have e : a + (i + 1) = a + 1 + i := by omega
      rw [e, this, Memory.read_write_ne _ _ _ _ (by omega)]
      simp

theorem Memory.wf_run (o : FOp) (m : List Host.Cell) (h : Memory.wf m = true) : Memory.wf (o.run m) = true := by
  cases o with
  | erase a => exact Memory.wf_erase _ _ _ h
  | prog a bs => exact Memory.wf_program _ _ _ h

theorem Memory.wf_cutOp (o : FOp) (use : Nat) (m : List Host.Cell) (h : Memory.wf m = true) :
    Memory.wf (o.cut use m) = true := by
  cases o with
  | erase a => exact Memory.wf_cut _ _ _ _ h
  | prog a bs => exact Memory.wf_cut _ _ _ _ h

theorem Memory.wf_runs (os : List FOp) (m : List Host.Cell) (h : Memory.wf m = true) :
    Memory.wf (os.foldl (fun m o => o.run m) m) = true := by
  induction os generalizing m with
  | nil => exact h
  | cons o os ih => exact ih _ (Memory.wf_run o m h)

theorem Memory.wf_spoil (m : List Host.Cell) (use a : Nat) (g : BitVec 8) (h : Memory.wf m = true) :
    Memory.wf (Memory.spoil m use a g) = true := Memory.wf_write _ _ _ h

theorem Memory.wf_spoilCopy (m : List Host.Cell) (use a : Nat) (h : Memory.wf m = true) : Memory.wf (spoilCopy m use a) = true :=
  Memory.wf_spoil _ _ _ _ h

end Sys2Proof.Machine
end

