-- ==== Sys2Proof/Laws/FlashWf.lean ====
section
/-!
SUPPORT. Laws/FlashWf.lean: the operations of the VC that write the flash keep it in its canonical form.
-/
namespace Sys2Proof.Machine
set_option Elab.async false
open Reg

theorem foldl_wf {α : Type} (f : Vc → α → Vc) (h : ∀ s a, Memory.wf s.flash = true → Memory.wf (f s a).flash = true) (l : List α) (s : Vc)
    (hs : Memory.wf s.flash = true) : Memory.wf (l.foldl f s).flash = true := by
  induction l generalizing s with
  | nil => exact hs
  | cons a l ih => exact ih _ (h _ _ hs)

theorem forN_wf (n : Nat) (s : Vc) (f : Vc → Nat → Vc) (h : ∀ s a, Memory.wf s.flash = true → Memory.wf (f s a).flash = true)
    (hs : Memory.wf s.flash = true) : Memory.wf (forN n s f).flash = true := foldl_wf f h _ s hs

theorem wf_ite (c : Prop) [Decidable c] (a b : Vc) (ha : Memory.wf a.flash = true) (hb : Memory.wf b.flash = true) :
    Memory.wf (if c then a else b).flash = true := by
  split <;> assumption

theorem wf_ite1 {β : Type} (c : Prop) [Decidable c] (a b : Vc × β) (ha : Memory.wf a.1.flash = true)
    (hb : Memory.wf b.1.flash = true) : Memory.wf (if c then a else b).1.flash = true := by
  split <;> assumption

/-- The ledger's own requests (R314). -/
theorem Vc.wf_writeRecord (s : Vc) (h : Memory.wf s.flash = true) : Memory.wf s.writeRecord.flash = true := by
  unfold Vc.writeRecord
  split
  · exact h
  · simp only [Vc.recordDone_flash]
    exact Memory.wf_runs _ _ h

theorem Vc.wf_ledgerOps (s : Vc) (k : XKind) (ops : List FOp) (ok : Bool) (h : Memory.wf s.flash = true) :
    Memory.wf (s.ledgerOps k ops ok).flash = true := by
  unfold Vc.ledgerOps
  refine wf_ite _ _ _ (wf_ite _ _ _ h (by simpa using h)) (wf_ite _ _ _ (Memory.wf_runs _ _ h) (by simpa using h))

theorem Vc.wf_ledgerFlashWrite (s : Vc) (ok : Bool) (h : Memory.wf s.flash = true) : Memory.wf (s.ledgerFlashWrite ok).flash = true := by
  have h1 := Vc.wf_ledgerOps s .ledgerWrite s.ledgerNext.2 ok h
  unfold Vc.ledgerFlashWrite
  split
  · exact h
  · dsimp only
    generalize s.ledgerOps .ledgerWrite s.ledgerNext.2 ok = n at *
    split <;> simpa using h1

theorem Vc.wf_hoursSave (s : Vc) (ok : Bool) (h : Memory.wf s.flash = true) : Memory.wf (s.hoursSave ok).flash = true :=
  wf_ite _ _ _ h (Vc.wf_ledgerOps _ _ _ _ h)

theorem Vc.wf_statsWrite (s : Vc) (ok : Bool) (h : Memory.wf s.flash = true) : Memory.wf (s.statsWrite ok).flash = true := by
  unfold Vc.statsWrite
  refine wf_ite _ _ _ h (wf_ite _ _ _ ?_ (by simpa using h))
  simpa using Vc.wf_ledgerOps s .ledgerStats s.statsOps ok h

theorem Vc.wf_formatEnd (s : Vc) (why : Nat) (h : Memory.wf s.flash = true) : Memory.wf (s.formatEnd why).flash = true := by
  unfold Vc.formatEnd
  refine forN_wf _ _ _ (fun s _ h => Vc.wf_writeRecord s h) ?_
  simpa using h

/-- The requests of the xSPI unit (R355). -/
theorem XKind.wf_broken (k : XKind) (use : Nat) (o : FOp) (os : List FOp) (m : List Host.Cell) (h : Memory.wf m = true) :
    Memory.wf (k.broken use o os m) = true := by
  unfold XKind.broken
  split
  · exact Memory.wf_runs _ _ h
  all_goals first
    | exact Memory.wf_spoil _ _ _ _ (Memory.wf_cutOp _ _ _ h)
    | exact Memory.wf_cutOp _ _ _ h

theorem Vc.wf_unread (s : Vc) (k : XKind) (h : Memory.wf s.flash = true) : Memory.wf (s.unread k) = true := by
  unfold Vc.unread
  repeat' (first | exact h | exact Memory.wf_spoil _ _ _ _ h | split)

theorem Vc.wf_xFail (s : Vc) (k : XKind) (h : Memory.wf s.flash = true) : Memory.wf (s.xFail k).flash = true := by
  simpa using h

theorem Vc.wf_xDone (s : Vc) (k : XKind) (readOk : Bool) (h : Memory.wf s.flash = true) :
    Memory.wf (s.xDone k readOk).1.flash = true := by
  unfold Vc.xDone
  dsimp only
  split
  case h_10 why => exact Vc.wf_formatEnd _ _ (by simpa using h)
  all_goals first
    | (simp [h]; done)
    | (refine wf_ite1 _ _ _ ?_ ?_ <;> simpa using h)

theorem Vc.wf_xEndOf (s : Vc) (k : XKind) (readOk : Bool) (h : Memory.wf s.flash = true) :
    Memory.wf (s.xEndOf k readOk).1.flash = true :=
  wf_ite1 _ _ _ (Vc.wf_xFail _ _ (Vc.wf_unread s k h)) (Vc.wf_xDone _ _ _ h)

theorem Vc.wf_xServe (r : Bool) (n : Nat) : ∀ s : Vc, Memory.wf s.flash = true → Memory.wf (Vc.xServe s r n).flash = true := by
  induction n with
  | zero => exact fun s h => h
  | succ n ih =>
    intro s h
    unfold Vc.xServe
    split
    · exact h
    · next x xs _ =>
      split
      · exact h
      · generalize (if x.begun = true then (x.kind, []) else s.xOps x.kind) = p
        obtain ⟨k, ops⟩ := p
        dsimp only
        have h1 : Memory.wf (Vc.receiving (match x.desc with
            | some id => s.modDesc id fun d => { d with waiting := false }
            | none => s) k).flash = true := by
          rw [Vc.receiving_flash]
          split <;> simpa using h
        generalize Vc.receiving (match x.desc with
            | some id => s.modDesc id fun d => { d with waiting := false }
            | none => s) k = u at *
        split
        · exact h1
        · have h2 := Vc.wf_xEndOf { u with boot := { u.boot with xspi := xs } } k r h1
          generalize Vc.xEndOf { u with boot := { u.boot with xspi := xs } } k r = q at *
          obtain ⟨v, nx⟩ := q
          refine ih _ ?_
          dsimp only
          split <;> exact h2

theorem Vc.wf_xKick (s : Vc) (h : Memory.wf s.flash = true) : Memory.wf s.xKick.flash = true := Vc.wf_xServe _ _ _ h

theorem Vc.wf_xPut (s : Vc) (k : XKind) (h : Memory.wf s.flash = true) : Memory.wf (s.xPut k).flash = true := by
  unfold Vc.xPut
  refine Vc.wf_xKick _ ?_
  rw [Vc.xQueue_flash]
  split <;> simpa using h

theorem Vc.wf_flashDone (s : Vc) (ok readOk : Bool) (h : Memory.wf s.flash = true) : Memory.wf (s.flashDone ok readOk).flash = true := by
  unfold Vc.flashDone
  split
  · refine wf_ite _ _ _ (Vc.wf_xServe _ _ _ (Memory.wf_run _ _ h)) (Vc.wf_xServe _ _ _ (Vc.wf_xFail _ _ ?_))
    exact XKind.wf_broken _ _ _ _ _ h
  · exact Vc.wf_xServe _ _ _ h

theorem Vc.wf_formatDone (s : Vc) (h : Memory.wf s.flash = true) : Memory.wf s.formatDone.flash = true := by
  unfold Vc.formatDone
  split
  · exact Vc.wf_xKick _ (Vc.wf_formatEnd _ _ (Memory.wf_runs _ _ h))
  · exact h

theorem Vc.wf_withDesc (s : Vc) (id ty : Nat) (f : Vc → Desc → Vc) (hf : ∀ s d, Memory.wf s.flash = true → Memory.wf (f s d).flash = true)
    (h : Memory.wf s.flash = true) : Memory.wf (s.withDesc id ty f).flash = true := by
  unfold Vc.withDesc
  repeat' (first | exact h | exact hf _ _ h | (simp only [Vc.finish_flash]; exact h) | split)

theorem Vc.wf_fwBlock (s : Vc) (id op : Nat) (b : HostBuf) (h : Memory.wf s.flash = true) : Memory.wf (s.fwBlock id op b).flash = true := by
  unfold Vc.fwBlock
  refine Vc.wf_withDesc _ _ _ _ (fun s d h => ?_) h
  dsimp only
  repeat' (first | exact h | exact Vc.wf_xPut _ _ h | (simp only [Vc.finish_flash, Vc.set1_flash]; exact h) | split)

theorem Vc.wf_configWrite (s : Vc) (id : Nat) (b : HostBuf) (h : Memory.wf s.flash = true) :
    Memory.wf (s.configWrite id b).flash = true := by
  unfold Vc.configWrite
  refine Vc.wf_withDesc _ _ _ _ (fun s d h => ?_) h
  dsimp only
  exact wf_ite _ _ _ (by simpa using h) (Vc.wf_xPut _ _ h)

theorem Vc.wf_confirmImage (s : Vc) (h : Memory.wf s.flash = true) : Memory.wf s.confirmImage.flash = true :=
  wf_ite _ _ _ h (Vc.wf_xPut _ _ (by simpa using h))

/-- The boot controller's own writes (R359, R369). -/
theorem Vc.wf_ptrWrite (s : Vc) (w1 : Nat) (h : Memory.wf s.flash = true) : Memory.wf (s.ptrWrite w1).flash = true := by
  unfold Vc.ptrWrite
  refine wf_ite _ _ _ ?_ ?_
  · simp only [Vc.showPtr_flash, Vc.bootErr_flash]
    exact Memory.wf_spoilCopy _ _ _ (Memory.wf_cut _ _ _ _ h)
  · simp only [Vc.showPtr_flash]
    exact Memory.wf_runs _ _ h

theorem Vc.wf_trialRevert (s : Vc) (h : Memory.wf s.flash = true) : Memory.wf s.trialRevert.flash = true := by
  unfold Vc.trialRevert
  simp only [Vc.bootErr_flash]
  exact Vc.wf_ptrWrite _ _ h

theorem Vc.wf_ptrRepair (s : Vc) (h : Memory.wf s.flash = true) : Memory.wf s.ptrRepair.flash = true := by
  unfold Vc.ptrRepair
  split
  · exact h
  · simp only [Vc.corrected_flash, Vc.set1_flash]
    exact Vc.wf_ptrWrite _ _ h

theorem Vc.wf_newEntry (s : Vc) (no w1 : Nat) (h : Memory.wf s.flash = true) : Memory.wf (s.newEntry no w1).1.flash = true :=
  Memory.wf_runs _ _ h

theorem Vc.wf_markEntry (s : Vc) (w n : Nat) (h : Memory.wf s.flash = true) : Memory.wf (s.markEntry w n).flash = true := by
  unfold Vc.markEntry
  split
  · next a _ => exact wf_ite _ _ _ (Memory.wf_run (markOp a w n) _ h) h
  · exact h

theorem Vc.wf_xEnd (s : Vc) (h : Memory.wf s.flash = true) : Memory.wf s.xEnd.flash = true := by
  unfold Vc.xEnd
  split
  · exact Memory.wf_run _ _ h
  · exact h

theorem Vc.wf_cutFlash (s : Vc) (h : Memory.wf s.flash = true) : Memory.wf s.cutFlash = true := by
  unfold Vc.cutFlash
  split
  · split
    · exact Memory.wf_run _ _ h
    · exact XKind.wf_broken _ _ _ _ _ h
  · exact h

theorem Vc.wf_coldReset (s : Vc) (p : Bool) (h : Memory.wf s.flash = true) : Memory.wf (s.coldReset p).flash = true := by
  unfold Vc.coldReset
  simp only [Vc.afterReset_flash]
  exact Vc.wf_cutFlash s h

theorem Vc.wf_coldResetBy (s : Vc) (c : ColdCause) (h : Memory.wf s.flash = true) : Memory.wf (s.coldResetBy c).flash = true := by
  unfold Vc.coldResetBy
  repeat' (first | exact h | (apply Vc.wf_coldReset) | split)

theorem Vc.wf_beforeReset (s : Vc) (h : Memory.wf s.flash = true) : Memory.wf s.beforeReset.flash = true := by
  unfold Vc.beforeReset
  refine Vc.wf_xEnd _ ?_
  simpa using h

theorem Vc.wf_warmReset (s : Vc) (cause : Nat) (h : Memory.wf s.flash = true) : Memory.wf (s.warmReset cause).flash = true := by
  unfold Vc.warmReset
  simp only [Vc.afterReset_flash, Vc.holdDies_flash]
  exact Vc.wf_beforeReset s h

theorem Vc.wf_stepDone (s : Vc) (n : Nat) (h : Memory.wf s.flash = true) : Memory.wf (s.stepDone n).flash = true :=
  Vc.wf_markEntry _ _ _ h

theorem Vc.wf_stepBegin (s : Vc) (n : Nat) (h : Memory.wf s.flash = true) : Memory.wf (s.stepBegin n).flash = true :=
  Vc.wf_markEntry _ _ _ h

theorem Vc.wf_lanesBegin (s : Vc) (h : Memory.wf s.flash = true) : Memory.wf s.lanesBegin.flash = true := by
  unfold Vc.lanesBegin
  split
  · exact Vc.wf_stepBegin _ _ h
  · exact h

theorem Vc.wf_lanesDone (s : Vc) (h : Memory.wf s.flash = true) : Memory.wf s.lanesDone.flash = true := by
  unfold Vc.lanesDone
  split
  · exact Vc.wf_stepDone _ _ h
  · exact h

theorem Vc.wf_startDone (s : Vc) (h : Memory.wf s.flash = true) : Memory.wf s.startDone.flash = true := by
  unfold Vc.startDone
  split
  · exact Vc.wf_stepDone _ _ h
  · exact h

theorem Vc.wf_clrHistory (s : Vc) (h : Memory.wf s.flash = true) : Memory.wf s.clrHistory.flash = true :=
  Vc.wf_xPut _ _ h

theorem Vc.wf_bootCtrl (s : Vc) (w : Nat) (h : Memory.wf s.flash = true) : Memory.wf (s.bootCtrl w).flash = true := by
  unfold Vc.bootCtrl
  split
  · simpa using h
  · dsimp only
    have h1 : Memory.wf (if bit w 2 then s.startDone else s).flash = true := by
      split
      · exact Vc.wf_startDone _ h
      · exact h
    generalize (if bit w 2 then s.startDone else s) = s1 at *
    have h2 : Memory.wf (if bit w 1 then s1.clrHistory else s1).flash = true := by
      split
      · exact Vc.wf_clrHistory _ h1
      · exact h1
    exact wf_ite _ _ _ (Vc.wf_confirmImage _ h2) h2

theorem Vc.wf_resetCtl (s : Vc) (w : Nat) (h : Memory.wf s.flash = true) : Memory.wf (s.resetCtl w).flash = true := by
  unfold Vc.resetCtl
  refine wf_ite _ _ _ h (wf_ite _ _ _ (Vc.wf_warmReset _ _ h) ?_)
  simpa using h

theorem Vc.wf_writeRow (s : Vc) (r : Row) (addr w i j : Nat) (h : Memory.wf s.flash = true) :
    Memory.wf (s.writeRow r addr w i j).flash = true := by
  have h1 := Vc.wf_resetCtl s w h
  have h2 := Vc.wf_bootCtrl s w h
  have h3 : Memory.wf (s.strCfg r addr w i).flash = true :=
    wf_ite _ _ _ (by simpa using h) (Vc.wf_lanesDone _ (by simpa using h))
  have h4 : Memory.wf (s.ledgerCtrl w).xKick.flash = true := Vc.wf_xKick _ (by simpa using h)
  have h5 : Memory.wf (if bit w 0 && !(s.strCtrl i w).host.access.bad then (s.strCtrl i w).lanesBegin else s.strCtrl i w).flash = true :=
    wf_ite _ _ _ (Vc.wf_lanesBegin _ (by simpa using h)) (by simpa using h)
  unfold Vc.writeRow
  generalize r.tag = tg
  cases tg <;> first
    | (simp [h]; done)
    | with_reducible assumption
    | (dsimp only; split <;> simp [h])

theorem Vc.wf_regWrite (s : Vc) (addr w : Nat) (h : Memory.wf s.flash = true) : Memory.wf (s.regWrite addr w).flash = true := by
  unfold Vc.regWrite
  repeat' (first | (simp [h]; done) | exact Vc.wf_writeRow _ _ _ _ _ _ h | split)

theorem Vc.wf_writeNow (s : Vc) (req be addr w : Nat) (h : Memory.wf s.flash = true) :
    Memory.wf (s.writeNow req be addr w).flash = true := by
  unfold Vc.writeNow
  dsimp only
  split
  · exact h
  · exact wf_ite _ _ _ (by simpa using h) (Vc.wf_writeRow _ _ _ _ _ _ h)

/-- What waits for the tick boundary takes effect there. -/
theorem Vc.wf_boundary (s : Vc) (h : Memory.wf s.flash = true) : Memory.wf s.boundary.flash = true := by
  unfold Vc.boundary
  refine foldl_wf _ (fun s i h => ?_) _ _ (foldl_wf _ (fun s x h => ?_) _ _ h)
  · simpa using h
  · unfold Vc.heldNow
    split
    · exact Vc.wf_writeNow _ _ _ _ _ h
    · simpa using h
    · simpa using h

/-- TICK. -/
theorem Vc.wf_tick (s : Vc) (dies : List DieData) (ups : List CmpUpset) (h : Memory.wf s.flash = true) :
    Memory.wf (s.tick dies ups).flash = true := by
  have h1 : Memory.wf ((s.toRelease.toTick.copyCheck ups).facetCommit).boundary.flash = true := Vc.wf_boundary _ (by simpa using h)
  unfold Vc.tick
  dsimp only
  generalize ((s.toRelease.toTick.copyCheck ups).facetCommit).boundary = s1 at *
  simpa using h1

theorem Vc.wf_barWrite (s : Vc) (req addr be w : Nat) (h : Memory.wf s.flash = true) :
    Memory.wf (s.barWrite req addr be w).flash = true := by
  unfold Vc.barWrite
  dsimp only
  split
  · simpa using h
  · exact Vc.wf_regWrite _ _ _ h

theorem Vc.wf_hostWr (s : Vc) (req : BitVec 16) (addr : Nat) (w : Word) (asks : Bool) (h : Memory.wf s.flash = true) :
    Memory.wf (s.hostWr req addr w asks).flash = true := by
  unfold Vc.hostWr
  split
  · exact Vc.wf_barWrite _ _ _ _ _ h
  · exact h

theorem Vc.wf_applyRecord (s : Vc) (addr w : Nat) (h : Memory.wf s.flash = true) : Memory.wf (s.applyRecord addr w).1.flash = true := by
  unfold Vc.applyRecord
  dsimp only
  split
  · simpa using h
  · exact Vc.wf_regWrite _ _ _ h

/-- A write of the host, wherever it goes (R284). -/
theorem Vc.wf_pcieWrite (s : Vc) (req : Nat) (addr : PcieAddr) (be w : Nat) (h : Memory.wf s.flash = true) :
    Memory.wf (s.pcieWrite req addr be w).flash = true := by
  unfold Vc.pcieWrite
  split
  · exact Vc.wf_barWrite _ _ _ _ _ h
  · simpa using h
  · simpa using h

@[simp] theorem Vc.firstValid_flash (s : Vc) (l : List Nat) : (s.firstValid l).1.flash = s.flash := by
  induction l generalizing s with
  | nil => rfl
  | cons k ks ih =>
    unfold Vc.firstValid
    dsimp only
    split
    · rfl
    · rw [ih]
      simp

theorem Vc.wf_settingsRecord (s : Vc) (r : Nat × Nat) (h : Memory.wf s.flash = true) : Memory.wf (s.settingsRecord r).flash = true := by
  have h1 := Vc.wf_applyRecord s r.1 r.2 h
  unfold Vc.settingsRecord
  refine wf_ite _ _ _ h (wf_ite _ _ _ ?_ h1)
  rw [Vc.count_flash]
  exact h1

theorem Vc.wf_settingsUnfit (s : Vc) (h : Memory.wf s.flash = true) : Memory.wf s.settingsUnfit.flash = true := by
  have h1 : Memory.wf (s.bootErr BOOT.ERRSTAT.SETTINGS_INCOMPATIBLE 5).flash = true := by
    rw [Vc.bootErr_flash]
    exact h
  unfold Vc.settingsUnfit
  generalize s.bootErr BOOT.ERRSTAT.SETTINGS_INCOMPATIBLE 5 = s1 at *
  have h2 := Vc.wf_ptrWrite s1 (ptrBits (ptrPrimary s1.ptrWord) 0 0 1) h1
  dsimp only
  generalize s1.ptrWrite (ptrBits (ptrPrimary s1.ptrWord) 0 0 1) = s2 at *
  exact Vc.wf_warmReset _ _ h2

theorem Vc.wf_settingsStep (s : Vc) (h : Memory.wf s.flash = true) : Memory.wf s.settingsStep.flash = true := by
  unfold Vc.settingsStep
  split
  · simpa using h
  · split
    · refine foldl_wf _ (fun s r h => Vc.wf_settingsRecord s r h) _ _ ?_
      simpa using h
    · split
      · exact Vc.wf_settingsUnfit _ h
      · simpa using h

theorem Vc.wf_openEntry (s : Vc) (h : Memory.wf s.flash = true) : Memory.wf s.openEntry.flash = true := by
  unfold Vc.openEntry
  refine Vc.wf_markEntry _ _ _ (Vc.wf_markEntry _ _ _ (Vc.wf_markEntry _ _ _ ?_))
  exact Vc.wf_newEntry _ _ _ h

theorem Vc.wf_markFlashFail (s : Vc) (h : Memory.wf s.flash = true) : Memory.wf s.markFlashFail.flash = true := by
  unfold Vc.markFlashFail
  split
  · exact Vc.wf_markEntry _ _ _ h
  · exact h

theorem Vc.wf_recordStart (s : Vc) (h : Memory.wf s.flash = true) : Memory.wf s.recordStart.flash = true := by
  have h1 := Vc.wf_markFlashFail _ (Vc.wf_openEntry s.startCounts (by simpa using h))
  unfold Vc.recordStart
  dsimp only
  generalize s.startCounts.openEntry.markFlashFail = s1 at *
  have h2 : Memory.wf ((s.altsDue.filter fun a => a.1 ≠ 4).foldl (fun s a => s.event [stRec 0x0C00 4 2 a.1 (s.word 0x150008)])
      (if s.lastFailed = true then s1.bootErr BOOT.ERRSTAT.STEP_FAIL 0 else s1)).flash = true := by
    refine foldl_wf _ (fun s r h => by simpa using h) _ _ ?_
    exact wf_ite _ _ _ (by simpa using h1) h1
  exact wf_ite _ _ _ (by simpa using h2) h2

@[simp] theorem Vc.imageFallback_flash (s : Vc) : s.imageFallback.1.flash = s.flash := by
  have h := Vc.firstValid_flash s (if s.on BOOT.ALT.PREV_IMAGE then [1, 0] else [0, 1])
  unfold Vc.imageFallback
  split <;> (rename_i he; rw [he] at h; simpa using h)

theorem Vc.wf_countTrial (s : Vc) (h : Memory.wf s.flash = true) : Memory.wf s.countTrial.flash = true := by
  unfold Vc.countTrial
  dsimp only
  split
  · exact h
  · split
    · exact Vc.wf_trialRevert _ h
    · exact Vc.wf_ptrWrite _ _ h

theorem Vc.wf_imageRevert (s : Vc) (k : Nat) (h : Memory.wf s.flash = true) : Memory.wf (s.imageRevert k).1.flash = true := by
  have h1 := Vc.wf_trialRevert s h
  unfold Vc.imageRevert
  dsimp only
  split <;> simpa using h1

theorem Vc.wf_imageSelect (s : Vc) (h : Memory.wf s.flash = true) : Memory.wf s.imageSelect.1.flash = true := by
  unfold Vc.imageSelect
  dsimp only
  refine wf_ite1 _ _ _ ?_ (wf_ite1 _ _ _ ?_ ?_)
  · simpa using h
  · apply Vc.wf_imageRevert
    simpa using h
  · simpa using h

theorem Vc.wf_imageStep (s : Vc) (h : Memory.wf s.flash = true) : Memory.wf s.imageStep.1.flash = true := by
  unfold Vc.imageStep
  split
  · simpa using h
  · refine Vc.wf_imageSelect _ (Vc.wf_countTrial _ ?_)
    simpa using Vc.wf_ptrRepair _ h

theorem Vc.wf_stepWork (s : Vc) (n : Nat) (r : BootRes) (h : Memory.wf s.flash = true) : Memory.wf (s.stepWork n r).1.flash = true := by
  unfold Vc.stepWork
  split
  · refine wf_ite1 _ _ _ ?_ ?_ <;> simpa using h
  · exact Vc.wf_recordStart _ h
  · dsimp only
    apply Vc.wf_imageStep
    refine wf_ite _ _ _ ?_ h
    simpa using h
  · simpa using h
  · exact Vc.wf_settingsStep _ h
  · exact Vc.wf_xKick _ (by simpa using h)
  · simpa using h
  · exact h

theorem Vc.wf_stepFailed (s : Vc) (n : Nat) (h : Memory.wf s.flash = true) : Memory.wf (s.stepFailed n).flash = true := by
  have h1 := Vc.wf_markEntry { s with boot := { s.boot with failed := withBit s.boot.failed n } } 4 n h
  unfold Vc.stepFailed
  dsimp only
  generalize ({ s with boot := { s.boot with failed := withBit s.boot.failed n } } : Vc).markEntry 4 n = s1 at *
  refine wf_ite _ _ _ ?_ ?_
  · simpa using h1
  · apply Vc.wf_warmReset
    refine wf_ite _ _ _ ?_ h1
    exact h1

theorem Vc.wf_runSteps (r : BootRes) (k : Nat) (s : Vc) (h : Memory.wf s.flash = true) : Memory.wf (Vc.runSteps r k s).flash = true := by
  induction k generalizing s with
  | zero => simpa [Vc.runSteps] using h
  | succ k ih =>
    unfold Vc.runSteps
    dsimp only
    split
    · refine ih _ ?_
      split
      · simpa using h
      · exact h
    · have h1 := Vc.wf_stepBegin s (8 - k) h
      generalize s.stepBegin (8 - k) = s1 at *
      split
      · exact wf_ite _ _ _ (by simpa using h1) h1
      · have h2 := Vc.wf_stepWork s1 (8 - k) r h1
        split
        · rename_i he
          rw [he] at h2
          split
          · exact ih _ (Vc.wf_stepDone _ _ h2)
          · exact h2
        · rename_i he
          rw [he] at h2
          exact Vc.wf_stepFailed _ _ h2

theorem Vc.wf_bootStart (s : Vc) (r : BootRes) (h : Memory.wf s.flash = true) : Memory.wf (s.bootStart r).flash = true := by
  unfold Vc.bootStart
  split
  · exact h
  · exact Vc.wf_runSteps _ _ _ h

theorem Vc.wf_stepTimeout (s : Vc) (n : Nat) (r : BootRes) (h : Memory.wf s.flash = true) :
    Memory.wf (s.stepTimeout n r).flash = true := by
  unfold Vc.stepTimeout
  split
  · have h2 := Vc.wf_imageStep _ (Vc.wf_trialRevert _ h)
    split
    · rename_i he
      rw [he] at h2
      exact Vc.wf_runSteps _ _ _ (Vc.wf_stepDone _ _ h2)
    · rename_i he
      rw [he] at h2
      exact Vc.wf_stepFailed _ _ h2
  · exact Vc.wf_stepFailed _ _ h

theorem Vc.wf_bootTimeout (s : Vc) (r : BootRes) (h : Memory.wf s.flash = true) : Memory.wf (s.bootTimeout r).flash = true := by
  have h1 : Memory.wf (({ s with boot := { s.boot with ptrBad := r.ptrBad } } : Vc).diesSeen r.diePass.toNat).flash = true := by
    simpa using h
  unfold Vc.bootTimeout
  exact wf_ite _ _ _ (Vc.wf_stepTimeout _ _ _ (wf_ite _ _ _ h1 h)) (wf_ite _ _ _ h1 h)

end Sys2Proof.Machine
end

