-- ==== Sys2Proof/Laws/Units.lean ====
section
/-!
SUPPORT. Laws/Units.lean: what a command to one part of the chipset can do to the others.
-/
namespace Sys2Proof.Machine
set_option Elab.async false
open Reg

/-! ### The VC -/

/-- Once out of its cold reset the VC stays out of it. -/
theorem Vc.elapse_inReset (s : Vc) (dt : Nat) (h : s.inReset = false) : (s.elapse dt).inReset = false := by
  unfold Vc.inReset at *
  exact decide_eq_false (Nat.not_lt.mpr (Nat.le_trans (Nat.not_lt.mp (of_decide_eq_false h)) (Nat.le_add_right _ _)))

/-- A command to a VC out of cold reset does to it what its function does. -/
theorem State.vcCmd_eq (s : State) (dt : Nat) (f : Vc → Vc) (h : s.vc.inReset = false) :
    s.vcCmd dt f = { s with vc := f (s.vc.elapse dt) } := by
  unfold State.vcCmd
  simp only [Vc.elapse_inReset _ dt h]
  rfl

@[simp] theorem State.vcCmd_vc (s : State) (dt : Nat) (f : Vc → Vc) (h : s.vc.inReset = false) :
    (s.vcCmd dt f).vc = f (s.vc.elapse dt) := by rw [State.vcCmd_eq s dt f h]

/-- While a cold reset holds the VC, time passes in it and nothing else (R383). -/
theorem State.vcCmd_held (s : State) (dt : Nat) (f : Vc → Vc) (h : (s.vc.elapse dt).inReset = true) :
    s.vcCmd dt f = { s with vc := s.vc.elapse dt } := by
  unfold State.vcCmd
  simp only [h]
  rfl

@[simp] theorem State.vcCmd_cells (s : State) (dt : Nat) (f : Vc → Vc) : (s.vcCmd dt f).cells = s.cells := rfl
@[simp] theorem State.vcCmd_scs (s : State) (dt : Nat) (f : Vc → Vc) : (s.vcCmd dt f).scs = s.scs := rfl
@[simp] theorem State.vcCmd_taps (s : State) (dt : Nat) (f : Vc → Vc) : (s.vcCmd dt f).taps = s.taps := rfl
@[simp] theorem State.vcCmd_pending (s : State) (dt : Nat) (f : Vc → Vc) : (s.vcCmd dt f).pending = s.pending := rfl
@[simp] theorem State.vcCmd_cell (s : State) (dt : Nat) (f : Vc → Vc) (n : Nat) : (s.vcCmd dt f).cell n = s.cell n := rfl
@[simp] theorem State.vcCmd_sc (s : State) (dt : Nat) (f : Vc → Vc) (n : Nat) : (s.vcCmd dt f).sc n = s.sc n := rfl

theorem State.vcCmd_canon (s : State) (dt : Nat) (f : Vc → Vc) (hf : ∀ v : Vc, Memory.wf v.flash = true → Memory.wf (f v).flash = true)
    (h : s.Canon) : (s.vcCmd dt f).Canon := ⟨wf_ite _ _ _ h.1 (hf _ h.1), h.2.1, h.2.2.1, h.2.2.2⟩

/-! ### A cell -/

@[simp] theorem State.putCw_scs (s : State) (v : Vc) (w : Cw) : (s.putCw v w).scs = s.scs := rfl
@[simp] theorem State.putCw_pending (s : State) (v : Vc) (w : Cw) : (s.putCw v w).pending = s.pending := rfl
@[simp] theorem State.putCw_vc (s : State) (v : Vc) (w : Cw) : (s.putCw v w).vc = { v with out := w.out, free := w.free } := rfl
@[simp] theorem State.putCw_cell (s : State) (v : Vc) (w : Cw) : (s.putCw v w).cell w.n = w.toCell := Tab.get_set_same _ _ _ _
theorem State.putCw_cell_ne (s : State) (v : Vc) (w : Cw) (n : Nat) (h : n ≠ w.n) : (s.putCw v w).cell n = s.cell n :=
  Tab.get_set_ne _ _ _ _ _ h
theorem State.putCw_canon (s : State) (v : Vc) (w : Cw) (hv : Memory.wf v.flash = true) (h : s.Canon) : (s.putCw v w).Canon :=
  ⟨hv, Tab.wf_set _ _ _ _ h.2.1, h.2.2.1, h.2.2.2⟩

@[simp] theorem State.cellCmd_scs (s : State) (dt st p : Nat) (f : Cw → Cw) : (s.cellCmd dt st p f).scs = s.scs := by
  unfold State.cellCmd
  dsimp only
  split <;> rfl
@[simp] theorem State.cellCmd_pending (s : State) (dt st p : Nat) (f : Cw → Cw) : (s.cellCmd dt st p f).pending = s.pending := by
  unfold State.cellCmd
  dsimp only
  split <;> rfl

/-- A command to a cell leaves the VC but for its clock, what was sent, and the counter of free values. -/
theorem State.cellCmd_vc (s : State) (dt st p : Nat) (f : Cw → Cw) :
    ∃ out free, (s.cellCmd dt st p f).vc = { s.vc.elapse dt with out := out, free := free } := by
  unfold State.cellCmd
  dsimp only
  split
  · exact ⟨_, _, rfl⟩
  · exact ⟨_, _, rfl⟩

/-- A command to a cell leaves every other cell. -/
theorem State.cellCmd_cell_ne (s : State) (dt st p : Nat) (f : Cw → Cw) (n : Nat) (h : n ≠ 96 * st + p) :
    (s.cellCmd dt st p f).cell n = s.cell n := by
  unfold State.cellCmd
  dsimp only
  split
  · exact State.putCw_cell_ne _ _ _ _ h
  · rfl

/-- A command to a cell that is not held in cold reset does to it what its function does. -/
theorem State.cellCmd_cell (s : State) (dt st p : Nat) (f : Cw → Cw) (h : (s.cell (96 * st + p)).run = true) :
    (s.cellCmd dt st p f).cell (96 * st + p) = (f (s.cw (s.vc.elapse dt) (96 * st + p))).toCell := by
  unfold State.cellCmd
  have hr : (s.cw (s.vc.elapse dt) (96 * st + p)).run = true := h
  dsimp only
  rw [if_pos hr]
  exact State.putCw_cell s _ _

/-- A cell held in cold reset does nothing (log 47). -/
theorem State.cellCmd_held (s : State) (dt st p : Nat) (f : Cw → Cw) (h : (s.cell (96 * st + p)).run = false) :
    s.cellCmd dt st p f = { s with vc := s.vc.elapse dt } := by
  unfold State.cellCmd
  have hr : (s.cw (s.vc.elapse dt) (96 * st + p)).run = false := h
  dsimp only
  rw [hr]
  rfl

theorem State.cellCmd_canon (s : State) (dt st p : Nat) (f : Cw → Cw) (h : s.Canon) : (s.cellCmd dt st p f).Canon := by
  unfold State.cellCmd
  dsimp only
  split
  · exact State.putCw_canon _ _ _ h.1 h
  · exact h

theorem State.cellRelease_canon (s : State) (dt st p : Nat) (h : s.Canon) : (s.cellRelease dt st p).Canon :=
  State.putCw_canon _ _ _ h.1 h

theorem State.cellRelease_cell_ne (s : State) (dt st p n : Nat) (h : n ≠ 96 * st + p) : (s.cellRelease dt st p).cell n = s.cell n :=
  State.putCw_cell_ne _ _ _ _ h

theorem State.cellReset_canon (s : State) (dt st p : Nat) (c : ColdCause) (h : s.Canon) : (s.cellReset dt st p c).Canon := by
  have h1 : Memory.wf ((s.vc.elapse dt).dropHolds st p).flash = true := by
    rw [Vc.dropHolds_flash]
    exact h.1
  unfold State.cellReset
  cases c with
  | power _ => exact State.putCw_canon _ _ _ h1 h
  | pin ns =>
    dsimp only
    split
    · exact State.putCw_canon _ _ _ h1 h
    · exact h

@[simp] theorem Cw.ite_n (c : Prop) [Decidable c] (a b : Cw) : (if c then a else b).n = if c then a.n else b.n := apply_ite _ _ _ _

theorem State.cellReset_cell_ne (s : State) (dt st p : Nat) (c : ColdCause) (n : Nat) (h : n ≠ 96 * st + p) :
    (s.cellReset dt st p c).cell n = s.cell n := by
  unfold State.cellReset
  cases c with
  | power =>
    refine State.putCw_cell_ne _ _ _ _ ?_
    simpa using h
  | pin ns =>
    dsimp only
    split
    · refine State.putCw_cell_ne _ _ _ _ ?_
      simpa using h
    · rfl

/-! ### The TAPs -/

/-- An operation of a TAP leaves the VC but for its clock, what was sent, and the counter of free values. -/
theorem State.tapCmd_vc (s : State) (dt st p : Nat) (c : TapOp) :
    ∃ out free, (s.tapCmd dt st p c).vc = { s.vc.elapse dt with out := out, free := free } := by
  unfold State.tapCmd
  dsimp only
  split
  · exact ⟨_, _, rfl⟩
  · split
    · exact State.cellCmd_vc _ _ _ _ _
    · exact ⟨_, _, rfl⟩

theorem State.tapCmd_canon (s : State) (dt st p : Nat) (c : TapOp) (h : s.Canon) : (s.tapCmd dt st p c).Canon := by
  unfold State.tapCmd
  dsimp only
  split
  · exact h
  · split
    · exact State.cellCmd_canon _ _ _ _ _ h
    · exact ⟨h.1, h.2.1, h.2.2.1, Tab.wf_set _ _ _ _ h.2.2.2⟩

/-! ### A companion -/

@[simp] theorem State.scCmd_cells (s : State) (dt n : Nat) (f : Sw → Sw) (a : Bool) : (s.scCmd dt n f a).cells = s.cells := by
  unfold State.scCmd
  dsimp only
  split <;> rfl
@[simp] theorem State.scCmd_pending (s : State) (dt n : Nat) (f : Sw → Sw) (a : Bool) : (s.scCmd dt n f a).pending = s.pending := by
  unfold State.scCmd
  dsimp only
  split <;> rfl

/-- A command to a companion leaves the VC but for its clock and what was sent. -/
theorem State.scCmd_vc (s : State) (dt n : Nat) (f : Sw → Sw) (a : Bool) :
    ∃ out, (s.scCmd dt n f a).vc = { s.vc.elapse dt with out := out } := by
  unfold State.scCmd
  dsimp only
  split <;> exact ⟨_, rfl⟩

/-- A command to a companion leaves the other one. -/
theorem State.scCmd_sc_ne (s : State) (dt n : Nat) (f : Sw → Sw) (a : Bool) (m : Nat) (h : m ≠ n) : (s.scCmd dt n f a).sc m = s.sc m := by
  unfold State.scCmd
  dsimp only
  split
  · rfl
  · exact Tab.get_set_ne _ _ _ _ _ h

/-- A command to a companion with power does to it what its function does. -/
theorem State.scCmd_sc (s : State) (dt n : Nat) (f : Sw → Sw) (a : Bool) (h : (s.sc n).power = true ∨ a = true) :
    (s.scCmd dt n f a).sc n = (f { toSc := s.sc n, n := n, now := (s.vc.elapse dt).now }).toSc := by
  unfold State.scCmd
  dsimp only
  rw [if_neg (by rcases h with h | h <;> simp [h])]
  exact Tab.get_set_same _ _ _ _

theorem State.scCmd_canon (s : State) (dt n : Nat) (f : Sw → Sw) (a : Bool) (h : s.Canon) : (s.scCmd dt n f a).Canon := by
  unfold State.scCmd
  dsimp only
  split
  · exact h
  · exact ⟨h.1, h.2.1, Tab.wf_set _ _ _ _ h.2.2.1, h.2.2.2⟩

/-! ### An end of a serial link -/

@[simp] theorem State.linkCmd_scs (s : State) (dt : Nat) (e : LinkEnd) (fv : Vc → Nat → Vc) (fc : Cw → Bool → Cw) :
    (s.linkCmd dt e fv fc).scs = s.scs := by
  unfold State.linkCmd
  split <;> simp
@[simp] theorem State.linkCmd_pending (s : State) (dt : Nat) (e : LinkEnd) (fv : Vc → Nat → Vc) (fc : Cw → Bool → Cw) :
    (s.linkCmd dt e fv fc).pending = s.pending := by
  unfold State.linkCmd
  split <;> simp
theorem State.linkCmd_canon (s : State) (dt : Nat) (e : LinkEnd) (fv : Vc → Nat → Vc) (fc : Cw → Bool → Cw)
    (hf : ∀ v : Vc, ∀ l, Memory.wf v.flash = true → Memory.wf (fv v l).flash = true) (h : s.Canon) : (s.linkCmd dt e fv fc).Canon := by
  unfold State.linkCmd
  split
  · exact State.vcCmd_canon _ _ _ (fun v hv => hf v _ hv) h
  · exact State.cellCmd_canon _ _ _ _ _ h

end Sys2Proof.Machine
end

