-- ==== Sys2Proof/Laws/Regs.lean ====
section
/-!
SUPPORT. Laws/Regs.lean: which register fields each operation of the VC may write; every other field reads as before.
-/
namespace Sys2Proof.Machine
open Reg

/-- A list of field identities as a number with those bits, on which the kernel decides membership and inclusion at once. -/
def idMask (b : List Nat) : Nat := b.foldr (fun y m => Nat.lor (Nat.pow 2 y) m) 0
def idIn (y : Nat) (b : List Nat) : Bool := Nat.testBit (idMask b) y
def idsIn (a b : List Nat) : Bool := Nat.beq (Nat.land (idMask a) (idMask b)) (idMask a)

section
set_option Elab.async false

theorem idMask_testBit (b : List Nat) (y : Nat) : (idMask b).testBit y = true ↔ y ∈ b := by
  induction b with
  | nil => simp [idMask]
  | cons x b ih =>
    have h : (idMask (x :: b)).testBit y = ((2 ^ x).testBit y || (idMask b).testBit y) := Nat.testBit_or ..
    rw [h, Bool.or_eq_true, ih, Nat.testBit_two_pow]
    simp [eq_comm]
theorem ne_of_notin {x y : Nat} {b : List Nat} (h : x ∉ b) (hy : idIn y b = true) : x ≠ y := fun e =>
  h (e ▸ (idMask_testBit b y).1 hy)
theorem notin_sub {x : Nat} {a b : List Nat} (h : x ∉ b) (hs : idsIn a b = true) : x ∉ a := fun hx => by
  have h1 : idMask a &&& idMask b = idMask a := Nat.eq_of_beq_eq_true hs
  have h2 : (idMask a &&& idMask b).testBit x = true := by rw [h1]; exact (idMask_testBit a x).2 hx
  rw [Nat.testBit_and, Bool.and_eq_true] at h2
  exact h ((idMask_testBit b x).1 h2.2)

@[simp] theorem foldl_rd {α : Type} (f : Vc → α → Vc) (g : Fld) (k m : Nat) (h : ∀ s a, (f s a).rd g k m = s.rd g k m) (l : List α) (s : Vc) :
    (l.foldl f s).rd g k m = s.rd g k m := by
  induction l generalizing s with
  | nil => rfl
  | cons a l ih => rw [List.foldl_cons, ih, h]
@[simp] theorem forN_rd (n : Nat) (s : Vc) (f : Vc → Nat → Vc) (g : Fld) (k m : Nat) (h : ∀ s a, (f s a).rd g k m = s.rd g k m) :
    (forN n s f).rd g k m = s.rd g k m := foldl_rd f g k m h _ s
@[simp] theorem foldl1_rd {α β : Type} (f : Vc × β → α → Vc × β) (g : Fld) (k m : Nat) (h : ∀ s a, (f s a).1.rd g k m = s.1.rd g k m) (l : List α)
    (s : Vc × β) : (l.foldl f s).1.rd g k m = s.1.rd g k m := by
  induction l generalizing s with
  | nil => rfl
  | cons a l ih => rw [List.foldl_cons, ih, h]
@[simp] theorem ite_rd (c : Prop) [Decidable c] (a b : Vc) (g : Fld) (k m : Nat) : (if c then a else b).rd g k m = if c then a.rd g k m else b.rd g k m :=
  apply_ite (fun x : Vc => x.rd g k m) _ _ _
@[simp] theorem ite1_rd {β : Type} (c : Prop) [Decidable c] (a b : Vc × β) (g : Fld) (k m : Nat) :
    (if c then a else b).1.rd g k m = if c then a.1.rd g k m else b.1.rd g k m := apply_ite (fun x : Vc × β => x.1.rd g k m) _ _ _

@[simp] theorem Vc.rd_mk' {out vt frac now resetUntil ticks free regs held facets remotes arms strs lanes prot host ledger ap lens sched time casc voter boot comps flash} (f : Fld) (i j : Nat) :
    (Vc.mk out vt frac now resetUntil ticks free regs held facets remotes arms strs lanes prot host ledger ap lens sched time casc voter boot comps flash).rd f i j =
      Tab.get (fun _ => f.reset j) regs (f.key i j) := rfl
@[simp] theorem Vc.get_regs' (s : Vc) (f : Fld) (i j : Nat) : Tab.get (fun _ => f.reset j) s.regs (f.key i j) = s.rd f i j := rfl
@[simp] theorem Vc.rd_wr_ne' (s : Vc) (f g : Fld) (v i j k m : Nat) (h : g.id ≠ f.id) : (s.wr f v i j).rd g k m = s.rd g k m :=
  Vc.rd_wr_ne s f g v i j k m h
@[simp] theorem Vc.rd_set1_ne (s : Vc) (f g : Fld) (i j k m : Nat) (h : g.id ≠ f.id) : (s.set1 f i j).rd g k m = s.rd g k m :=
  Vc.rd_wr_ne s f g 1 i j k m h
@[simp] theorem Vc.rd_count_ne (s : Vc) (f g : Fld) (i j n k m : Nat) (h : g.id ≠ f.id) : (s.count f i j n).rd g k m = s.rd g k m :=
  Vc.rd_wr_ne s f g _ i j k m h
@[simp] theorem Vc.rd_setBit_ne (s : Vc) (f g : Fld) (b i k m : Nat) (h : g.id ≠ f.id) : (s.setBit f b i).rd g k m = s.rd g k m :=
  Vc.rd_wr_ne s f g _ i 0 k m h

/-- The field an interrupt writes. -/
def Vc.irqW : List Nat := [HOSTQ.IRQSTAT.PEND.id]
@[simp] theorem Vc.rd_irq' (s : Vc) (src : Nat) (g : Fld) (k m : Nat) (h : g.id ∉ Vc.irqW) : (s.irq src).rd g k m = s.rd g k m :=
  Vc.rd_irq s src g k m (by simpa [Vc.irqW] using h)

@[simp] theorem Vc.rd_msix (s : Vc) (v : Nat) (g : Fld) (k m : Nat) (h : g.id ∉ Vc.irqW) : (Vc.msix s v).rd g k m = s.rd g k m := by
  have h1 : g.id ≠ pbaFld.id := by simpa [Vc.irqW, pbaFld] using h
  unfold Vc.msix
  (repeat' split) <;> first | rfl | simp [*]

@[simp] theorem Vc.rd_closeRecs (s : Vc) (g : Fld) (k m : Nat) : (Vc.closeRecs s).rd g k m = s.rd g k m := by
  exact Vc.rd_congr _ _ (Vc.closeRecs_regs s) g k m

@[simp] theorem Vc.rd_cascBlocks (s : Vc) (pairs : List Nat) (payload : Nat) (g : Fld) (k m : Nat) : (Vc.cascBlocks s pairs payload).rd g k m = s.rd g k m := by
  unfold Vc.cascBlocks
  exact foldl_rd _ g k m (fun t a => by split <;> rfl) _ s

@[simp] theorem Vc.rd_nextFlash (s : Vc) (g : Fld) (k m : Nat) : (Vc.nextFlash s).rd g k m = s.rd g k m := rfl
@[simp] theorem Vc.rd_markSeen (s : Vc) (id : Nat × Nat) (g : Fld) (k m : Nat) : (Vc.markSeen s id).rd g k m = s.rd g k m := by
  unfold Vc.markSeen
  split <;> rfl
@[simp] theorem Vc.rd_aer (s : Vc) (c : Nat) (h : TlpHdr) (g : Fld) (k m : Nat) : (Vc.aer s c h).rd g k m = s.rd g k m := rfl



@[simp] theorem Vc.rd_toRelease (s : Vc) (g : Fld) (k m : Nat) :
    (Vc.toRelease s).rd g k m = s.rd g k m := by
  simp [Vc.toRelease, *]

@[simp] theorem Vc.rd_msixPending (s : Vc) (g : Fld) (k m : Nat) (hW : g.id ∉ Vc.irqW) :
    (Vc.msixPending s).rd g k m = s.rd g k m := by
  have h1 : g.id ≠ pbaFld.id := by simpa [Vc.irqW, pbaFld] using hW
  unfold Vc.msixPending
  refine forN_rd _ _ _ _ _ _ fun s a => ?_
  split <;> simp [*]

def Vc.flashStringW : List Nat :=
  [STRING.STATUS.FGEN.id]

@[simp] theorem Vc.rd_flashString (s : Vc) (blk n : Nat) (g : Fld) (k m : Nat) (hW : g.id ∉ Vc.flashStringW) :
    (Vc.flashString s blk n).rd g k m = s.rd g k m := by
  have w0 : g.id ≠ STRING.STATUS.FGEN.id := ne_of_notin hW (by decide +kernel)
  simp [Vc.flashString, *]

@[simp] theorem Vc.rd_hold (s : Vc) (h : Held) (g : Fld) (k m : Nat) :
    (Vc.hold s h).rd g k m = s.rd g k m := by
  simp [Vc.hold, *]

@[simp] theorem Vc.rd_modDesc (s : Vc) (id : Nat) (f : Desc → Desc) (g : Fld) (k m : Nat) :
    (Vc.modDesc s id f).rd g k m = s.rd g k m := by
  simp [Vc.modDesc, *]

@[simp] theorem Vc.rd_cqMessage (s : Vc) (c : Nat) (g : Fld) (k m : Nat) (hW : g.id ∉ Vc.irqW) :
    (Vc.cqMessage s c).rd g k m = s.rd g k m := by
  simp [Vc.cqMessage, *]

def Vc.postW : List Nat :=
  [CQ.STATUS.PHASE.id, CQ.STATUS.TAIL.id] ++ Vc.irqW

@[simp] theorem Vc.rd_post (s : Vc) (d : Desc) (status detail tick : Nat) (g : Fld) (k m : Nat) (hW : g.id ∉ Vc.postW) :
    (Vc.post s d status detail tick).rd g k m = s.rd g k m := by
  have w0 : g.id ≠ CQ.STATUS.PHASE.id := ne_of_notin hW (by decide +kernel)
  have w1 : g.id ≠ CQ.STATUS.TAIL.id := ne_of_notin hW (by decide +kernel)
  have w2 : g.id ∉ Vc.irqW := notin_sub hW (by decide +kernel)
  simp [Vc.post, *]

def Vc.checkHaltedW : List Nat :=
  [SQ.STATUS.STATE.id] ++ Vc.irqW

@[simp] theorem Vc.rd_checkHalted (s : Vc) (q : Nat) (g : Fld) (k m : Nat) (hW : g.id ∉ Vc.checkHaltedW) :
    (Vc.checkHalted s q).rd g k m = s.rd g k m := by
  have w0 : g.id ≠ SQ.STATUS.STATE.id := ne_of_notin hW (by decide +kernel)
  have w1 : g.id ∉ Vc.irqW := notin_sub hW (by decide +kernel)
  simp [Vc.checkHalted, *]

def Vc.postOneW : List Nat :=
  Vc.postW ++ Vc.checkHaltedW

@[simp] theorem Vc.rd_postOne (s : Vc) (id : Nat) (g : Fld) (k m : Nat) (hW : g.id ∉ Vc.postOneW) :
    (Vc.postOne s id).rd g k m = s.rd g k m := by
  have w0 : g.id ∉ Vc.checkHaltedW := notin_sub hW (by decide +kernel)
  have w1 : g.id ∉ Vc.postW := notin_sub hW (by decide +kernel)
  unfold Vc.postOne
  (repeat' split) <;> simp [*]

def Vc.haltSqW : List Nat :=
  [SQ.HALTINFO.SLOT.id, SQ.HALTINFO.TAG.id, SQ.STATUS.HALT_CAUSE.id, SQ.STATUS.STATE.id]

@[simp] theorem Vc.rd_haltSq (s : Vc) (q cause tag slot : Nat) (g : Fld) (k m : Nat) (hW : g.id ∉ Vc.haltSqW) :
    (Vc.haltSq s q cause tag slot).rd g k m = s.rd g k m := by
  have w0 : g.id ≠ SQ.HALTINFO.SLOT.id := ne_of_notin hW (by decide +kernel)
  have w1 : g.id ≠ SQ.HALTINFO.TAG.id := ne_of_notin hW (by decide +kernel)
  have w2 : g.id ≠ SQ.STATUS.HALT_CAUSE.id := ne_of_notin hW (by decide +kernel)
  have w3 : g.id ≠ SQ.STATUS.STATE.id := ne_of_notin hW (by decide +kernel)
  simp [Vc.haltSq, *]

@[simp] theorem Vc.rd_endDesc (s : Vc) (d : Desc) (status detail tick : Nat) (g : Fld) (k m : Nat) (hW : g.id ∉ Vc.haltSqW) :
    (Vc.endDesc s d status detail tick).rd g k m = s.rd g k m := by
  simp [Vc.endDesc, *]

@[simp] theorem Vc.rd_startOne (s : Vc) (id : Nat) (g : Fld) (k m : Nat) (hW : g.id ∉ Vc.haltSqW) :
    (Vc.startOne s id).rd g k m = s.rd g k m := by
  unfold Vc.startOne
  split <;> simp [*]

def Vc.pumpW : List Nat :=
  Vc.postOneW ++ Vc.haltSqW

@[simp] theorem Vc.rd_pump (s : Vc) (g : Fld) (k m : Nat) (hW : g.id ∉ Vc.pumpW) :
    (Vc.pump s).rd g k m = s.rd g k m := by
  have w0 : g.id ∉ Vc.haltSqW := notin_sub hW (by decide +kernel)
  have w1 : g.id ∉ Vc.postOneW := notin_sub hW (by decide +kernel)
  simp [Vc.pump, *]

@[simp] theorem Vc.rd_finishAt (s : Vc) (id status detail tick : Nat) (g : Fld) (k m : Nat) (hW : g.id ∉ Vc.pumpW) :
    (Vc.finishAt s id status detail tick).rd g k m = s.rd g k m := by
  have w0 : g.id ∉ Vc.checkHaltedW := notin_sub hW (by decide +kernel)
  have w1 : g.id ∉ Vc.haltSqW := notin_sub hW (by decide +kernel)
  unfold Vc.finishAt
  split <;> simp [*]

@[simp] theorem Vc.rd_finish (s : Vc) (id status : Nat) (detail : Nat) (g : Fld) (k m : Nat) (hW : g.id ∉ Vc.pumpW) :
    (Vc.finish s id status detail).rd g k m = s.rd g k m := by
  simp [Vc.finish, *]

@[simp] theorem Vc.rd_withDesc (s : Vc) (id type : Nat) (f : Vc → Desc → Vc) (g : Fld) (k m : Nat) (hW : g.id ∉ Vc.pumpW)
    (h : ∀ s d, (f s d).rd g k m = s.rd g k m) : (s.withDesc id type f).rd g k m = s.rd g k m := by
  
  unfold Vc.withDesc
  repeat' (first | with_reducible rfl | exact h _ _ | (simp [*]; done) | split)

@[simp] theorem Vc.rd_wait (s : Vc) (id : Nat) (aux : Nat) (g : Fld) (k m : Nat) :
    (Vc.wait s id aux).rd g k m = s.rd g k m := by
  simp [Vc.wait, *]

@[simp] theorem Vc.rd_holdDesc (s : Vc) (id : Nat) (buf : HostBuf) (g : Fld) (k m : Nat) :
    (Vc.holdDesc s id buf).rd g k m = s.rd g k m := by
  simp [Vc.holdDesc, *]

@[simp] theorem Vc.rd_writeBuf (s : Vc) (d : Desc) (addr : Nat) (bs : List Nat) (detail : Nat) (g : Fld) (k m : Nat) (hW : g.id ∉ Vc.pumpW) :
    (Vc.writeBuf s d addr bs detail).rd g k m = s.rd g k m := by
  simp [Vc.writeBuf, *]

@[simp] theorem Vc.rd_sqDoorbell (s : Vc) (q w : Nat) (g : Fld) (k m : Nat) (hW : g.id ∉ violIds) :
    (Vc.sqDoorbell s q w).rd g k m = s.rd g k m := by
  simp [Vc.sqDoorbell, *]

def Vc.cqDoorbellW : List Nat :=
  [CQ.STATUS.HEAD.id] ++ violIds

@[simp] theorem Vc.rd_cqDoorbell (s : Vc) (q w : Nat) (g : Fld) (k m : Nat) (hW : g.id ∉ Vc.cqDoorbellW) :
    (Vc.cqDoorbell s q w).rd g k m = s.rd g k m := by
  have w0 : g.id ≠ CQ.STATUS.HEAD.id := ne_of_notin hW (by decide +kernel)
  have w1 : g.id ∉ violIds := notin_sub hW (by decide +kernel)
  simp [Vc.cqDoorbell, *]

def Vc.sqCfgW : List Nat :=
  [SQ.CFG.CQ.id, SQ.CFG.EN.id, SQ.CFG.INFLIGHT_MAX.id, SQ.CFG.LOG2SIZE.id, SQ.STATUS.HEAD.id, SQ.STATUS.STATE.id] ++ violIds

@[simp] theorem Vc.rd_sqCfg (s : Vc) (q w : Nat) (g : Fld) (k m : Nat) (hW : g.id ∉ Vc.sqCfgW) :
    (Vc.sqCfg s q w).rd g k m = s.rd g k m := by
  have w0 : g.id ≠ SQ.CFG.CQ.id := ne_of_notin hW (by decide +kernel)
  have w1 : g.id ≠ SQ.CFG.EN.id := ne_of_notin hW (by decide +kernel)
  have w2 : g.id ≠ SQ.CFG.INFLIGHT_MAX.id := ne_of_notin hW (by decide +kernel)
  have w3 : g.id ≠ SQ.CFG.LOG2SIZE.id := ne_of_notin hW (by decide +kernel)
  have w4 : g.id ≠ SQ.STATUS.HEAD.id := ne_of_notin hW (by decide +kernel)
  have w5 : g.id ≠ SQ.STATUS.STATE.id := ne_of_notin hW (by decide +kernel)
  have w6 : g.id ∉ violIds := notin_sub hW (by decide +kernel)
  simp [Vc.sqCfg, *]

def Vc.cqCfgW : List Nat :=
  [CQ.CFG.COAL_COUNT.id, CQ.CFG.EN.id, CQ.CFG.LOG2SIZE.id, CQ.CFG.VECTOR.id, CQ.STATUS.HEAD.id, CQ.STATUS.PHASE.id, CQ.STATUS.TAIL.id] ++ violIds

@[simp] theorem Vc.rd_cqCfg (s : Vc) (q w : Nat) (g : Fld) (k m : Nat) (hW : g.id ∉ Vc.cqCfgW) :
    (Vc.cqCfg s q w).rd g k m = s.rd g k m := by
  have w0 : g.id ≠ CQ.CFG.COAL_COUNT.id := ne_of_notin hW (by decide +kernel)
  have w1 : g.id ≠ CQ.CFG.EN.id := ne_of_notin hW (by decide +kernel)
  have w2 : g.id ≠ CQ.CFG.LOG2SIZE.id := ne_of_notin hW (by decide +kernel)
  have w3 : g.id ≠ CQ.CFG.VECTOR.id := ne_of_notin hW (by decide +kernel)
  have w4 : g.id ≠ CQ.STATUS.HEAD.id := ne_of_notin hW (by decide +kernel)
  have w5 : g.id ≠ CQ.STATUS.PHASE.id := ne_of_notin hW (by decide +kernel)
  have w6 : g.id ≠ CQ.STATUS.TAIL.id := ne_of_notin hW (by decide +kernel)
  have w7 : g.id ∉ violIds := notin_sub hW (by decide +kernel)
  simp [Vc.cqCfg, *]

def Vc.withdrawW : List Nat :=
  [SUP.STAT.SWAP_PEND.id] ++ Vc.pumpW

@[simp] theorem Vc.rd_withdraw (s : Vc) (d : Desc) (g : Fld) (k m : Nat) (hW : g.id ∉ Vc.withdrawW) :
    (Vc.withdraw s d).rd g k m = s.rd g k m := by
  have w0 : g.id ≠ SUP.STAT.SWAP_PEND.id := ne_of_notin hW (by decide +kernel)
  have w1 : g.id ∉ Vc.pumpW := notin_sub hW (by decide +kernel)
  unfold Vc.withdraw
  dsimp only
  rw [Vc.rd_finish _ _ _ _ _ _ _ (by assumption)]
  (repeat' split) <;> first | rfl | exact Vc.rd_wr_ne _ _ _ _ _ _ _ _ (by assumption) | (apply foldl_rd; intro s n; rfl)

@[simp] theorem Vc.rd_abortSq (s : Vc) (q : Nat) (g : Fld) (k m : Nat) (hW : g.id ∉ Vc.withdrawW) :
    (Vc.abortSq s q).rd g k m = s.rd g k m := by
  have w0 : g.id ∉ Vc.checkHaltedW := notin_sub hW (by decide +kernel)
  have w1 : g.id ∉ Vc.haltSqW := notin_sub hW (by decide +kernel)
  have w2 : g.id ∉ Vc.pumpW := notin_sub hW (by decide +kernel)
  simp [Vc.abortSq, *]

def Vc.resumeSqW : List Nat :=
  [SQ.STATUS.HEAD.id, SQ.STATUS.STATE.id]

@[simp] theorem Vc.rd_resumeSq (s : Vc) (q : Nat) (setHead : Bool) (head : Nat) (g : Fld) (k m : Nat) (hW : g.id ∉ Vc.resumeSqW) :
    (Vc.resumeSq s q setHead head).rd g k m = s.rd g k m := by
  have w0 : g.id ≠ SQ.STATUS.HEAD.id := ne_of_notin hW (by decide +kernel)
  have w1 : g.id ≠ SQ.STATUS.STATE.id := ne_of_notin hW (by decide +kernel)
  simp [Vc.resumeSq, *]

def Vc.sqCtrlW : List Nat :=
  violIds ++ Vc.withdrawW ++ Vc.resumeSqW

@[simp] theorem Vc.rd_sqCtrl (s : Vc) (q w : Nat) (g : Fld) (k m : Nat) (hW : g.id ∉ Vc.sqCtrlW) :
    (Vc.sqCtrl s q w).rd g k m = s.rd g k m := by
  have w0 : g.id ∉ Vc.resumeSqW := notin_sub hW (by decide +kernel)
  have w1 : g.id ∉ Vc.withdrawW := notin_sub hW (by decide +kernel)
  have w2 : g.id ∉ violIds := notin_sub hW (by decide +kernel)
  simp [Vc.sqCtrl, *]

def Vc.fetchDescW : List Nat :=
  [SQ.STATUS.HEAD.id] ++ Vc.pumpW

@[simp] theorem Vc.rd_fetchDesc (s : Vc) (ws : Option (List Nat)) (g : Fld) (k m : Nat) (hW : g.id ∉ Vc.fetchDescW) :
    (Vc.fetchDesc s ws).rd g k m = s.rd g k m := by
  have w0 : g.id ≠ SQ.STATUS.HEAD.id := ne_of_notin hW (by decide +kernel)
  have w1 : g.id ∉ Vc.checkHaltedW := notin_sub hW (by decide +kernel)
  have w2 : g.id ∉ Vc.haltSqW := notin_sub hW (by decide +kernel)
  have w3 : g.id ∉ Vc.pumpW := notin_sub hW (by decide +kernel)
  unfold Vc.fetchDesc
  have h0 : ∀ (u : Vc) (x : HostSt), Vc.rd { u with host := x } g k m = u.rd g k m := fun _ _ => rfl
  split
  · rfl
  · dsimp only
    split
    · rw [Vc.rd_checkHalted _ _ _ _ _ (by assumption), Vc.rd_pump _ _ _ _ (by assumption), Vc.rd_haltSq _ _ _ _ _ _ _ _ (by assumption), h0]
    · have h1 : ∀ (u : Vc) (x y : HostSt) (a c : Nat) (b : CqSt) (v : Nat),
          Vc.rd { (Vc.wr { u with host := y } SQ.STATUS.HEAD v a).setCq c b with host := x } g k m = u.rd g k m := by
        intro u x y a c b v
        rw [h0, Vc.rd_setCq, Vc.rd_wr_ne' _ _ _ _ _ _ _ _ (by assumption), h0]
      (repeat' split) <;> simp only [Vc.rd_finish _ _ _ _ _ _ _ (by assumption), Vc.rd_pump _ _ _ _ (by assumption), h1]

@[simp] theorem Vc.rd_coalesce (s : Vc) (c : Nat) (g : Fld) (k m : Nat) (hW : g.id ∉ Vc.irqW) :
    (Vc.coalesce s c).rd g k m = s.rd g k m := by
  unfold Vc.coalesce
  split <;> simp [*]

def Vc.bmeClearW : List Nat :=
  Vc.haltSqW ++ Vc.checkHaltedW

@[simp] theorem Vc.rd_bmeClear (s : Vc) (g : Fld) (k m : Nat) (hW : g.id ∉ Vc.bmeClearW) :
    (Vc.bmeClear s).rd g k m = s.rd g k m := by
  have w0 : g.id ∉ Vc.checkHaltedW := notin_sub hW (by decide +kernel)
  have w1 : g.id ∉ Vc.haltSqW := notin_sub hW (by decide +kernel)
  simp [Vc.bmeClear, *]

@[simp] theorem Vc.rd_bmeSet (s : Vc) (g : Fld) (k m : Nat) (hW : g.id ∉ Vc.pumpW) :
    (Vc.bmeSet s).rd g k m = s.rd g k m := by
  have w0 : g.id ∉ Vc.checkHaltedW := notin_sub hW (by decide +kernel)
  have w1 : g.id ∉ Vc.irqW := notin_sub hW (by decide +kernel)
  simp [Vc.bmeSet, *]

@[simp] theorem Vc.rd_setPcie (s : Vc) (p : PcieSt) (g : Fld) (k m : Nat) :
    (Vc.setPcie s p).rd g k m = s.rd g k m := by
  simp [Vc.setPcie, *]

@[simp] theorem Vc.rd_bar2Write (s : Vc) (a byteEn w : Nat) (g : Fld) (k m : Nat) (hW : g.id ∉ Vc.irqW) :
    (Vc.bar2Write s a byteEn w).rd g k m = s.rd g k m := by
  simp [Vc.bar2Write, *]

@[simp] theorem Vc.rd_setArm (s : Vc) (a : Nat) (x : ArmSt) (g : Fld) (k m : Nat) :
    (Vc.setArm s a x).rd g k m = s.rd g k m := by
  simp [Vc.setArm, *]

@[simp] theorem Vc.rd_setRemote (s : Vc) (g : Nat) (x : Remote) (gg : Fld) (k m : Nat) :
    (Vc.setRemote s g x).rd gg k m = s.rd gg k m := by
  simp [Vc.setRemote, *]

@[simp] theorem Vc.rd_setCtx (s : Vc) (c : Nat) (x : Ctx) (g : Fld) (k m : Nat) :
    (Vc.setCtx s c x).rd g k m = s.rd g k m := by
  simp [Vc.setCtx, *]

def Vc.spareW : List Nat :=
  [ARM.ERR.BELOW_MIN.id, ARM.ERR.SPARES_USED.id, ARM.LOSSCNT.COUNT.id, ARM.STAT.N_AVAIL.id, ARM.STAT.STATE.id] ++ latchIds

@[simp] theorem Vc.rd_spare (s : Vc) (a code data : Nat) (pre : List Rec) (g : Fld) (k m : Nat) (hW : g.id ∉ Vc.spareW) :
    (Vc.spare s a code data pre).rd g k m = s.rd g k m := by
  have w0 : g.id ≠ ARM.ERR.BELOW_MIN.id := ne_of_notin hW (by decide +kernel)
  have w1 : g.id ≠ ARM.ERR.SPARES_USED.id := ne_of_notin hW (by decide +kernel)
  have w2 : g.id ≠ ARM.LOSSCNT.COUNT.id := ne_of_notin hW (by decide +kernel)
  have w3 : g.id ≠ ARM.STAT.N_AVAIL.id := ne_of_notin hW (by decide +kernel)
  have w4 : g.id ≠ ARM.STAT.STATE.id := ne_of_notin hW (by decide +kernel)
  have w5 : g.id ∉ Vc.irqW := notin_sub hW (by decide +kernel)
  have w6 : g.id ∉ eventIds := notin_sub hW (by decide +kernel)
  have w7 : g.id ∉ latchIds := notin_sub hW (by decide +kernel)
  unfold Vc.spare
  dsimp only
  (repeat' split) <;> simp [*]

def Vc.markMismatchW : List Nat :=
  [ARM.ERR.MISMATCH.id]

@[simp] theorem Vc.rd_markMismatch (s : Vc) (f : Facet) (g : Fld) (k m : Nat) (hW : g.id ∉ Vc.markMismatchW) :
    (Vc.markMismatch s f).rd g k m = s.rd g k m := by
  have w0 : g.id ≠ ARM.ERR.MISMATCH.id := ne_of_notin hW (by decide +kernel)
  simp [Vc.markMismatch, *]

def Vc.leaveServiceW : List Nat :=
  Vc.spareW ++ Vc.markMismatchW

@[simp] theorem Vc.rd_leaveService (s : Vc) (n cause : Nat) (g : Fld) (k m : Nat) (hW : g.id ∉ Vc.leaveServiceW) :
    (Vc.leaveService s n cause).rd g k m = s.rd g k m := by
  have w0 : g.id ∉ Vc.markMismatchW := notin_sub hW (by decide +kernel)
  have w1 : g.id ∉ Vc.spareW := notin_sub hW (by decide +kernel)
  have w2 : g.id ∉ eventIds := notin_sub hW (by decide +kernel)
  unfold Vc.leaveService
  dsimp only
  split
  · rfl
  · repeat' split
    all_goals
      first
      | rw [Vc.rd_spare _ _ _ _ _ _ _ _ (by assumption), Vc.rd_markMismatch _ _ _ _ _ (by assumption)]; rfl
      | rw [Vc.rd_spare _ _ _ _ _ _ _ _ (by assumption)]; rfl
      | rw [Vc.rd_event _ _ _ _ _ (by assumption), Vc.rd_markMismatch _ _ _ _ _ (by assumption)]; rfl
      | rw [Vc.rd_event _ _ _ _ _ (by assumption)]; rfl

@[simp] theorem Vc.rd_stringLeaves (s : Vc) (n cause : Nat) (g : Fld) (k m : Nat) (hW : g.id ∉ Vc.leaveServiceW) :
    (Vc.stringLeaves s n cause).rd g k m = s.rd g k m := by
  simp [Vc.stringLeaves, *]

@[simp] theorem Vc.rd_enterService (s : Vc) (n : Nat) (tick : Nat) (g : Fld) (k m : Nat) :
    (Vc.enterService s n tick).rd g k m = s.rd g k m := by
  simp [Vc.enterService, *]

def Vc.takeReportW : List Nat :=
  [STRING.COPYERR_CNT.COUNT.id, STRING.ERRSTAT.CMD_FAULT_SEEN.id, STRING.ERRSTAT.COPY_ERR.id, STRING.ERRSTAT.WDOG_SEEN.id] ++ Vc.leaveServiceW

@[simp] theorem Vc.rd_takeReport (s : Vc) (n : Nat) (r : RxRep) (f : Facet) (badOther : Bool) (g : Fld) (k m : Nat) (hW : g.id ∉ Vc.takeReportW) :
    (Vc.takeReport s n r f badOther).rd g k m = s.rd g k m := by
  have w0 : g.id ≠ STRING.COPYERR_CNT.COUNT.id := ne_of_notin hW (by decide +kernel)
  have w1 : g.id ≠ STRING.ERRSTAT.CMD_FAULT_SEEN.id := ne_of_notin hW (by decide +kernel)
  have w2 : g.id ≠ STRING.ERRSTAT.COPY_ERR.id := ne_of_notin hW (by decide +kernel)
  have w3 : g.id ≠ STRING.ERRSTAT.WDOG_SEEN.id := ne_of_notin hW (by decide +kernel)
  have w4 : g.id ∉ Vc.leaveServiceW := notin_sub hW (by decide +kernel)
  have w5 : g.id ∉ eventIds := notin_sub hW (by decide +kernel)
  simp [Vc.takeReport, *]

def Vc.missReportW : List Nat :=
  [STRING.NOREP_CNT.COUNT.id] ++ Vc.leaveServiceW

@[simp] theorem Vc.rd_missReport (s : Vc) (n : Nat) (f : Facet) (g : Fld) (k m : Nat) (hW : g.id ∉ Vc.missReportW) :
    (Vc.missReport s n f).rd g k m = s.rd g k m := by
  have w0 : g.id ≠ STRING.NOREP_CNT.COUNT.id := ne_of_notin hW (by decide +kernel)
  have w1 : g.id ∉ Vc.leaveServiceW := notin_sub hW (by decide +kernel)
  have w2 : g.id ∉ eventIds := notin_sub hW (by decide +kernel)
  simp [Vc.missReport, *]

@[simp] theorem Vc.rd_keepUnmapped (s : Vc) (n : Nat) (g : Fld) (k m : Nat) :
    (Vc.keepUnmapped s n).rd g k m = s.rd g k m := by
  simp [Vc.keepUnmapped]

def Vc.commitFacetW : List Nat :=
  Vc.takeReportW ++ Vc.missReportW

@[simp] theorem Vc.rd_commitFacet (s : Vc) (n : Nat) (rx : List RxRep) (g : Fld) (k m : Nat) (hW : g.id ∉ Vc.commitFacetW) :
    (Vc.commitFacet s n rx).rd g k m = s.rd g k m := by
  have w0 : g.id ∉ Vc.missReportW := notin_sub hW (by decide +kernel)
  have w1 : g.id ∉ Vc.takeReportW := notin_sub hW (by decide +kernel)
  unfold Vc.commitFacet
  dsimp only
  (repeat' split) <;> simp [*]

@[simp] theorem Vc.rd_issueLocal (s : Vc) (n mode edge newC eff : Nat) (g : Fld) (k m : Nat) :
    (Vc.issueLocal s n mode edge newC eff).rd g k m = s.rd g k m := by
  simp [Vc.issueLocal, *]

@[simp] theorem Vc.rd_issueOne (s : Vc) (eff : Nat) (i : Issue) (g : Fld) (k m : Nat) :
    (Vc.issueOne s eff i).rd g k m = s.rd g k m := by
  simp [Vc.issueOne, *]

def Vc.putAggW : List Nat :=
  [ARM.AGG_ENERGY.ENERGY.id, ARM.AGG_VMEAN.VMEAN.id]

@[simp] theorem Vc.rd_putAgg (s : Vc) (a : Nat) (g : Fld) (k m : Nat) (hW : g.id ∉ Vc.putAggW) :
    (Vc.putAgg s a).rd g k m = s.rd g k m := by
  have w0 : g.id ≠ ARM.AGG_ENERGY.ENERGY.id := ne_of_notin hW (by decide +kernel)
  have w1 : g.id ≠ ARM.AGG_VMEAN.VMEAN.id := ne_of_notin hW (by decide +kernel)
  simp [Vc.putAgg, *]

def Vc.selectArmTickW : List Nat :=
  [ARM.ERR.DIR_HELD.id, ARM.ERR.DWELL_LIMIT.id, ARM.ERR.FRAC_NONE.id, ARM.ERR.REF_CLAMP.id, ARM.STAT.DIR.id, ARM.STAT.N_AVAIL.id, ARM.STAT.N_LAST.id, ARM.STAT.POL.id, ARM.TICK.E_IN.id, ARM.TICK.F16.id] ++ Vc.putAggW

@[simp] theorem Vc.rd_selectArmTick (s : Vc) (a : Nat) (g : Fld) (k m : Nat) (hW : g.id ∉ Vc.selectArmTickW) :
    (Vc.selectArmTick s a).1.rd g k m = s.rd g k m := by
  have w0 : g.id ≠ ARM.ERR.DIR_HELD.id := ne_of_notin hW (by decide +kernel)
  have w1 : g.id ≠ ARM.ERR.DWELL_LIMIT.id := ne_of_notin hW (by decide +kernel)
  have w2 : g.id ≠ ARM.ERR.FRAC_NONE.id := ne_of_notin hW (by decide +kernel)
  have w3 : g.id ≠ ARM.ERR.REF_CLAMP.id := ne_of_notin hW (by decide +kernel)
  have w4 : g.id ≠ ARM.STAT.DIR.id := ne_of_notin hW (by decide +kernel)
  have w5 : g.id ≠ ARM.STAT.N_AVAIL.id := ne_of_notin hW (by decide +kernel)
  have w6 : g.id ≠ ARM.STAT.N_LAST.id := ne_of_notin hW (by decide +kernel)
  have w7 : g.id ≠ ARM.STAT.POL.id := ne_of_notin hW (by decide +kernel)
  have w8 : g.id ≠ ARM.TICK.E_IN.id := ne_of_notin hW (by decide +kernel)
  have w9 : g.id ≠ ARM.TICK.F16.id := ne_of_notin hW (by decide +kernel)
  have w10 : g.id ∉ Vc.putAggW := notin_sub hW (by decide +kernel)
  simp [Vc.selectArmTick, *]

def Vc.armFormW : List Nat :=
  [ARM.ERR.FORM_CODE.id, ARM.ERR.FORM_REFUSED.id, ARM.LOSSCNT.COUNT.id, ARM.STAT.DIR.id, ARM.STAT.LC.id, ARM.STAT.N_AVAIL.id, ARM.STAT.STATE.id]

@[simp] theorem Vc.rd_armForm (s : Vc) (a : Nat) (g : Fld) (k m : Nat) (hW : g.id ∉ Vc.armFormW) :
    (Vc.armForm s a).rd g k m = s.rd g k m := by
  have w0 : g.id ≠ ARM.ERR.FORM_CODE.id := ne_of_notin hW (by decide +kernel)
  have w1 : g.id ≠ ARM.ERR.FORM_REFUSED.id := ne_of_notin hW (by decide +kernel)
  have w2 : g.id ≠ ARM.LOSSCNT.COUNT.id := ne_of_notin hW (by decide +kernel)
  have w3 : g.id ≠ ARM.STAT.DIR.id := ne_of_notin hW (by decide +kernel)
  have w4 : g.id ≠ ARM.STAT.LC.id := ne_of_notin hW (by decide +kernel)
  have w5 : g.id ≠ ARM.STAT.N_AVAIL.id := ne_of_notin hW (by decide +kernel)
  have w6 : g.id ≠ ARM.STAT.STATE.id := ne_of_notin hW (by decide +kernel)
  simp [Vc.armForm, *]

def Vc.armReleaseW : List Nat :=
  [ARM.STAT.LC.id] ++ Vc.leaveServiceW

@[simp] theorem Vc.rd_armRelease (s : Vc) (a : Nat) (g : Fld) (k m : Nat) (hW : g.id ∉ Vc.armReleaseW) :
    (Vc.armRelease s a).rd g k m = s.rd g k m := by
  have w0 : g.id ≠ ARM.STAT.LC.id := ne_of_notin hW (by decide +kernel)
  have w1 : g.id ≠ ARM.STAT.N_AVAIL.id := ne_of_notin hW (by decide +kernel)
  have w2 : g.id ≠ ARM.STAT.STATE.id := ne_of_notin hW (by decide +kernel)
  have w3 : g.id ∉ Vc.leaveServiceW := notin_sub hW (by decide +kernel)
  unfold Vc.armRelease
  split
  · rfl
  · dsimp only
    rw [Vc.rd_wr_ne _ _ _ _ _ _ _ _ (by assumption), Vc.rd_wr_ne _ _ _ _ _ _ _ _ (by assumption), Vc.rd_setArm, foldl_rd,
      Vc.rd_wr_ne _ _ _ _ _ _ _ _ (by assumption)]
    intro s a
    split
    · exact forN_rd _ _ _ _ _ _ fun s p => Vc.rd_leaveService _ _ _ _ _ _ (by assumption)
    · rfl

def Vc.armCtlW : List Nat :=
  Vc.armReleaseW ++ violIds ++ Vc.armFormW

@[simp] theorem Vc.rd_armCtl (s : Vc) (a w : Nat) (g : Fld) (k m : Nat) (hW : g.id ∉ Vc.armCtlW) :
    (Vc.armCtl s a w).rd g k m = s.rd g k m := by
  have w0 : g.id ∉ Vc.armFormW := notin_sub hW (by decide +kernel)
  have w1 : g.id ∉ Vc.armReleaseW := notin_sub hW (by decide +kernel)
  have w2 : g.id ∉ violIds := notin_sub hW (by decide +kernel)
  simp [Vc.armCtl, *]

@[simp] theorem Vc.rd_mapFacets (s : Vc) (n : Nat) (g : Fld) (k m : Nat) :
    (Vc.mapFacets s n).rd g k m = s.rd g k m := by
  simp [Vc.mapFacets, *]

def Vc.strMapW : List Nat :=
  [PRISM.STRMAP.ARM.id, PRISM.STRMAP.EN.id, PRISM.STRMAP.HOME_VC.id] ++ violIds

@[simp] theorem Vc.rd_strMap (s : Vc) (n w : Nat) (g : Fld) (k m : Nat) (hW : g.id ∉ Vc.strMapW) :
    (Vc.strMap s n w).rd g k m = s.rd g k m := by
  have w0 : g.id ≠ PRISM.STRMAP.ARM.id := ne_of_notin hW (by decide +kernel)
  have w1 : g.id ≠ PRISM.STRMAP.EN.id := ne_of_notin hW (by decide +kernel)
  have w2 : g.id ≠ PRISM.STRMAP.HOME_VC.id := ne_of_notin hW (by decide +kernel)
  have w3 : g.id ∉ violIds := notin_sub hW (by decide +kernel)
  simp [Vc.strMap, *]

@[simp] theorem Vc.rd_facetCtl (s : Vc) (id op : Nat) (buf : HostBuf) (g : Fld) (k m : Nat) (hW : g.id ∉ Vc.pumpW) :
    (Vc.facetCtl s id op buf).rd g k m = s.rd g k m := by
  simp [Vc.facetCtl, *]

@[simp] theorem Vc.rd_facetOp (s : Vc) (op n k : Nat) (bs : List Nat) (g : Fld) (kk m : Nat) (hW : g.id ∉ Vc.leaveServiceW) :
    (Vc.facetOp s op n k bs).rd g kk m = s.rd g kk m := by
  unfold Vc.facetOp
  split <;> simp [*]

def Vc.facetNowW : List Nat :=
  Vc.leaveServiceW ++ Vc.pumpW

@[simp] theorem Vc.rd_facetNow (s : Vc) (d : Desc) (buf : HostBuf) (g : Fld) (k m : Nat) (hW : g.id ∉ Vc.facetNowW) :
    (Vc.facetNow s d buf).rd g k m = s.rd g k m := by
  have w0 : g.id ≠ ARM.STAT.N_AVAIL.id := ne_of_notin hW (by decide +kernel)
  have w1 : g.id ∉ Vc.leaveServiceW := notin_sub hW (by decide +kernel)
  have w2 : g.id ∉ Vc.pumpW := notin_sub hW (by decide +kernel)
  simp [Vc.facetNow, *]

@[simp] theorem Vc.rd_windowRead (s : Vc) (n w : Nat) (g : Fld) (k m : Nat) :
    (Vc.windowRead s n w).1.rd g k m = s.rd g k m := by
  unfold Vc.windowRead
  (repeat' split) <;> simp [*]

def Vc.putLnkW : List Nat :=
  [LANE.STATUS.BEST_RATE.id, LANE.STATUS.BSTATE.id, LANE.STATUS.EQ_SEL.id, LANE.STATUS.RATE.id, LANE.TRIALFOM_HI.FOM.id, LANE.TRIALFOM_LO.FOM.id]

@[simp] theorem Vc.rd_putLnk (s : Vc) (l : Nat) (x : Lnk) (g : Fld) (k m : Nat) (hW : g.id ∉ Vc.putLnkW) :
    (Vc.putLnk s l x).rd g k m = s.rd g k m := by
  have w0 : g.id ≠ LANE.STATUS.BEST_RATE.id := ne_of_notin hW (by decide +kernel)
  have w1 : g.id ≠ LANE.STATUS.BSTATE.id := ne_of_notin hW (by decide +kernel)
  have w2 : g.id ≠ LANE.STATUS.EQ_SEL.id := ne_of_notin hW (by decide +kernel)
  have w3 : g.id ≠ LANE.STATUS.RATE.id := ne_of_notin hW (by decide +kernel)
  have w4 : g.id ≠ LANE.TRIALFOM_HI.FOM.id := ne_of_notin hW (by decide +kernel)
  have w5 : g.id ≠ LANE.TRIALFOM_LO.FOM.id := ne_of_notin hW (by decide +kernel)
  simp [Vc.putLnk, *]

@[simp] theorem Vc.rd_emitLane (s : Vc) (l : Nat) (e : LinkEnd → Emit) (g : Fld) (k m : Nat) :
    (Vc.emitLane s l e).rd g k m = s.rd g k m := by
  unfold Vc.emitLane
  split <;> simp [*]

@[simp] theorem Vc.rd_useEntry (s : Vc) (l : Nat) (e : Option Nat) (g : Fld) (k m : Nat) :
    (Vc.useEntry s l e).rd g k m = s.rd g k m := by
  simp [Vc.useEntry, *]

def Vc.trainW : List Nat :=
  [LANE.ERRSTAT.CHOICE_MISMATCH.id, LANE.ERRSTAT.RATE_FAIL.id] ++ Vc.putLnkW

@[simp] theorem Vc.rd_train (s : Vc) (l : Nat) (o : LnkOut) (g : Fld) (k m : Nat) (hW : g.id ∉ Vc.trainW) :
    (Vc.train s l o).rd g k m = s.rd g k m := by
  have w0 : g.id ≠ LANE.ERRSTAT.CHOICE_MISMATCH.id := ne_of_notin hW (by decide +kernel)
  have w1 : g.id ≠ LANE.ERRSTAT.RATE_FAIL.id := ne_of_notin hW (by decide +kernel)
  have w2 : g.id ∉ Vc.putLnkW := notin_sub hW (by decide +kernel)
  unfold Vc.train
  (repeat' split) <;> simp [*]

@[simp] theorem Vc.rd_settle (s : Vc) (l : Nat) (g : Fld) (k m : Nat) (hW : g.id ∉ Vc.trainW) :
    (Vc.settle s l).rd g k m = s.rd g k m := by
  simp [Vc.settle, *]

@[simp] theorem Vc.rd_bringUp (s : Vc) (l : Nat) (g : Fld) (k m : Nat) (hW : g.id ∉ Vc.trainW) :
    (Vc.bringUp s l).rd g k m = s.rd g k m := by
  have w0 : g.id ∉ Vc.putLnkW := notin_sub hW (by decide +kernel)
  simp [Vc.bringUp, *]

def Vc.refreshLaneW : List Nat :=
  [LANE.STATUS.PSTATE.id] ++ Vc.trainW

@[simp] theorem Vc.rd_refreshLane (s : Vc) (l : Nat) (g : Fld) (k m : Nat) (hW : g.id ∉ Vc.refreshLaneW) :
    (Vc.refreshLane s l).rd g k m = s.rd g k m := by
  have w0 : g.id ≠ LANE.STATUS.PSTATE.id := ne_of_notin hW (by decide +kernel)
  have w1 : g.id ∉ Vc.putLnkW := notin_sub hW (by decide +kernel)
  have w2 : g.id ∉ Vc.trainW := notin_sub hW (by decide +kernel)
  simp [Vc.refreshLane, *]

@[simp] theorem Vc.rd_refreshPort (s : Vc) (n : Nat) (g : Fld) (k m : Nat) (hW : g.id ∉ Vc.refreshLaneW) :
    (Vc.refreshPort s n).rd g k m = s.rd g k m := by
  simp [Vc.refreshPort, *]

def Vc.loseLaneW : List Nat :=
  [LANE.ERRSTAT.LOSS.id, LANE.LOSSCNT.LOSSCNT.id, LANE.LOSS_VT.VT.id] ++ Vc.trainW

@[simp] theorem Vc.rd_loseLane (s : Vc) (l : Nat) (g : Fld) (k m : Nat) (hW : g.id ∉ Vc.loseLaneW) :
    (Vc.loseLane s l).rd g k m = s.rd g k m := by
  have w0 : g.id ≠ LANE.ERRSTAT.LOSS.id := ne_of_notin hW (by decide +kernel)
  have w1 : g.id ≠ LANE.LOSSCNT.LOSSCNT.id := ne_of_notin hW (by decide +kernel)
  have w2 : g.id ≠ LANE.LOSS_VT.VT.id := ne_of_notin hW (by decide +kernel)
  have w3 : g.id ∉ Vc.putLnkW := notin_sub hW (by decide +kernel)
  have w4 : g.id ∉ Vc.trainW := notin_sub hW (by decide +kernel)
  simp [Vc.loseLane, *]

def Vc.codeErrorW : List Nat :=
  [LANE.CODEERR.CODEERR.id, LANE.ERRSTAT.CODE_ERR.id] ++ eventIds

@[simp] theorem Vc.rd_codeError (s : Vc) (l : Nat) (g : Fld) (k m : Nat) (hW : g.id ∉ Vc.codeErrorW) :
    (Vc.codeError s l).rd g k m = s.rd g k m := by
  have w0 : g.id ≠ LANE.CODEERR.CODEERR.id := ne_of_notin hW (by decide +kernel)
  have w1 : g.id ≠ LANE.ERRSTAT.CODE_ERR.id := ne_of_notin hW (by decide +kernel)
  have w2 : g.id ∉ eventIds := notin_sub hW (by decide +kernel)
  simp [Vc.codeError, *]

def Vc.trainErrorW : List Nat :=
  [LANE.ERRSTAT.TRAIN_ERR.id]

@[simp] theorem Vc.rd_trainError (s : Vc) (l : Nat) (g : Fld) (k m : Nat) (hW : g.id ∉ Vc.trainErrorW) :
    (Vc.trainError s l).rd g k m = s.rd g k m := by
  have w0 : g.id ≠ LANE.ERRSTAT.TRAIN_ERR.id := ne_of_notin hW (by decide +kernel)
  simp [Vc.trainError, *]

def Vc.trainRxW : List Nat :=
  Vc.trainW ++ Vc.trainErrorW

@[simp] theorem Vc.rd_trainRx (s : Vc) (l : Nat) (f : TrainFrame) (k : Lnk → LnkCfg → Nat → TrainFrame → LnkOut) (g : Fld) (kk m : Nat) (hW : g.id ∉ Vc.trainRxW) :
    (Vc.trainRx s l f k).rd g kk m = s.rd g kk m := by
  have w0 : g.id ∉ Vc.trainErrorW := notin_sub hW (by decide +kernel)
  have w1 : g.id ∉ Vc.trainW := notin_sub hW (by decide +kernel)
  simp [Vc.trainRx, *]

def Vc.mlaneSlotsW : List Nat :=
  [LANE.ERRSTAT.RATE_FAIL.id] ++ Vc.putLnkW

@[simp] theorem Vc.rd_mlaneSlots (s : Vc) (l : Nat) (foms : List (Option Nat)) (g : Fld) (k m : Nat) (hW : g.id ∉ Vc.mlaneSlotsW) :
    (Vc.mlaneSlots s l foms).rd g k m = s.rd g k m := by
  have w0 : g.id ≠ LANE.ERRSTAT.RATE_FAIL.id := ne_of_notin hW (by decide +kernel)
  have w1 : g.id ∉ Vc.putLnkW := notin_sub hW (by decide +kernel)
  simp [Vc.mlaneSlots, *]

def Vc.fomMeasureW : List Nat :=
  [LANE.ERRSTAT.FOM_LOW.id, LANE.FOMMIN.MIN.id, LANE.STATUS.FOM.id] ++ eventIds

@[simp] theorem Vc.rd_fomMeasure (s : Vc) (l fom : Nat) (g : Fld) (k m : Nat) (hW : g.id ∉ Vc.fomMeasureW) :
    (Vc.fomMeasure s l fom).rd g k m = s.rd g k m := by
  have w0 : g.id ≠ LANE.ERRSTAT.FOM_LOW.id := ne_of_notin hW (by decide +kernel)
  have w1 : g.id ≠ LANE.FOMMIN.MIN.id := ne_of_notin hW (by decide +kernel)
  have w2 : g.id ≠ LANE.STATUS.FOM.id := ne_of_notin hW (by decide +kernel)
  have w3 : g.id ∉ Vc.irqW := notin_sub hW (by decide +kernel)
  have w4 : g.id ∉ eventIds := notin_sub hW (by decide +kernel)
  simp [Vc.fomMeasure, *]

@[simp] theorem Vc.rd_retrain (s : Vc) (l : Nat) (g : Fld) (k m : Nat) (hW : g.id ∉ Vc.trainW) :
    (Vc.retrain s l).rd g k m = s.rd g k m := by
  simp [Vc.retrain, *]

def Vc.clrFomminW : List Nat :=
  [LANE.FOMMIN.MIN.id]

@[simp] theorem Vc.rd_clrFommin (s : Vc) (l : Nat) (g : Fld) (k m : Nat) (hW : g.id ∉ Vc.clrFomminW) :
    (Vc.clrFommin s l).rd g k m = s.rd g k m := by
  have w0 : g.id ≠ LANE.FOMMIN.MIN.id := ne_of_notin hW (by decide +kernel)
  simp [Vc.clrFommin, *]

@[simp] theorem Vc.rd_testSends (s : Vc) (l : Nat) (g : Fld) (k m : Nat) :
    (Vc.testSends s l).rd g k m = s.rd g k m := by
  simp [Vc.testSends, *]

def Vc.laneTestW : List Nat :=
  [LANE.ALIGN.ALIGN_OFF.id, LANE.PRBSBITS.PRBSBITS.id, LANE.PRBSERR.PRBSERR.id, LANE.TEST.CHK.id, LANE.TEST.EN.id, LANE.TEST.EQ_SEL.id, LANE.TEST.GEN.id, LANE.TEST.INV.id, LANE.TEST.LOOP.id, LANE.TEST.PATTERN.id, LANE.TEST.RATE.id, LANE.TESTSTAT.CHK_LOCK.id] ++ violIds ++ Vc.refreshLaneW

@[simp] theorem Vc.rd_laneTest (s : Vc) (l w : Nat) (g : Fld) (k m : Nat) (hW : g.id ∉ Vc.laneTestW) :
    (Vc.laneTest s l w).rd g k m = s.rd g k m := by
  have w0 : g.id ≠ LANE.ALIGN.ALIGN_OFF.id := ne_of_notin hW (by decide +kernel)
  have w1 : g.id ≠ LANE.PRBSBITS.PRBSBITS.id := ne_of_notin hW (by decide +kernel)
  have w2 : g.id ≠ LANE.PRBSERR.PRBSERR.id := ne_of_notin hW (by decide +kernel)
  have w3 : g.id ≠ LANE.STATUS.PSTATE.id := ne_of_notin hW (by decide +kernel)
  have w4 : g.id ≠ LANE.TEST.CHK.id := ne_of_notin hW (by decide +kernel)
  have w5 : g.id ≠ LANE.TEST.EN.id := ne_of_notin hW (by decide +kernel)
  have w6 : g.id ≠ LANE.TEST.EQ_SEL.id := ne_of_notin hW (by decide +kernel)
  have w7 : g.id ≠ LANE.TEST.GEN.id := ne_of_notin hW (by decide +kernel)
  have w8 : g.id ≠ LANE.TEST.INV.id := ne_of_notin hW (by decide +kernel)
  have w9 : g.id ≠ LANE.TEST.LOOP.id := ne_of_notin hW (by decide +kernel)
  have w10 : g.id ≠ LANE.TEST.PATTERN.id := ne_of_notin hW (by decide +kernel)
  have w11 : g.id ≠ LANE.TEST.RATE.id := ne_of_notin hW (by decide +kernel)
  have w12 : g.id ≠ LANE.TESTSTAT.CHK_LOCK.id := ne_of_notin hW (by decide +kernel)
  have w13 : g.id ∉ Vc.putLnkW := notin_sub hW (by decide +kernel)
  have w14 : g.id ∉ Vc.refreshLaneW := notin_sub hW (by decide +kernel)
  have w15 : g.id ∉ violIds := notin_sub hW (by decide +kernel)
  simp [Vc.laneTest, *]

def Vc.testBitW : List Nat :=
  [LANE.PRBSBITS.PRBSBITS.id, LANE.PRBSERR.PRBSERR.id, LANE.TESTSTAT.CHK_LOCK.id]

@[simp] theorem Vc.rd_testBit (s : Vc) (l : Nat) (t : Nat × Nat) (b : Bool) (g : Fld) (k m : Nat) (hW : g.id ∉ Vc.testBitW) :
    (Vc.testBit s l t b).rd g k m = s.rd g k m := by
  have w0 : g.id ≠ LANE.PRBSBITS.PRBSBITS.id := ne_of_notin hW (by decide +kernel)
  have w1 : g.id ≠ LANE.PRBSERR.PRBSERR.id := ne_of_notin hW (by decide +kernel)
  have w2 : g.id ≠ LANE.TESTSTAT.CHK_LOCK.id := ne_of_notin hW (by decide +kernel)
  unfold Vc.testBit
  dsimp only
  (repeat' split) <;> simp [*]

@[simp] theorem Vc.rd_testBits (s : Vc) (l : Nat) (rx : List Bool) (g : Fld) (k m : Nat) (hW : g.id ∉ Vc.testBitW) :
    (Vc.testBits s l rx).rd g k m = s.rd g k m := by
  unfold Vc.testBits
  split <;> simp [*]

def Vc.alignWriteW : List Nat :=
  [LANE.ALIGN.ALIGN_OFF.id, LANE.ALIGN.SLIP_POS.id] ++ violIds

@[simp] theorem Vc.rd_alignWrite (s : Vc) (l w : Nat) (g : Fld) (k m : Nat) (hW : g.id ∉ Vc.alignWriteW) :
    (Vc.alignWrite s l w).rd g k m = s.rd g k m := by
  have w0 : g.id ≠ LANE.ALIGN.ALIGN_OFF.id := ne_of_notin hW (by decide +kernel)
  have w1 : g.id ≠ LANE.ALIGN.SLIP_POS.id := ne_of_notin hW (by decide +kernel)
  have w2 : g.id ∉ violIds := notin_sub hW (by decide +kernel)
  simp [Vc.alignWrite, *]

@[simp] theorem Vc.rd_refreshCasc (s : Vc) (g : Fld) (k m : Nat) (hW : g.id ∉ Vc.refreshLaneW) :
    (Vc.refreshCasc s).rd g k m = s.rd g k m := by
  simp [Vc.refreshCasc, *]

@[simp] theorem Vc.rd_nextTag (s : Vc) (n : Nat) (g : Fld) (k m : Nat) :
    (Vc.nextTag s n).1.rd g k m = s.rd g k m := by
  simp [Vc.nextTag, *]

def Vc.sendMsgW : List Nat :=
  [STRING.MSGSTAT.TAG.id]

@[simp] theorem Vc.rd_sendMsg (s : Vc) (n op dest addr len : Nat) (payload : List Nat) (g : Fld) (k m : Nat) (hW : g.id ∉ Vc.sendMsgW) :
    (Vc.sendMsg s n op dest addr len payload).1.rd g k m = s.rd g k m := by
  have w0 : g.id ≠ STRING.MSGSTAT.TAG.id := ne_of_notin hW (by decide +kernel)
  simp [Vc.sendMsg, *]

@[simp] theorem Vc.rd_queueMsg (s : Vc) (n : Nat) (m : Msg) (g : Fld) (k mm : Nat) :
    (Vc.queueMsg s n m).rd g k mm = s.rd g k mm := by
  simp [Vc.queueMsg, *]

def Vc.loadBeginW : List Nat :=
  [STRING.STATUS.LGEN.id]

@[simp] theorem Vc.rd_loadBegin (s : Vc) (n : Nat) (g : Fld) (k m : Nat) (hW : g.id ∉ Vc.loadBeginW) :
    (Vc.loadBegin s n).rd g k m = s.rd g k m := by
  have w0 : g.id ≠ STRING.STATUS.LGEN.id := ne_of_notin hW (by decide +kernel)
  unfold Vc.loadBegin
  dsimp only
  (repeat' split) <;> simp [*]

def Vc.msgResultW : List Nat :=
  [STRING.ERRSTAT.MSG_NACK.id, STRING.ERRSTAT.MSG_TIMEOUT.id, STRING.HOPDLY.DELAY.id, STRING.MSGSTAT.REASON.id, STRING.MSGSTAT.RESULT.id] ++ Vc.pumpW ++ Vc.loadBeginW

@[simp] theorem Vc.rd_msgResult (s : Vc) (n res reason : Nat) (payload : List Nat) (g : Fld) (k m : Nat) (hW : g.id ∉ Vc.msgResultW) :
    (Vc.msgResult s n res reason payload).rd g k m = s.rd g k m := by
  have w0 : g.id ≠ STRING.ERRSTAT.MSG_NACK.id := ne_of_notin hW (by decide +kernel)
  have w1 : g.id ≠ STRING.ERRSTAT.MSG_TIMEOUT.id := ne_of_notin hW (by decide +kernel)
  have w2 : g.id ≠ STRING.HOPDLY.DELAY.id := ne_of_notin hW (by decide +kernel)
  have w3 : g.id ≠ STRING.MSGSTAT.REASON.id := ne_of_notin hW (by decide +kernel)
  have w4 : g.id ≠ STRING.MSGSTAT.RESULT.id := ne_of_notin hW (by decide +kernel)
  have w5 : g.id ∉ Vc.loadBeginW := notin_sub hW (by decide +kernel)
  have w6 : g.id ∉ Vc.pumpW := notin_sub hW (by decide +kernel)
  unfold Vc.msgResult
  dsimp only
  (repeat' split) <;> simp [*]

def Vc.cellMsgSendW : List Nat :=
  Vc.pumpW ++ Vc.sendMsgW ++ Vc.loadBeginW

@[simp] theorem Vc.rd_cellMsgSend (s : Vc) (n : Nat) (g : Fld) (k m : Nat) (hW : g.id ∉ Vc.cellMsgSendW) :
    (Vc.cellMsgSend s n).rd g k m = s.rd g k m := by
  have w0 : g.id ∉ Vc.loadBeginW := notin_sub hW (by decide +kernel)
  have w1 : g.id ∉ Vc.pumpW := notin_sub hW (by decide +kernel)
  have w2 : g.id ∉ Vc.sendMsgW := notin_sub hW (by decide +kernel)
  unfold Vc.cellMsgSend
  dsimp only
  (repeat' split) <;> simp [*]

@[simp] theorem Vc.rd_msgResponse (s : Vc) (n d : Nat) (m : MsgFrame) (g : Fld) (k mm : Nat) (hW : g.id ∉ Vc.msgResultW) :
    (Vc.msgResponse s n d m).rd g k mm = s.rd g k mm := by
  unfold Vc.msgResponse
  split <;> simp [*]

@[simp] theorem Vc.rd_msgTimeout (s : Vc) (n : Nat) (g : Fld) (k m : Nat) (hW : g.id ∉ Vc.msgResultW) :
    (Vc.msgTimeout s n).rd g k m = s.rd g k m := by
  unfold Vc.msgTimeout
  split <;> simp [*]

@[simp] theorem Vc.rd_cancelMsgs (s : Vc) (n : Nat) (g : Fld) (k m : Nat) (hW : g.id ∉ Vc.pumpW) :
    (Vc.cancelMsgs s n).rd g k m = s.rd g k m := by
  unfold Vc.cancelMsgs
  refine (foldl_rd _ _ _ _ ?_ _ _).trans ?_ <;> intros <;> first | (simp [*]; done) | (split <;> simp [*])

def Vc.strEnterW : List Nat :=
  [STRING.STATUS.LOAD_BUSY.id, STRING.STATUS.STATE.id] ++ Vc.refreshLaneW ++ Vc.pumpW

@[simp] theorem Vc.rd_strEnter (s : Vc) (n st : Nat) (g : Fld) (k m : Nat) (hW : g.id ∉ Vc.strEnterW) :
    (Vc.strEnter s n st).rd g k m = s.rd g k m := by
  have w0 : g.id ≠ STRING.STATUS.LOAD_BUSY.id := ne_of_notin hW (by decide +kernel)
  have w1 : g.id ≠ STRING.STATUS.STATE.id := ne_of_notin hW (by decide +kernel)
  have w2 : g.id ∉ Vc.pumpW := notin_sub hW (by decide +kernel)
  have w3 : g.id ∉ Vc.refreshLaneW := notin_sub hW (by decide +kernel)
  simp [Vc.strEnter, *]

def Vc.strFailW : List Nat :=
  [STRING.ERRSTAT.START_FAIL.id, STRING.STATUS.STARTCODE.id] ++ Vc.strEnterW ++ eventIds

@[simp] theorem Vc.rd_strFail (s : Vc) (n code : Nat) (g : Fld) (k m : Nat) (hW : g.id ∉ Vc.strFailW) :
    (Vc.strFail s n code).rd g k m = s.rd g k m := by
  have w0 : g.id ≠ STRING.ERRSTAT.START_FAIL.id := ne_of_notin hW (by decide +kernel)
  have w1 : g.id ≠ STRING.STATUS.STARTCODE.id := ne_of_notin hW (by decide +kernel)
  have w2 : g.id ∉ Vc.irqW := notin_sub hW (by decide +kernel)
  have w3 : g.id ∉ Vc.strEnterW := notin_sub hW (by decide +kernel)
  have w4 : g.id ∉ eventIds := notin_sub hW (by decide +kernel)
  simp [Vc.strFail, *]

def Vc.endHoldsW : List Nat :=
  [LANE.STATUS.HELD.id]

@[simp] theorem Vc.rd_endHolds (s : Vc) (n : Nat) (g : Fld) (k m : Nat) (hW : g.id ∉ Vc.endHoldsW) :
    (Vc.endHolds s n).rd g k m = s.rd g k m := by
  have w0 : g.id ≠ LANE.STATUS.HELD.id := ne_of_notin hW (by decide +kernel)
  simp [Vc.endHolds, *]

def Vc.strClearW : List Nat :=
  [STRING.BREAK.NCUT.id, STRING.BREAK.RPOS_X.id, STRING.BREAK.RPOS_Y.id, STRING.BREAK.VALID_X.id, STRING.BREAK.VALID_Y.id, STRING.COPYERR_CNT.COUNT.id, STRING.HDRERR_CNT.COUNT.id, STRING.HOPDLY.DELAY.id, STRING.NOREP_CNT.COUNT.id, STRING.REFL_CNT.COUNT.id, STRING.STATUS.LC.id, STRING.STATUS.RING.id, STRING.STATUS.STARTCODE.id] ++ Vc.endHoldsW

@[simp] theorem Vc.rd_strClear (s : Vc) (n : Nat) (g : Fld) (k m : Nat) (hW : g.id ∉ Vc.strClearW) :
    (Vc.strClear s n).rd g k m = s.rd g k m := by
  have w0 : g.id ≠ STRING.BREAK.NCUT.id := ne_of_notin hW (by decide +kernel)
  have w1 : g.id ≠ STRING.BREAK.RPOS_X.id := ne_of_notin hW (by decide +kernel)
  have w2 : g.id ≠ STRING.BREAK.RPOS_Y.id := ne_of_notin hW (by decide +kernel)
  have w3 : g.id ≠ STRING.BREAK.VALID_X.id := ne_of_notin hW (by decide +kernel)
  have w4 : g.id ≠ STRING.BREAK.VALID_Y.id := ne_of_notin hW (by decide +kernel)
  have w5 : g.id ≠ STRING.COPYERR_CNT.COUNT.id := ne_of_notin hW (by decide +kernel)
  have w6 : g.id ≠ STRING.HDRERR_CNT.COUNT.id := ne_of_notin hW (by decide +kernel)
  have w7 : g.id ≠ STRING.HOPDLY.DELAY.id := ne_of_notin hW (by decide +kernel)
  have w8 : g.id ≠ STRING.NOREP_CNT.COUNT.id := ne_of_notin hW (by decide +kernel)
  have w9 : g.id ≠ STRING.REFL_CNT.COUNT.id := ne_of_notin hW (by decide +kernel)
  have w10 : g.id ≠ STRING.STATUS.LC.id := ne_of_notin hW (by decide +kernel)
  have w11 : g.id ≠ STRING.STATUS.RING.id := ne_of_notin hW (by decide +kernel)
  have w12 : g.id ≠ STRING.STATUS.STARTCODE.id := ne_of_notin hW (by decide +kernel)
  have w13 : g.id ∉ Vc.endHoldsW := notin_sub hW (by decide +kernel)
  simp [Vc.strClear, *]

def Vc.strStartW : List Nat :=
  [GLOBAL.STATUS.TP_SHORT.id] ++ Vc.strFailW ++ Vc.strClearW

@[simp] theorem Vc.rd_strStart (s : Vc) (n : Nat) (g : Fld) (k m : Nat) (hW : g.id ∉ Vc.strStartW) :
    (Vc.strStart s n).rd g k m = s.rd g k m := by
  have w0 : g.id ≠ GLOBAL.STATUS.TP_SHORT.id := ne_of_notin hW (by decide +kernel)
  have w1 : g.id ∉ Vc.strClearW := notin_sub hW (by decide +kernel)
  have w2 : g.id ∉ Vc.strEnterW := notin_sub hW (by decide +kernel)
  have w3 : g.id ∉ Vc.strFailW := notin_sub hW (by decide +kernel)
  simp [Vc.strStart, *]

@[simp] theorem Vc.rd_sendAssign (s : Vc) (n : Nat) (g : Fld) (k m : Nat) (hW : g.id ∉ Vc.sendMsgW) :
    (Vc.sendAssign s n).rd g k m = s.rd g k m := by
  have w0 : g.id ≠ STRING.MSGSTAT.TAG.id := ne_of_notin hW (by decide +kernel)
  unfold Vc.sendAssign
  dsimp only
  (repeat' split) <;> simp [*]

def Vc.trainDoneW : List Nat :=
  Vc.strEnterW ++ Vc.sendMsgW

@[simp] theorem Vc.rd_trainDone (s : Vc) (n : Nat) (g : Fld) (k m : Nat) (hW : g.id ∉ Vc.trainDoneW) :
    (Vc.trainDone s n).rd g k m = s.rd g k m := by
  have w0 : g.id ∉ Vc.sendMsgW := notin_sub hW (by decide +kernel)
  have w1 : g.id ∉ Vc.strEnterW := notin_sub hW (by decide +kernel)
  simp [Vc.trainDone, *]

@[simp] theorem Vc.rd_trainTimeout (s : Vc) (n : Nat) (g : Fld) (k m : Nat) (hW : g.id ∉ Vc.strFailW) :
    (Vc.trainTimeout s n).rd g k m = s.rd g k m := by
  simp [Vc.trainTimeout, *]

@[simp] theorem Vc.rd_assignRepeat (s : Vc) (n : Nat) (g : Fld) (k m : Nat) (hW : g.id ∉ Vc.sendMsgW) :
    (Vc.assignRepeat s n).rd g k m = s.rd g k m := by
  simp [Vc.assignRepeat, *]

@[simp] theorem Vc.rd_assignTimeout (s : Vc) (n : Nat) (g : Fld) (k m : Nat) (hW : g.id ∉ Vc.strFailW) :
    (Vc.assignTimeout s n).rd g k m = s.rd g k m := by
  simp [Vc.assignTimeout, *]

def Vc.assignReturnW : List Nat :=
  Vc.strFailW ++ Vc.sendMsgW

@[simp] theorem Vc.rd_assignReturn (s : Vc) (n : Nat) (m : MsgFrame) (g : Fld) (k mm : Nat) (hW : g.id ∉ Vc.assignReturnW) :
    (Vc.assignReturn s n m).rd g k mm = s.rd g k mm := by
  have w0 : g.id ∉ Vc.sendMsgW := notin_sub hW (by decide +kernel)
  have w1 : g.id ∉ Vc.strEnterW := notin_sub hW (by decide +kernel)
  have w2 : g.id ∉ Vc.strFailW := notin_sub hW (by decide +kernel)
  simp [Vc.assignReturn, *]

def Vc.echoRxW : List Nat :=
  [STRING.HOPDLY.DELAY.id]

@[simp] theorem Vc.rd_echoRx (s : Vc) (n num turn rttPs : Nat) (g : Fld) (k m : Nat) (hW : g.id ∉ Vc.echoRxW) :
    (Vc.echoRx s n num turn rttPs).rd g k m = s.rd g k m := by
  have w0 : g.id ≠ STRING.HOPDLY.DELAY.id := ne_of_notin hW (by decide +kernel)
  simp [Vc.echoRx, *]

@[simp] theorem Vc.rd_echoTimeout (s : Vc) (n : Nat) (g : Fld) (k m : Nat) :
    (Vc.echoTimeout s n).rd g k m = s.rd g k m := by
  simp [Vc.echoTimeout, *]

def Vc.calibrationDoneW : List Nat :=
  [STRING.CALRES.TX_NS.id, STRING.CALRES.TY_NS.id, STRING.STATUS.LC.id] ++ Vc.strFailW

@[simp] theorem Vc.rd_calibrationDone (s : Vc) (n : Nat) (g : Fld) (k m : Nat) (hW : g.id ∉ Vc.calibrationDoneW) :
    (Vc.calibrationDone s n).rd g k m = s.rd g k m := by
  have w0 : g.id ≠ STRING.CALRES.TX_NS.id := ne_of_notin hW (by decide +kernel)
  have w1 : g.id ≠ STRING.CALRES.TY_NS.id := ne_of_notin hW (by decide +kernel)
  have w2 : g.id ≠ STRING.STATUS.LC.id := ne_of_notin hW (by decide +kernel)
  have w3 : g.id ∉ Vc.strEnterW := notin_sub hW (by decide +kernel)
  have w4 : g.id ∉ Vc.strFailW := notin_sub hW (by decide +kernel)
  simp [Vc.calibrationDone, *]

def Vc.ownResultW : List Nat :=
  [STRING.ERRSTAT.MSG_TIMEOUT.id, STRING.MSGSTAT.REASON.id, STRING.MSGSTAT.RESULT.id]

@[simp] theorem Vc.rd_ownResult (s : Vc) (n : Nat) (answered : Bool) (g : Fld) (k m : Nat) (hW : g.id ∉ Vc.ownResultW) :
    (Vc.ownResult s n answered).rd g k m = s.rd g k m := by
  have w0 : g.id ≠ STRING.ERRSTAT.MSG_TIMEOUT.id := ne_of_notin hW (by decide +kernel)
  have w1 : g.id ≠ STRING.MSGSTAT.REASON.id := ne_of_notin hW (by decide +kernel)
  have w2 : g.id ≠ STRING.MSGSTAT.RESULT.id := ne_of_notin hW (by decide +kernel)
  simp [Vc.ownResult, *]

def Vc.writePathW : List Nat :=
  Vc.ownResultW ++ Vc.sendMsgW

@[simp] theorem Vc.rd_writePath (s : Vc) (n p ack : Nat) (d : Int × Int) (g : Fld) (k m : Nat) (hW : g.id ∉ Vc.writePathW) :
    (Vc.writePath s n p ack d).rd g k m = s.rd g k m := by
  have w0 : g.id ∉ Vc.ownResultW := notin_sub hW (by decide +kernel)
  have w1 : g.id ∉ Vc.sendMsgW := notin_sub hW (by decide +kernel)
  simp [Vc.writePath, *]

def Vc.imageLoadDoneW : List Nat :=
  Vc.strFailW ++ Vc.writePathW

@[simp] theorem Vc.rd_imageLoadDone (s : Vc) (n : Nat) (rx : List Nat) (replies : List (Option (Nat × Nat))) (acks : List Nat) (g : Fld) (k m : Nat) (hW : g.id ∉ Vc.imageLoadDoneW) :
    (Vc.imageLoadDone s n rx replies acks).rd g k m = s.rd g k m := by
  have w0 : g.id ∉ Vc.ownResultW := notin_sub hW (by decide +kernel)
  have w1 : g.id ∉ Vc.sendMsgW := notin_sub hW (by decide +kernel)
  have w2 : g.id ∉ Vc.strEnterW := notin_sub hW (by decide +kernel)
  have w3 : g.id ∉ Vc.strFailW := notin_sub hW (by decide +kernel)
  have w4 : g.id ∉ Vc.writePathW := notin_sub hW (by decide +kernel)
  unfold Vc.imageLoadDone
  first
    | ((repeat' split) <;> first | with_reducible rfl | (simp [*]; done) | (simp_all; done))
    | (repeat' (first
        | with_reducible rfl
        | (simp [*]; done)
        | (dsimp only; refine (foldl_rd _ _ _ _ ?_ _ _).trans ?_ <;> intros)
        | (dsimp only; refine (foldl1_rd _ _ _ _ ?_ _ _).trans ?_ <;> intros)
        | (refine (forN_rd _ _ _ _ _ _ ?_).trans ?_ <;> intros)
        | split
        | (intros; split)
        | (simp [*]; split)
        | (simp [*]; intros; split)))

def Vc.syncCompleteW : List Nat :=
  Vc.leaveServiceW ++ Vc.strEnterW

@[simp] theorem Vc.rd_syncComplete (s : Vc) (n : Nat) (g : Fld) (k m : Nat) (hW : g.id ∉ Vc.syncCompleteW) :
    (Vc.syncComplete s n).rd g k m = s.rd g k m := by
  have w0 : g.id ∉ Vc.leaveServiceW := notin_sub hW (by decide +kernel)
  have w1 : g.id ∉ Vc.strEnterW := notin_sub hW (by decide +kernel)
  simp [Vc.syncComplete, *]

def Vc.syncTimeoutW : List Nat :=
  Vc.strFailW ++ Vc.leaveServiceW

@[simp] theorem Vc.rd_syncTimeout (s : Vc) (n : Nat) (g : Fld) (k m : Nat) (hW : g.id ∉ Vc.syncTimeoutW) :
    (Vc.syncTimeout s n).rd g k m = s.rd g k m := by
  have w0 : g.id ∉ Vc.leaveServiceW := notin_sub hW (by decide +kernel)
  have w1 : g.id ∉ Vc.strFailW := notin_sub hW (by decide +kernel)
  simp [Vc.syncTimeout, *]

def Vc.strDownW : List Nat :=
  [STRING.ERRSTAT.STRING_DOWN.id] ++ Vc.leaveServiceW ++ Vc.strEnterW

@[simp] theorem Vc.rd_strDown (s : Vc) (n : Nat) (g : Fld) (k m : Nat) (hW : g.id ∉ Vc.strDownW) :
    (Vc.strDown s n).rd g k m = s.rd g k m := by
  have w0 : g.id ≠ STRING.ERRSTAT.STRING_DOWN.id := ne_of_notin hW (by decide +kernel)
  have w1 : g.id ∉ Vc.irqW := notin_sub hW (by decide +kernel)
  have w2 : g.id ∉ Vc.leaveServiceW := notin_sub hW (by decide +kernel)
  have w3 : g.id ∉ Vc.strEnterW := notin_sub hW (by decide +kernel)
  have w4 : g.id ∉ eventIds := notin_sub hW (by decide +kernel)
  simp [Vc.strDown, *]

@[simp] theorem Vc.rd_strStop (s : Vc) (n : Nat) (g : Fld) (k m : Nat) (hW : g.id ∉ Vc.syncCompleteW) :
    (Vc.strStop s n).rd g k m = s.rd g k m := by
  have w0 : g.id ∉ Vc.leaveServiceW := notin_sub hW (by decide +kernel)
  have w1 : g.id ∉ Vc.strEnterW := notin_sub hW (by decide +kernel)
  simp [Vc.strStop, *]

@[simp] theorem Vc.rd_stopEnd (s : Vc) (n : Nat) (g : Fld) (k m : Nat) (hW : g.id ∉ Vc.syncCompleteW) :
    (Vc.stopEnd s n).rd g k m = s.rd g k m := by
  have w0 : g.id ∉ Vc.leaveServiceW := notin_sub hW (by decide +kernel)
  have w1 : g.id ∉ Vc.strEnterW := notin_sub hW (by decide +kernel)
  simp [Vc.stopEnd, *]

def Vc.strLoadW : List Nat :=
  [STRING.STATUS.LOAD_BUSY.id] ++ Vc.loadBeginW

@[simp] theorem Vc.rd_strLoad (s : Vc) (n : Nat) (g : Fld) (k m : Nat) (hW : g.id ∉ Vc.strLoadW) :
    (Vc.strLoad s n).rd g k m = s.rd g k m := by
  have w0 : g.id ≠ STRING.STATUS.LOAD_BUSY.id := ne_of_notin hW (by decide +kernel)
  have w1 : g.id ∉ Vc.loadBeginW := notin_sub hW (by decide +kernel)
  simp [Vc.strLoad, *]

def Vc.loadEndW : List Nat :=
  [STRING.ERRSTAT.LOAD_FAIL.id, STRING.STATUS.LOAD_BUSY.id] ++ Vc.leaveServiceW

@[simp] theorem Vc.rd_loadEnd (s : Vc) (n : Nat) (g : Fld) (k m : Nat) (hW : g.id ∉ Vc.loadEndW) :
    (Vc.loadEnd s n).rd g k m = s.rd g k m := by
  have w0 : g.id ≠ STRING.ERRSTAT.LOAD_FAIL.id := ne_of_notin hW (by decide +kernel)
  have w1 : g.id ≠ STRING.STATUS.LOAD_BUSY.id := ne_of_notin hW (by decide +kernel)
  have w2 : g.id ∉ Vc.irqW := notin_sub hW (by decide +kernel)
  have w3 : g.id ∉ Vc.leaveServiceW := notin_sub hW (by decide +kernel)
  unfold Vc.loadEnd
  dsimp only
  (repeat' split) <;> simp [*]

def Vc.strCtrlW : List Nat :=
  Vc.syncCompleteW ++ Vc.strStartW ++ violIds ++ Vc.strLoadW

@[simp] theorem Vc.rd_strCtrl (s : Vc) (n w : Nat) (g : Fld) (k m : Nat) (hW : g.id ∉ Vc.strCtrlW) :
    (Vc.strCtrl s n w).rd g k m = s.rd g k m := by
  have w0 : g.id ∉ Vc.strLoadW := notin_sub hW (by decide +kernel)
  have w1 : g.id ∉ Vc.strStartW := notin_sub hW (by decide +kernel)
  have w2 : g.id ∉ Vc.syncCompleteW := notin_sub hW (by decide +kernel)
  have w3 : g.id ∉ violIds := notin_sub hW (by decide +kernel)
  simp [Vc.strCtrl, *]

def Vc.sweepReturnW : List Nat :=
  [STRING.ERRSTAT.HDR_ERR.id, STRING.HDRERR_CNT.COUNT.id, STRING.REFL_CNT.COUNT.id]

@[simp] theorem Vc.rd_sweepReturn (s : Vc) (n : Nat) (endY : Bool) (h : List Block) (start : Nat) (reps : List DWord)
    (tr : Option (Block × Block)) (g : Fld) (k m : Nat) (hW : g.id ∉ Vc.sweepReturnW) :
    (Vc.sweepReturn s n endY h start reps tr).rd g k m = s.rd g k m := by
  have w0 : g.id ≠ STRING.ERRSTAT.HDR_ERR.id := ne_of_notin hW (by decide +kernel)
  have w1 : g.id ≠ STRING.HDRERR_CNT.COUNT.id := ne_of_notin hW (by decide +kernel)
  have w2 : g.id ≠ STRING.REFL_CNT.COUNT.id := ne_of_notin hW (by decide +kernel)
  unfold Vc.sweepReturn
  (repeat' split) <;> simp [*]

def Vc.breakFieldsW : List Nat :=
  [STRING.BREAK.RPOS_X.id, STRING.BREAK.RPOS_Y.id, STRING.BREAK.VALID_X.id, STRING.BREAK.VALID_Y.id]

@[simp] theorem Vc.rd_breakFields (s : Vc) (n : Nat) (g : Fld) (k m : Nat) (hW : g.id ∉ Vc.breakFieldsW) :
    (Vc.breakFields s n).rd g k m = s.rd g k m := by
  have w0 : g.id ≠ STRING.BREAK.RPOS_X.id := ne_of_notin hW (by decide +kernel)
  have w1 : g.id ≠ STRING.BREAK.RPOS_Y.id := ne_of_notin hW (by decide +kernel)
  have w2 : g.id ≠ STRING.BREAK.VALID_X.id := ne_of_notin hW (by decide +kernel)
  have w3 : g.id ≠ STRING.BREAK.VALID_Y.id := ne_of_notin hW (by decide +kernel)
  unfold Vc.breakFields
  dsimp only
  (repeat' split) <;> simp [*]

def Vc.holdLinkW : List Nat :=
  [LANE.ERRSTAT.HELD_OUT.id, LANE.PORTLINK.LAST_LINK.id, LANE.STATUS.HELD.id] ++ eventIds ++ Vc.refreshLaneW

@[simp] theorem Vc.rd_holdLink (s : Vc) (n i : Nat) (g : Fld) (k m : Nat) (hW : g.id ∉ Vc.holdLinkW) :
    (Vc.holdLink s n i).rd g k m = s.rd g k m := by
  have w0 : g.id ≠ LANE.ERRSTAT.HELD_OUT.id := ne_of_notin hW (by decide +kernel)
  have w1 : g.id ≠ LANE.PORTLINK.LAST_LINK.id := ne_of_notin hW (by decide +kernel)
  have w2 : g.id ≠ LANE.STATUS.HELD.id := ne_of_notin hW (by decide +kernel)
  have w3 : g.id ∉ Vc.irqW := notin_sub hW (by decide +kernel)
  have w4 : g.id ∉ Vc.refreshLaneW := notin_sub hW (by decide +kernel)
  have w5 : g.id ∉ eventIds := notin_sub hW (by decide +kernel)
  simp [Vc.holdLink, *]

@[simp] theorem Vc.rd_keepBreaks (s : Vc) (n : Nat) (links : List Nat) (g : Fld) (k m : Nat) :
    (Vc.keepBreaks s n links).rd g k m = s.rd g k m := by
  simp [Vc.keepBreaks, *]

@[simp] theorem Vc.rd_onsets (s : Vc) (n : Nat) (links : List Nat) (g : Fld) (k m : Nat) (hW : g.id ∉ Vc.holdLinkW) :
    (Vc.onsets s n links).rd g k m = s.rd g k m := by
  simp [Vc.onsets, *]

def Vc.breaksW : List Nat :=
  [STRING.BREAK.NCUT.id, STRING.ERRSTAT.REFLECT.id, STRING.ERRSTAT.TWO_BREAKS.id, STRING.STATUS.RING.id] ++ Vc.holdLinkW

@[simp] theorem Vc.rd_breaks (s : Vc) (n : Nat) (cut : List Nat) (g : Fld) (k m : Nat) (hW : g.id ∉ Vc.breaksW) :
    (Vc.breaks s n cut).rd g k m = s.rd g k m := by
  have w0 : g.id ≠ STRING.BREAK.NCUT.id := ne_of_notin hW (by decide +kernel)
  have w1 : g.id ≠ STRING.ERRSTAT.REFLECT.id := ne_of_notin hW (by decide +kernel)
  have w2 : g.id ≠ STRING.ERRSTAT.TWO_BREAKS.id := ne_of_notin hW (by decide +kernel)
  have w3 : g.id ≠ STRING.STATUS.RING.id := ne_of_notin hW (by decide +kernel)
  have w4 : g.id ∉ Vc.holdLinkW := notin_sub hW (by decide +kernel)
  have w5 : g.id ∉ Vc.irqW := notin_sub hW (by decide +kernel)
  have w6 : g.id ∉ eventIds := notin_sub hW (by decide +kernel)
  simp [Vc.breaks, *]

def Vc.retTimeW : List Nat :=
  [STRING.RETTIME.RET_X_NS.id, STRING.RETTIME.RET_Y_NS.id]

@[simp] theorem Vc.rd_retTime (s : Vc) (n : Nat) (g : Fld) (k m : Nat) (hW : g.id ∉ Vc.retTimeW) :
    (Vc.retTime s n).rd g k m = s.rd g k m := by
  have w0 : g.id ≠ STRING.RETTIME.RET_X_NS.id := ne_of_notin hW (by decide +kernel)
  have w1 : g.id ≠ STRING.RETTIME.RET_Y_NS.id := ne_of_notin hW (by decide +kernel)
  simp [Vc.retTime, *]

def Vc.strCommitW : List Nat :=
  Vc.commitFacetW ++ Vc.breaksW ++ Vc.breakFieldsW ++ Vc.retTimeW

@[simp] theorem Vc.rd_strCommit (s : Vc) (n : Nat) (g : Fld) (k m : Nat) (hW : g.id ∉ Vc.strCommitW) :
    (Vc.strCommit s n).rd g k m = s.rd g k m := by
  have w0 : g.id ∉ Vc.breakFieldsW := notin_sub hW (by decide +kernel)
  have w1 : g.id ∉ Vc.breaksW := notin_sub hW (by decide +kernel)
  have w2 : g.id ∉ Vc.commitFacetW := notin_sub hW (by decide +kernel)
  have w3 : g.id ∉ Vc.leaveServiceW := notin_sub hW (by decide +kernel)
  have w4 : g.id ∉ Vc.retTimeW := notin_sub hW (by decide +kernel)
  simp [Vc.strCommit, *]

@[simp] theorem Vc.rd_heldSlot (s : Vc) (i eff : Nat) (g : Fld) (k m : Nat) :
    (Vc.heldSlot s i eff).rd g k m = s.rd g k m := by
  simp [Vc.heldSlot, *]

@[simp] theorem Vc.rd_slotWord (s : Vc) (n p seq eff : Nat) (g : Fld) (k m : Nat) (hW : g.id ∉ eventIds) :
    (Vc.slotWord s n p seq eff).1.rd g k m = s.rd g k m := by
  unfold Vc.slotWord
  (repeat' split) <;> simp [*]

@[simp] theorem Vc.rd_launch (s : Vc) (n extra : Nat) (g : Fld) (k m : Nat) (hW : g.id ∉ eventIds) :
    (Vc.launch s n extra).rd g k m = s.rd g k m := by
  simp [Vc.launch, *]

def Vc.releasePortW : List Nat :=
  Vc.refreshLaneW ++ Vc.endHoldsW

@[simp] theorem Vc.rd_releasePort (s : Vc) (n : Nat) (g : Fld) (k m : Nat) (hW : g.id ∉ Vc.releasePortW) :
    (Vc.releasePort s n).rd g k m = s.rd g k m := by
  have w0 : g.id ∉ Vc.endHoldsW := notin_sub hW (by decide +kernel)
  have w1 : g.id ∉ Vc.refreshLaneW := notin_sub hW (by decide +kernel)
  simp [Vc.releasePort, *]

def Vc.laneCtrlW : List Nat :=
  Vc.releasePortW ++ Vc.clrFomminW

@[simp] theorem Vc.rd_laneCtrl (s : Vc) (l w : Nat) (g : Fld) (k m : Nat) (hW : g.id ∉ Vc.laneCtrlW) :
    (Vc.laneCtrl s l w).rd g k m = s.rd g k m := by
  have w0 : g.id ∉ Vc.clrFomminW := notin_sub hW (by decide +kernel)
  have w1 : g.id ∉ Vc.releasePortW := notin_sub hW (by decide +kernel)
  have w2 : g.id ∉ Vc.trainW := notin_sub hW (by decide +kernel)
  simp [Vc.laneCtrl, *]

def Vc.strLaneLossW : List Nat :=
  eventIds ++ Vc.loseLaneW

@[simp] theorem Vc.rd_strLaneLoss (s : Vc) (l : Nat) (g : Fld) (k m : Nat) (hW : g.id ∉ Vc.strLaneLossW) :
    (Vc.strLaneLoss s l).rd g k m = s.rd g k m := by
  have w0 : g.id ∉ Vc.loseLaneW := notin_sub hW (by decide +kernel)
  have w1 : g.id ∉ Vc.putLnkW := notin_sub hW (by decide +kernel)
  have w2 : g.id ∉ eventIds := notin_sub hW (by decide +kernel)
  simp [Vc.strLaneLoss, *]

@[simp] theorem Vc.rd_copyUpset (s : Vc) (u : CmpUpset) (g : Fld) (k m : Nat) :
    (Vc.copyUpset s u).rd g k m = s.rd g k m := by
  simp [Vc.copyUpset, *]

@[simp] theorem Vc.rd_copyCheck (s : Vc) (ups : List CmpUpset) (g : Fld) (k m : Nat) :
    (Vc.copyCheck s ups).rd g k m = s.rd g k m := by
  simp [Vc.copyCheck, *]

@[simp] theorem Vc.rd_copyWritten (s : Vc) (k : Nat) (g : Fld) (kk m : Nat) :
    (Vc.copyWritten s k).rd g kk m = s.rd g kk m := by
  simp [Vc.copyWritten, *]

@[simp] theorem Vc.rd_clearRuns (s : Vc) (g : Fld) (k m : Nat) :
    (Vc.clearRuns s).rd g k m = s.rd g k m := by
  exact forN_rd _ _ _ _ _ _ fun s k => rfl

def Vc.holdOutW : List Nat :=
  [PROT.ERRSTAT.CMP_HELDOUT.id, PROT.STATUS.CMP_MODE.id, PROT.STATUS.HELD.id] ++ latchIds

@[simp] theorem Vc.rd_holdOut (s : Vc) (i : Nat) (g : Fld) (k m : Nat) (hW : g.id ∉ Vc.holdOutW) :
    (Vc.holdOut s i).rd g k m = s.rd g k m := by
  have w0 : g.id ≠ PROT.ERRSTAT.CMP_HELDOUT.id := ne_of_notin hW (by decide +kernel)
  have w1 : g.id ≠ PROT.STATUS.CMP_MODE.id := ne_of_notin hW (by decide +kernel)
  have w2 : g.id ≠ PROT.STATUS.HELD.id := ne_of_notin hW (by decide +kernel)
  have w3 : g.id ∉ eventIds := notin_sub hW (by decide +kernel)
  have w4 : g.id ∉ latchIds := notin_sub hW (by decide +kernel)
  simp [Vc.holdOut, *]

def Vc.disagreesW : List Nat :=
  [PROT.CMPDIS.COUNT.id, PROT.ERRSTAT.CMP_DISAGREE.id] ++ eventIds

@[simp] theorem Vc.rd_disagrees (s : Vc) (i : Nat) (g : Fld) (k m : Nat) (hW : g.id ∉ Vc.disagreesW) :
    (Vc.disagrees s i).rd g k m = s.rd g k m := by
  have w0 : g.id ≠ PROT.CMPDIS.COUNT.id := ne_of_notin hW (by decide +kernel)
  have w1 : g.id ≠ PROT.ERRSTAT.CMP_DISAGREE.id := ne_of_notin hW (by decide +kernel)
  have w2 : g.id ∉ eventIds := notin_sub hW (by decide +kernel)
  simp [Vc.disagrees, *]

def Vc.judgeRunsW : List Nat :=
  Vc.holdOutW ++ Vc.disagreesW

@[simp] theorem Vc.rd_judgeRuns (s : Vc) (k : Nat) (ov : Nat → Bool) (g : Fld) (kk m : Nat) (hW : g.id ∉ Vc.judgeRunsW) :
    (Vc.judgeRuns s k ov).rd g kk m = s.rd g kk m := by
  have w0 : g.id ∉ Vc.disagreesW := notin_sub hW (by decide +kernel)
  have w1 : g.id ∉ Vc.holdOutW := notin_sub hW (by decide +kernel)
  unfold Vc.judgeRuns
  dsimp only
  (repeat' split) <;> simp [*]

@[simp] theorem Vc.rd_compare (s : Vc) (l ch x : Nat) (overrange : Bool) (bad : Nat) (g : Fld) (k m : Nat) (hW : g.id ∉ Vc.judgeRunsW) :
    (Vc.compare s l ch x overrange bad).rd g k m = s.rd g k m := by
  have w0 : g.id ∉ latchIds := notin_sub hW (by decide +kernel)
  simp [Vc.compare, *]

@[simp] theorem Vc.rd_apSample (s : Vc) (l ch x tag : Nat) (g : Fld) (k m : Nat) :
    (Vc.apSample s l ch x tag).rd g k m = s.rd g k m := by
  simp [Vc.apSample, *]

@[simp] theorem Vc.rd_takeSample (s : Vc) (l ch x stat bad tag : Nat) (g : Fld) (k m : Nat) (hW : g.id ∉ Vc.judgeRunsW) :
    (Vc.takeSample s l ch x stat bad tag).rd g k m = s.rd g k m := by
  simp [Vc.takeSample, *]

def Vc.measFrameW : List Nat :=
  [MLANE.CRCERR.CRCERR.id, MLANE.MSTAT.LAST_FSEQ.id, MLANE.SEQGAP.SEQGAP.id, PROT.ERRSTAT.FRAME_ERR.id, PROT.ERRSTAT.SEQ_GAP.id] ++ Vc.judgeRunsW

@[simp] theorem Vc.rd_measFrame (s : Vc) (l : Nat) (bs : List Block) (bad : Nat) (g : Fld) (k m : Nat) (hW : g.id ∉ Vc.measFrameW) :
    (Vc.measFrame s l bs bad).rd g k m = s.rd g k m := by
  have w0 : g.id ≠ MLANE.CRCERR.CRCERR.id := ne_of_notin hW (by decide +kernel)
  have w1 : g.id ≠ MLANE.MSTAT.LAST_FSEQ.id := ne_of_notin hW (by decide +kernel)
  have w2 : g.id ≠ MLANE.SEQGAP.SEQGAP.id := ne_of_notin hW (by decide +kernel)
  have w3 : g.id ≠ PROT.ERRSTAT.FRAME_ERR.id := ne_of_notin hW (by decide +kernel)
  have w4 : g.id ≠ PROT.ERRSTAT.SEQ_GAP.id := ne_of_notin hW (by decide +kernel)
  have w5 : g.id ∉ Vc.judgeRunsW := notin_sub hW (by decide +kernel)
  have w6 : g.id ∉ eventIds := notin_sub hW (by decide +kernel)
  simp [Vc.measFrame, *]

def Vc.measMissW : List Nat :=
  [PROT.ERRSTAT.MEAS_MISS.id] ++ latchIds

@[simp] theorem Vc.rd_measMiss (s : Vc) (l ch : Nat) (g : Fld) (k m : Nat) (hW : g.id ∉ Vc.measMissW) :
    (Vc.measMiss s l ch).rd g k m = s.rd g k m := by
  have w0 : g.id ≠ PROT.ERRSTAT.MEAS_MISS.id := ne_of_notin hW (by decide +kernel)
  have w1 : g.id ∉ Vc.irqW := notin_sub hW (by decide +kernel)
  have w2 : g.id ∉ eventIds := notin_sub hW (by decide +kernel)
  have w3 : g.id ∉ latchIds := notin_sub hW (by decide +kernel)
  simp [Vc.measMiss, *]

@[simp] theorem Vc.rd_chanRestart (s : Vc) (l ch : Nat) (newly : Bool) (g : Fld) (k m : Nat) :
    (Vc.chanRestart s l ch newly).rd g k m = s.rd g k m := by
  simp [Vc.chanRestart, *]

@[simp] theorem Vc.rd_watchPermit (s : Vc) (g : Fld) (k m : Nat) :
    (Vc.watchPermit s).rd g k m = s.rd g k m := by
  simp [Vc.watchPermit, *]

def Vc.permitLevelW : List Nat :=
  [PROT.STATUS.PERMIT_A.id, PROT.STATUS.PERMIT_B.id] ++ latchIds

@[simp] theorem Vc.rd_permitLevel (s : Vc) (pinB level : Bool) (g : Fld) (k m : Nat) (hW : g.id ∉ Vc.permitLevelW) :
    (Vc.permitLevel s pinB level).rd g k m = s.rd g k m := by
  have w0 : g.id ≠ PROT.STATUS.PERMIT_A.id := ne_of_notin hW (by decide +kernel)
  have w1 : g.id ≠ PROT.STATUS.PERMIT_B.id := ne_of_notin hW (by decide +kernel)
  have w2 : g.id ∉ latchIds := notin_sub hW (by decide +kernel)
  simp [Vc.permitLevel, *]

@[simp] theorem Vc.rd_permitChange (s : Vc) (pinB level : Bool) (ns : Nat) (g : Fld) (k m : Nat) (hW : g.id ∉ Vc.permitLevelW) :
    (Vc.permitChange s pinB level ns).rd g k m = s.rd g k m := by
  simp [Vc.permitChange, *]

def Vc.protClearW : List Nat :=
  [PROT.ERRSTAT.CLEAR_REFUSED.id, PROT.LATCH.CAUSE.id] ++ Vc.irqW

@[simp] theorem Vc.rd_protClear (s : Vc) (g : Fld) (k m : Nat) (hW : g.id ∉ Vc.protClearW) :
    (Vc.protClear s).rd g k m = s.rd g k m := by
  have w0 : g.id ≠ PROT.ERRSTAT.CLEAR_REFUSED.id := ne_of_notin hW (by decide +kernel)
  have w1 : g.id ≠ PROT.LATCH.CAUSE.id := ne_of_notin hW (by decide +kernel)
  have w2 : g.id ∉ Vc.irqW := notin_sub hW (by decide +kernel)
  unfold Vc.protClear
  split
  · simp [*]
  · rw [Vc.rd_wr_ne _ _ _ _ _ _ _ _ (by assumption), forN_rd]
    intro s a
    rfl

def Vc.protCtrlW : List Nat :=
  latchIds ++ violIds ++ Vc.protClearW

@[simp] theorem Vc.rd_protCtrl (s : Vc) (w : Nat) (g : Fld) (k m : Nat) (hW : g.id ∉ Vc.protCtrlW) :
    (Vc.protCtrl s w).rd g k m = s.rd g k m := by
  have w0 : g.id ∉ Vc.protClearW := notin_sub hW (by decide +kernel)
  have w1 : g.id ∉ latchIds := notin_sub hW (by decide +kernel)
  have w2 : g.id ∉ violIds := notin_sub hW (by decide +kernel)
  simp [Vc.protCtrl, *]

def Vc.protTestW : List Nat :=
  [PROT.ERRSTAT.TEST_TRIP.id] ++ violIds

@[simp] theorem Vc.rd_protTest (s : Vc) (w : Nat) (g : Fld) (k m : Nat) (hW : g.id ∉ Vc.protTestW) :
    (Vc.protTest s w).rd g k m = s.rd g k m := by
  have w0 : g.id ≠ PROT.ERRSTAT.TEST_TRIP.id := ne_of_notin hW (by decide +kernel)
  have w1 : g.id ∉ Vc.irqW := notin_sub hW (by decide +kernel)
  have w2 : g.id ∉ violIds := notin_sub hW (by decide +kernel)
  simp [Vc.protTest, *]

@[simp] theorem Vc.rd_tokCfg (s : Vc) (a w : Nat) (g : Fld) (k m : Nat) (hW : g.id ∉ violIds) :
    (Vc.tokCfg s a w).rd g k m = s.rd g k m := by
  have w0 : g.id ∉ eventIds := notin_sub hW (by decide +kernel)
  simp [Vc.tokCfg, *]

@[simp] theorem Vc.rd_tokenExpiry (s : Vc) (a : Nat) (g : Fld) (k m : Nat) :
    (Vc.tokenExpiry s a).rd g k m = s.rd g k m := by
  simp [Vc.tokenExpiry, *]

@[simp] theorem Vc.rd_fireWrite (s : Vc) (w : Nat) (g : Fld) (k m : Nat) (hW : g.id ∉ violIds) :
    (Vc.fireWrite s w).rd g k m = s.rd g k m := by
  simp [Vc.fireWrite, *]

def Vc.fireCheckW : List Nat :=
  [PROT.FIRESTAT.FACET.id, PROT.FIRESTAT.RESULT.id] ++ eventIds

@[simp] theorem Vc.rd_fireCheck (s : Vc) (n : Nat) (g : Fld) (k m : Nat) (hW : g.id ∉ Vc.fireCheckW) :
    (Vc.fireCheck s n).rd g k m = s.rd g k m := by
  have w0 : g.id ≠ PROT.FIRESTAT.FACET.id := ne_of_notin hW (by decide +kernel)
  have w1 : g.id ≠ PROT.FIRESTAT.RESULT.id := ne_of_notin hW (by decide +kernel)
  have w2 : g.id ∉ eventIds := notin_sub hW (by decide +kernel)
  simp [Vc.fireCheck, *]

@[simp] theorem Vc.rd_fireTick (s : Vc) (g : Fld) (k m : Nat) (hW : g.id ∉ Vc.fireCheckW) :
    (Vc.fireTick s).rd g k m = s.rd g k m := by
  simp [Vc.fireTick, *]

@[simp] theorem Vc.rd_fireAdvance (s : Vc) (g : Fld) (k m : Nat) :
    (Vc.fireAdvance s).rd g k m = s.rd g k m := by
  unfold Vc.fireAdvance
  split <;> simp [*]

def Vc.firingEndW : List Nat :=
  [PROT.FIRESTAT.NO_EFFECT.id] ++ eventIds

@[simp] theorem Vc.rd_firingEnd (s : Vc) (g : Fld) (k m : Nat) (hW : g.id ∉ Vc.firingEndW) :
    (Vc.firingEnd s).rd g k m = s.rd g k m := by
  have w0 : g.id ≠ PROT.FIRESTAT.NO_EFFECT.id := ne_of_notin hW (by decide +kernel)
  have w1 : g.id ∉ eventIds := notin_sub hW (by decide +kernel)
  unfold Vc.firingEnd
  split <;> simp [*]

def Vc.blkCopyW : List Nat :=
  [CASCADE.COPYCNT.COUNT.id, CASCADE.ERRSTAT.COPY_ERR.id] ++ eventIds

@[simp] theorem Vc.rd_blkCopy (s : Vc) (pair : Nat) (good : Bool) (g : Fld) (k m : Nat) (hW : g.id ∉ Vc.blkCopyW) :
    (Vc.blkCopy s pair good).rd g k m = s.rd g k m := by
  have w0 : g.id ≠ CASCADE.COPYCNT.COUNT.id := ne_of_notin hW (by decide +kernel)
  have w1 : g.id ≠ CASCADE.ERRSTAT.COPY_ERR.id := ne_of_notin hW (by decide +kernel)
  have w2 : g.id ∉ eventIds := notin_sub hW (by decide +kernel)
  simp [Vc.blkCopy, *]

def Vc.cascadeBlockW : List Nat :=
  latchIds ++ Vc.blkCopyW

@[simp] theorem Vc.rd_cascadeBlock (s : Vc) (pair : Nat) (b : Block) (g : Fld) (k m : Nat) (hW : g.id ∉ Vc.cascadeBlockW) :
    (Vc.cascadeBlock s pair b).rd g k m = s.rd g k m := by
  have w0 : g.id ∉ Vc.blkCopyW := notin_sub hW (by decide +kernel)
  have w1 : g.id ∉ latchIds := notin_sub hW (by decide +kernel)
  simp [Vc.cascadeBlock, *]

@[simp] theorem Vc.rd_lostRecord (s : Vc) (g : Fld) (k m : Nat) (hW : g.id ∉ eventIds) :
    (Vc.lostRecord s).rd g k m = s.rd g k m := by
  simp [Vc.lostRecord, *]

def Vc.recordDoneW : List Nat :=
  [LEDGER.NEXT_EVENT.VALUE.id, LEDGER.NEXT_RSEQ.VALUE.id, LEDGER.STATUS.PERM_FULL.id] ++ eventIds

@[simp] theorem Vc.rd_recordDone (s : Vc) (q : QRec) (ev rseq : Nat) (g : Fld) (k m : Nat) (hW : g.id ∉ Vc.recordDoneW) :
    (Vc.recordDone s q ev rseq).rd g k m = s.rd g k m := by
  have w0 : g.id ≠ LEDGER.NEXT_EVENT.VALUE.id := ne_of_notin hW (by decide +kernel)
  have w1 : g.id ≠ LEDGER.NEXT_RSEQ.VALUE.id := ne_of_notin hW (by decide +kernel)
  have w2 : g.id ≠ LEDGER.STATUS.PERM_FULL.id := ne_of_notin hW (by decide +kernel)
  have w3 : g.id ∉ eventIds := notin_sub hW (by decide +kernel)
  simp [Vc.recordDone, *]

@[simp] theorem Vc.rd_writeRecord (s : Vc) (g : Fld) (k m : Nat) (hW : g.id ∉ Vc.recordDoneW) :
    (Vc.writeRecord s).rd g k m = s.rd g k m := by
  unfold Vc.writeRecord
  split <;> simp [*]

@[simp] theorem Vc.rd_ledgerWritten (s : Vc) (cls : List (Nat × Nat × Nat)) (q : Option QRec) (ev rseq : Nat) (g : Fld) (k m : Nat) (hW : g.id ∉ Vc.recordDoneW) :
    (Vc.ledgerWritten s cls q ev rseq).rd g k m = s.rd g k m := by
  unfold Vc.ledgerWritten
  split <;> simp [*]

def Vc.ledgerFailW : List Nat :=
  [LEDGER.ERRSTAT.FLASH_FAIL.id, LEDGER.STATUS.STATE.id] ++ Vc.irqW

@[simp] theorem Vc.rd_ledgerFail (s : Vc) (g : Fld) (k m : Nat) (hW : g.id ∉ Vc.ledgerFailW) :
    (Vc.ledgerFail s).rd g k m = s.rd g k m := by
  have w0 : g.id ≠ LEDGER.ERRSTAT.FLASH_FAIL.id := ne_of_notin hW (by decide +kernel)
  have w1 : g.id ≠ LEDGER.STATUS.STATE.id := ne_of_notin hW (by decide +kernel)
  have w2 : g.id ∉ Vc.irqW := notin_sub hW (by decide +kernel)
  simp [Vc.ledgerFail, *]

@[simp] theorem Vc.rd_xQueue (s : Vc) (k : XKind) (g : Fld) (kk m : Nat) :
    (Vc.xQueue s k).rd g kk m = s.rd g kk m := by
  simp [Vc.xQueue, *]

@[simp] theorem Vc.rd_ledgerOps (s : Vc) (k : XKind) (ops : List FOp) (ok : Bool) (g : Fld) (kk m : Nat) (hW : g.id ∉ Vc.ledgerFailW) :
    (Vc.ledgerOps s k ops ok).rd g kk m = s.rd g kk m := by
  simp [Vc.ledgerOps, *]

def Vc.ledgerFlashWriteW : List Nat :=
  Vc.recordDoneW ++ Vc.ledgerFailW

@[simp] theorem Vc.rd_ledgerFlashWrite (s : Vc) (ok : Bool) (g : Fld) (k m : Nat) (hW : g.id ∉ Vc.ledgerFlashWriteW) :
    (Vc.ledgerFlashWrite s ok).rd g k m = s.rd g k m := by
  have w0 : g.id ∉ Vc.ledgerFailW := notin_sub hW (by decide +kernel)
  have w1 : g.id ∉ Vc.recordDoneW := notin_sub hW (by decide +kernel)
  unfold Vc.ledgerFlashWrite
  (repeat' split) <;> simp [*]

@[simp] theorem Vc.rd_hoursSave (s : Vc) (ok : Bool) (g : Fld) (k m : Nat) (hW : g.id ∉ Vc.ledgerFailW) :
    (Vc.hoursSave s ok).rd g k m = s.rd g k m := by
  simp [Vc.hoursSave, *]

def Vc.hoursSecondW : List Nat :=
  [LEDGER.HOURS.VALUE.id]

@[simp] theorem Vc.rd_hoursSecond (s : Vc) (g : Fld) (k m : Nat) (hW : g.id ∉ Vc.hoursSecondW) :
    (Vc.hoursSecond s).rd g k m = s.rd g k m := by
  have w0 : g.id ≠ LEDGER.HOURS.VALUE.id := ne_of_notin hW (by decide +kernel)
  unfold Vc.hoursSecond
  refine (foldl_rd _ _ _ _ ?_ _ _).trans ?_ <;> intros <;> first | (simp [*]; done) | (split <;> simp [*])

@[simp] theorem Vc.rd_statsMark (s : Vc) (g : Fld) (k m : Nat) :
    (Vc.statsMark s).rd g k m = s.rd g k m := by
  simp [Vc.statsMark, *]

@[simp] theorem Vc.rd_statsWrite (s : Vc) (ok : Bool) (g : Fld) (k m : Nat) (hW : g.id ∉ Vc.ledgerFailW) :
    (Vc.statsWrite s ok).rd g k m = s.rd g k m := by
  simp [Vc.statsWrite, *]

@[simp] theorem Vc.rd_ledgerFlush (s : Vc) (g : Fld) (k m : Nat) :
    (Vc.ledgerFlush s).rd g k m = s.rd g k m := by
  simp [Vc.ledgerFlush, *]

def Vc.ledgerUnitRstW : List Nat :=
  [LEDGER.STATUS.STATE.id] ++ eventIds

@[simp] theorem Vc.rd_ledgerUnitRst (s : Vc) (g : Fld) (k m : Nat) (hW : g.id ∉ Vc.ledgerUnitRstW) :
    (Vc.ledgerUnitRst s).rd g k m = s.rd g k m := by
  have w0 : g.id ≠ LEDGER.STATUS.STATE.id := ne_of_notin hW (by decide +kernel)
  have w1 : g.id ∉ eventIds := notin_sub hW (by decide +kernel)
  simp [Vc.ledgerUnitRst, *]

@[simp] theorem Vc.rd_clrStats (s : Vc) (g : Fld) (k m : Nat) (hW : g.id ∉ eventIds) :
    (Vc.clrStats s).rd g k m = s.rd g k m := by
  simp [Vc.clrStats, *]

def Vc.formatBeginW : List Nat :=
  [LEDGER.STATUS.STATE.id]

@[simp] theorem Vc.rd_formatBegin (s : Vc) (why : Nat) (g : Fld) (k m : Nat) (hW : g.id ∉ Vc.formatBeginW) :
    (Vc.formatBegin s why).rd g k m = s.rd g k m := by
  have w0 : g.id ≠ LEDGER.STATUS.STATE.id := ne_of_notin hW (by decide +kernel)
  simp [Vc.formatBegin, *]

def Vc.formatEndW : List Nat :=
  [LEDGER.HOURS.VALUE.id, LEDGER.PCYCLES.VALUE.id, LEDGER.STATUS.STATE.id] ++ Vc.recordDoneW

@[simp] theorem Vc.rd_formatEnd (s : Vc) (why : Nat) (g : Fld) (k m : Nat) (hW : g.id ∉ Vc.formatEndW) :
    (Vc.formatEnd s why).rd g k m = s.rd g k m := by
  have w0 : g.id ≠ LEDGER.HOURS.VALUE.id := ne_of_notin hW (by decide +kernel)
  have w1 : g.id ≠ LEDGER.NEXT_EVENT.VALUE.id := ne_of_notin hW (by decide +kernel)
  have w2 : g.id ≠ LEDGER.NEXT_RSEQ.VALUE.id := ne_of_notin hW (by decide +kernel)
  have w3 : g.id ≠ LEDGER.PCYCLES.VALUE.id := ne_of_notin hW (by decide +kernel)
  have w4 : g.id ≠ LEDGER.STATUS.PERM_FULL.id := ne_of_notin hW (by decide +kernel)
  have w5 : g.id ≠ LEDGER.STATUS.STATE.id := ne_of_notin hW (by decide +kernel)
  have w6 : g.id ∉ Vc.recordDoneW := notin_sub hW (by decide +kernel)
  simp [Vc.formatEnd, *]

@[simp] theorem Vc.rd_formatFail (s : Vc) (why : Nat) (g : Fld) (k m : Nat) (hW : g.id ∉ Vc.ledgerFailW) :
    (Vc.formatFail s why).rd g k m = s.rd g k m := by
  simp [Vc.formatFail, *]

def Vc.ledgerCtrlW : List Nat :=
  violIds ++ Vc.ledgerUnitRstW

@[simp] theorem Vc.rd_ledgerCtrl (s : Vc) (w : Nat) (g : Fld) (k m : Nat) (hW : g.id ∉ Vc.ledgerCtrlW) :
    (Vc.ledgerCtrl s w).rd g k m = s.rd g k m := by
  have w0 : g.id ∉ Vc.formatBeginW := notin_sub hW (by decide +kernel)
  have w1 : g.id ∉ Vc.ledgerUnitRstW := notin_sub hW (by decide +kernel)
  have w2 : g.id ∉ eventIds := notin_sub hW (by decide +kernel)
  have w3 : g.id ∉ violIds := notin_sub hW (by decide +kernel)
  simp [Vc.ledgerCtrl, *]

def Vc.ledgerNumbersW : List Nat :=
  [LEDGER.NEXT_EVENT.VALUE.id, LEDGER.NEXT_RSEQ.VALUE.id, LEDGER.STATUS.PERM_FULL.id]

@[simp] theorem Vc.rd_ledgerNumbers (s : Vc) (g : Fld) (k m : Nat) (hW : g.id ∉ Vc.ledgerNumbersW) :
    (Vc.ledgerNumbers s).rd g k m = s.rd g k m := by
  have w0 : g.id ≠ LEDGER.NEXT_EVENT.VALUE.id := ne_of_notin hW (by decide +kernel)
  have w1 : g.id ≠ LEDGER.NEXT_RSEQ.VALUE.id := ne_of_notin hW (by decide +kernel)
  have w2 : g.id ≠ LEDGER.STATUS.PERM_FULL.id := ne_of_notin hW (by decide +kernel)
  simp [Vc.ledgerNumbers, *]

def Vc.ledgerHoursW : List Nat :=
  [LEDGER.HOURS.VALUE.id, LEDGER.PCYCLES.VALUE.id]

@[simp] theorem Vc.rd_ledgerHours (s : Vc) (g : Fld) (k m : Nat) (hW : g.id ∉ Vc.ledgerHoursW) :
    (Vc.ledgerHours s).rd g k m = s.rd g k m := by
  have w0 : g.id ≠ LEDGER.HOURS.VALUE.id := ne_of_notin hW (by decide +kernel)
  have w1 : g.id ≠ LEDGER.PCYCLES.VALUE.id := ne_of_notin hW (by decide +kernel)
  unfold Vc.ledgerHours
  dsimp only
  (repeat' split) <;> simp [*]

def Vc.ledgerStatsW : List Nat :=
  [LEDGER.ERRSTAT.STATS_BAD.id] ++ Vc.irqW

@[simp] theorem Vc.rd_ledgerStats (s : Vc) (g : Fld) (k m : Nat) (hW : g.id ∉ Vc.ledgerStatsW) :
    (Vc.ledgerStats s).rd g k m = s.rd g k m := by
  have w0 : g.id ≠ LEDGER.ERRSTAT.STATS_BAD.id := ne_of_notin hW (by decide +kernel)
  have w1 : g.id ∉ Vc.irqW := notin_sub hW (by decide +kernel)
  unfold Vc.ledgerStats
  dsimp only
  (repeat' split) <;> simp [*]

def Vc.ledgerBootW : List Nat :=
  Vc.ledgerNumbersW ++ Vc.ledgerStatsW ++ Vc.ledgerHoursW ++ Vc.formatBeginW

@[simp] theorem Vc.rd_ledgerBoot (s : Vc) (g : Fld) (k m : Nat) (hW : g.id ∉ Vc.ledgerBootW) :
    (Vc.ledgerBoot s).rd g k m = s.rd g k m := by
  have w0 : g.id ≠ LEDGER.STATUS.STATE.id := ne_of_notin hW (by decide +kernel)
  have w1 : g.id ∉ Vc.formatBeginW := notin_sub hW (by decide +kernel)
  have w2 : g.id ∉ Vc.ledgerHoursW := notin_sub hW (by decide +kernel)
  have w3 : g.id ∉ Vc.ledgerNumbersW := notin_sub hW (by decide +kernel)
  have w4 : g.id ∉ Vc.ledgerStatsW := notin_sub hW (by decide +kernel)
  simp [Vc.ledgerBoot, *]

@[simp] theorem Vc.rd_ledgerReadNow (s : Vc) (id : Nat) (ok : Bool) (g : Fld) (k m : Nat) (hW : g.id ∉ Vc.pumpW) :
    (Vc.ledgerReadNow s id ok).rd g k m = s.rd g k m := by
  unfold Vc.ledgerReadNow
  split <;> simp [*]

@[simp] theorem Vc.rd_ledgerRead (s : Vc) (id : Nat) (ok : Bool) (g : Fld) (k m : Nat) (hW : g.id ∉ Vc.pumpW) :
    (Vc.ledgerRead s id ok).rd g k m = s.rd g k m := by
  simp [Vc.ledgerRead, *]

def Vc.refreshLoadW : List Nat :=
  [LENS.LOADCHK.LIMIT_NS.id, LENS.LOADCHK.WC_NS.id]

@[simp] theorem Vc.rd_refreshLoad (s : Vc) (g : Fld) (k m : Nat) (hW : g.id ∉ Vc.refreshLoadW) :
    (Vc.refreshLoad s).rd g k m = s.rd g k m := by
  have w0 : g.id ≠ LENS.LOADCHK.LIMIT_NS.id := ne_of_notin hW (by decide +kernel)
  have w1 : g.id ≠ LENS.LOADCHK.WC_NS.id := ne_of_notin hW (by decide +kernel)
  simp [Vc.refreshLoad, *]

@[simp] theorem Vc.rd_endSwap (s : Vc) (c status : Nat) (g : Fld) (k m : Nat) (hW : g.id ∉ Vc.withdrawW) :
    (Vc.endSwap s c status).rd g k m = s.rd g k m := by
  have w0 : g.id ≠ SUP.STAT.SWAP_PEND.id := ne_of_notin hW (by decide +kernel)
  have w1 : g.id ∉ Vc.pumpW := notin_sub hW (by decide +kernel)
  unfold Vc.endSwap
  dsimp only
  (repeat' split) <;> simp [*]

@[simp] theorem Vc.rd_dropStep (s : Vc) (c : Nat) (g : Fld) (k m : Nat) :
    (Vc.dropStep s c).rd g k m = s.rd g k m := by
  simp [Vc.dropStep, *]

def Vc.ctxLeaveW : List Nat :=
  [CTX.STATUS.STATE.id] ++ Vc.withdrawW ++ Vc.refreshLoadW

@[simp] theorem Vc.rd_ctxLeave (s : Vc) (c st : Nat) (g : Fld) (k m : Nat) (hW : g.id ∉ Vc.ctxLeaveW) :
    (Vc.ctxLeave s c st).rd g k m = s.rd g k m := by
  have w0 : g.id ≠ CTX.STATUS.STATE.id := ne_of_notin hW (by decide +kernel)
  have w1 : g.id ∉ Vc.refreshLoadW := notin_sub hW (by decide +kernel)
  have w2 : g.id ∉ Vc.withdrawW := notin_sub hW (by decide +kernel)
  simp [Vc.ctxLeave, *]

def Vc.lensActionW : List Nat :=
  [SUP.ERR.BLOCK_REQ.id] ++ eventIds

@[simp] theorem Vc.rd_lensAction (s : Vc) (c act code data at_ : Nat) (g : Fld) (k m : Nat) (hW : g.id ∉ Vc.lensActionW) :
    (Vc.lensAction s c act code data at_).rd g k m = s.rd g k m := by
  have w0 : g.id ≠ SUP.ERR.BLOCK_REQ.id := ne_of_notin hW (by decide +kernel)
  have w1 : g.id ∉ Vc.irqW := notin_sub hW (by decide +kernel)
  have w2 : g.id ∉ eventIds := notin_sub hW (by decide +kernel)
  simp [Vc.lensAction, *]

def Vc.ctxFaultW : List Nat :=
  Vc.lensActionW ++ Vc.ctxLeaveW

@[simp] theorem Vc.rd_ctxFault (s : Vc) (c code data at_ : Nat) (g : Fld) (k m : Nat) (hW : g.id ∉ Vc.ctxFaultW) :
    (Vc.ctxFault s c code data at_).rd g k m = s.rd g k m := by
  have w0 : g.id ∉ Vc.ctxLeaveW := notin_sub hW (by decide +kernel)
  have w1 : g.id ∉ Vc.lensActionW := notin_sub hW (by decide +kernel)
  simp [Vc.ctxFault, *]

def Vc.refuseStartW : List Nat :=
  [CTX.ERR.START_REFUSED.id, CTX.STATUS.CFG_CODE.id]

@[simp] theorem Vc.rd_refuseStart (s : Vc) (c code : Nat) (g : Fld) (k m : Nat) (hW : g.id ∉ Vc.refuseStartW) :
    (Vc.refuseStart s c code).rd g k m = s.rd g k m := by
  have w0 : g.id ≠ CTX.ERR.START_REFUSED.id := ne_of_notin hW (by decide +kernel)
  have w1 : g.id ≠ CTX.STATUS.CFG_CODE.id := ne_of_notin hW (by decide +kernel)
  simp [Vc.refuseStart, *]

def Vc.ctxStartW : List Nat :=
  [CTX.SAMPLES.COUNT.id, CTX.STATUS.BANK.id, CTX.STATUS.DEPTH.id, CTX.STATUS.INV_RUN.id, CTX.STATUS.STATE.id, CTX.STEPNS.MAX_NS.id, CTX.U.VALUE.id, SUP.SATTIME.COUNT.id, SUP.STAT.OVR_RUN.id] ++ Vc.refuseStartW ++ Vc.refreshLoadW

@[simp] theorem Vc.rd_ctxStart (s : Vc) (c : Nat) (g : Fld) (k m : Nat) (hW : g.id ∉ Vc.ctxStartW) :
    (Vc.ctxStart s c).rd g k m = s.rd g k m := by
  have w0 : g.id ≠ CTX.SAMPLES.COUNT.id := ne_of_notin hW (by decide +kernel)
  have w1 : g.id ≠ CTX.STATUS.BANK.id := ne_of_notin hW (by decide +kernel)
  have w2 : g.id ≠ CTX.STATUS.DEPTH.id := ne_of_notin hW (by decide +kernel)
  have w3 : g.id ≠ CTX.STATUS.INV_RUN.id := ne_of_notin hW (by decide +kernel)
  have w4 : g.id ≠ CTX.STATUS.STATE.id := ne_of_notin hW (by decide +kernel)
  have w5 : g.id ≠ CTX.STEPNS.MAX_NS.id := ne_of_notin hW (by decide +kernel)
  have w6 : g.id ≠ CTX.U.VALUE.id := ne_of_notin hW (by decide +kernel)
  have w7 : g.id ≠ SUP.SATTIME.COUNT.id := ne_of_notin hW (by decide +kernel)
  have w8 : g.id ≠ SUP.STAT.OVR_RUN.id := ne_of_notin hW (by decide +kernel)
  have w9 : g.id ∉ Vc.refreshLoadW := notin_sub hW (by decide +kernel)
  have w10 : g.id ∉ Vc.refuseStartW := notin_sub hW (by decide +kernel)
  simp [Vc.ctxStart, *]

def Vc.ctxCtrlW : List Nat :=
  violIds ++ Vc.ctxStartW ++ Vc.ctxLeaveW

@[simp] theorem Vc.rd_ctxCtrl (s : Vc) (c w : Nat) (g : Fld) (k m : Nat) (hW : g.id ∉ Vc.ctxCtrlW) :
    (Vc.ctxCtrl s c w).rd g k m = s.rd g k m := by
  have w0 : g.id ∉ Vc.ctxLeaveW := notin_sub hW (by decide +kernel)
  have w1 : g.id ∉ Vc.ctxStartW := notin_sub hW (by decide +kernel)
  have w2 : g.id ∉ violIds := notin_sub hW (by decide +kernel)
  simp [Vc.ctxCtrl, *]

def Vc.handShiftW : List Nat :=
  [CTX.ERR.PARENT_HELD.id]

@[simp] theorem Vc.rd_handShift (s : Vc) (c k : Nat) (g : Fld) (kk m : Nat) (hW : g.id ∉ Vc.handShiftW) :
    (Vc.handShift s c k).rd g kk m = s.rd g kk m := by
  have w0 : g.id ≠ CTX.ERR.PARENT_HELD.id := ne_of_notin hW (by decide +kernel)
  unfold Vc.handShift
  (repeat' split) <;> simp_all

def Vc.saturationW : List Nat :=
  [SUP.ERR.SAT_EVENT.id, SUP.SATEV.EVENT.id, SUP.SATNOW.HIGH.id, SUP.SATNOW.LOW.id, SUP.SATTIME.COUNT.id] ++ Vc.lensActionW

@[simp] theorem Vc.rd_saturation (s : Vc) (c : Nat) (j : Job) (at_ : Nat) (g : Fld) (k m : Nat) (hW : g.id ∉ Vc.saturationW) :
    (Vc.saturation s c j at_).rd g k m = s.rd g k m := by
  have w0 : g.id ≠ SUP.ERR.SAT_EVENT.id := ne_of_notin hW (by decide +kernel)
  have w1 : g.id ≠ SUP.SATEV.EVENT.id := ne_of_notin hW (by decide +kernel)
  have w2 : g.id ≠ SUP.SATNOW.HIGH.id := ne_of_notin hW (by decide +kernel)
  have w3 : g.id ≠ SUP.SATNOW.LOW.id := ne_of_notin hW (by decide +kernel)
  have w4 : g.id ≠ SUP.SATTIME.COUNT.id := ne_of_notin hW (by decide +kernel)
  have w5 : g.id ∉ Vc.lensActionW := notin_sub hW (by decide +kernel)
  simp [Vc.saturation, *]

@[simp] theorem Vc.rd_cascSend (s : Vc) (c : Nat) (g : Fld) (k m : Nat) :
    (Vc.cascSend s c).rd g k m = s.rd g k m := by
  simp [Vc.cascSend, *]

def Vc.commitStepW : List Nat :=
  [CTX.ERR.NONFINITE.id, CTX.SAMPLES.COUNT.id, CTX.STATUS.BANK.id, CTX.STEPNS.LAST_NS.id, CTX.STEPNS.MAX_NS.id, CTX.U.VALUE.id, CTX.XHAT.VALUE.id, CTX.XI.VALUE.id, SUP.ERR.SWAP_SAT.id, SUP.STAT.OVR_RUN.id] ++ Vc.ctxFaultW ++ Vc.saturationW

@[simp] theorem Vc.rd_commitStep (s : Vc) (c : Nat) (at_ : Nat) (g : Fld) (k m : Nat) (hW : g.id ∉ Vc.commitStepW) :
    (Vc.commitStep s c at_).rd g k m = s.rd g k m := by
  have w0 : g.id ≠ CTX.ERR.NONFINITE.id := ne_of_notin hW (by decide +kernel)
  have w1 : g.id ≠ CTX.SAMPLES.COUNT.id := ne_of_notin hW (by decide +kernel)
  have w2 : g.id ≠ CTX.STATUS.BANK.id := ne_of_notin hW (by decide +kernel)
  have w3 : g.id ≠ CTX.STEPNS.LAST_NS.id := ne_of_notin hW (by decide +kernel)
  have w4 : g.id ≠ CTX.STEPNS.MAX_NS.id := ne_of_notin hW (by decide +kernel)
  have w5 : g.id ≠ CTX.U.VALUE.id := ne_of_notin hW (by decide +kernel)
  have w6 : g.id ≠ CTX.XHAT.VALUE.id := ne_of_notin hW (by decide +kernel)
  have w7 : g.id ≠ CTX.XI.VALUE.id := ne_of_notin hW (by decide +kernel)
  have w8 : g.id ≠ SUP.ERR.SWAP_SAT.id := ne_of_notin hW (by decide +kernel)
  have w9 : g.id ≠ SUP.STAT.OVR_RUN.id := ne_of_notin hW (by decide +kernel)
  have w10 : g.id ∉ Vc.ctxFaultW := notin_sub hW (by decide +kernel)
  have w11 : g.id ∉ Vc.saturationW := notin_sub hW (by decide +kernel)
  have w12 : g.id ∉ Vc.withdrawW := notin_sub hW (by decide +kernel)
  unfold Vc.commitStep
  split <;> simp [*]

def Vc.overrunW : List Nat :=
  [SUP.ERR.OVR.id, SUP.ERR.OVR_FAULT.id, SUP.OVRCNT.COUNT.id, SUP.STAT.OVR_CAUSE.id, SUP.STAT.OVR_RUN.id] ++ Vc.ctxFaultW

@[simp] theorem Vc.rd_overrun (s : Vc) (c cause : Nat) (g : Fld) (k m : Nat) (hW : g.id ∉ Vc.overrunW) :
    (Vc.overrun s c cause).rd g k m = s.rd g k m := by
  have w0 : g.id ≠ SUP.ERR.OVR.id := ne_of_notin hW (by decide +kernel)
  have w1 : g.id ≠ SUP.ERR.OVR_FAULT.id := ne_of_notin hW (by decide +kernel)
  have w2 : g.id ≠ SUP.OVRCNT.COUNT.id := ne_of_notin hW (by decide +kernel)
  have w3 : g.id ≠ SUP.STAT.OVR_CAUSE.id := ne_of_notin hW (by decide +kernel)
  have w4 : g.id ≠ SUP.STAT.OVR_RUN.id := ne_of_notin hW (by decide +kernel)
  have w5 : g.id ∉ Vc.ctxFaultW := notin_sub hW (by decide +kernel)
  have w6 : g.id ∉ eventIds := notin_sub hW (by decide +kernel)
  simp [Vc.overrun, *]

@[simp] theorem Vc.rd_lateStep (s : Vc) (c : Nat) (g : Fld) (k m : Nat) (hW : g.id ∉ Vc.overrunW) :
    (Vc.lateStep s c).rd g k m = s.rd g k m := by
  simp [Vc.lateStep, *]

@[simp] theorem Vc.rd_stepOverrun (s : Vc) (c : Nat) (g : Fld) (k m : Nat) (hW : g.id ∉ Vc.overrunW) :
    (Vc.stepOverrun s c).rd g k m = s.rd g k m := by
  simp [Vc.stepOverrun, *]

@[simp] theorem Vc.rd_keepTotals (s : Vc) (due : List Nat) (g : Fld) (k m : Nat) :
    (Vc.keepTotals s due).rd g k m = s.rd g k m := by
  simp [Vc.keepTotals, *]

def Vc.takeStepW : List Nat :=
  [CTX.ERR.INV_FAULT.id, CTX.ERR.IN_INVALID.id, CTX.STATUS.INV_RUN.id] ++ Vc.overrunW ++ Vc.refuseStartW

@[simp] theorem Vc.rd_takeStep (s : Vc) (v : Vc) (c k : Nat) (g : Fld) (kk m : Nat) (hW : g.id ∉ Vc.takeStepW) :
    (Vc.takeStep s v c k).rd g kk m = s.rd g kk m := by
  have w0 : g.id ≠ CTX.ERR.INV_FAULT.id := ne_of_notin hW (by decide +kernel)
  have w1 : g.id ≠ CTX.ERR.IN_INVALID.id := ne_of_notin hW (by decide +kernel)
  have w2 : g.id ≠ CTX.STATUS.INV_RUN.id := ne_of_notin hW (by decide +kernel)
  have w3 : g.id ∉ Vc.ctxFaultW := notin_sub hW (by decide +kernel)
  have w4 : g.id ∉ Vc.ctxLeaveW := notin_sub hW (by decide +kernel)
  have w5 : g.id ∉ Vc.overrunW := notin_sub hW (by decide +kernel)
  have w6 : g.id ∉ Vc.refuseStartW := notin_sub hW (by decide +kernel)
  have w7 : g.id ∉ eventIds := notin_sub hW (by decide +kernel)
  simp [Vc.takeStep, *]

@[simp] theorem Vc.rd_runJobs (u : Nat) (l : List Nat) (g : Fld) (k m : Nat) (hW : g.id ∉ Vc.commitStepW) : ∀ (s : Vc) (c : Nat),
    (Vc.runJobs u l s c).1.rd g k m = s.rd g k m := by
  induction l with
  | nil => intro s c; rfl
  | cons a l ih =>
    intro s c
    unfold Vc.runJobs
    repeat' (first | with_reducible rfl | (simp [*]; done) | split | (dsimp only; split))

@[simp] theorem Vc.rd_shiftReady (s : Vc) (tp c : Nat) (g : Fld) (k m : Nat) :
    (Vc.shiftReady s tp c).rd g k m = s.rd g k m := by
  unfold Vc.shiftReady
  split <;> simp [*]

@[simp] theorem Vc.rd_lateCommit (s : Vc) (g : Fld) (k m : Nat) (hW : g.id ∉ Vc.commitStepW) :
    (Vc.lateCommit s).rd g k m = s.rd g k m := by
  unfold Vc.lateCommit
  (repeat' split) <;> simp [*]

def Vc.lensTickW : List Nat :=
  [LENS.CRITLOAD.LAST_NS.id, LENS.CRITLOAD.MAX_NS.id] ++ Vc.commitStepW ++ Vc.takeStepW ++ Vc.handShiftW

@[simp] theorem Vc.rd_lensTick (s : Vc) (k : Nat) (g : Fld) (kk m : Nat) (hW : g.id ∉ Vc.lensTickW) :
    (Vc.lensTick s k).rd g kk m = s.rd g kk m := by
  have w0 : g.id ≠ LENS.CRITLOAD.LAST_NS.id := ne_of_notin hW (by decide +kernel)
  have w1 : g.id ≠ LENS.CRITLOAD.MAX_NS.id := ne_of_notin hW (by decide +kernel)
  have w2 : g.id ∉ Vc.commitStepW := notin_sub hW (by decide +kernel)
  have w3 : g.id ∉ Vc.handShiftW := notin_sub hW (by decide +kernel)
  have w4 : g.id ∉ Vc.overrunW := notin_sub hW (by decide +kernel)
  have w5 : g.id ∉ Vc.refreshLoadW := notin_sub hW (by decide +kernel)
  have w6 : g.id ∉ Vc.takeStepW := notin_sub hW (by decide +kernel)
  simp [Vc.lensTick, *]

@[simp] theorem Vc.rd_takeBlockReqs (s : Vc) (g : Fld) (k m : Nat) :
    (Vc.takeBlockReqs s).1.rd g k m = s.rd g k m := by
  simp [Vc.takeBlockReqs, *]

@[simp] theorem Vc.rd_coefRead (s : Vc) (d : Desc) (buf : HostBuf) (g : Fld) (k m : Nat) (hW : g.id ∉ Vc.pumpW) :
    (Vc.coefRead s d buf).rd g k m = s.rd g k m := by
  unfold Vc.coefRead
  split <;> simp [*]

@[simp] theorem Vc.rd_coefLoad (s : Vc) (id : Nat) (dir : Bool) (buf : HostBuf) (g : Fld) (k m : Nat) (hW : g.id ∉ Vc.pumpW) :
    (Vc.coefLoad s id dir buf).rd g k m = s.rd g k m := by
  simp [Vc.coefLoad, *]

@[simp] theorem Vc.rd_coefNow (s : Vc) (d : Desc) (buf : HostBuf) (g : Fld) (k m : Nat) (hW : g.id ∉ Vc.pumpW) :
    (Vc.coefNow s d buf).rd g k m = s.rd g k m := by
  simp [Vc.coefNow, *]

@[simp] theorem Vc.rd_coefSwap (s : Vc) (id : Nat) (g : Fld) (k m : Nat) (hW : g.id ∉ Vc.pumpW) :
    (Vc.coefSwap s id).rd g k m = s.rd g k m := by
  simp [Vc.coefSwap, *]

def Vc.swapNowW : List Nat :=
  [SUP.STAT.PEND_BANK.id, SUP.STAT.PEND_POLICY.id, SUP.STAT.SWAP_PEND.id] ++ Vc.pumpW

@[simp] theorem Vc.rd_swapNow (s : Vc) (d : Desc) (g : Fld) (k m : Nat) (hW : g.id ∉ Vc.swapNowW) :
    (Vc.swapNow s d).rd g k m = s.rd g k m := by
  have w0 : g.id ≠ SUP.STAT.PEND_BANK.id := ne_of_notin hW (by decide +kernel)
  have w1 : g.id ≠ SUP.STAT.PEND_POLICY.id := ne_of_notin hW (by decide +kernel)
  have w2 : g.id ≠ SUP.STAT.SWAP_PEND.id := ne_of_notin hW (by decide +kernel)
  have w3 : g.id ∉ Vc.pumpW := notin_sub hW (by decide +kernel)
  simp [Vc.swapNow, *]

def Vc.setPointW : List Nat :=
  [LENS.SETPT.VALUE.id] ++ violIds

@[simp] theorem Vc.rd_setPoint (s : Vc) (n w : Nat) (g : Fld) (k m : Nat) (hW : g.id ∉ Vc.setPointW) :
    (Vc.setPoint s n w).rd g k m = s.rd g k m := by
  have w0 : g.id ≠ LENS.SETPT.VALUE.id := ne_of_notin hW (by decide +kernel)
  have w1 : g.id ∉ violIds := notin_sub hW (by decide +kernel)
  simp [Vc.setPoint, *]

def Vc.clrLoadW : List Nat :=
  [LENS.CRITLOAD.MAX_NS.id]

@[simp] theorem Vc.rd_clrLoad (s : Vc) (w : Nat) (g : Fld) (k m : Nat) (hW : g.id ∉ Vc.clrLoadW) :
    (Vc.clrLoad s w).rd g k m = s.rd g k m := by
  have w0 : g.id ≠ LENS.CRITLOAD.MAX_NS.id := ne_of_notin hW (by decide +kernel)
  simp [Vc.clrLoad, *]

def Vc.takeAsduW : List Nat :=
  [SVSUB.SVGAPS.COUNT.id, SVSUB.SVSTAT.LAST_SMPCNT.id, SVSUB.SVSTAT.SYNCH.id]

@[simp] theorem Vc.rd_takeAsdu (s : Vc) (v : Nat) (a : Asdu) (g : Fld) (k m : Nat) (hW : g.id ∉ Vc.takeAsduW) :
    (Vc.takeAsdu s v a).rd g k m = s.rd g k m := by
  have w0 : g.id ≠ SVSUB.SVGAPS.COUNT.id := ne_of_notin hW (by decide +kernel)
  have w1 : g.id ≠ SVSUB.SVSTAT.LAST_SMPCNT.id := ne_of_notin hW (by decide +kernel)
  have w2 : g.id ≠ SVSUB.SVSTAT.SYNCH.id := ne_of_notin hW (by decide +kernel)
  simp [Vc.takeAsdu, *]

def Vc.svFrameW : List Nat :=
  [SVSUB.SVSTAT.REJECTED.id] ++ Vc.takeAsduW

@[simp] theorem Vc.rd_svFrame (s : Vc) (f : SvFrame) (g : Fld) (k m : Nat) (hW : g.id ∉ Vc.svFrameW) :
    (Vc.svFrame s f).rd g k m = s.rd g k m := by
  have w0 : g.id ≠ SVSUB.SVSTAT.REJECTED.id := ne_of_notin hW (by decide +kernel)
  have w1 : g.id ∉ Vc.takeAsduW := notin_sub hW (by decide +kernel)
  unfold Vc.svFrame
  split
  · rfl
  · refine forN_rd _ _ _ _ _ _ fun s a => ?_
    split
    · refine foldl_rd _ _ _ _ (fun s b => ?_) _ _
      split <;> simp [*]
    · rfl

def Vc.toTickW : List Nat :=
  [LENS.TICKNO.TICKNO.id]

@[simp] theorem Vc.rd_toTick (s : Vc) (g : Fld) (k m : Nat) (hW : g.id ∉ Vc.toTickW) :
    (Vc.toTick s).rd g k m = s.rd g k m := by
  have w0 : g.id ≠ LENS.TICKNO.TICKNO.id := ne_of_notin hW (by decide +kernel)
  simp [Vc.toTick, *]

@[simp] theorem Vc.rd_timeEvent (s : Vc) (f : Fld) (b : Nat) (g : Fld) (k m : Nat) (hW : g.id ∉ eventIds) (hf : g.id ≠ f.id) :
    (Vc.timeEvent s f b).rd g k m = s.rd g k m := by
  have w0 : g.id ∉ Vc.irqW := notin_sub hW (by decide +kernel)
  simp [Vc.timeEvent, *]

def Vc.servoToW : List Nat :=
  [TIME.STATUS.LOCKED.id, TIME.STATUS.STATE.id]

@[simp] theorem Vc.rd_servoTo (s : Vc) (st : Nat) (g : Fld) (k m : Nat) (hW : g.id ∉ Vc.servoToW) :
    (Vc.servoTo s st).rd g k m = s.rd g k m := by
  have w0 : g.id ≠ TIME.STATUS.LOCKED.id := ne_of_notin hW (by decide +kernel)
  have w1 : g.id ≠ TIME.STATUS.STATE.id := ne_of_notin hW (by decide +kernel)
  simp [Vc.servoTo, *]

@[simp] theorem Vc.rd_moveVt (s : Vc) (vt : Nat) (g : Fld) (k m : Nat) :
    (Vc.moveVt s vt).rd g k m = s.rd g k m := by
  rfl

def Vc.stepVtW : List Nat :=
  [TIME.ERRSTAT.STEP_DONE.id, TIME.STATUS.STEP_ARM.id] ++ eventIds ++ Vc.servoToW

@[simp] theorem Vc.rd_stepVt (s : Vc) (o : Int) (g : Fld) (k m : Nat) (hW : g.id ∉ Vc.stepVtW) :
    (Vc.stepVt s o).rd g k m = s.rd g k m := by
  have w0 : g.id ≠ TIME.ERRSTAT.STEP_DONE.id := ne_of_notin hW (by decide +kernel)
  have w1 : g.id ≠ TIME.STATUS.STEP_ARM.id := ne_of_notin hW (by decide +kernel)
  have w2 : g.id ∉ Vc.irqW := notin_sub hW (by decide +kernel)
  have w3 : g.id ∉ Vc.servoToW := notin_sub hW (by decide +kernel)
  have w4 : g.id ∉ eventIds := notin_sub hW (by decide +kernel)
  simp [Vc.stepVt, *]

def Vc.asListenW : List Nat :=
  [TIME.ERRSTAT.JUMP_REFUSED.id, TIME.ERRSTAT.STEP_HELD.id, TIME.REFUSED_NS.REFUSED_NS.id] ++ Vc.stepVtW

@[simp] theorem Vc.rd_asListen (s : Vc) (o : Int) (g : Fld) (k m : Nat) (hW : g.id ∉ Vc.asListenW) :
    (Vc.asListen s o).rd g k m = s.rd g k m := by
  have w0 : g.id ≠ TIME.ERRSTAT.JUMP_REFUSED.id := ne_of_notin hW (by decide +kernel)
  have w1 : g.id ≠ TIME.ERRSTAT.STEP_HELD.id := ne_of_notin hW (by decide +kernel)
  have w2 : g.id ≠ TIME.REFUSED_NS.REFUSED_NS.id := ne_of_notin hW (by decide +kernel)
  have w3 : g.id ∉ Vc.servoToW := notin_sub hW (by decide +kernel)
  have w4 : g.id ∉ Vc.stepVtW := notin_sub hW (by decide +kernel)
  have w5 : g.id ∉ eventIds := notin_sub hW (by decide +kernel)
  simp [Vc.asListen, *]

def Vc.steerW : List Nat :=
  [TIME.ERRSTAT.RATE_LIMIT.id, TIME.RATE.RATE.id, TIME.STATUS.LOCKED.id]

@[simp] theorem Vc.rd_steer (s : Vc) (o dt : Int) (g : Fld) (k m : Nat) (hW : g.id ∉ Vc.steerW) :
    (Vc.steer s o dt).rd g k m = s.rd g k m := by
  have w0 : g.id ≠ TIME.ERRSTAT.RATE_LIMIT.id := ne_of_notin hW (by decide +kernel)
  have w1 : g.id ≠ TIME.RATE.RATE.id := ne_of_notin hW (by decide +kernel)
  have w2 : g.id ≠ TIME.STATUS.LOCKED.id := ne_of_notin hW (by decide +kernel)
  simp [Vc.steer, *]

def Vc.lockEndW : List Nat :=
  [TIME.STATUS.LOCKED.id]

@[simp] theorem Vc.rd_lockEnd (s : Vc) (o : Int) (g : Fld) (k m : Nat) (hW : g.id ∉ Vc.lockEndW) :
    (Vc.lockEnd s o).rd g k m = s.rd g k m := by
  have w0 : g.id ≠ TIME.STATUS.LOCKED.id := ne_of_notin hW (by decide +kernel)
  simp [Vc.lockEnd, *]

def Vc.useSyncW : List Nat :=
  [TIME.OFFSET.OFFSET.id, TPORT.SYNCCNT.SYNCCNT.id] ++ Vc.asListenW ++ Vc.steerW

@[simp] theorem Vc.rd_useSync (s : Vc) (o master : Int) (g : Fld) (k m : Nat) (hW : g.id ∉ Vc.useSyncW) :
    (Vc.useSync s o master).rd g k m = s.rd g k m := by
  have w0 : g.id ≠ TIME.ERRSTAT.JUMP_REFUSED.id := ne_of_notin hW (by decide +kernel)
  have w1 : g.id ≠ TIME.OFFSET.OFFSET.id := ne_of_notin hW (by decide +kernel)
  have w2 : g.id ≠ TIME.REFUSED_NS.REFUSED_NS.id := ne_of_notin hW (by decide +kernel)
  have w3 : g.id ≠ TPORT.SYNCCNT.SYNCCNT.id := ne_of_notin hW (by decide +kernel)
  have w4 : g.id ∉ Vc.asListenW := notin_sub hW (by decide +kernel)
  have w5 : g.id ∉ Vc.lockEndW := notin_sub hW (by decide +kernel)
  have w6 : g.id ∉ Vc.servoToW := notin_sub hW (by decide +kernel)
  have w7 : g.id ∉ Vc.steerW := notin_sub hW (by decide +kernel)
  have w8 : g.id ∉ eventIds := notin_sub hW (by decide +kernel)
  unfold Vc.useSync
  dsimp only
  (repeat' split) <;> simp [*]

@[simp] theorem Vc.rd_heard (s : Vc) (p : Bool) (g : Fld) (k m : Nat) :
    (Vc.heard s p).rd g k m = s.rd g k m := by
  simp [Vc.heard, *]

@[simp] theorem Vc.rd_syncComplete1588 (s : Vc) (rx : Int) (master : Int) (g : Fld) (k m : Nat) (hW : g.id ∉ Vc.useSyncW) :
    (Vc.syncComplete1588 s rx master).rd g k m = s.rd g k m := by
  unfold Vc.syncComplete1588
  (repeat' split) <;> simp [*]

@[simp] theorem Vc.rd_ptpSync (s : Vc) (m : PtpMsg) (g : Fld) (k mm : Nat) (hW : g.id ∉ Vc.useSyncW) :
    (Vc.ptpSync s m).rd g k mm = s.rd g k mm := by
  simp [Vc.ptpSync, *]

@[simp] theorem Vc.rd_ptpFollowUp (s : Vc) (m : PtpMsg) (g : Fld) (k mm : Nat) (hW : g.id ∉ Vc.useSyncW) :
    (Vc.ptpFollowUp s m).rd g k mm = s.rd g k mm := by
  unfold Vc.ptpFollowUp
  dsimp only
  (repeat' split) <;> simp [*]

def Vc.holdoverW : List Nat :=
  [TIME.ERRSTAT.HOLDOVER.id] ++ eventIds ++ Vc.servoToW

@[simp] theorem Vc.rd_holdover (s : Vc) (f : Fld) (g : Fld) (k m : Nat) (hW : g.id ∉ Vc.holdoverW) (hf : g.id ≠ f.id) :
    (Vc.holdover s f).rd g k m = s.rd g k m := by
  have w0 : g.id ≠ TIME.ERRSTAT.HOLDOVER.id := ne_of_notin hW (by decide +kernel)
  have w1 : g.id ∉ Vc.servoToW := notin_sub hW (by decide +kernel)
  have w2 : g.id ∉ eventIds := notin_sub hW (by decide +kernel)
  simp [Vc.holdover, *]

def Vc.bmcaW : List Nat :=
  [TIME.ERRSTAT.MASTER_CHANGE.id, TIME.GMID.ID.id, TIME.STATUS.UTC_OFS.id, TIME.STATUS.UTC_VALID.id] ++ Vc.holdoverW

@[simp] theorem Vc.rd_bmca (s : Vc) (g : Fld) (k m : Nat) (hW : g.id ∉ Vc.bmcaW) :
    (Vc.bmca s).rd g k m = s.rd g k m := by
  have w0 : g.id ≠ TIME.ERRSTAT.MASTER_CHANGE.id := ne_of_notin hW (by decide +kernel)
  have w1 : g.id ≠ TIME.GMID.ID.id := ne_of_notin hW (by decide +kernel)
  have w2 : g.id ≠ TIME.STATUS.UTC_OFS.id := ne_of_notin hW (by decide +kernel)
  have w3 : g.id ≠ TIME.STATUS.UTC_VALID.id := ne_of_notin hW (by decide +kernel)
  have w4 : g.id ∉ Vc.holdoverW := notin_sub hW (by decide +kernel)
  unfold Vc.bmca
  dsimp only
  (repeat' split) <;> simp [*]

@[simp] theorem Vc.rd_ptpAnnounce (s : Vc) (m : PtpMsg) (g : GmData) (gg : Fld) (k mm : Nat) (hW : gg.id ∉ Vc.bmcaW) :
    (Vc.ptpAnnounce s m g).rd gg k mm = s.rd gg k mm := by
  simp [Vc.ptpAnnounce, *]

def Vc.syncTimeout1588W : List Nat :=
  [TIME.ERRSTAT.SYNC_LOSS.id] ++ Vc.holdoverW

@[simp] theorem Vc.rd_syncTimeout1588 (s : Vc) (g : Fld) (k m : Nat) (hW : g.id ∉ Vc.syncTimeout1588W) :
    (Vc.syncTimeout1588 s).rd g k m = s.rd g k m := by
  have w0 : g.id ≠ TIME.ERRSTAT.SYNC_LOSS.id := ne_of_notin hW (by decide +kernel)
  have w1 : g.id ∉ Vc.holdoverW := notin_sub hW (by decide +kernel)
  simp [Vc.syncTimeout1588, *]

def Vc.announceTimeoutW : List Nat :=
  [TIME.ERRSTAT.SYNC_LOSS.id] ++ Vc.bmcaW

@[simp] theorem Vc.rd_announceTimeout (s : Vc) (g : Fld) (k m : Nat) (hW : g.id ∉ Vc.announceTimeoutW) :
    (Vc.announceTimeout s).rd g k m = s.rd g k m := by
  have w0 : g.id ≠ TIME.ERRSTAT.SYNC_LOSS.id := ne_of_notin hW (by decide +kernel)
  have w1 : g.id ∉ Vc.bmcaW := notin_sub hW (by decide +kernel)
  have w2 : g.id ∉ Vc.holdoverW := notin_sub hW (by decide +kernel)
  unfold Vc.announceTimeout
  split <;> simp [*]

def Vc.pdelayTimeoutW : List Nat :=
  [TIME.ERRSTAT.PDELAY_FAIL.id, TPORT.PSTAT.PDV.id]

@[simp] theorem Vc.rd_pdelayTimeout (s : Vc) (g : Fld) (k m : Nat) (hW : g.id ∉ Vc.pdelayTimeoutW) :
    (Vc.pdelayTimeout s).rd g k m = s.rd g k m := by
  have w0 : g.id ≠ TIME.ERRSTAT.PDELAY_FAIL.id := ne_of_notin hW (by decide +kernel)
  have w1 : g.id ≠ TPORT.PSTAT.PDV.id := ne_of_notin hW (by decide +kernel)
  unfold Vc.pdelayTimeout
  split <;> simp [*]

@[simp] theorem Vc.rd_pdelaySend (s : Vc) (g : Fld) (k m : Nat) (hW : g.id ∉ Vc.pdelayTimeoutW) :
    (Vc.pdelaySend s).rd g k m = s.rd g k m := by
  simp [Vc.pdelaySend, *]

@[simp] theorem Vc.rd_pdelayReqRx (s : Vc) (m : PtpMsg) (g : Fld) (k mm : Nat) :
    (Vc.pdelayReqRx s m).rd g k mm = s.rd g k mm := by
  simp [Vc.pdelayReqRx, *]

def Vc.pdelayDoneW : List Nat :=
  [TPORT.PDELAY.PDELAY.id, TPORT.PSTAT.PDV.id]

@[simp] theorem Vc.rd_pdelayDone (s : Vc) (d2 : Int) (g : Fld) (k m : Nat) (hW : g.id ∉ Vc.pdelayDoneW) :
    (Vc.pdelayDone s d2).rd g k m = s.rd g k m := by
  have w0 : g.id ≠ TPORT.PDELAY.PDELAY.id := ne_of_notin hW (by decide +kernel)
  have w1 : g.id ≠ TPORT.PSTAT.PDV.id := ne_of_notin hW (by decide +kernel)
  simp [Vc.pdelayDone, *]

@[simp] theorem Vc.rd_pdelayResp (s : Vc) (m : PtpMsg) (followUp : Bool) (g : Fld) (k mm : Nat) (hW : g.id ∉ Vc.pdelayDoneW) :
    (Vc.pdelayResp s m followUp).rd g k mm = s.rd g k mm := by
  unfold Vc.pdelayResp
  dsimp only
  (repeat' split) <;> simp [*]

@[simp] theorem Vc.rd_stepApply (s : Vc) (g : Fld) (k m : Nat) (hW : g.id ∉ Vc.stepVtW) :
    (Vc.stepApply s).rd g k m = s.rd g k m := by
  simp [Vc.stepApply, *]

@[simp] theorem Vc.rd_ptpEnable (s : Vc) (en : Bool) (g : Fld) (k m : Nat) (hW : g.id ∉ Vc.servoToW) :
    (Vc.ptpEnable s en).rd g k m = s.rd g k m := by
  simp [Vc.ptpEnable, *]

def Vc.timeCfgW : List Nat :=
  [TIME.CFG.ANN_TO.id, TIME.CFG.DOMAIN.id, TIME.CFG.KI.id, TIME.CFG.KP.id, TIME.CFG.LOCK.id, TIME.CFG.PORT.id, TIME.CFG.PTP_EN.id] ++ violIds ++ Vc.servoToW

@[simp] theorem Vc.rd_timeCfg (s : Vc) (w : Nat) (g : Fld) (k m : Nat) (hW : g.id ∉ Vc.timeCfgW) :
    (Vc.timeCfg s w).rd g k m = s.rd g k m := by
  have w0 : g.id ≠ TIME.CFG.ANN_TO.id := ne_of_notin hW (by decide +kernel)
  have w1 : g.id ≠ TIME.CFG.DOMAIN.id := ne_of_notin hW (by decide +kernel)
  have w2 : g.id ≠ TIME.CFG.KI.id := ne_of_notin hW (by decide +kernel)
  have w3 : g.id ≠ TIME.CFG.KP.id := ne_of_notin hW (by decide +kernel)
  have w4 : g.id ≠ TIME.CFG.LOCK.id := ne_of_notin hW (by decide +kernel)
  have w5 : g.id ≠ TIME.CFG.PORT.id := ne_of_notin hW (by decide +kernel)
  have w6 : g.id ≠ TIME.CFG.PTP_EN.id := ne_of_notin hW (by decide +kernel)
  have w7 : g.id ∉ Vc.servoToW := notin_sub hW (by decide +kernel)
  have w8 : g.id ∉ violIds := notin_sub hW (by decide +kernel)
  simp [Vc.timeCfg, *]

def Vc.rearmW : List Nat :=
  [TIME.STATUS.STEP_ARM.id] ++ Vc.servoToW

@[simp] theorem Vc.rd_rearm (s : Vc) (g : Fld) (k m : Nat) (hW : g.id ∉ Vc.rearmW) :
    (Vc.rearm s).rd g k m = s.rd g k m := by
  have w0 : g.id ≠ TIME.STATUS.STEP_ARM.id := ne_of_notin hW (by decide +kernel)
  have w1 : g.id ∉ Vc.servoToW := notin_sub hW (by decide +kernel)
  unfold Vc.rearm
  dsimp only
  (repeat' split) <;> simp [*]

def Vc.timeCtrlW : List Nat :=
  violIds ++ Vc.rearmW

@[simp] theorem Vc.rd_timeCtrl (s : Vc) (w : Nat) (g : Fld) (k m : Nat) (hW : g.id ∉ Vc.timeCtrlW) :
    (Vc.timeCtrl s w).rd g k m = s.rd g k m := by
  have w0 : g.id ∉ Vc.rearmW := notin_sub hW (by decide +kernel)
  have w1 : g.id ∉ violIds := notin_sub hW (by decide +kernel)
  simp [Vc.timeCtrl, *]

def Vc.rateWriteW : List Nat :=
  [TIME.RATE.RATE.id] ++ violIds

@[simp] theorem Vc.rd_rateWrite (s : Vc) (high : Bool) (w : Nat) (addr : Nat) (g : Fld) (k m : Nat) (hW : g.id ∉ Vc.rateWriteW) :
    (Vc.rateWrite s high w addr).rd g k m = s.rd g k m := by
  have w0 : g.id ≠ TIME.RATE.RATE.id := ne_of_notin hW (by decide +kernel)
  have w1 : g.id ∉ violIds := notin_sub hW (by decide +kernel)
  simp [Vc.rateWrite, *]

@[simp] theorem Vc.rd_setItem (s : Vc) (j : Nat) (x : ItemSt) (g : Fld) (k m : Nat) :
    (Vc.setItem s j x).rd g k m = s.rd g k m := by
  simp [Vc.setItem, *]

@[simp] theorem Vc.rd_setRun (s : Vc) (n : Nat) (r : Option Run) (g : Fld) (k m : Nat) :
    (Vc.setRun s n r).rd g k m = s.rd g k m := by
  simp [Vc.setRun, *]

@[simp] theorem Vc.rd_setHart (s : Vc) (n : Nat) (h : Hart) (g : Fld) (k m : Nat) :
    (Vc.setHart s n h).rd g k m = s.rd g k m := by
  simp [Vc.setHart, *]

def Vc.setItemStateW : List Nat :=
  [ITEM.W7.STATE.id]

@[simp] theorem Vc.rd_setItemState (s : Vc) (j st : Nat) (g : Fld) (k m : Nat) (hW : g.id ∉ Vc.setItemStateW) :
    (Vc.setItemState s j st).rd g k m = s.rd g k m := by
  have w0 : g.id ≠ ITEM.W7.STATE.id := ne_of_notin hW (by decide +kernel)
  simp [Vc.setItemState, *]

def Vc.ctlResultW : List Nat :=
  [SCHED.CTLSTAT.ITEM.id, SCHED.CTLSTAT.RESULT.id]

@[simp] theorem Vc.rd_ctlResult (s : Vc) (host : Bool) (j r : Nat) (g : Fld) (k m : Nat) (hW : g.id ∉ Vc.ctlResultW) :
    (Vc.ctlResult s host j r).rd g k m = s.rd g k m := by
  have w0 : g.id ≠ SCHED.CTLSTAT.ITEM.id := ne_of_notin hW (by decide +kernel)
  have w1 : g.id ≠ SCHED.CTLSTAT.RESULT.id := ne_of_notin hW (by decide +kernel)
  simp [Vc.ctlResult, *]

def Vc.itemArmW : List Nat :=
  [ITEM.W5.COUNT.id] ++ Vc.ctlResultW ++ Vc.setItemStateW

@[simp] theorem Vc.rd_itemArm (s : Vc) (j : Nat) (host : Bool) (g : Fld) (k m : Nat) (hW : g.id ∉ Vc.itemArmW) :
    (Vc.itemArm s j host).rd g k m = s.rd g k m := by
  have w0 : g.id ≠ ITEM.W5.COUNT.id := ne_of_notin hW (by decide +kernel)
  have w1 : g.id ∉ Vc.ctlResultW := notin_sub hW (by decide +kernel)
  have w2 : g.id ∉ Vc.setItemStateW := notin_sub hW (by decide +kernel)
  simp [Vc.itemArm, *]

def Vc.itemFreeW : List Nat :=
  Vc.ctlResultW ++ Vc.setItemStateW

@[simp] theorem Vc.rd_itemFree (s : Vc) (j : Nat) (host : Bool) (g : Fld) (k m : Nat) (hW : g.id ∉ Vc.itemFreeW) :
    (Vc.itemFree s j host).rd g k m = s.rd g k m := by
  have w0 : g.id ∉ Vc.ctlResultW := notin_sub hW (by decide +kernel)
  have w1 : g.id ∉ Vc.setItemStateW := notin_sub hW (by decide +kernel)
  simp [Vc.itemFree, *]

@[simp] theorem Vc.rd_itemCancel (s : Vc) (j : Nat) (host : Bool) (g : Fld) (k m : Nat) :
    (Vc.itemCancel s j host).rd g k m = s.rd g k m := by
  simp [Vc.itemCancel, *]

@[simp] theorem Vc.rd_ctlOver (s : Vc) (g : Fld) (k m : Nat) :
    (Vc.ctlOver s).rd g k m = s.rd g k m := by
  simp [Vc.ctlOver, *]

def Vc.itemCtlW : List Nat :=
  violIds ++ Vc.itemArmW

@[simp] theorem Vc.rd_itemCtl (s : Vc) (w : Nat) (g : Fld) (k m : Nat) (hW : g.id ∉ Vc.itemCtlW) :
    (Vc.itemCtl s w).rd g k m = s.rd g k m := by
  have w0 : g.id ∉ Vc.itemArmW := notin_sub hW (by decide +kernel)
  have w1 : g.id ∉ Vc.itemFreeW := notin_sub hW (by decide +kernel)
  have w2 : g.id ∉ violIds := notin_sub hW (by decide +kernel)
  unfold Vc.itemCtl
  (repeat' split) <;> simp [*]

@[simp] theorem Vc.rd_freeFrame (s : Vc) (j : Nat) (g : Fld) (k m : Nat) :
    (Vc.freeFrame s j).rd g k m = s.rd g k m := by
  simp [Vc.freeFrame, *]

@[simp] theorem Vc.rd_startRun (s : Vc) (n j : Nat) (swap : Nat) (g : Fld) (k m : Nat) (hW : g.id ∉ Vc.setItemStateW) :
    (Vc.startRun s n j swap).rd g k m = s.rd g k m := by
  simp [Vc.startRun, *]

@[simp] theorem Vc.rd_saveFrame (s : Vc) (n j : Nat) (g : Fld) (k m : Nat) :
    (Vc.saveFrame s n j).rd g k m = s.rd g k m := by
  simp [Vc.saveFrame, *]

@[simp] theorem Vc.rd_dispatch (s : Vc) (g : Fld) (k m : Nat) (hW : g.id ∉ Vc.setItemStateW) :
    (Vc.dispatch s).rd g k m = s.rd g k m := by
  unfold Vc.dispatch
  refine forN_rd _ _ _ _ _ _ fun s a => ?_
  split
  · rfl
  · split <;> simp [*]

def Vc.preemptOnceW : List Nat :=
  [SCHED.ERRSTAT.NO_FRAME.id, SCHED.PREEMPTCNT.COUNT.id] ++ Vc.setItemStateW

@[simp] theorem Vc.rd_preemptOnce (s : Vc) (g : Fld) (k m : Nat) (hW : g.id ∉ Vc.preemptOnceW) :
    (Vc.preemptOnce s).rd g k m = s.rd g k m := by
  have w0 : g.id ≠ SCHED.ERRSTAT.NO_FRAME.id := ne_of_notin hW (by decide +kernel)
  have w1 : g.id ≠ SCHED.PREEMPTCNT.COUNT.id := ne_of_notin hW (by decide +kernel)
  have w2 : g.id ∉ Vc.setItemStateW := notin_sub hW (by decide +kernel)
  unfold Vc.preemptOnce
  (repeat' split) <;> simp [*]

def Vc.decreaseW : List Nat :=
  [ITEM.W5.COUNT.id, SCHED.ERRSTAT.STRAY_DEC.id]

@[simp] theorem Vc.rd_decrease (s : Vc) (j : Nat) (g : Fld) (k m : Nat) (hW : g.id ∉ Vc.decreaseW) :
    (Vc.decrease s j).rd g k m = s.rd g k m := by
  have w0 : g.id ≠ ITEM.W5.COUNT.id := ne_of_notin hW (by decide +kernel)
  have w1 : g.id ≠ SCHED.ERRSTAT.STRAY_DEC.id := ne_of_notin hW (by decide +kernel)
  unfold Vc.decrease
  split <;> simp [*]

@[simp] theorem Vc.rd_dropItem (s : Vc) (j : Nat) (g : Fld) (k m : Nat) :
    (Vc.dropItem s j).rd g k m = s.rd g k m := by
  unfold Vc.dropItem
  have h1 : ∀ (u : Vc) (x : SchedSt), Vc.rd { u with sched := x } g k m = u.rd g k m := fun _ _ => rfl
  dsimp only
  rw [h1, Vc.rd_freeFrame, forN_rd]
  intro s a
  split
  · split <;> simp
  · rfl

@[simp] theorem Vc.rd_succPolicies (s : Vc) (j : Nat) (g : Fld) (k m : Nat) (hW : g.id ∉ Vc.decreaseW) : (s.succPolicies j).1.rd g k m = s.rd g k m := by
  
  unfold Vc.succPolicies
  refine (foldl1_rd _ _ _ _ ?_ _ _).trans rfl
  intro p e
  split <;> simp [*]

def Vc.cancelOneW : List Nat :=
  Vc.decreaseW ++ Vc.ctlResultW ++ Vc.setItemStateW

@[simp] theorem Vc.rd_cancelOne (p : Vc × List Nat) (e : Nat × Bool × Bool) (g : Fld) (k m : Nat) (hW : g.id ∉ Vc.cancelOneW) :
    (Vc.cancelOne p e).1.rd g k m = p.1.rd g k m := by
  have w0 : g.id ∉ Vc.ctlResultW := notin_sub hW (by decide +kernel)
  have w1 : g.id ∉ Vc.decreaseW := notin_sub hW (by decide +kernel)
  have w2 : g.id ∉ Vc.setItemStateW := notin_sub hW (by decide +kernel)
  unfold Vc.cancelOne
  repeat' (first | with_reducible rfl | (simp [*]; done) | split)

@[simp] theorem Vc.rd_cancelWaves (n : Nat) (g : Fld) (k m : Nat) (hW : g.id ∉ Vc.cancelOneW) : ∀ (s : Vc) (l : List (Nat × Bool × Bool)),
    (Vc.cancelWaves n s l).rd g k m = s.rd g k m := by
  
  induction n with
  | zero => intro s l; rfl
  | succ n ih =>
    intro s l
    unfold Vc.cancelWaves
    repeat' (first | with_reducible rfl | (simp [*]; done) | split)

def Vc.completeW : List Nat :=
  Vc.decreaseW ++ Vc.setItemStateW

@[simp] theorem Vc.rd_complete (s : Vc) (x : Notice) (g : Fld) (k m : Nat) (hW : g.id ∉ Vc.completeW) :
    (Vc.complete s x).rd g k m = s.rd g k m := by
  have w0 : g.id ≠ ITEM.W5.COUNT.id := ne_of_notin hW (by decide +kernel)
  have w1 : g.id ∉ Vc.decreaseW := notin_sub hW (by decide +kernel)
  have w2 : g.id ∉ Vc.setItemStateW := notin_sub hW (by decide +kernel)
  simp [Vc.complete, *]

def Vc.trapItemW : List Nat :=
  [SCHED.ERRSTAT.ITEM_TRAP.id, SCHED.LASTTRAP.ITEM.id, SCHED.LASTTRAP.MCAUSE.id, SCHED.LASTTVAL.MTVAL.id, SCHED.TRAPCNT.COUNT.id] ++ eventIds ++ Vc.setItemStateW

@[simp] theorem Vc.rd_trapItem (s : Vc) (x : Notice) (cause tval : Nat) (g : Fld) (k m : Nat) (hW : g.id ∉ Vc.trapItemW) :
    (Vc.trapItem s x cause tval).rd g k m = s.rd g k m := by
  have w0 : g.id ≠ SCHED.ERRSTAT.ITEM_TRAP.id := ne_of_notin hW (by decide +kernel)
  have w1 : g.id ≠ SCHED.LASTTRAP.ITEM.id := ne_of_notin hW (by decide +kernel)
  have w2 : g.id ≠ SCHED.LASTTRAP.MCAUSE.id := ne_of_notin hW (by decide +kernel)
  have w3 : g.id ≠ SCHED.LASTTVAL.MTVAL.id := ne_of_notin hW (by decide +kernel)
  have w4 : g.id ≠ SCHED.TRAPCNT.COUNT.id := ne_of_notin hW (by decide +kernel)
  have w5 : g.id ∉ Vc.setItemStateW := notin_sub hW (by decide +kernel)
  have w6 : g.id ∉ eventIds := notin_sub hW (by decide +kernel)
  simp [Vc.trapItem, *]

def Vc.applySetpointsW : List Nat :=
  [LENS.SETPT.VALUE.id, SCHED.ERRSTAT.SETPT_CONFLICT.id]

@[simp] theorem Vc.rd_applySetpoints (s : Vc) (js : List Nat) (g : Fld) (k m : Nat) (hW : g.id ∉ Vc.applySetpointsW) :
    (Vc.applySetpoints s js).rd g k m = s.rd g k m := by
  have w0 : g.id ≠ LENS.SETPT.VALUE.id := ne_of_notin hW (by decide +kernel)
  have w1 : g.id ≠ SCHED.ERRSTAT.SETPT_CONFLICT.id := ne_of_notin hW (by decide +kernel)
  unfold Vc.applySetpoints
  refine (foldl_rd _ _ _ _ ?_ _ _).trans ?_ <;> intros <;> first | (simp [*]; done) | (split <;> simp [*])

@[simp] theorem Vc.rd_makeReady (s : Vc) (g : Fld) (k m : Nat) (hW : g.id ∉ Vc.setItemStateW) :
    (Vc.makeReady s).rd g k m = s.rd g k m := by
  simp [Vc.makeReady, *]

def Vc.applyNoticeW : List Nat :=
  Vc.trapItemW ++ Vc.completeW

@[simp] theorem Vc.rd_applyNotice (s : Vc) (x : Notice) (g : Fld) (k m : Nat) (hW : g.id ∉ Vc.applyNoticeW) :
    (Vc.applyNotice s x).rd g k m = s.rd g k m := by
  have w0 : g.id ∉ Vc.completeW := notin_sub hW (by decide +kernel)
  have w1 : g.id ∉ Vc.trapItemW := notin_sub hW (by decide +kernel)
  unfold Vc.applyNotice
  split <;> simp [*]

def Vc.schedEndW : List Nat :=
  [SCHED.STATUS.READY.id] ++ Vc.preemptOnceW

@[simp] theorem Vc.rd_schedEnd (s : Vc) (g : Fld) (k m : Nat) (hW : g.id ∉ Vc.schedEndW) :
    (Vc.schedEnd s).rd g k m = s.rd g k m := by
  have w0 : g.id ≠ SCHED.STATUS.READY.id := ne_of_notin hW (by decide +kernel)
  have w1 : g.id ∉ Vc.preemptOnceW := notin_sub hW (by decide +kernel)
  have w2 : g.id ∉ Vc.setItemStateW := notin_sub hW (by decide +kernel)
  simp [Vc.schedEnd, *]

def Vc.missActW : List Nat :=
  [SCHED.DLMISSCNT.COUNT.id, SCHED.ERRSTAT.DL_MISS.id] ++ eventIds

@[simp] theorem Vc.rd_missAct (s : Vc) (j : Nat) (g : Fld) (k m : Nat) (hW : g.id ∉ Vc.missActW) :
    (Vc.missAct s j).rd g k m = s.rd g k m := by
  have w0 : g.id ≠ SCHED.DLMISSCNT.COUNT.id := ne_of_notin hW (by decide +kernel)
  have w1 : g.id ≠ SCHED.ERRSTAT.DL_MISS.id := ne_of_notin hW (by decide +kernel)
  have w2 : g.id ∉ Vc.irqW := notin_sub hW (by decide +kernel)
  have w3 : g.id ∉ eventIds := notin_sub hW (by decide +kernel)
  unfold Vc.missAct
  dsimp only
  (repeat' split) <;> simp [*]

def Vc.schedRestW : List Nat :=
  Vc.missActW ++ Vc.cancelOneW ++ Vc.schedEndW

@[simp] theorem Vc.rd_schedRest (s : Vc) (traps : List (Nat × Bool × Bool)) (g : Fld) (k m : Nat) (hW : g.id ∉ Vc.schedRestW) :
    (Vc.schedRest s traps).rd g k m = s.rd g k m := by
  have w0 : g.id ∉ Vc.cancelOneW := notin_sub hW (by decide +kernel)
  have w1 : g.id ∉ Vc.missActW := notin_sub hW (by decide +kernel)
  have w2 : g.id ∉ Vc.schedEndW := notin_sub hW (by decide +kernel)
  simp [Vc.schedRest, *]

def Vc.schedCommitW : List Nat :=
  [SCHED.ERRSTAT.DEFER.id] ++ Vc.schedRestW ++ Vc.applyNoticeW ++ Vc.applySetpointsW

@[simp] theorem Vc.rd_schedCommit (s : Vc) (k : Nat) (g : Fld) (kk m : Nat) (hW : g.id ∉ Vc.schedCommitW) :
    (Vc.schedCommit s k).rd g kk m = s.rd g kk m := by
  have w0 : g.id ≠ SCHED.ERRSTAT.DEFER.id := ne_of_notin hW (by decide +kernel)
  have w1 : g.id ∉ Vc.applyNoticeW := notin_sub hW (by decide +kernel)
  have w2 : g.id ∉ Vc.applySetpointsW := notin_sub hW (by decide +kernel)
  have w3 : g.id ∉ Vc.decreaseW := notin_sub hW (by decide +kernel)
  have w4 : g.id ∉ Vc.schedRestW := notin_sub hW (by decide +kernel)
  simp [Vc.schedCommit, *]

@[simp] theorem Vc.rd_coreEnds (s : Vc) (n result : Nat) (trap : Option (Nat × Nat)) (late odd : BitVec 3) (g : Fld) (k m : Nat) (hW : g.id ∉ Vc.setItemStateW) :
    (Vc.coreEnds s n result trap late odd).rd g k m = s.rd g k m := by
  unfold Vc.coreEnds
  split <;> simp [*]

@[simp] theorem Vc.rd_coreSetpoint (s : Vc) (n sp v : Nat) (g : Fld) (k m : Nat) (hW : g.id ∉ Vc.setItemStateW) :
    (Vc.coreSetpoint s n sp v).rd g k m = s.rd g k m := by
  unfold Vc.coreSetpoint
  split <;> simp [*]

def Vc.deadlineCancelW : List Nat :=
  Vc.cancelOneW ++ Vc.schedEndW

@[simp] theorem Vc.rd_deadlineCancel (s : Vc) (j : Nat) (g : Fld) (k m : Nat) (hW : g.id ∉ Vc.deadlineCancelW) :
    (Vc.deadlineCancel s j).rd g k m = s.rd g k m := by
  have w0 : g.id ∉ Vc.cancelOneW := notin_sub hW (by decide +kernel)
  have w1 : g.id ∉ Vc.schedEndW := notin_sub hW (by decide +kernel)
  simp [Vc.deadlineCancel, *]

@[simp] theorem Vc.rd_deadlineMiss (s : Vc) (j : Nat) (g : Fld) (k m : Nat) (hW : g.id ∉ Vc.schedRestW) :
    (Vc.deadlineMiss s j).rd g k m = s.rd g k m := by
  have w0 : g.id ∉ Vc.deadlineCancelW := notin_sub hW (by decide +kernel)
  have w1 : g.id ∉ Vc.missActW := notin_sub hW (by decide +kernel)
  simp [Vc.deadlineMiss, *]

def Vc.setDieW : List Nat :=
  [VOTER.STATUS.STATE_A.id, VOTER.STATUS.STATE_B.id, VOTER.STATUS.STATE_C.id]

@[simp] theorem Vc.rd_setDie (s : Vc) (d st : Nat) (g : Fld) (k m : Nat) (hW : g.id ∉ Vc.setDieW) :
    (Vc.setDie s d st).rd g k m = s.rd g k m := by
  have w0 : g.id ≠ VOTER.STATUS.STATE_A.id := ne_of_notin hW (by decide +kernel)
  have w1 : g.id ≠ VOTER.STATUS.STATE_B.id := ne_of_notin hW (by decide +kernel)
  have w2 : g.id ≠ VOTER.STATUS.STATE_C.id := ne_of_notin hW (by decide +kernel)
  unfold Vc.setDie dieFld
  split <;> simp [*]

@[simp] theorem Vc.rd_resetDie (s : Vc) (d st : Nat) (g : Fld) (k m : Nat) (hW : g.id ∉ Vc.setDieW) :
    (Vc.resetDie s d st).rd g k m = s.rd g k m := by
  simp [Vc.resetDie, *]

@[simp] theorem Vc.rd_abandonCopy (s : Vc) (g : Fld) (k m : Nat) (hW : g.id ∉ Vc.setDieW) :
    (Vc.abandonCopy s).rd g k m = s.rd g k m := by
  simp [Vc.abandonCopy, *]

def Vc.voteLostW : List Nat :=
  [VOTER.STATUS.MODE.id] ++ latchIds ++ Vc.setDieW

@[simp] theorem Vc.rd_voteLost (s : Vc) (f : Fld) (b : Nat) (pre : List Rec) (g : Fld) (k m : Nat) (hW : g.id ∉ Vc.voteLostW) (hf : g.id ≠ f.id) :
    (Vc.voteLost s f b pre).rd g k m = s.rd g k m := by
  have w0 : g.id ≠ VOTER.STATUS.MODE.id := ne_of_notin hW (by decide +kernel)
  have w1 : g.id ∉ Vc.setDieW := notin_sub hW (by decide +kernel)
  have w2 : g.id ∉ latchIds := notin_sub hW (by decide +kernel)
  simp [Vc.voteLost, *]

def Vc.doubleFaultW : List Nat :=
  [VOTER.ERRSTAT.DOUBLE_FAULT.id] ++ Vc.voteLostW

@[simp] theorem Vc.rd_doubleFault (s : Vc) (ds : List Nat) (g : Fld) (k m : Nat) (hW : g.id ∉ Vc.doubleFaultW) :
    (Vc.doubleFault s ds).rd g k m = s.rd g k m := by
  have w0 : g.id ≠ VOTER.ERRSTAT.DOUBLE_FAULT.id := ne_of_notin hW (by decide +kernel)
  have w1 : g.id ∉ Vc.voteLostW := notin_sub hW (by decide +kernel)
  simp [Vc.doubleFault, *]

def Vc.dieFaultW : List Nat :=
  [VOTER.ERRSTAT.ASIDE.id, VOTER.ERRSTAT.DUAL_DISAGREE.id] ++ Vc.doubleFaultW

@[simp] theorem Vc.rd_dieFault (s : Vc) (d : Nat) (g : Fld) (k m : Nat) (hW : g.id ∉ Vc.dieFaultW) :
    (Vc.dieFault s d).rd g k m = s.rd g k m := by
  have w0 : g.id ≠ VOTER.ERRSTAT.ASIDE.id := ne_of_notin hW (by decide +kernel)
  have w1 : g.id ≠ VOTER.ERRSTAT.DUAL_DISAGREE.id := ne_of_notin hW (by decide +kernel)
  have w2 : g.id ≠ VOTER.STATUS.MODE.id := ne_of_notin hW (by decide +kernel)
  have w3 : g.id ∉ Vc.doubleFaultW := notin_sub hW (by decide +kernel)
  have w4 : g.id ∉ Vc.setDieW := notin_sub hW (by decide +kernel)
  have w5 : g.id ∉ Vc.voteLostW := notin_sub hW (by decide +kernel)
  have w6 : g.id ∉ eventIds := notin_sub hW (by decide +kernel)
  unfold Vc.dieFault
  (repeat' split) <;> simp [*]

@[simp] theorem Vc.rd_dieFaults (s : Vc) (ds : List Nat) (g : Fld) (k m : Nat) (hW : g.id ∉ Vc.dieFaultW) :
    (Vc.dieFaults s ds).rd g k m = s.rd g k m := by
  have w0 : g.id ∉ Vc.doubleFaultW := notin_sub hW (by decide +kernel)
  unfold Vc.dieFaults
  (repeat' split) <;> simp [*]

def Vc.realignFailW : List Nat :=
  [VOTER.ERRSTAT.REALIGN_FAIL.id, VOTER.STATUS.REALIGN_FAILS.id] ++ eventIds ++ Vc.setDieW

@[simp] theorem Vc.rd_realignFail (s : Vc) (d : Nat) (g : Fld) (k m : Nat) (hW : g.id ∉ Vc.realignFailW) :
    (Vc.realignFail s d).rd g k m = s.rd g k m := by
  have w0 : g.id ≠ VOTER.ERRSTAT.REALIGN_FAIL.id := ne_of_notin hW (by decide +kernel)
  have w1 : g.id ≠ VOTER.STATUS.REALIGN_FAILS.id := ne_of_notin hW (by decide +kernel)
  have w2 : g.id ∉ Vc.setDieW := notin_sub hW (by decide +kernel)
  have w3 : g.id ∉ eventIds := notin_sub hW (by decide +kernel)
  simp [Vc.realignFail, *]

def Vc.channelDownW : List Nat :=
  [VOTER.ERRSTAT.CHANNEL_DOWN.id] ++ Vc.dieFaultW ++ Vc.realignFailW

@[simp] theorem Vc.rd_channelDown (s : Vc) (d : Nat) (g : Fld) (k m : Nat) (hW : g.id ∉ Vc.channelDownW) :
    (Vc.channelDown s d).rd g k m = s.rd g k m := by
  have w0 : g.id ≠ VOTER.ERRSTAT.CHANNEL_DOWN.id := ne_of_notin hW (by decide +kernel)
  have w1 : g.id ∉ Vc.dieFaultW := notin_sub hW (by decide +kernel)
  have w2 : g.id ∉ Vc.realignFailW := notin_sub hW (by decide +kernel)
  unfold Vc.channelDown
  dsimp only
  (repeat' split) <;> simp [*]

@[simp] theorem Vc.rd_flitRx (s : Vc) (d data crc : Nat) (replay : Bool) (g : Fld) (k m : Nat) (hW : g.id ∉ Vc.channelDownW) :
    (Vc.flitRx s d data crc replay).rd g k m = s.rd g k m := by
  have w0 : g.id ∉ eventIds := notin_sub hW (by decide +kernel)
  simp [Vc.flitRx, *]

def Vc.selfTestDoneW : List Nat :=
  [VOTER.ERRSTAT.REALIGN_FAIL.id] ++ eventIds ++ Vc.setDieW

@[simp] theorem Vc.rd_selfTestDone (s : Vc) (d : Nat) (pass : Bool) (g : Fld) (k m : Nat) (hW : g.id ∉ Vc.selfTestDoneW) :
    (Vc.selfTestDone s d pass).rd g k m = s.rd g k m := by
  have w0 : g.id ≠ VOTER.ERRSTAT.REALIGN_FAIL.id := ne_of_notin hW (by decide +kernel)
  have w1 : g.id ∉ Vc.setDieW := notin_sub hW (by decide +kernel)
  have w2 : g.id ∉ eventIds := notin_sub hW (by decide +kernel)
  simp [Vc.selfTestDone, *]

def Vc.voterCtrlW : List Nat :=
  Vc.dieFaultW ++ violIds

@[simp] theorem Vc.rd_voterCtrl (s : Vc) (w : Nat) (g : Fld) (k m : Nat) (hW : g.id ∉ Vc.voterCtrlW) :
    (Vc.voterCtrl s w).rd g k m = s.rd g k m := by
  have w0 : g.id ∉ Vc.dieFaultW := notin_sub hW (by decide +kernel)
  have w1 : g.id ∉ violIds := notin_sub hW (by decide +kernel)
  simp [Vc.voterCtrl, *]

@[simp] theorem Vc.rd_copyTick (s : Vc) (g : Fld) (k m : Nat) (hW : g.id ∉ Vc.setDieW) :
    (Vc.copyTick s).rd g k m = s.rd g k m := by
  simp [Vc.copyTick, *]

def Vc.copyDoneW : List Nat :=
  [VOTER.STATUS.MODE.id] ++ Vc.realignFailW

@[simp] theorem Vc.rd_copyDone (s : Vc) (d : Nat) (agrees : Bool) (g : Fld) (k m : Nat) (hW : g.id ∉ Vc.copyDoneW) :
    (Vc.copyDone s d agrees).rd g k m = s.rd g k m := by
  have w0 : g.id ≠ VOTER.STATUS.MODE.id := ne_of_notin hW (by decide +kernel)
  have w1 : g.id ∉ Vc.realignFailW := notin_sub hW (by decide +kernel)
  have w2 : g.id ∉ Vc.setDieW := notin_sub hW (by decide +kernel)
  simp [Vc.copyDone, *]

def Vc.voteEndW : List Nat :=
  [VOTER.ERRSTAT.NO_MAJORITY.id] ++ Vc.dieFaultW

@[simp] theorem Vc.rd_voteEnd (s : Vc) (bad : List Nat) (split : Bool) (g : Fld) (k m : Nat) (hW : g.id ∉ Vc.voteEndW) :
    (Vc.voteEnd s bad split).rd g k m = s.rd g k m := by
  have w0 : g.id ≠ VOTER.ERRSTAT.DUAL_DISAGREE.id := ne_of_notin hW (by decide +kernel)
  have w1 : g.id ≠ VOTER.ERRSTAT.NO_MAJORITY.id := ne_of_notin hW (by decide +kernel)
  have w2 : g.id ∉ Vc.dieFaultW := notin_sub hW (by decide +kernel)
  have w3 : g.id ∉ Vc.voteLostW := notin_sub hW (by decide +kernel)
  have w4 : g.id ∉ eventIds := notin_sub hW (by decide +kernel)
  simp [Vc.voteEnd, *]

def Vc.voteTickW : List Nat :=
  [LENS.BLKSRC.CTX.id, VOTER.DISCNT.COUNT.id] ++ Vc.voteEndW

@[simp] theorem Vc.rd_voteTick (s : Vc) (dies : List DieData) (reqs far : List Nat) (g : Fld) (k m : Nat) (hW : g.id ∉ Vc.voteTickW) :
    (Vc.voteTick s dies reqs far).rd g k m = s.rd g k m := by
  have w0 : g.id ≠ LENS.BLKSRC.CTX.id := ne_of_notin hW (by decide +kernel)
  have w1 : g.id ≠ VOTER.DISCNT.COUNT.id := ne_of_notin hW (by decide +kernel)
  have w2 : g.id ∉ Vc.voteEndW := notin_sub hW (by decide +kernel)
  have w3 : g.id ∉ latchIds := notin_sub hW (by decide +kernel)
  simp [Vc.voteTick, *]

@[simp] theorem Vc.rd_cascCopies (s : Vc) (bad : Nat) (g : Fld) (k m : Nat) (hW : g.id ∉ Vc.blkCopyW) :
    (Vc.cascCopies s bad).1.rd g k m = s.rd g k m := by
  have w0 : g.id ≠ CASCADE.COPYCNT.COUNT.id := ne_of_notin hW (by decide +kernel)
  have w1 : g.id ≠ CASCADE.ERRSTAT.COPY_ERR.id := ne_of_notin hW (by decide +kernel)
  have w2 : g.id ∉ eventIds := notin_sub hW (by decide +kernel)
  unfold Vc.cascCopies
  split <;> simp [*]

def Vc.cascOffW : List Nat :=
  [CASCADE.STATUS.READY.id, CASCADE.STATUS.STATE.id] ++ Vc.servoToW

@[simp] theorem Vc.rd_cascOff (s : Vc) (g : Fld) (k m : Nat) (hW : g.id ∉ Vc.cascOffW) :
    (Vc.cascOff s).rd g k m = s.rd g k m := by
  have w0 : g.id ≠ CASCADE.STATUS.READY.id := ne_of_notin hW (by decide +kernel)
  have w1 : g.id ≠ CASCADE.STATUS.STATE.id := ne_of_notin hW (by decide +kernel)
  have w2 : g.id ∉ Vc.servoToW := notin_sub hW (by decide +kernel)
  simp [Vc.cascOff, *]

def Vc.cascFailW : List Nat :=
  eventIds ++ Vc.cascOffW

@[simp] theorem Vc.rd_cascFail (s : Vc) (f : Fld) (b : Nat) (g : Fld) (k m : Nat) (hW : g.id ∉ Vc.cascFailW) (hf : g.id ≠ f.id) :
    (Vc.cascFail s f b).rd g k m = s.rd g k m := by
  have w0 : g.id ∉ Vc.cascOffW := notin_sub hW (by decide +kernel)
  have w1 : g.id ∉ Vc.irqW := notin_sub hW (by decide +kernel)
  have w2 : g.id ∉ eventIds := notin_sub hW (by decide +kernel)
  simp [Vc.cascFail, *]

def Vc.setVcIdW : List Nat :=
  [CASCADE.CFG.VC_ID.id]

@[simp] theorem Vc.rd_setVcId (s : Vc) (id : Nat) (g : Fld) (k m : Nat) (hW : g.id ∉ Vc.setVcIdW) :
    (Vc.setVcId s id).rd g k m = s.rd g k m := by
  have w0 : g.id ≠ CASCADE.CFG.VC_ID.id := ne_of_notin hW (by decide +kernel)
  simp [Vc.setVcId, *]

def Vc.noMemberW : List Nat :=
  [CASCADE.HOPDLY.UP_DELAY.id, CASCADE.STATUS.DEPTH.id, CASCADE.STATUS.READY.id] ++ Vc.setVcIdW

@[simp] theorem Vc.rd_noMember (s : Vc) (g : Fld) (k m : Nat) (hW : g.id ∉ Vc.noMemberW) :
    (Vc.noMember s).rd g k m = s.rd g k m := by
  have w0 : g.id ≠ CASCADE.HOPDLY.UP_DELAY.id := ne_of_notin hW (by decide +kernel)
  have w1 : g.id ≠ CASCADE.STATUS.DEPTH.id := ne_of_notin hW (by decide +kernel)
  have w2 : g.id ≠ CASCADE.STATUS.READY.id := ne_of_notin hW (by decide +kernel)
  have w3 : g.id ∉ Vc.setVcIdW := notin_sub hW (by decide +kernel)
  simp [Vc.noMember, *]

def Vc.cascStartW : List Nat :=
  [CASCADE.ERRSTAT.ID_CONFLICT.id, CASCADE.STATUS.DEPTH.id] ++ Vc.cascFailW ++ Vc.setVcIdW

@[simp] theorem Vc.rd_cascStart (s : Vc) (g : Fld) (k m : Nat) (hW : g.id ∉ Vc.cascStartW) :
    (Vc.cascStart s).rd g k m = s.rd g k m := by
  have w0 : g.id ≠ CASCADE.ERRSTAT.ID_CONFLICT.id := ne_of_notin hW (by decide +kernel)
  have w1 : g.id ≠ CASCADE.STATUS.DEPTH.id := ne_of_notin hW (by decide +kernel)
  have w2 : g.id ≠ CASCADE.STATUS.READY.id := ne_of_notin hW (by decide +kernel)
  have w3 : g.id ≠ CASCADE.STATUS.STATE.id := ne_of_notin hW (by decide +kernel)
  have w4 : g.id ∉ Vc.cascFailW := notin_sub hW (by decide +kernel)
  have w5 : g.id ∉ Vc.setVcIdW := notin_sub hW (by decide +kernel)
  simp [Vc.cascStart, *]

def Vc.cascStopW : List Nat :=
  latchIds ++ Vc.cascOffW

@[simp] theorem Vc.rd_cascStop (s : Vc) (g : Fld) (k m : Nat) (hW : g.id ∉ Vc.cascStopW) :
    (Vc.cascStop s).rd g k m = s.rd g k m := by
  have w0 : g.id ∉ Vc.cascOffW := notin_sub hW (by decide +kernel)
  have w1 : g.id ∉ latchIds := notin_sub hW (by decide +kernel)
  simp [Vc.cascStop, *]

def Vc.cascCtrlW : List Nat :=
  Vc.cascStopW ++ Vc.cascStartW

@[simp] theorem Vc.rd_cascCtrl (s : Vc) (w : Nat) (g : Fld) (k m : Nat) (hW : g.id ∉ Vc.cascCtrlW) :
    (Vc.cascCtrl s w).rd g k m = s.rd g k m := by
  have w0 : g.id ∉ Vc.cascStartW := notin_sub hW (by decide +kernel)
  have w1 : g.id ∉ Vc.cascStopW := notin_sub hW (by decide +kernel)
  simp [Vc.cascCtrl, *]

def Vc.enumFrameW : List Nat :=
  [CASCADE.STATUS.DEPTH.id, CASCADE.STATUS.READY.id, CASCADE.STATUS.STATE.id] ++ Vc.blkCopyW ++ Vc.servoToW ++ Vc.setVcIdW

@[simp] theorem Vc.rd_enumFrame (s : Vc) (id count bad : Nat) (g : Fld) (k m : Nat) (hW : g.id ∉ Vc.enumFrameW) :
    (Vc.enumFrame s id count bad).rd g k m = s.rd g k m := by
  have w0 : g.id ≠ CASCADE.STATUS.DEPTH.id := ne_of_notin hW (by decide +kernel)
  have w1 : g.id ≠ CASCADE.STATUS.READY.id := ne_of_notin hW (by decide +kernel)
  have w2 : g.id ≠ CASCADE.STATUS.STATE.id := ne_of_notin hW (by decide +kernel)
  have w3 : g.id ∉ Vc.blkCopyW := notin_sub hW (by decide +kernel)
  have w4 : g.id ∉ Vc.servoToW := notin_sub hW (by decide +kernel)
  have w5 : g.id ∉ Vc.setVcIdW := notin_sub hW (by decide +kernel)
  simp [Vc.enumFrame, *]

def Vc.enumAckW : List Nat :=
  [CASCADE.ERRSTAT.ID_CONFLICT.id] ++ Vc.cascFailW ++ Vc.blkCopyW

@[simp] theorem Vc.rd_enumAck (s : Vc) (acks : List (Nat × Nat)) (bad : Nat) (g : Fld) (k m : Nat) (hW : g.id ∉ Vc.enumAckW) :
    (Vc.enumAck s acks bad).rd g k m = s.rd g k m := by
  have w0 : g.id ≠ CASCADE.ERRSTAT.ID_CONFLICT.id := ne_of_notin hW (by decide +kernel)
  have w1 : g.id ≠ CASCADE.STATUS.STATE.id := ne_of_notin hW (by decide +kernel)
  have w2 : g.id ∉ Vc.blkCopyW := notin_sub hW (by decide +kernel)
  have w3 : g.id ∉ Vc.cascFailW := notin_sub hW (by decide +kernel)
  simp [Vc.enumAck, *]

def Vc.enumTimeoutW : List Nat :=
  [CASCADE.ERRSTAT.ENUM_TIMEOUT.id] ++ Vc.cascFailW

@[simp] theorem Vc.rd_enumTimeout (s : Vc) (g : Fld) (k m : Nat) (hW : g.id ∉ Vc.enumTimeoutW) :
    (Vc.enumTimeout s).rd g k m = s.rd g k m := by
  have w0 : g.id ≠ CASCADE.ERRSTAT.ENUM_TIMEOUT.id := ne_of_notin hW (by decide +kernel)
  have w1 : g.id ∉ Vc.cascFailW := notin_sub hW (by decide +kernel)
  simp [Vc.enumTimeout, *]

def Vc.tickAlignW : List Nat :=
  [CASCADE.ERRSTAT.BUDGET_FAIL.id, CASCADE.HOPDLY.UP_DELAY.id, LENS.TICKNO.TICKNO.id] ++ Vc.cascFailW

@[simp] theorem Vc.rd_tickAlign (s : Vc) (delay vt tickNo tickOfs : Nat) (g : Fld) (k m : Nat) (hW : g.id ∉ Vc.tickAlignW) :
    (Vc.tickAlign s delay vt tickNo tickOfs).rd g k m = s.rd g k m := by
  have w0 : g.id ≠ CASCADE.ERRSTAT.BUDGET_FAIL.id := ne_of_notin hW (by decide +kernel)
  have w1 : g.id ≠ CASCADE.HOPDLY.UP_DELAY.id := ne_of_notin hW (by decide +kernel)
  have w2 : g.id ≠ LENS.TICKNO.TICKNO.id := ne_of_notin hW (by decide +kernel)
  have w3 : g.id ∉ Vc.cascFailW := notin_sub hW (by decide +kernel)
  simp [Vc.tickAlign, *]

def Vc.cascReadyW : List Nat :=
  [CASCADE.STATUS.STATE.id]

@[simp] theorem Vc.rd_cascReady (s : Vc) (g : Fld) (k m : Nat) (hW : g.id ∉ Vc.cascReadyW) :
    (Vc.cascReady s).rd g k m = s.rd g k m := by
  have w0 : g.id ≠ CASCADE.STATUS.STATE.id := ne_of_notin hW (by decide +kernel)
  simp [Vc.cascReady, *]

def Vc.cascLaneLostW : List Nat :=
  [CASCADE.ERRSTAT.LANE_LOST.id, CASCADE.ERRSTAT.PAIR_LOST.id, CASCADE.STATUS.STATE.id] ++ latchIds

@[simp] theorem Vc.rd_cascLaneLost (s : Vc) (l : Nat) (unit : Rec) (g : Fld) (k m : Nat) (hW : g.id ∉ Vc.cascLaneLostW) :
    (Vc.cascLaneLost s l unit).rd g k m = s.rd g k m := by
  have w0 : g.id ≠ CASCADE.ERRSTAT.LANE_LOST.id := ne_of_notin hW (by decide +kernel)
  have w1 : g.id ≠ CASCADE.ERRSTAT.PAIR_LOST.id := ne_of_notin hW (by decide +kernel)
  have w2 : g.id ≠ CASCADE.STATUS.STATE.id := ne_of_notin hW (by decide +kernel)
  have w3 : g.id ∉ Vc.irqW := notin_sub hW (by decide +kernel)
  have w4 : g.id ∉ eventIds := notin_sub hW (by decide +kernel)
  have w5 : g.id ∉ latchIds := notin_sub hW (by decide +kernel)
  simp [Vc.cascLaneLost, *]

@[simp] theorem Vc.rd_cascForward (s : Vc) (kind : Nat) (ws : List Nat) (g : Fld) (k m : Nat) :
    (Vc.cascForward s kind ws).rd g k m = s.rd g k m := by
  simp [Vc.cascForward, *]

@[simp] theorem Vc.rd_armNotes (s : Vc) (notes : List ArmNote) (bad : Nat) (g : Fld) (k m : Nat) :
    (Vc.armNotes s notes bad).rd g k m = s.rd g k m := by
  simp [Vc.armNotes, *]

@[simp] theorem Vc.rd_cascCommands (s : Vc) (dest : Nat) (cmds : List (Nat × Nat)) (bad : Nat) (g : Fld) (k m : Nat) (hW : g.id ∉ Vc.blkCopyW) :
    (Vc.cascCommands s dest cmds bad).rd g k m = s.rd g k m := by
  unfold Vc.cascCommands
  split
  rename_i t ok he
  have h1 : t.rd g k m = s.rd g k m := by
    rw [← Vc.rd_cascCopies s bad g k m (by assumption), he]
  split
  · exact h1
  · split
    · exact h1
    · refine (foldl_rd _ _ _ _ ?_ _ _).trans h1
      intro s a
      rfl

@[simp] theorem Vc.rd_sliceRx (s : Vc) (home vc str : Nat) (ws : List Nat) (bad : Nat) (g : Fld) (k m : Nat) (hW : g.id ∉ Vc.blkCopyW) :
    (Vc.sliceRx s home vc str ws bad).rd g k m = s.rd g k m := by
  simp [Vc.sliceRx, *]

@[simp] theorem Vc.rd_cascValue (s : Vc) (origin slot value period bad : Nat) (g : Fld) (k m : Nat) (hW : g.id ∉ Vc.blkCopyW) :
    (Vc.cascValue s origin slot value period bad).rd g k m = s.rd g k m := by
  simp [Vc.cascValue, *]

@[simp] theorem Vc.rd_memberStatus (s : Vc) (vc conds : Nat) (strs : List RemStr) (bad : Nat) (g : Fld) (k m : Nat) (hW : g.id ∉ Vc.blkCopyW) :
    (Vc.memberStatus s vc conds strs bad).rd g k m = s.rd g k m := by
  simp [Vc.memberStatus, *]

@[simp] theorem Vc.rd_cascVals (s : Vc) (g : Fld) (k m : Nat) :
    (Vc.cascVals s).rd g k m = s.rd g k m := by
  simp [Vc.cascVals, *]

@[simp] theorem Vc.rd_sliceCommit (s : Vc) (sl : List (Nat × Nat)) (g : Fld) (k m : Nat) (hW : g.id ∉ Vc.spareW) :
    (Vc.sliceCommit s sl).rd g k m = s.rd g k m := by
  unfold Vc.sliceCommit
  first
    | ((repeat' split) <;> first | with_reducible rfl | (simp [*]; done) | (simp_all; done))
    | (repeat' (first
        | with_reducible rfl
        | (simp [*]; done)
        | (dsimp only; refine (foldl_rd _ _ _ _ ?_ _ _).trans ?_ <;> intros)
        | (dsimp only; refine (foldl1_rd _ _ _ _ ?_ _ _).trans ?_ <;> intros)
        | (refine (forN_rd _ _ _ _ _ _ ?_).trans ?_ <;> intros)
        | split
        | (intros; split)
        | (simp [*]; split)
        | (simp [*]; intros; split)))

@[simp] theorem Vc.rd_noteFacet (s : Vc) (was st i : Nat) (g : Fld) (k m : Nat) (hW : g.id ∉ Vc.leaveServiceW) :
    (Vc.noteFacet s was st i).rd g k m = s.rd g k m := by
  simp [Vc.noteFacet, *]

@[simp] theorem Vc.rd_noteCommit (s : Vc) (n : ArmNote) (g : Fld) (k m : Nat) (hW : g.id ∉ Vc.leaveServiceW) :
    (Vc.noteCommit s n).rd g k m = s.rd g k m := by
  unfold Vc.noteCommit
  have h1 : ∀ (u : Vc) (x : CascSt), Vc.rd { u with casc := x } g k m = u.rd g k m := fun _ _ => rfl
  dsimp only
  split
  · rfl
  · rw [forN_rd, h1]
    intro s a
    split
    · exact forN_rd _ _ _ _ _ _ fun s p => by simp [*]
    · rfl

@[simp] theorem Vc.rd_cascSlices (s : Vc) (g : Fld) (k m : Nat) :
    (Vc.cascSlices s).rd g k m = s.rd g k m := by
  simp [Vc.cascSlices, *]

@[simp] theorem Vc.rd_cascIssue (s : Vc) (iss : List Issue) (g : Fld) (k m : Nat) :
    (Vc.cascIssue s iss).rd g k m = s.rd g k m := by
  simp [Vc.cascIssue, *]

@[simp] theorem Vc.rd_setArea (s : Vc) (a : Nat) (x : ApArea) (g : Fld) (k m : Nat) :
    (Vc.setArea s a x).rd g k m = s.rd g k m := by
  simp [Vc.setArea, *]

def Vc.apToW : List Nat :=
  [APERTURE.STATUS.STATE.id]

@[simp] theorem Vc.rd_apTo (s : Vc) (st : Nat) (g : Fld) (k m : Nat) (hW : g.id ∉ Vc.apToW) :
    (Vc.apTo s st).rd g k m = s.rd g k m := by
  have w0 : g.id ≠ APERTURE.STATUS.STATE.id := ne_of_notin hW (by decide +kernel)
  simp [Vc.apTo, *]

@[simp] theorem Vc.rd_apWrite (s : Vc) (e : ApEnt) (g : Fld) (k m : Nat) :
    (Vc.apWrite s e).rd g k m = s.rd g k m := by
  unfold Vc.apWrite
  split <;> simp [*]

@[simp] theorem Vc.rd_apChange (s : Vc) (vt n tag v : Nat) (g : Fld) (k m : Nat) :
    (Vc.apChange s vt n tag v).rd g k m = s.rd g k m := by
  simp [Vc.apChange, *]

@[simp] theorem Vc.rd_fullSet (s : Vc) (vt : Nat) (g : Fld) (k m : Nat) :
    (Vc.fullSet s vt).rd g k m = s.rd g k m := by
  unfold Vc.fullSet
  repeat' (first | with_reducible rfl | (simp [*]; done) | split | (dsimp only; refine (foldl_rd _ _ _ _ ?_ _ _).trans ?_ <;> intros))

def Vc.takeAreaW : List Nat :=
  [APERTURE.STATUS.AREA.id, APERTURE.STATUS.UNREAD.id] ++ Vc.apToW

@[simp] theorem Vc.rd_takeArea (s : Vc) (a vt : Nat) (g : Fld) (k m : Nat) (hW : g.id ∉ Vc.takeAreaW) :
    (Vc.takeArea s a vt).rd g k m = s.rd g k m := by
  have w0 : g.id ≠ APERTURE.STATUS.AREA.id := ne_of_notin hW (by decide +kernel)
  have w1 : g.id ≠ APERTURE.STATUS.UNREAD.id := ne_of_notin hW (by decide +kernel)
  have w2 : g.id ∉ Vc.apToW := notin_sub hW (by decide +kernel)
  simp [Vc.takeArea, *]

@[simp] theorem Vc.rd_apFacets (s : Vc) (g : Fld) (k m : Nat) :
    (Vc.apFacets s).rd g k m = s.rd g k m := by
  simp [Vc.apFacets, *]

@[simp] theorem Vc.rd_apRelease (s : Vc) (a : Nat) (g : Fld) (k m : Nat) (hW : g.id ∉ Vc.takeAreaW) :
    (Vc.apRelease s a).rd g k m = s.rd g k m := by
  have w0 : g.id ≠ APERTURE.STATUS.UNREAD.id := ne_of_notin hW (by decide +kernel)
  simp [Vc.apRelease, *]

def Vc.apReadNowW : List Nat :=
  Vc.pumpW ++ Vc.takeAreaW

@[simp] theorem Vc.rd_apReadNow (s : Vc) (d : Desc) (g : Fld) (k m : Nat) (hW : g.id ∉ Vc.apReadNowW) :
    (Vc.apReadNow s d).rd g k m = s.rd g k m := by
  have w0 : g.id ∉ Vc.pumpW := notin_sub hW (by decide +kernel)
  have w1 : g.id ∉ Vc.takeAreaW := notin_sub hW (by decide +kernel)
  simp [Vc.apReadNow, *]

@[simp] theorem Vc.rd_apServe (s : Vc) (a : Nat) (g : Fld) (k m : Nat) (hW : g.id ∉ Vc.apReadNowW) :
    (Vc.apServe s a).rd g k m = s.rd g k m := by
  simp [Vc.apServe, *]

def Vc.ignoreTrigW : List Nat :=
  [APERTURE.ERRSTAT.IGNORED.id, APERTURE.IGNCNT.IGNCNT.id]

@[simp] theorem Vc.rd_ignoreTrig (s : Vc) (g : Fld) (k m : Nat) (hW : g.id ∉ Vc.ignoreTrigW) :
    (Vc.ignoreTrig s).rd g k m = s.rd g k m := by
  have w0 : g.id ≠ APERTURE.ERRSTAT.IGNORED.id := ne_of_notin hW (by decide +kernel)
  have w1 : g.id ≠ APERTURE.IGNCNT.IGNCNT.id := ne_of_notin hW (by decide +kernel)
  simp [Vc.ignoreTrig, *]

def Vc.takeTrigW : List Nat :=
  eventIds ++ Vc.apToW

@[simp] theorem Vc.rd_takeTrig (s : Vc) (mask : Nat) (g : Fld) (k m : Nat) (hW : g.id ∉ Vc.takeTrigW) :
    (Vc.takeTrig s mask).rd g k m = s.rd g k m := by
  have w0 : g.id ∉ Vc.apToW := notin_sub hW (by decide +kernel)
  have w1 : g.id ∉ eventIds := notin_sub hW (by decide +kernel)
  simp [Vc.takeTrig, *]

def Vc.areaDoneW : List Nat :=
  [APERTURE.ERRSTAT.DONE.id, APERTURE.STATUS.UNREAD.id] ++ Vc.irqW

@[simp] theorem Vc.rd_areaDone (s : Vc) (trunc : Bool) (g : Fld) (k m : Nat) (hW : g.id ∉ Vc.areaDoneW) :
    (Vc.areaDone s trunc).rd g k m = s.rd g k m := by
  have w0 : g.id ≠ APERTURE.ERRSTAT.DONE.id := ne_of_notin hW (by decide +kernel)
  have w1 : g.id ≠ APERTURE.STATUS.UNREAD.id := ne_of_notin hW (by decide +kernel)
  have w2 : g.id ∉ Vc.irqW := notin_sub hW (by decide +kernel)
  simp [Vc.areaDone, *]

def Vc.apStopNowW : List Nat :=
  Vc.areaDoneW ++ Vc.apToW

@[simp] theorem Vc.rd_apStopNow (s : Vc) (g : Fld) (k m : Nat) (hW : g.id ∉ Vc.apStopNowW) :
    (Vc.apStopNow s).rd g k m = s.rd g k m := by
  have w0 : g.id ∉ Vc.apToW := notin_sub hW (by decide +kernel)
  have w1 : g.id ∉ Vc.areaDoneW := notin_sub hW (by decide +kernel)
  simp [Vc.apStopNow, *]

@[simp] theorem Vc.rd_apClear (s : Vc) (g : Fld) (k m : Nat) :
    (Vc.apClear s).rd g k m = s.rd g k m := by
  simp [Vc.apClear, *]

@[simp] theorem Vc.rd_apTake (p : Vc × List (Nat × Nat × Option Nat)) (e : Nat × Nat × Nat) (g : Fld) (k m : Nat) :
    (Vc.apTake p e).1.rd g k m = p.1.rd g k m := by
  unfold Vc.apTake
  dsimp only
  split
  · split <;> simp
  · simp

def Vc.apTrigsW : List Nat :=
  Vc.takeTrigW ++ Vc.ignoreTrigW

@[simp] theorem Vc.rd_apTrigs (s : Vc) (mask : Nat) (g : Fld) (k m : Nat) (hW : g.id ∉ Vc.apTrigsW) :
    (Vc.apTrigs s mask).rd g k m = s.rd g k m := by
  have w0 : g.id ∉ Vc.apToW := notin_sub hW (by decide +kernel)
  have w1 : g.id ∉ Vc.ignoreTrigW := notin_sub hW (by decide +kernel)
  have w2 : g.id ∉ Vc.takeTrigW := notin_sub hW (by decide +kernel)
  unfold Vc.apTrigs
  split <;> simp [*]

def Vc.apSamplePointW : List Nat :=
  Vc.apTrigsW ++ Vc.apReadNowW ++ Vc.apStopNowW

@[simp] theorem Vc.rd_apSamplePoint (s : Vc) (g : Fld) (k m : Nat) (hW : g.id ∉ Vc.apSamplePointW) :
    (Vc.apSamplePoint s).rd g k m = s.rd g k m := by
  have w0 : g.id ∉ Vc.apReadNowW := notin_sub hW (by decide +kernel)
  have w1 : g.id ∉ Vc.apStopNowW := notin_sub hW (by decide +kernel)
  have w2 : g.id ∉ Vc.apTrigsW := notin_sub hW (by decide +kernel)
  unfold Vc.apSamplePoint
  split
  · simp [*]
  · have h1 : ∀ l : List (Nat × Nat × Nat), (l.foldl Vc.apTake (s, [])).1.rd g k m = s.rd g k m :=
      fun l => foldl1_rd Vc.apTake g k m (fun p e => Vc.rd_apTake p e g k m) l (s, [])
    dsimp only
    (repeat' split) <;> simp [*]

def Vc.apStartW : List Nat :=
  [APERTURE.IGNCNT.IGNCNT.id] ++ Vc.takeAreaW

@[simp] theorem Vc.rd_apStart (s : Vc) (g : Fld) (k m : Nat) (hW : g.id ∉ Vc.apStartW) :
    (Vc.apStart s).rd g k m = s.rd g k m := by
  have w0 : g.id ≠ APERTURE.IGNCNT.IGNCNT.id := ne_of_notin hW (by decide +kernel)
  have w1 : g.id ∉ Vc.takeAreaW := notin_sub hW (by decide +kernel)
  simp [Vc.apStart, *]

def Vc.apCtrlW : List Nat :=
  violIds ++ Vc.apStartW

@[simp] theorem Vc.rd_apCtrl (s : Vc) (w : Nat) (g : Fld) (k m : Nat) (hW : g.id ∉ Vc.apCtrlW) :
    (Vc.apCtrl s w).rd g k m = s.rd g k m := by
  have w0 : g.id ∉ Vc.apStartW := notin_sub hW (by decide +kernel)
  have w1 : g.id ∉ violIds := notin_sub hW (by decide +kernel)
  simp [Vc.apCtrl, *]

@[simp] theorem Vc.rd_apRead (s : Vc) (id : Nat) (g : Fld) (k m : Nat) (hW : g.id ∉ Vc.apReadNowW) :
    (Vc.apRead s id).rd g k m = s.rd g k m := by
  have w0 : g.id ∉ Vc.pumpW := notin_sub hW (by decide +kernel)
  simp [Vc.apRead, *]

def Vc.apAreaCompleteW : List Nat :=
  Vc.apReadNowW ++ Vc.areaDoneW

@[simp] theorem Vc.rd_apAreaComplete (s : Vc) (g : Fld) (k m : Nat) (hW : g.id ∉ Vc.apAreaCompleteW) :
    (Vc.apAreaComplete s).rd g k m = s.rd g k m := by
  have w0 : g.id ∉ Vc.apReadNowW := notin_sub hW (by decide +kernel)
  have w1 : g.id ∉ Vc.apToW := notin_sub hW (by decide +kernel)
  have w2 : g.id ∉ Vc.areaDoneW := notin_sub hW (by decide +kernel)
  simp [Vc.apAreaComplete, *]

def Vc.holdoffEndW : List Nat :=
  [APERTURE.ERRSTAT.FULL.id] ++ Vc.takeAreaW ++ Vc.irqW

@[simp] theorem Vc.rd_holdoffEnd (s : Vc) (g : Fld) (k m : Nat) (hW : g.id ∉ Vc.holdoffEndW) :
    (Vc.holdoffEnd s).rd g k m = s.rd g k m := by
  have w0 : g.id ≠ APERTURE.ERRSTAT.FULL.id := ne_of_notin hW (by decide +kernel)
  have w1 : g.id ∉ Vc.apToW := notin_sub hW (by decide +kernel)
  have w2 : g.id ∉ Vc.irqW := notin_sub hW (by decide +kernel)
  have w3 : g.id ∉ Vc.takeAreaW := notin_sub hW (by decide +kernel)
  unfold Vc.holdoffEnd
  (repeat' split) <;> simp [*]

@[simp] theorem Vc.rd_nopDesc (s : Vc) (id : Nat) (g : Fld) (k m : Nat) (hW : g.id ∉ Vc.pumpW) :
    (Vc.nopDesc s id).rd g k m = s.rd g k m := by
  simp [Vc.nopDesc, *]

def Vc.deblockW : List Nat :=
  [GLOBAL.STATUS.BLOCKED.id, PROT.STATUS.HOST_BLK.id]

@[simp] theorem Vc.rd_deblock (s : Vc) (g : Fld) (k m : Nat) (hW : g.id ∉ Vc.deblockW) :
    (Vc.deblock s).rd g k m = s.rd g k m := by
  have w0 : g.id ≠ GLOBAL.STATUS.BLOCKED.id := ne_of_notin hW (by decide +kernel)
  have w1 : g.id ≠ PROT.STATUS.HOST_BLK.id := ne_of_notin hW (by decide +kernel)
  simp [Vc.deblock, *]

@[simp] theorem Vc.rd_valveCtl (s : Vc) (id op : Nat) (g : Fld) (k m : Nat) (hW : g.id ∉ Vc.pumpW) :
    (Vc.valveCtl s id op).rd g k m = s.rd g k m := by
  simp [Vc.valveCtl, *]

def Vc.deblockNowW : List Nat :=
  Vc.pumpW ++ Vc.deblockW

@[simp] theorem Vc.rd_deblockNow (s : Vc) (id : Nat) (g : Fld) (k m : Nat) (hW : g.id ∉ Vc.deblockNowW) :
    (Vc.deblockNow s id).rd g k m = s.rd g k m := by
  have w0 : g.id ∉ Vc.deblockW := notin_sub hW (by decide +kernel)
  have w1 : g.id ∉ Vc.pumpW := notin_sub hW (by decide +kernel)
  simp [Vc.deblockNow, *]

def Vc.valveNowW : List Nat :=
  latchIds ++ Vc.deblockNowW

@[simp] theorem Vc.rd_valveNow (s : Vc) (d : Desc) (g : Fld) (k m : Nat) (hW : g.id ∉ Vc.valveNowW) :
    (Vc.valveNow s d).rd g k m = s.rd g k m := by
  have w0 : g.id ∉ Vc.deblockNowW := notin_sub hW (by decide +kernel)
  have w1 : g.id ∉ Vc.pumpW := notin_sub hW (by decide +kernel)
  have w2 : g.id ∉ latchIds := notin_sub hW (by decide +kernel)
  simp [Vc.valveNow, *]

@[simp] theorem Vc.rd_cellClear (s : Vc) (id : Nat) (g : Fld) (k m : Nat) (hW : g.id ∉ Vc.pumpW) :
    (Vc.cellClear s id).rd g k m = s.rd g k m := by
  simp [Vc.cellClear, *]

@[simp] theorem Vc.rd_clearNow (s : Vc) (d : Desc) (g : Fld) (k m : Nat) (hW : g.id ∉ Vc.pumpW) :
    (Vc.clearNow s d).rd g k m = s.rd g k m := by
  unfold Vc.clearNow
  dsimp only
  split
  · exact Vc.rd_finish _ _ _ _ _ _ _ (by assumption)
  · rw [Vc.rd_modDesc, Vc.rd_wait, foldl_rd]
    exact fun s n => Vc.rd_setFacet s n _ g k m

@[simp] theorem Vc.rd_cellClearDone (s : Vc) (id : Nat) (g : Fld) (k m : Nat) (hW : g.id ∉ Vc.pumpW) :
    (Vc.cellClearDone s id).rd g k m = s.rd g k m := by
  unfold Vc.cellClearDone
  split
  · rfl
  · dsimp only
    split
    · rfl
    · rw [Vc.rd_finishAt _ _ _ _ _ _ _ _ (by assumption), foldl_rd]
      exact fun s n => Vc.rd_setFacet s n _ g k m

@[simp] theorem Vc.rd_cellMsg (s : Vc) (id op : Nat) (buf : HostBuf) (g : Fld) (k m : Nat) (hW : g.id ∉ Vc.pumpW) :
    (Vc.cellMsg s id op buf).rd g k m = s.rd g k m := by
  simp [Vc.cellMsg, *]

@[simp] theorem Vc.rd_snapshot (s : Vc) (id : Nat) (g : Fld) (k m : Nat) (hW : g.id ∉ Vc.pumpW) :
    (Vc.snapshot s id).rd g k m = s.rd g k m := by
  simp [Vc.snapshot, *]

def Vc.snapNowW : List Nat :=
  Vc.pumpW ++ Vc.refreshLoadW

@[simp] theorem Vc.rd_snapNow (s : Vc) (d : Desc) (g : Fld) (k m : Nat) (hW : g.id ∉ Vc.snapNowW) :
    (Vc.snapNow s d).rd g k m = s.rd g k m := by
  have w0 : g.id ∉ Vc.pumpW := notin_sub hW (by decide +kernel)
  have w1 : g.id ∉ Vc.refreshLoadW := notin_sub hW (by decide +kernel)
  simp [Vc.snapNow, *]

@[simp] theorem Vc.rd_setComp (s : Vc) (p : Nat) (x : Comp) (g : Fld) (k m : Nat) :
    (Vc.setComp s p x).rd g k m = s.rd g k m := by
  simp [Vc.setComp, *]

def Vc.accEndW : List Nat :=
  [CPORT.ACCSTAT.BUSY.id, CPORT.ACCSTAT.DATA.id, CPORT.ACCSTAT.RESULT.id]

@[simp] theorem Vc.rd_accEnd (s : Vc) (p result data : Nat) (g : Fld) (k m : Nat) (hW : g.id ∉ Vc.accEndW) :
    (Vc.accEnd s p result data).rd g k m = s.rd g k m := by
  have w0 : g.id ≠ CPORT.ACCSTAT.BUSY.id := ne_of_notin hW (by decide +kernel)
  have w1 : g.id ≠ CPORT.ACCSTAT.DATA.id := ne_of_notin hW (by decide +kernel)
  have w2 : g.id ≠ CPORT.ACCSTAT.RESULT.id := ne_of_notin hW (by decide +kernel)
  simp [Vc.accEnd, *]

def Vc.portMissW : List Nat :=
  [CPORT.ERRSTAT.LINK_LOST.id, CPORT.LINK.UP.id] ++ eventIds ++ Vc.accEndW

@[simp] theorem Vc.rd_portMiss (s : Vc) (p : Nat) (g : Fld) (k m : Nat) (hW : g.id ∉ Vc.portMissW) :
    (Vc.portMiss s p).rd g k m = s.rd g k m := by
  have w0 : g.id ≠ CPORT.ERRSTAT.LINK_LOST.id := ne_of_notin hW (by decide +kernel)
  have w1 : g.id ≠ CPORT.LINK.UP.id := ne_of_notin hW (by decide +kernel)
  have w2 : g.id ∉ Vc.accEndW := notin_sub hW (by decide +kernel)
  have w3 : g.id ∉ Vc.irqW := notin_sub hW (by decide +kernel)
  have w4 : g.id ∉ eventIds := notin_sub hW (by decide +kernel)
  simp [Vc.portMiss, *]

@[simp] theorem Vc.rd_portRequest (s : Vc) (p : Nat) (g : Fld) (k m : Nat) (hW : g.id ∉ Vc.portMissW) :
    (Vc.portRequest s p).rd g k m = s.rd g k m := by
  simp [Vc.portRequest, *]

@[simp] theorem Vc.rd_companionRequest (s : Vc) (g : Fld) (k m : Nat) (hW : g.id ∉ Vc.portMissW) :
    (Vc.companionRequest s).rd g k m = s.rd g k m := by
  simp [Vc.companionRequest, *]

def Vc.companionResponseW : List Nat :=
  [CPORT.CRCCNT.CRCCNT.id, CPORT.ERRSTAT.ACC_REFUSED.id, CPORT.ERRSTAT.CRC_ERR.id, CPORT.ERRSTAT.LOCKOUT.id, CPORT.ERRSTAT.PERMIT_LOST.id, CPORT.INSTATE.INSTATE.id, CPORT.LINK.UP.id, CPORT.STATUS.FSV.id, CPORT.STATUS.LOCKOUT.id, CPORT.STATUS.OUTSTATE.id, CPORT.STATUS.SC_STATUS.id] ++ eventIds ++ Vc.accEndW

@[simp] theorem Vc.rd_companionResponse (s : Vc) (p w0 w1 : Nat) (g : Fld) (k m : Nat) (hW : g.id ∉ Vc.companionResponseW) :
    (Vc.companionResponse s p w0 w1).rd g k m = s.rd g k m := by
  have w0 : g.id ≠ CPORT.CRCCNT.CRCCNT.id := ne_of_notin hW (by decide +kernel)
  have w1 : g.id ≠ CPORT.ERRSTAT.ACC_REFUSED.id := ne_of_notin hW (by decide +kernel)
  have w2 : g.id ≠ CPORT.ERRSTAT.CRC_ERR.id := ne_of_notin hW (by decide +kernel)
  have w3 : g.id ≠ CPORT.ERRSTAT.LOCKOUT.id := ne_of_notin hW (by decide +kernel)
  have w4 : g.id ≠ CPORT.ERRSTAT.PERMIT_LOST.id := ne_of_notin hW (by decide +kernel)
  have w5 : g.id ≠ CPORT.INSTATE.INSTATE.id := ne_of_notin hW (by decide +kernel)
  have w6 : g.id ≠ CPORT.LINK.UP.id := ne_of_notin hW (by decide +kernel)
  have w7 : g.id ≠ CPORT.STATUS.FSV.id := ne_of_notin hW (by decide +kernel)
  have w8 : g.id ≠ CPORT.STATUS.LOCKOUT.id := ne_of_notin hW (by decide +kernel)
  have w9 : g.id ≠ CPORT.STATUS.OUTSTATE.id := ne_of_notin hW (by decide +kernel)
  have w10 : g.id ≠ CPORT.STATUS.SC_STATUS.id := ne_of_notin hW (by decide +kernel)
  have w11 : g.id ∉ Vc.accEndW := notin_sub hW (by decide +kernel)
  have w12 : g.id ∉ Vc.irqW := notin_sub hW (by decide +kernel)
  have w13 : g.id ∉ eventIds := notin_sub hW (by decide +kernel)
  unfold Vc.companionResponse
  dsimp only
  (repeat' split) <;> simp [*]

def Vc.companionAccessW : List Nat :=
  [CPORT.ACCSTAT.ADDR.id, CPORT.ACCSTAT.BUSY.id, CPORT.ACCSTAT.DATA.id, CPORT.ACCSTAT.RESULT.id] ++ violIds

@[simp] theorem Vc.rd_companionAccess (s : Vc) (p w : Nat) (g : Fld) (k m : Nat) (hW : g.id ∉ Vc.companionAccessW) :
    (Vc.companionAccess s p w).rd g k m = s.rd g k m := by
  have w0 : g.id ≠ CPORT.ACCSTAT.ADDR.id := ne_of_notin hW (by decide +kernel)
  have w1 : g.id ≠ CPORT.ACCSTAT.BUSY.id := ne_of_notin hW (by decide +kernel)
  have w2 : g.id ≠ CPORT.ACCSTAT.DATA.id := ne_of_notin hW (by decide +kernel)
  have w3 : g.id ≠ CPORT.ACCSTAT.RESULT.id := ne_of_notin hW (by decide +kernel)
  have w4 : g.id ∉ violIds := notin_sub hW (by decide +kernel)
  simp [Vc.companionAccess, *]

def Vc.companionCfgW : List Nat :=
  [COMPANION.CFG.EN.id]

@[simp] theorem Vc.rd_companionCfg (s : Vc) (w : Nat) (g : Fld) (k m : Nat) (hW : g.id ∉ Vc.companionCfgW) :
    (Vc.companionCfg s w).rd g k m = s.rd g k m := by
  have w0 : g.id ≠ COMPANION.CFG.EN.id := ne_of_notin hW (by decide +kernel)
  simp [Vc.companionCfg, *]

def Vc.permitCheckW : List Nat :=
  [COMPANION.ERRSTAT.PERMIT_MISMATCH.id] ++ eventIds

@[simp] theorem Vc.rd_permitCheck (s : Vc) (g : Fld) (k m : Nat) (hW : g.id ∉ Vc.permitCheckW) :
    (Vc.permitCheck s).rd g k m = s.rd g k m := by
  have w0 : g.id ≠ COMPANION.ERRSTAT.PERMIT_MISMATCH.id := ne_of_notin hW (by decide +kernel)
  have w1 : g.id ∉ Vc.irqW := notin_sub hW (by decide +kernel)
  have w2 : g.id ∉ eventIds := notin_sub hW (by decide +kernel)
  simp [Vc.permitCheck, *]

@[simp] theorem Vc.rd_bootErr (s : Vc) (f : Fld) (b : Nat) (g : Fld) (k m : Nat) (hW : g.id ∉ eventIds) (hf : g.id ≠ f.id) :
    (Vc.bootErr s f b).rd g k m = s.rd g k m := by
  have w0 : g.id ∉ Vc.irqW := notin_sub hW (by decide +kernel)
  simp [Vc.bootErr, *]

def Vc.imageBadW : List Nat :=
  [BOOT.ERRSTAT.COMPAT_FAIL.id, BOOT.ERRSTAT.ROLLBACK.id, BOOT.ERRSTAT.VERIFY_FAIL.id, BOOT.SLOT_STATE.STATE.id]

@[simp] theorem Vc.rd_imageBad (s : Vc) (slot code : Nat) (g : Fld) (k m : Nat) (hW : g.id ∉ Vc.imageBadW) :
    (Vc.imageBad s slot code).rd g k m = s.rd g k m := by
  have w0 : g.id ≠ BOOT.ERRSTAT.COMPAT_FAIL.id := ne_of_notin hW (by decide +kernel)
  have w1 : g.id ≠ BOOT.ERRSTAT.ROLLBACK.id := ne_of_notin hW (by decide +kernel)
  have w2 : g.id ≠ BOOT.ERRSTAT.VERIFY_FAIL.id := ne_of_notin hW (by decide +kernel)
  have w3 : g.id ≠ BOOT.SLOT_STATE.STATE.id := ne_of_notin hW (by decide +kernel)
  unfold Vc.imageBad
  (repeat' split) <;> simp [*]

def Vc.raiseSvnW : List Nat :=
  [BOOT.ERRSTAT.SVN_RAISED.id]

@[simp] theorem Vc.rd_raiseSvn (s : Vc) (svn : Nat) (g : Fld) (k m : Nat) (hW : g.id ∉ Vc.raiseSvnW) :
    (Vc.raiseSvn s svn).rd g k m = s.rd g k m := by
  have w0 : g.id ≠ BOOT.ERRSTAT.SVN_RAISED.id := ne_of_notin hW (by decide +kernel)
  simp [Vc.raiseSvn, *]

def Vc.showPtrW : List Nat :=
  [BOOT.STATUS.STAGED.id, BOOT.STATUS.TRIALS.id]

@[simp] theorem Vc.rd_showPtr (s : Vc) (g : Fld) (k m : Nat) (hW : g.id ∉ Vc.showPtrW) :
    (Vc.showPtr s).rd g k m = s.rd g k m := by
  have w0 : g.id ≠ BOOT.STATUS.STAGED.id := ne_of_notin hW (by decide +kernel)
  have w1 : g.id ≠ BOOT.STATUS.TRIALS.id := ne_of_notin hW (by decide +kernel)
  simp [Vc.showPtr, *]

def Vc.ptrWriteW : List Nat :=
  [BOOT.ERRSTAT.FLASH_ERR.id] ++ eventIds ++ Vc.showPtrW

@[simp] theorem Vc.rd_ptrWrite (s : Vc) (w1 : Nat) (g : Fld) (k m : Nat) (hW : g.id ∉ Vc.ptrWriteW) :
    (Vc.ptrWrite s w1).rd g k m = s.rd g k m := by
  have w0 : g.id ≠ BOOT.ERRSTAT.FLASH_ERR.id := ne_of_notin hW (by decide +kernel)
  have w1 : g.id ∉ Vc.showPtrW := notin_sub hW (by decide +kernel)
  have w2 : g.id ∉ eventIds := notin_sub hW (by decide +kernel)
  simp [Vc.ptrWrite, *]

def Vc.xFailW : List Nat :=
  [BOOT.ERRSTAT.FLASH_ERR.id, BOOT.STATUS.CONFIRM_BUSY.id] ++ eventIds ++ Vc.pumpW ++ Vc.ledgerFailW ++ Vc.showPtrW ++ Vc.ledgerStatsW ++ Vc.ledgerHoursW

@[simp] theorem Vc.rd_xFail (s : Vc) (k : XKind) (g : Fld) (kk m : Nat) (hW : g.id ∉ Vc.xFailW) :
    (Vc.xFail s k).rd g kk m = s.rd g kk m := by
  have w0 : g.id ≠ BOOT.ERRSTAT.FLASH_ERR.id := ne_of_notin hW (by decide +kernel)
  have w1 : g.id ≠ BOOT.STATUS.CONFIRM_BUSY.id := ne_of_notin hW (by decide +kernel)
  have w2 : g.id ∉ Vc.ledgerFailW := notin_sub hW (by decide +kernel)
  have w3 : g.id ∉ Vc.ledgerHoursW := notin_sub hW (by decide +kernel)
  have w4 : g.id ∉ Vc.ledgerStatsW := notin_sub hW (by decide +kernel)
  have w5 : g.id ∉ Vc.pumpW := notin_sub hW (by decide +kernel)
  have w6 : g.id ∉ Vc.showPtrW := notin_sub hW (by decide +kernel)
  have w7 : g.id ∉ eventIds := notin_sub hW (by decide +kernel)
  unfold Vc.xFail
  (repeat' split) <;> simp [*]

def Vc.xDoneW : List Nat :=
  [BOOT.STATUS.CONFIRM_BUSY.id, BOOT.STATUS.TRIAL.id] ++ Vc.formatEndW ++ Vc.pumpW ++ Vc.imageBadW ++ Vc.showPtrW ++ Vc.ledgerStatsW ++ Vc.raiseSvnW

@[simp] theorem Vc.rd_xDone (s : Vc) (k : XKind) (readOk : Bool) (g : Fld) (kk m : Nat) (hW : g.id ∉ Vc.xDoneW) :
    (Vc.xDone s k readOk).1.rd g kk m = s.rd g kk m := by
  have w0 : g.id ≠ BOOT.SLOT_STATE.STATE.id := ne_of_notin hW (by decide +kernel)
  have w1 : g.id ≠ BOOT.STATUS.CONFIRM_BUSY.id := ne_of_notin hW (by decide +kernel)
  have w2 : g.id ≠ BOOT.STATUS.TRIAL.id := ne_of_notin hW (by decide +kernel)
  have w3 : g.id ∉ Vc.formatEndW := notin_sub hW (by decide +kernel)
  have w4 : g.id ∉ Vc.imageBadW := notin_sub hW (by decide +kernel)
  have w5 : g.id ∉ Vc.ledgerHoursW := notin_sub hW (by decide +kernel)
  have w6 : g.id ∉ Vc.ledgerStatsW := notin_sub hW (by decide +kernel)
  have w7 : g.id ∉ Vc.pumpW := notin_sub hW (by decide +kernel)
  have w8 : g.id ∉ Vc.raiseSvnW := notin_sub hW (by decide +kernel)
  have w9 : g.id ∉ Vc.recordDoneW := notin_sub hW (by decide +kernel)
  have w10 : g.id ∉ Vc.showPtrW := notin_sub hW (by decide +kernel)
  unfold Vc.xDone
  split <;> simp [*]

def Vc.xEndOfW : List Nat :=
  Vc.xDoneW ++ Vc.xFailW

@[simp] theorem Vc.rd_xEndOf (s : Vc) (k : XKind) (readOk : Bool) (g : Fld) (kk m : Nat) (hW : g.id ∉ Vc.xEndOfW) :
    (Vc.xEndOf s k readOk).1.rd g kk m = s.rd g kk m := by
  have w0 : g.id ∉ Vc.xDoneW := notin_sub hW (by decide +kernel)
  have w1 : g.id ∉ Vc.xFailW := notin_sub hW (by decide +kernel)
  simp [Vc.xEndOf, *]

def Vc.receivingW : List Nat :=
  [BOOT.SLOT_STATE.STATE.id]

@[simp] theorem Vc.rd_receiving (s : Vc) (k : XKind) (g : Fld) (kk m : Nat) (hW : g.id ∉ Vc.receivingW) :
    (Vc.receiving s k).rd g kk m = s.rd g kk m := by
  have w0 : g.id ≠ BOOT.SLOT_STATE.STATE.id := ne_of_notin hW (by decide +kernel)
  unfold Vc.receiving
  split <;> simp [*]

@[simp] theorem Vc.rd_xServe (r : Bool) (n : Nat) (g : Fld) (k m : Nat) (hW : g.id ∉ Vc.xEndOfW) : ∀ s : Vc, (s.xServe r n).rd g k m = s.rd g k m := by
  have w0 : g.id ∉ Vc.receivingW := notin_sub hW (by decide +kernel)
  induction n with
  | zero => intro s; rfl
  | succ n ih =>
    intro s
    unfold Vc.xServe
    repeat' (first | with_reducible rfl | (simp [*]; done) | split | (dsimp only; split))

@[simp] theorem Vc.rd_xKick (s : Vc) (g : Fld) (k m : Nat) (hW : g.id ∉ Vc.xEndOfW) :
    (Vc.xKick s).rd g k m = s.rd g k m := by
  simp [Vc.xKick, *]

@[simp] theorem Vc.rd_xPut (s : Vc) (k : XKind) (g : Fld) (kk m : Nat) (hW : g.id ∉ Vc.xEndOfW) :
    (Vc.xPut s k).rd g kk m = s.rd g kk m := by
  unfold Vc.xPut
  split <;> simp [*]

@[simp] theorem Vc.rd_flashDone (s : Vc) (ok readOk : Bool) (g : Fld) (k m : Nat) (hW : g.id ∉ Vc.xEndOfW) :
    (Vc.flashDone s ok readOk).rd g k m = s.rd g k m := by
  have w0 : g.id ∉ Vc.xFailW := notin_sub hW (by decide +kernel)
  unfold Vc.flashDone
  dsimp only
  split <;> simp [*]

@[simp] theorem Vc.rd_formatDone (s : Vc) (g : Fld) (k m : Nat) (hW : g.id ∉ Vc.xEndOfW) :
    (Vc.formatDone s).rd g k m = s.rd g k m := by
  have w0 : g.id ∉ Vc.formatEndW := notin_sub hW (by decide +kernel)
  unfold Vc.formatDone
  split <;> simp [*]

@[simp] theorem Vc.rd_fwBlock (s : Vc) (id op : Nat) (buf : HostBuf) (g : Fld) (k m : Nat) (hW : g.id ∉ Vc.xEndOfW) :
    (Vc.fwBlock s id op buf).rd g k m = s.rd g k m := by
  have w0 : g.id ≠ BOOT.ERRSTAT.ROLLBACK.id := ne_of_notin hW (by decide +kernel)
  have w1 : g.id ∉ Vc.pumpW := notin_sub hW (by decide +kernel)
  simp [Vc.fwBlock, *]

@[simp] theorem Vc.rd_configWrite (s : Vc) (id : Nat) (buf : HostBuf) (g : Fld) (k m : Nat) (hW : g.id ∉ Vc.xEndOfW) :
    (Vc.configWrite s id buf).rd g k m = s.rd g k m := by
  have w0 : g.id ∉ Vc.pumpW := notin_sub hW (by decide +kernel)
  simp [Vc.configWrite, *]

@[simp] theorem Vc.rd_newEntry (s : Vc) (no w1 : Nat) (g : Fld) (k m : Nat) :
    (Vc.newEntry s no w1).1.rd g k m = s.rd g k m := by
  simp [Vc.newEntry, *]

@[simp] theorem Vc.rd_confirmImage (s : Vc) (g : Fld) (k m : Nat) (hW : g.id ∉ Vc.xEndOfW) :
    (Vc.confirmImage s).rd g k m = s.rd g k m := by
  have w0 : g.id ≠ BOOT.STATUS.CONFIRM_BUSY.id := ne_of_notin hW (by decide +kernel)
  simp [Vc.confirmImage, *]

@[simp] theorem Vc.rd_xEnd (s : Vc) (g : Fld) (k m : Nat) :
    (Vc.xEnd s).rd g k m = s.rd g k m := by
  unfold Vc.xEnd
  split <;> simp [*]

@[simp] theorem Vc.rd_trimDelays (s : Vc) (n : Nat) (g : Fld) (k m : Nat) (hW : g.id ∉ Vc.echoRxW) :
    (Vc.trimDelays s n).rd g k m = s.rd g k m := by
  have w0 : g.id ≠ STRING.HOPDLY.DELAY.id := ne_of_notin hW (by decide +kernel)
  simp [Vc.trimDelays, *]

@[simp] theorem Vc.rd_readRow (s : Vc) (r : Row) (addr i j : Nat) (g : Fld) (k m : Nat) :
    (Vc.readRow s r addr i j).1.rd g k m = s.rd g k m := by
  unfold Vc.readRow
  (repeat' split) <;> simp [*]

@[simp] theorem Vc.rd_badRead (s : Vc) (cause addr req byteEn : Nat) (g : Fld) (k m : Nat) (hW : g.id ∉ violIds) :
    (Vc.badRead s cause addr req byteEn).rd g k m = s.rd g k m := by
  unfold Vc.badRead
  rw [Vc.rd_emit]
  exact Vc.RdSame.violation cause addr false req byteEn _ (fun _ h => h) (.refl _ s) g k m hW

@[simp] theorem Vc.rd_answerRead (x : Vc × Nat) (g : Fld) (k m : Nat) : (Vc.answerRead x).rd g k m = x.1.rd g k m := by
  unfold Vc.answerRead
  simp

@[simp] theorem Vc.rd_windowAt (s : Vc) (addr : Nat) (g : Fld) (k m : Nat) :
    (Vc.windowAt s addr).1.rd g k m = s.rd g k m := by
  simp [Vc.windowAt, *]

@[simp] theorem Vc.rd_barRead (s : Vc) (req addr byteEn : Nat) (g : Fld) (k m : Nat) (hW : g.id ∉ violIds) :
    (Vc.barRead s req addr byteEn).rd g k m = s.rd g k m := by
  unfold Vc.barRead
  (repeat' split) <;> simp [*]

@[simp] theorem Vc.rd_pcieRead (s : Vc) (req : Nat) (addr : PcieAddr) (byteEn : Nat) (g : Fld) (k m : Nat) (hW : g.id ∉ violIds) :
    (Vc.pcieRead s req addr byteEn).rd g k m = s.rd g k m := by
  unfold Vc.pcieRead
  split <;> simp [*]

@[simp] theorem Vc.rd_tcmWrite (s : Vc) (k size v : Nat) (g : Fld) (kk m : Nat) :
    (Vc.tcmWrite s k size v).rd g kk m = s.rd g kk m := by
  simp [Vc.tcmWrite, *]

theorem Vc.rd_itemTableWrite (s t : Vc) (addr v : Nat) (g : Fld) (k m : Nat) (h : s.itemTableWrite addr v = some t) :
    t.rd g k m = s.rd g k m := by
  unfold Vc.itemTableWrite at h
  split at h
  · split at h
    · obtain rfl := Option.some.inj h
      rfl
    · cases h
  · cases h

theorem Vc.rd_coreItemCtl (s t : Vc) (v : Nat) (g : Fld) (k m : Nat) (h : s.coreItemCtl v = some t) : t.rd g k m = s.rd g k m := by
  unfold Vc.coreItemCtl at h
  split at h
  · obtain rfl := Option.some.inj h
    rfl
  · cases h

theorem Vc.rd_coreStore (s t : Vc) (n j a size v : Nat) (g : Fld) (k m : Nat) (h : s.coreStore n j a size v = some t) :
    t.rd g k m = s.rd g k m := by
  unfold Vc.coreStore at h
  split at h
  · obtain rfl := Option.some.inj h
    rfl
  · split at h
    · cases h
    · split at h
      · dsimp only at h
        split at h
        · obtain rfl := Option.some.inj h
          rfl
        · cases h
      · split at h
        · exact Vc.rd_itemTableWrite _ _ _ _ g k m h
        · split at h
          · exact Vc.rd_coreItemCtl _ _ _ g k m h
          · cases h

@[simp] theorem Vc.rd_coreNext (s : Vc) (n : Nat) (h : Hart) (g : Fld) (k m : Nat) (hW : g.id ∉ Vc.setItemStateW) :
    (Vc.coreNext s n h).rd g k m = s.rd g k m := by
  simp [Vc.coreNext, *]

@[simp] theorem Vc.rd_coreTrap (s : Vc) (n cause tval : Nat) (g : Fld) (k m : Nat) (hW : g.id ∉ Vc.setItemStateW) :
    (Vc.coreTrap s n cause tval).rd g k m = s.rd g k m := by
  simp [Vc.coreTrap, *]

@[simp] theorem Vc.rd_coreAct (s : Vc) (n j : Nat) (a : HartAct) (g : Fld) (k m : Nat) (hW : g.id ∉ Vc.setItemStateW) :
    (Vc.coreAct s n j a).rd g k m = s.rd g k m := by
  unfold Vc.coreAct
  split
  · simp [*]
  · split <;> simp [*]
  · split
    · next t h => rw [Vc.rd_coreNext _ _ _ _ _ _ (by assumption), Vc.rd_coreStore _ _ _ _ _ _ _ g k m h]
    · simp [*]
  · simp [*]

@[simp] theorem Vc.rd_coreStep (s : Vc) (n : Nat) (g : Fld) (k m : Nat) (hW : g.id ∉ Vc.setItemStateW) :
    (Vc.coreStep s n).rd g k m = s.rd g k m := by
  unfold Vc.coreStep
  (repeat' split) <;> simp [*]

@[simp] theorem Vc.rd_runCores (s : Vc) (g : Fld) (k m : Nat) (hW : g.id ∉ Vc.setItemStateW) :
    (Vc.runCores s).rd g k m = s.rd g k m := by
  simp [Vc.runCores, *]

@[simp] theorem Vc.rd_stringHalt (s : Vc) (n : Nat) (g : Fld) (k m : Nat) (hW : g.id ∉ Vc.syncCompleteW) :
    (Vc.stringHalt s n).rd g k m = s.rd g k m := by
  have w0 : g.id ∉ Vc.leaveServiceW := notin_sub hW (by decide +kernel)
  have w1 : g.id ∉ Vc.strEnterW := notin_sub hW (by decide +kernel)
  simp [Vc.stringHalt, *]

def Vc.bootHaltW : List Nat :=
  [BOOT.ERRSTAT.HALT.id, BOOT.STATUS.STATE.id, BOOT.STATUS.TRIAL.id] ++ Vc.syncCompleteW

@[simp] theorem Vc.rd_bootHalt (s : Vc) (g : Fld) (k m : Nat) (hW : g.id ∉ Vc.bootHaltW) :
    (Vc.bootHalt s).rd g k m = s.rd g k m := by
  have w0 : g.id ≠ BOOT.ERRSTAT.HALT.id := ne_of_notin hW (by decide +kernel)
  have w1 : g.id ≠ BOOT.STATUS.STATE.id := ne_of_notin hW (by decide +kernel)
  have w2 : g.id ≠ BOOT.STATUS.TRIAL.id := ne_of_notin hW (by decide +kernel)
  have w3 : g.id ∉ Vc.irqW := notin_sub hW (by decide +kernel)
  have w4 : g.id ∉ Vc.refreshLaneW := notin_sub hW (by decide +kernel)
  have w5 : g.id ∉ Vc.syncCompleteW := notin_sub hW (by decide +kernel)
  have w6 : g.id ∉ eventIds := notin_sub hW (by decide +kernel)
  have w7 : g.id ∉ latchIds := notin_sub hW (by decide +kernel)
  simp [Vc.bootHalt, *]

def Vc.trialRevertW : List Nat :=
  [BOOT.ERRSTAT.TRIAL_REVERT.id] ++ Vc.ptrWriteW

@[simp] theorem Vc.rd_trialRevert (s : Vc) (g : Fld) (k m : Nat) (hW : g.id ∉ Vc.trialRevertW) :
    (Vc.trialRevert s).rd g k m = s.rd g k m := by
  have w0 : g.id ≠ BOOT.ERRSTAT.TRIAL_REVERT.id := ne_of_notin hW (by decide +kernel)
  have w1 : g.id ∉ Vc.ptrWriteW := notin_sub hW (by decide +kernel)
  have w2 : g.id ∉ eventIds := notin_sub hW (by decide +kernel)
  simp [Vc.trialRevert, *]

def Vc.ptrRepairW : List Nat :=
  [BOOT.ERRSTAT.POINTER_REPAIR.id] ++ Vc.ptrWriteW

@[simp] theorem Vc.rd_ptrRepair (s : Vc) (g : Fld) (k m : Nat) (hW : g.id ∉ Vc.ptrRepairW) :
    (Vc.ptrRepair s).rd g k m = s.rd g k m := by
  have w0 : g.id ≠ BOOT.ERRSTAT.POINTER_REPAIR.id := ne_of_notin hW (by decide +kernel)
  have w1 : g.id ∉ Vc.ptrWriteW := notin_sub hW (by decide +kernel)
  have w2 : g.id ∉ eventIds := notin_sub hW (by decide +kernel)
  simp [Vc.ptrRepair, *]

def Vc.bootSlotW : List Nat :=
  [BOOT.SLOT_STATE.STATE.id, BOOT.STATUS.FALLBACK.id, BOOT.STATUS.RUN_SLOT.id, BOOT.STATUS.TRIAL.id]

@[simp] theorem Vc.rd_bootSlot (s : Vc) (slot : Nat) (trial fallback : Bool) (g : Fld) (k m : Nat) (hW : g.id ∉ Vc.bootSlotW) :
    (Vc.bootSlot s slot trial fallback).rd g k m = s.rd g k m := by
  have w0 : g.id ≠ BOOT.SLOT_STATE.STATE.id := ne_of_notin hW (by decide +kernel)
  have w1 : g.id ≠ BOOT.STATUS.FALLBACK.id := ne_of_notin hW (by decide +kernel)
  have w2 : g.id ≠ BOOT.STATUS.RUN_SLOT.id := ne_of_notin hW (by decide +kernel)
  have w3 : g.id ≠ BOOT.STATUS.TRIAL.id := ne_of_notin hW (by decide +kernel)
  simp [Vc.bootSlot, *]

@[simp] theorem Vc.rd_firstValid (l : List Nat) (g : Fld) (k m : Nat) (hW : g.id ∉ Vc.imageBadW) : ∀ s : Vc, (s.firstValid l).1.rd g k m = s.rd g k m := by
  
  induction l with
  | nil => intro s; rfl
  | cons a l ih =>
    intro s
    unfold Vc.firstValid
    repeat' (first | with_reducible rfl | (simp [*]; done) | split | (dsimp only; split))

def Vc.imageFallbackW : List Nat :=
  Vc.imageBadW ++ Vc.bootSlotW ++ Vc.showPtrW

@[simp] theorem Vc.rd_imageFallback (s : Vc) (g : Fld) (k m : Nat) (hW : g.id ∉ Vc.imageFallbackW) :
    (Vc.imageFallback s).1.rd g k m = s.rd g k m := by
  have w0 : g.id ≠ BOOT.STATUS.FALLBACK.id := ne_of_notin hW (by decide +kernel)
  have w1 : g.id ∉ Vc.bootSlotW := notin_sub hW (by decide +kernel)
  have w2 : g.id ∉ Vc.imageBadW := notin_sub hW (by decide +kernel)
  have w3 : g.id ∉ Vc.showPtrW := notin_sub hW (by decide +kernel)
  unfold Vc.imageFallback
  split <;> rename_i t _ he <;>
    have h1 := Vc.rd_firstValid (if s.on BOOT.ALT.PREV_IMAGE then [1, 0] else [0, 1]) g k m (by assumption) s <;> rw [he] at h1 <;> simp [*]

@[simp] theorem Vc.rd_countTrial (s : Vc) (g : Fld) (k m : Nat) (hW : g.id ∉ Vc.trialRevertW) :
    (Vc.countTrial s).rd g k m = s.rd g k m := by
  have w0 : g.id ∉ Vc.ptrWriteW := notin_sub hW (by decide +kernel)
  simp [Vc.countTrial, *]

@[simp] theorem Vc.rd_raisePrimary (s : Vc) (prim : Nat) (g : Fld) (k m : Nat) (hW : g.id ∉ Vc.raiseSvnW) :
    (Vc.raisePrimary s prim).rd g k m = s.rd g k m := by
  simp [Vc.raisePrimary, *]

def Vc.imageRevertW : List Nat :=
  Vc.trialRevertW ++ Vc.imageBadW ++ Vc.bootSlotW ++ Vc.raiseSvnW

@[simp] theorem Vc.rd_imageRevert (s : Vc) (prim : Nat) (g : Fld) (k m : Nat) (hW : g.id ∉ Vc.imageRevertW) :
    (Vc.imageRevert s prim).1.rd g k m = s.rd g k m := by
  have w0 : g.id ∉ Vc.bootSlotW := notin_sub hW (by decide +kernel)
  have w1 : g.id ∉ Vc.imageBadW := notin_sub hW (by decide +kernel)
  have w2 : g.id ∉ Vc.raiseSvnW := notin_sub hW (by decide +kernel)
  have w3 : g.id ∉ Vc.trialRevertW := notin_sub hW (by decide +kernel)
  simp [Vc.imageRevert, *]

@[simp] theorem Vc.rd_imageSelect (s : Vc) (g : Fld) (k m : Nat) (hW : g.id ∉ Vc.imageRevertW) :
    (Vc.imageSelect s).1.rd g k m = s.rd g k m := by
  have w0 : g.id ∉ Vc.bootSlotW := notin_sub hW (by decide +kernel)
  have w1 : g.id ∉ Vc.imageBadW := notin_sub hW (by decide +kernel)
  have w2 : g.id ∉ Vc.raiseSvnW := notin_sub hW (by decide +kernel)
  simp [Vc.imageSelect, *]

@[simp] theorem Vc.rd_diesSeen (s : Vc) (pass : Nat) (g : Fld) (k m : Nat) :
    (Vc.diesSeen s pass).rd g k m = s.rd g k m := by
  simp [Vc.diesSeen, *]

def Vc.diesStepW : List Nat :=
  [VOTER.ERRSTAT.REALIGN_FAIL.id, VOTER.STATUS.MODE.id] ++ eventIds ++ Vc.setDieW

@[simp] theorem Vc.rd_diesStep (s : Vc) (pass : Nat) (g : Fld) (k m : Nat) (hW : g.id ∉ Vc.diesStepW) :
    (Vc.diesStep s pass).1.rd g k m = s.rd g k m := by
  have w0 : g.id ≠ VOTER.ERRSTAT.REALIGN_FAIL.id := ne_of_notin hW (by decide +kernel)
  have w1 : g.id ≠ VOTER.STATUS.MODE.id := ne_of_notin hW (by decide +kernel)
  have w2 : g.id ∉ Vc.setDieW := notin_sub hW (by decide +kernel)
  have w3 : g.id ∉ eventIds := notin_sub hW (by decide +kernel)
  simp [Vc.diesStep, *]

def Vc.settingsDefaultW : List Nat :=
  [BOOT.ERRSTAT.SETTINGS_DEFAULT.id] ++ eventIds

@[simp] theorem Vc.rd_settingsDefault (s : Vc) (g : Fld) (k m : Nat) (hW : g.id ∉ Vc.settingsDefaultW) :
    (Vc.settingsDefault s).rd g k m = s.rd g k m := by
  have w0 : g.id ≠ BOOT.ERRSTAT.SETTINGS_DEFAULT.id := ne_of_notin hW (by decide +kernel)
  have w1 : g.id ∉ eventIds := notin_sub hW (by decide +kernel)
  simp [Vc.settingsDefault, *]

def Vc.bootReadyW : List Nat :=
  [BOOT.STATUS.STATE.id]

@[simp] theorem Vc.rd_bootReady (s : Vc) (g : Fld) (k m : Nat) (hW : g.id ∉ Vc.bootReadyW) :
    (Vc.bootReady s).rd g k m = s.rd g k m := by
  have w0 : g.id ≠ BOOT.STATUS.STATE.id := ne_of_notin hW (by decide +kernel)
  simp [Vc.bootReady, *]

def Vc.prismTimingW : List Nat :=
  [PRISM.TIMING.LAST_END_NS.id, PRISM.TIMING.MAX_END_NS.id]

@[simp] theorem Vc.rd_prismTiming (s : Vc) (g : Fld) (k m : Nat) (hW : g.id ∉ Vc.prismTimingW) :
    (Vc.prismTiming s).rd g k m = s.rd g k m := by
  have w0 : g.id ≠ PRISM.TIMING.LAST_END_NS.id := ne_of_notin hW (by decide +kernel)
  have w1 : g.id ≠ PRISM.TIMING.MAX_END_NS.id := ne_of_notin hW (by decide +kernel)
  simp [Vc.prismTiming, *]

@[simp] theorem Vc.rd_facetCommit (s : Vc) (g : Fld) (k m : Nat) (hW : g.id ∉ Vc.strCommitW) :
    (Vc.facetCommit s).rd g k m = s.rd g k m := by
  have w0 : g.id ∉ Vc.leaveServiceW := notin_sub hW (by decide +kernel)
  have w1 : g.id ∉ Vc.spareW := notin_sub hW (by decide +kernel)
  simp [Vc.facetCommit, *]

@[simp] theorem Vc.rd_selectAll (s : Vc) (g : Fld) (k m : Nat) (hW : g.id ∉ Vc.selectArmTickW) :
    (Vc.selectAll s).1.rd g k m = s.rd g k m := by
  simp [Vc.selectAll, *]

@[simp] theorem Vc.rd_memberReport (s : Vc) (g : Fld) (k m : Nat) :
    (Vc.memberReport s).rd g k m = s.rd g k m := by
  simp [Vc.memberReport, *]

@[simp] theorem Vc.rd_coreCtlNow (s : Vc) (op j : Nat) (g : Fld) (k m : Nat) (hW : g.id ∉ Vc.itemArmW) :
    (Vc.coreCtlNow s op j).rd g k m = s.rd g k m := by
  have w0 : g.id ∉ Vc.itemFreeW := notin_sub hW (by decide +kernel)
  unfold Vc.coreCtlNow
  split <;> simp [*]

def Vc.typeNowW : List Nat :=
  Vc.facetNowW ++ Vc.swapNowW ++ Vc.snapNowW

@[simp] theorem Vc.rd_typeNow (s : Vc) (d : Desc) (buf : HostBuf) (g : Fld) (k m : Nat) (hW : g.id ∉ Vc.typeNowW) :
    (Vc.typeNow s d buf).rd g k m = s.rd g k m := by
  have w0 : g.id ∉ Vc.facetNowW := notin_sub hW (by decide +kernel)
  have w1 : g.id ∉ Vc.pumpW := notin_sub hW (by decide +kernel)
  have w2 : g.id ∉ Vc.snapNowW := notin_sub hW (by decide +kernel)
  have w3 : g.id ∉ Vc.swapNowW := notin_sub hW (by decide +kernel)
  have w4 : g.id ∉ Vc.valveNowW := notin_sub hW (by decide +kernel)
  unfold Vc.typeNow
  split <;> simp [*]

@[simp] theorem Vc.rd_descNow (s : Vc) (id : Nat) (g : Fld) (k m : Nat) (hW : g.id ∉ Vc.typeNowW) :
    (Vc.descNow s id).rd g k m = s.rd g k m := by
  have w0 : g.id ∉ Vc.pumpW := notin_sub hW (by decide +kernel)
  unfold Vc.descNow
  (repeat' split) <;> simp [*]

@[simp] theorem Vc.rd_dropHolds (s : Vc) (n p : Nat) (g : Fld) (k m : Nat) :
    (Vc.dropHolds s n p).rd g k m = s.rd g k m := by
  simp [Vc.dropHolds, *]

@[simp] theorem Vc.rd_laneBack (s : Vc) (l : Nat) (g : Fld) (k m : Nat) (hW : g.id ∉ Vc.trainDoneW) :
    (Vc.laneBack s l).rd g k m = s.rd g k m := by
  simp [Vc.laneBack, *]

@[simp] theorem Vc.rd_blockLock (s : Vc) (l : Nat) (g : Fld) (k m : Nat) (hW : g.id ∉ Vc.trainDoneW) :
    (Vc.blockLock s l).rd g k m = s.rd g k m := by
  have w0 : g.id ∉ Vc.putLnkW := notin_sub hW (by decide +kernel)
  have w1 : g.id ∉ Vc.trainW := notin_sub hW (by decide +kernel)
  simp [Vc.blockLock, *]

@[simp] theorem Vc.rd_linkReturn (s : Vc) (l : Nat) (g : Fld) (k m : Nat) (hW : g.id ∉ Vc.trainDoneW) :
    (Vc.linkReturn s l).rd g k m = s.rd g k m := by
  have w0 : g.id ∉ Vc.putLnkW := notin_sub hW (by decide +kernel)
  simp [Vc.linkReturn, *]

@[simp] theorem Vc.rd_noProgress (s : Vc) (l : Nat) (g : Fld) (k m : Nat) (hW : g.id ∉ Vc.trainW) :
    (Vc.noProgress s l).rd g k m = s.rd g k m := by
  have w0 : g.id ∉ Vc.putLnkW := notin_sub hW (by decide +kernel)
  simp [Vc.noProgress, *]

@[simp] theorem Vc.rd_finalTimeout (s : Vc) (l : Nat) (g : Fld) (k m : Nat) (hW : g.id ∉ Vc.trainW) :
    (Vc.finalTimeout s l).rd g k m = s.rd g k m := by
  have w0 : g.id ∉ Vc.putLnkW := notin_sub hW (by decide +kernel)
  simp [Vc.finalTimeout, *]

def Vc.lockLostW : List Nat :=
  Vc.cascLaneLostW ++ Vc.strLaneLossW

@[simp] theorem Vc.rd_lockLost (s : Vc) (l : Nat) (g : Fld) (k m : Nat) (hW : g.id ∉ Vc.lockLostW) :
    (Vc.lockLost s l).rd g k m = s.rd g k m := by
  have w0 : g.id ∉ Vc.cascLaneLostW := notin_sub hW (by decide +kernel)
  have w1 : g.id ∉ Vc.loseLaneW := notin_sub hW (by decide +kernel)
  have w2 : g.id ∉ Vc.strLaneLossW := notin_sub hW (by decide +kernel)
  have w3 : g.id ∉ Vc.trainW := notin_sub hW (by decide +kernel)
  have w4 : g.id ∉ eventIds := notin_sub hW (by decide +kernel)
  simp [Vc.lockLost, *]

def Vc.codeRxW : List Nat :=
  Vc.lockLostW ++ Vc.codeErrorW

@[simp] theorem Vc.rd_codeRx (s : Vc) (l : Nat) (rx : RxWords) (g : Fld) (k m : Nat) (hW : g.id ∉ Vc.codeRxW) :
    (Vc.codeRx s l rx).rd g k m = s.rd g k m := by
  have w0 : g.id ∉ Vc.codeErrorW := notin_sub hW (by decide +kernel)
  have w1 : g.id ∉ Vc.lockLostW := notin_sub hW (by decide +kernel)
  have w2 : g.id ∉ Vc.trainW := notin_sub hW (by decide +kernel)
  simp [Vc.codeRx, *]

@[simp] theorem Vc.rd_linkFault (s : Vc) (l : Nat) (b : Block) (g : Fld) (k m : Nat) (hW : g.id ∉ Vc.lockLostW) :
    (Vc.linkFault s l b).rd g k m = s.rd g k m := by
  simp [Vc.linkFault, *]

@[simp] theorem Vc.rd_probeRx (s : Vc) (l : Nat) (b : Block) (turn : Nat) (g : Fld) (k m : Nat) :
    (Vc.probeRx s l b turn).rd g k m = s.rd g k m := by
  unfold Vc.probeRx
  split <;> simp [*]

@[simp] theorem Vc.rd_echoBlockRx (s : Vc) (l : Nat) (b : Block) (rttPs : Nat) (g : Fld) (k m : Nat) (hW : g.id ∉ Vc.echoRxW) :
    (Vc.echoBlockRx s l b rttPs).rd g k m = s.rd g k m := by
  unfold Vc.echoBlockRx
  split <;> simp [*]

@[simp] theorem Vc.rd_startAgain (s : Vc) (l bst wait : Nat) (g : Fld) (k m : Nat) (hW : g.id ∉ Vc.trainW) :
    (Vc.startAgain s l bst wait).rd g k m = s.rd g k m := by
  simp [Vc.startAgain, *]

@[simp] theorem Vc.rd_frameError (s : Vc) (l : Nat) (f : TrainFrame) (g : Fld) (k m : Nat) (hW : g.id ∉ Vc.trainErrorW) :
    (Vc.frameError s l f).rd g k m = s.rd g k m := by
  simp [Vc.frameError, *]

@[simp] theorem Vc.rd_trialSlots (s : Vc) (l : Nat) (foms : List (Option Nat)) (g : Fld) (k m : Nat) (hW : g.id ∉ Vc.trainW) :
    (Vc.trialSlots s l foms).rd g k m = s.rd g k m := by
  simp [Vc.trialSlots, *]

def Vc.commandFrameW : List Nat :=
  Vc.blkCopyW ++ Vc.deblockW

@[simp] theorem Vc.rd_commandFrame (s : Vc) (dest : Nat) (cmds : List (Nat × Nat)) (deblock : Bool) (notes : List ArmNote) (bad : Nat) (g : Fld) (k m : Nat) (hW : g.id ∉ Vc.commandFrameW) :
    (Vc.commandFrame s dest cmds deblock notes bad).rd g k m = s.rd g k m := by
  have w0 : g.id ∉ Vc.blkCopyW := notin_sub hW (by decide +kernel)
  have w1 : g.id ∉ Vc.deblockW := notin_sub hW (by decide +kernel)
  simp [Vc.commandFrame, *]

end

end Sys2Proof.Machine
end

