-- ==== Sys2Proof/Laws/Desc.lean ====
section
/-!
SUPPORT. Laws/Desc.lean: a descriptor that ends is answered, whatever else the queues do (R290, R298, R301).
-/
namespace Sys2Proof.Machine
set_option Elab.async false
open Reg

theorem Vc.Answered.of_out {s t : Vc} {d : Desc} {st de tk : Nat} (h : s.Answered d st de tk) (ho : ∃ l, t.out = s.out ++ l)
    (hd : t.host.descs = s.host.descs) : t.Answered d st de tk := by
  obtain ⟨l, ho⟩ := ho
  rcases h with ⟨c, a, p, h⟩ | h
  · exact .inl ⟨c, a, p, ho ▸ List.mem_append_left _ h⟩
  · exact .inr (by unfold Vc.desc?; rw [hd]; exact h)

theorem Vc.msix_out (s : Vc) (v : Nat) : ∃ l, (s.msix v).out = s.out ++ l := by
  unfold Vc.msix
  split
  · exact ⟨[], (List.append_nil _).symm⟩
  · split
    · exact ⟨[], (List.append_nil _).symm⟩
    · exact ⟨_, rfl⟩

theorem Vc.msix_descs (s : Vc) (v : Nat) : (s.msix v).host.descs = s.host.descs := by
  unfold Vc.msix
  split
  · rfl
  · split <;> rfl

theorem Vc.irq_out (s : Vc) (n : Nat) : ∃ l, (s.irq n).out = s.out ++ l := by
  unfold Vc.irq
  split
  · exact ⟨[], (List.append_nil _).symm⟩
  · dsimp only
    split
    · exact Vc.msix_out _ _
    · exact ⟨[], (List.append_nil _).symm⟩

theorem Vc.irq_descs (s : Vc) (n : Nat) : (s.irq n).host.descs = s.host.descs := by
  unfold Vc.irq
  split
  · rfl
  · dsimp only
    split
    · exact Vc.msix_descs _ _
    · rfl

theorem Vc.Answered.checkHalted {s : Vc} {d : Desc} {st de tk : Nat} (h : s.Answered d st de tk) (q : Nat) :
    (s.checkHalted q).Answered d st de tk := by
  unfold Vc.checkHalted
  split
  · exact h.of_out (Vc.irq_out (s.wr SQ.STATUS.STATE 3 q) 12) (Vc.irq_descs _ _)
  · exact h

theorem Vc.post_out (s : Vc) (d : Desc) (st de tk : Nat) : ∃ c a p l, (s.post d st de tk).out =
    s.out ++ .cqEntry c a (d.tag * 65536 + st * 256 + d.sq) (d.slot * 65536 + p) de (tk % 4294967296) :: l := by
  refine ⟨s.rd SQ.CFG.CQ d.sq, s.rd CQ.STATUS.TAIL (s.rd SQ.CFG.CQ d.sq), s.rd CQ.STATUS.PHASE (s.rd SQ.CFG.CQ d.sq), ?_⟩
  have hm : ∀ (p : Prop) (_ : Decidable p) (x : Vc) (c : Nat), ∃ l, (if p then x.cqMessage c else x).out = x.out ++ l := by
    intro p _ x c
    split
    · exact Vc.msix_out _ _
    · exact ⟨[], (List.append_nil _).symm⟩
  have hi : ∀ (p : Prop) (_ : Decidable p) (x : Vc) (c v : Nat), (if p then x.wr CQ.STATUS.PHASE v c else x).out = x.out := by
    intro p _ x c v
    split <;> rfl
  unfold Vc.post
  dsimp only
  obtain ⟨l, hl⟩ := hm _ _ _ _
  refine ⟨l, hl.trans ?_⟩
  exact Eq.trans (congrArg (· ++ l) (hi _ _ _ _ _)) (List.append_assoc _ _ _)

theorem Vc.post_descs (s : Vc) (d : Desc) (st de tk : Nat) : (s.post d st de tk).host.descs = s.host.descs := by
  unfold Vc.post
  dsimp only
  split <;> split <;> first | exact Vc.msix_descs _ _ | rfl

theorem find_drop (l : List Desc) (a b : Nat) (h : a ≠ b) :
    (l.filter fun e => decide (e.id ≠ b)).find? (fun e => decide (e.id = a)) = l.find? fun e => decide (e.id = a) := by
  induction l with
  | nil => rfl
  | cons x l ih =>
    by_cases hx : x.id = b
    · have hn : ¬ x.id = a := fun e => h (e.symm.trans hx)
      rw [List.filter_cons_of_neg (by simp [hx]), ih, List.find?_cons_of_neg (by simpa using hn)]
    · rw [List.filter_cons_of_pos (by simpa using hx)]
      simp only [List.find?_cons]
      rw [ih]

theorem find_mod (l : List Desc) (a b : Nat) (f : Desc → Desc) (hf : ∀ e, (f e).id = e.id) (h : a ≠ b) :
    (l.map fun e => if e.id = b then f e else e).find? (fun e => decide (e.id = a)) = l.find? fun e => decide (e.id = a) := by
  induction l with
  | nil => rfl
  | cons x l ih =>
    by_cases hx : x.id = b
    · have hn : ¬ x.id = a := fun e => h (e.symm.trans hx)
      simp only [List.map_cons, hx, if_true]
      rw [List.find?_cons_of_neg (by simpa [hf] using hn), ih, List.find?_cons_of_neg (by simpa using hn)]
    · simp only [List.map_cons, hx, if_false, List.find?_cons]
      rw [ih]

theorem find_modSelf (l : List Desc) (a : Nat) (f : Desc → Desc) (hf : ∀ e, (f e).id = e.id) :
    (l.map fun e => if e.id = a then f e else e).find? (fun e => decide (e.id = a)) = (l.find? fun e => decide (e.id = a)).map f := by
  induction l with
  | nil => rfl
  | cons x l ih =>
    by_cases hx : x.id = a
    · simp [hx, hf]
    · simp only [List.map_cons, hx, if_false]
      rw [List.find?_cons_of_neg (by simpa using hx), ih, List.find?_cons_of_neg (by simpa using hx)]

theorem Vc.Answered.haltSq {s : Vc} {d : Desc} {st de tk : Nat} (h : s.Answered d st de tk) (q c a b : Nat) :
    (s.haltSq q c a b).Answered d st de tk := by
  unfold Vc.haltSq
  rcases h with h | h
  · exact .inl h
  · refine .inr ?_
    show List.find? _ (List.map _ s.host.descs) = _
    unfold Vc.desc? at h
    revert h
    generalize s.host.descs = l
    intro h
    induction l with
    | nil => cases h
    | cons x l ih =>
      rw [List.map_cons]
      by_cases hx : x.id = d.id
      · rw [List.find?_cons_of_pos (by simpa using hx)] at h
        cases h
        simp
      · rw [List.find?_cons_of_neg (by simpa using hx)] at h
        rw [List.find?_cons_of_neg (by split <;> simpa using hx)]
        exact ih h

theorem Vc.Answered.mod {s : Vc} {d : Desc} {st de tk : Nat} (h : s.Answered d st de tk) (i : Nat) (f : Desc → Desc) (hf : ∀ e, (f e).id = e.id)
    (hi : (∃ x, s.desc? d.id = some x ∧ x.isDone = true) → d.id ≠ i) : (s.modDesc i f).Answered d st de tk := by
  rcases h with h | h
  · exact .inl h
  · exact .inr ((find_mod s.host.descs d.id i f hf (hi ⟨_, h, rfl⟩)).trans h)

/-- One descriptor's end leaves another's as it is. -/
theorem Vc.Answered.endDesc {s : Vc} {d e : Desc} {st de tk : Nat} (h : s.Answered d st de tk) (a b c : Nat)
    (hi : (∃ x, s.desc? d.id = some x ∧ x.isDone = true) → d.id ≠ e.id) : (s.endDesc e a b c).Answered d st de tk := by
  have h0 := h.mod e.id (fun e => { e with stage := .done a b c, waiting := false, bound := none }) (fun _ => rfl) hi
  unfold Vc.endDesc
  dsimp only
  split
  · exact h0.haltSq _ _ _ _
  · split
    · exact h0.haltSq _ _ _ _
    · split
      · exact h0.haltSq _ _ _ _
      · exact h0

theorem Vc.desc_id {s : Vc} {i : Nat} {e : Desc} (h : s.desc? i = some e) : e.id = i := by
  simpa using List.find?_some h

theorem Vc.Answered.startOne {s : Vc} {d : Desc} {st de tk : Nat} (h : s.Answered d st de tk) (i : Nat) :
    (s.startOne i).Answered d st de tk := by
  unfold Vc.startOne
  split
  · rename_i e he
    split
    · rename_i hs
      have hi : (∃ x, s.desc? d.id = some x ∧ x.isDone = true) → d.id ≠ i := by
        rintro ⟨x, hx, hd⟩ rfl
        rw [hx] at he
        cases he
        simp only [Bool.and_eq_true, decide_eq_true_eq] at hs
        rw [Desc.isDone, hs.1] at hd
        cases hd
      split
      · exact h.endDesc _ _ _ (Vc.desc_id he ▸ hi)
      · exact h.mod i _ (fun _ => rfl) hi
    · exact h
  · exact h

theorem Vc.Answered.postOne {s : Vc} {d : Desc} {st de tk : Nat} (h : s.Answered d st de tk) (ho : d.orphan = false) (i : Nat) :
    (s.postOne i).Answered d st de tk := by
  unfold Vc.postOne
  split
  · rename_i e he
    split
    · rename_i st' de' tk' hst
      dsimp only
      split
      · rename_i horph
        rcases h with h | h
        · exact .inl h
        · by_cases hi : d.id = i
          · rw [← hi, h] at he
            cases he
            simp [ho] at horph
          · refine .inr ?_
            show List.find? _ _ = _
            rw [find_drop _ _ _ hi]
            exact h
      · split
        · refine Vc.Answered.checkHalted ?_ _
          obtain ⟨c, a, p, l, hl⟩ := Vc.post_out s e st' de' tk'
          rcases h with ⟨c', a', p', h⟩ | h
          · exact .inl ⟨c', a', p', by show _ ∈ (Vc.post _ _ _ _ _).out; rw [hl]; exact List.mem_append_left _ h⟩
          · by_cases hi : d.id = i
            · rw [← hi, h] at he
              cases he
              cases hst
              exact .inl ⟨c, a, p, by show _ ∈ (Vc.post _ _ _ _ _).out; rw [hl]; exact List.mem_append_right _ (List.mem_cons_self ..)⟩
            · refine .inr ?_
              show List.find? _ (List.filter _ (Vc.post _ _ _ _ _).host.descs) = _
              rw [Vc.post_descs, find_drop _ _ _ hi]
              exact h
        · exact h
    · exact h
  · exact h

theorem Vc.Answered.fold {s : Vc} {d : Desc} {st de tk : Nat} (f : Vc → Nat → Vc) (hf : ∀ x i, Vc.Answered x d st de tk → (f x i).Answered d st de tk)
    (l : List Nat) (h : s.Answered d st de tk) : (l.foldl f s).Answered d st de tk := by
  induction l generalizing s with
  | nil => exact h
  | cons i l ih => exact ih (hf _ _ h)

theorem Vc.Answered.pump {s : Vc} {d : Desc} {st de tk : Nat} (h : s.Answered d st de tk) (ho : d.orphan = false) :
    (s.pump).Answered d st de tk := by
  unfold Vc.pump
  exact ((h.fold Vc.postOne (fun _ i hx => hx.postOne ho i) _).fold Vc.startOne (fun _ i hx => hx.startOne i) _).fold
    Vc.postOne (fun _ i hx => hx.postOne ho i) _

/-- The end of a descriptor in flight whose queue was not reset. -/
theorem Vc.finishAt_answered (s : Vc) (d : Desc) (st de tk : Nat) (h : s.desc? d.id = some d) (hd : d.isDone = false) (ho : d.orphan = false) :
    (s.finishAt d.id st de tk).Answered d st de tk := by
  unfold Vc.finishAt
  rw [h]
  dsimp only
  rw [hd, if_neg (by simp)]
  refine Vc.Answered.checkHalted (Vc.Answered.pump ?_ ho) _
  have h0 : (s.modDesc d.id fun e => { e with stage := .done st de tk, waiting := false, bound := none }).Answered d st de tk := by
    refine .inr ?_
    refine (find_modSelf s.host.descs d.id (fun e => { e with stage := .done st de tk, waiting := false, bound := none }) (fun _ => rfl)).trans ?_
    unfold Vc.desc? at h
    rw [h]
    rfl
  unfold Vc.endDesc
  dsimp only
  split
  · exact h0.haltSq _ _ _ _
  · split
    · exact h0.haltSq _ _ _ _
    · split
      · exact h0.haltSq _ _ _ _
      · exact h0

theorem Vc.finish_answered (s : Vc) (d : Desc) (st de : Nat) (h : s.desc? d.id = some d) (hd : d.isDone = false) (ho : d.orphan = false) :
    (s.finish d.id st de).Answered d st de s.tickNo := s.finishAt_answered d st de _ h hd ho

/-- What a command does with the descriptor it names, when that has started. -/
theorem Vc.withDesc_started (s : Vc) (d : Desc) (type : Nat) (f : Vc → Desc → Vc) (h : s.Started d type) : s.withDesc d.id type f = f s d := by
  obtain ⟨h1, h2, h3, h4, _, h6⟩ := h
  unfold Vc.withDesc
  rw [h1]
  simp [Desc.isStarted, h2, h3, h4, h6]

theorem Vc.Started.answered {s : Vc} {d : Desc} {type : Nat} (h : s.Started d type) (t : Vc) (ht : t.host.descs = s.host.descs) (st de : Nat) :
    (t.finish d.id st de).Answered d st de t.tickNo :=
  Vc.finish_answered t d st de (by unfold Vc.desc?; rw [ht]; exact h.1) (by simp [Desc.isDone, h.2.1]) h.2.2.2.2.1

/-! ### What the queues change: registers, the queues' own state, and output added (R286 to R304) -/

/-- Only registers and the queues' own state differ, and output was added. -/
def Vc.HqOnly (s t : Vc) : Prop := ∃ regs host l, t = { s with regs := regs, host := host, out := s.out ++ l }

theorem Vc.HqOnly.refl (s : Vc) : s.HqOnly s := ⟨s.regs, s.host, [], by rw [List.append_nil]⟩
theorem Vc.HqOnly.trans {s t u : Vc} (h : s.HqOnly t) (h' : t.HqOnly u) : s.HqOnly u := by
  obtain ⟨_, _, l, rfl⟩ := h
  obtain ⟨_, _, l', rfl⟩ := h'
  exact ⟨_, _, l ++ l', by rw [← List.append_assoc]⟩
theorem Vc.HqOnly.wr {s t : Vc} (f : Fld) (v i j : Nat) (h : s.HqOnly t) : s.HqOnly (t.wr f v i j) := by
  obtain ⟨_, _, _, rfl⟩ := h
  exact ⟨_, _, _, rfl⟩
theorem Vc.HqOnly.emit {s t : Vc} (e : Emit) (h : s.HqOnly t) : s.HqOnly (t.emit e) := by
  obtain ⟨_, _, l, rfl⟩ := h
  exact ⟨_, _, l ++ [e], by unfold Vc.emit; rw [← List.append_assoc]⟩
theorem Vc.HqOnly.setHost {s t : Vc} (x : HostSt) (h : s.HqOnly t) : s.HqOnly { t with host := x } := by
  obtain ⟨_, _, _, rfl⟩ := h
  exact ⟨_, _, _, rfl⟩
theorem Vc.HqOnly.ite {s t u : Vc} (c : Prop) (_ : Decidable c) (h : s.HqOnly t) (h' : s.HqOnly u) : s.HqOnly (if c then t else u) := by
  split <;> assumption
theorem Vc.HqOnly.fold {α : Type} {s : Vc} (f : Vc → α → Vc) (hf : ∀ t a, s.HqOnly t → s.HqOnly (f t a)) (l : List α) (t : Vc)
    (h : s.HqOnly t) : s.HqOnly (l.foldl f t) := by
  induction l generalizing t with
  | nil => exact h
  | cons a l ih => exact ih _ (hf _ _ h)
theorem Vc.HqOnly.msix {s t : Vc} (v : Nat) (h : s.HqOnly t) : s.HqOnly (t.msix v) :=
  .ite _ _ h (.ite _ _ (.wr _ _ _ _ h) (.emit _ h))
theorem Vc.HqOnly.irq {s t : Vc} (v : Nat) (h : s.HqOnly t) : s.HqOnly (t.irq v) :=
  .ite _ _ h (.ite _ _ (.msix _ (.wr _ _ _ _ h)) (.wr _ _ _ _ h))
theorem Vc.HqOnly.post {s t : Vc} (d : Desc) (a b c : Nat) (h : s.HqOnly t) : s.HqOnly (t.post d a b c) := by
  unfold Vc.post
  dsimp only
  have h1 : ∀ (p : Prop) (hp : Decidable p) (x : Vc) (c v : Nat), s.HqOnly x → s.HqOnly (if p then x.wr CQ.STATUS.PHASE v c else x) :=
    fun p hp x c v hx => .ite _ _ (.wr _ _ _ _ hx) hx
  refine .ite _ _ (.msix _ (.setHost _ (.setHost _ (h1 _ _ _ _ _ (.wr _ _ _ _ (.emit _ h)))))) (.setHost _ (h1 _ _ _ _ _ (.wr _ _ _ _ (.emit _ h))))
theorem Vc.HqOnly.checkHalted {s t : Vc} (q : Nat) (h : s.HqOnly t) : s.HqOnly (t.checkHalted q) := .ite _ _ (.irq _ (.wr _ _ _ _ h)) h
theorem Vc.HqOnly.postOne {s t : Vc} (i : Nat) (h : s.HqOnly t) : s.HqOnly (t.postOne i) := by
  unfold Vc.postOne
  split
  · split
    · exact .ite _ _ (.setHost _ h) (.ite _ _ (.checkHalted _ (.setHost _ (.post _ _ _ _ h))) h)
    · exact h
  · exact h
theorem Vc.HqOnly.haltSq {s t : Vc} (q a b c : Nat) (h : s.HqOnly t) : s.HqOnly (t.haltSq q a b c) :=
  .setHost _ (.wr _ _ _ _ (.wr _ _ _ _ (.wr _ _ _ _ (.wr _ _ _ _ h))))
theorem Vc.HqOnly.endDesc {s t : Vc} (d : Desc) (a b c : Nat) (h : s.HqOnly t) : s.HqOnly (t.endDesc d a b c) := by
  unfold Vc.endDesc
  exact .ite _ _ (.haltSq _ _ _ _ (.setHost _ h)) (.ite _ _ (.haltSq _ _ _ _ (.setHost _ h)) (.ite _ _ (.haltSq _ _ _ _ (.setHost _ h)) (.setHost _ h)))
theorem Vc.HqOnly.startOne {s t : Vc} (i : Nat) (h : s.HqOnly t) : s.HqOnly (t.startOne i) := by
  unfold Vc.startOne
  split
  · exact .ite _ _ (.ite _ _ (.endDesc _ _ _ _ h) (.setHost _ h)) h
  · exact h
theorem Vc.HqOnly.pump {s t : Vc} (h : s.HqOnly t) : s.HqOnly t.pump :=
  .fold _ (fun _ _ hx => .postOne _ hx) _ _ (.fold _ (fun _ _ hx => .startOne _ hx) _ _ (.fold _ (fun _ _ hx => .postOne _ hx) _ _ h))
theorem Vc.HqOnly.finishAt {s t : Vc} (i st de tk : Nat) (h : s.HqOnly t) : s.HqOnly (t.finishAt i st de tk) := by
  unfold Vc.finishAt
  split
  · exact h
  · exact .ite _ _ h (.checkHalted _ (.pump (.endDesc _ _ _ _ h)))
theorem Vc.HqOnly.finish {s t : Vc} (i st de : Nat) (h : s.HqOnly t) : s.HqOnly (t.finish i st de) := h.finishAt _ _ _ _
theorem Vc.HqOnly.wait {s t : Vc} (i a : Nat) (h : s.HqOnly t) : s.HqOnly (t.wait i a) := .setHost _ h
theorem Vc.HqOnly.modDesc {s t : Vc} (i : Nat) (f : Desc → Desc) (h : s.HqOnly t) : s.HqOnly (t.modDesc i f) := .setHost _ h
theorem Vc.HqOnly.holdDesc {s t : Vc} (i : Nat) (b : HostBuf) (h : s.HqOnly t) : s.HqOnly (t.holdDesc i b) := .setHost _ h
theorem Vc.HqOnly.writeBuf {s t : Vc} (d : Desc) (a : Nat) (b : List Nat) (n : Nat) (h : s.HqOnly t) : s.HqOnly (t.writeBuf d a b n) :=
  .ite _ _ (.finish _ _ _ (.emit _ h)) (.finish _ _ _ h)
theorem Vc.HqOnly.out {s t : Vc} (h : s.HqOnly t) : ∃ l, t.out = s.out ++ l := by
  obtain ⟨_, _, l, rfl⟩ := h
  exact ⟨l, rfl⟩
theorem Vc.HqOnly.mem {s t : Vc} (h : s.HqOnly t) (e : Emit) (he : e ∈ s.out) : e ∈ t.out := by
  obtain ⟨_, _, l, rfl⟩ := h
  exact List.mem_append_left _ he

@[simp] theorem Vc.finish_frac (s : Vc) (i st de : Nat) : (s.finish i st de).frac = s.frac := by obtain ⟨_, _, _, h⟩ := Vc.HqOnly.finish i st de (.refl s); rw [h]
@[simp] theorem Vc.finish_now (s : Vc) (i st de : Nat) : (s.finish i st de).now = s.now := by obtain ⟨_, _, _, h⟩ := Vc.HqOnly.finish i st de (.refl s); rw [h]
@[simp] theorem Vc.finish_ticks (s : Vc) (i st de : Nat) : (s.finish i st de).ticks = s.ticks := by obtain ⟨_, _, _, h⟩ := Vc.HqOnly.finish i st de (.refl s); rw [h]
@[simp] theorem Vc.finish_free (s : Vc) (i st de : Nat) : (s.finish i st de).free = s.free := by obtain ⟨_, _, _, h⟩ := Vc.HqOnly.finish i st de (.refl s); rw [h]
@[simp] theorem Vc.finish_resetUntil (s : Vc) (i st de : Nat) : (s.finish i st de).resetUntil = s.resetUntil := by obtain ⟨_, _, _, h⟩ := Vc.HqOnly.finish i st de (.refl s); rw [h]
@[simp] theorem Vc.finish_held (s : Vc) (i st de : Nat) : (s.finish i st de).held = s.held := by obtain ⟨_, _, _, h⟩ := Vc.HqOnly.finish i st de (.refl s); rw [h]
@[simp] theorem Vc.finish_facets (s : Vc) (i st de : Nat) : (s.finish i st de).facets = s.facets := by obtain ⟨_, _, _, h⟩ := Vc.HqOnly.finish i st de (.refl s); rw [h]
@[simp] theorem Vc.finish_remotes (s : Vc) (i st de : Nat) : (s.finish i st de).remotes = s.remotes := by obtain ⟨_, _, _, h⟩ := Vc.HqOnly.finish i st de (.refl s); rw [h]
@[simp] theorem Vc.finish_arms (s : Vc) (i st de : Nat) : (s.finish i st de).arms = s.arms := by obtain ⟨_, _, _, h⟩ := Vc.HqOnly.finish i st de (.refl s); rw [h]
@[simp] theorem Vc.finish_strs (s : Vc) (i st de : Nat) : (s.finish i st de).strs = s.strs := by obtain ⟨_, _, _, h⟩ := Vc.HqOnly.finish i st de (.refl s); rw [h]
@[simp] theorem Vc.finish_lanes (s : Vc) (i st de : Nat) : (s.finish i st de).lanes = s.lanes := by obtain ⟨_, _, _, h⟩ := Vc.HqOnly.finish i st de (.refl s); rw [h]
@[simp] theorem Vc.finish_prot (s : Vc) (i st de : Nat) : (s.finish i st de).prot = s.prot := by obtain ⟨_, _, _, h⟩ := Vc.HqOnly.finish i st de (.refl s); rw [h]
@[simp] theorem Vc.finish_ledger (s : Vc) (i st de : Nat) : (s.finish i st de).ledger = s.ledger := by obtain ⟨_, _, _, h⟩ := Vc.HqOnly.finish i st de (.refl s); rw [h]
@[simp] theorem Vc.finish_ap (s : Vc) (i st de : Nat) : (s.finish i st de).ap = s.ap := by obtain ⟨_, _, _, h⟩ := Vc.HqOnly.finish i st de (.refl s); rw [h]
@[simp] theorem Vc.finish_lens (s : Vc) (i st de : Nat) : (s.finish i st de).lens = s.lens := by obtain ⟨_, _, _, h⟩ := Vc.HqOnly.finish i st de (.refl s); rw [h]
@[simp] theorem Vc.finish_sched (s : Vc) (i st de : Nat) : (s.finish i st de).sched = s.sched := by obtain ⟨_, _, _, h⟩ := Vc.HqOnly.finish i st de (.refl s); rw [h]
@[simp] theorem Vc.finish_time (s : Vc) (i st de : Nat) : (s.finish i st de).time = s.time := by obtain ⟨_, _, _, h⟩ := Vc.HqOnly.finish i st de (.refl s); rw [h]
@[simp] theorem Vc.finish_casc (s : Vc) (i st de : Nat) : (s.finish i st de).casc = s.casc := by obtain ⟨_, _, _, h⟩ := Vc.HqOnly.finish i st de (.refl s); rw [h]
@[simp] theorem Vc.finish_voter (s : Vc) (i st de : Nat) : (s.finish i st de).voter = s.voter := by obtain ⟨_, _, _, h⟩ := Vc.HqOnly.finish i st de (.refl s); rw [h]
@[simp] theorem Vc.finish_boot (s : Vc) (i st de : Nat) : (s.finish i st de).boot = s.boot := by obtain ⟨_, _, _, h⟩ := Vc.HqOnly.finish i st de (.refl s); rw [h]
@[simp] theorem Vc.finish_comps (s : Vc) (i st de : Nat) : (s.finish i st de).comps = s.comps := by obtain ⟨_, _, _, h⟩ := Vc.HqOnly.finish i st de (.refl s); rw [h]
@[simp] theorem Vc.finishAt_frac (s : Vc) (i st de tk : Nat) : (s.finishAt i st de tk).frac = s.frac := by obtain ⟨_, _, _, h⟩ := Vc.HqOnly.finishAt i st de tk (.refl s); rw [h]
@[simp] theorem Vc.finishAt_now (s : Vc) (i st de tk : Nat) : (s.finishAt i st de tk).now = s.now := by obtain ⟨_, _, _, h⟩ := Vc.HqOnly.finishAt i st de tk (.refl s); rw [h]
@[simp] theorem Vc.finishAt_ticks (s : Vc) (i st de tk : Nat) : (s.finishAt i st de tk).ticks = s.ticks := by obtain ⟨_, _, _, h⟩ := Vc.HqOnly.finishAt i st de tk (.refl s); rw [h]
@[simp] theorem Vc.finishAt_free (s : Vc) (i st de tk : Nat) : (s.finishAt i st de tk).free = s.free := by obtain ⟨_, _, _, h⟩ := Vc.HqOnly.finishAt i st de tk (.refl s); rw [h]
@[simp] theorem Vc.finishAt_resetUntil (s : Vc) (i st de tk : Nat) : (s.finishAt i st de tk).resetUntil = s.resetUntil := by obtain ⟨_, _, _, h⟩ := Vc.HqOnly.finishAt i st de tk (.refl s); rw [h]
@[simp] theorem Vc.finishAt_held (s : Vc) (i st de tk : Nat) : (s.finishAt i st de tk).held = s.held := by obtain ⟨_, _, _, h⟩ := Vc.HqOnly.finishAt i st de tk (.refl s); rw [h]
@[simp] theorem Vc.finishAt_facets (s : Vc) (i st de tk : Nat) : (s.finishAt i st de tk).facets = s.facets := by obtain ⟨_, _, _, h⟩ := Vc.HqOnly.finishAt i st de tk (.refl s); rw [h]
@[simp] theorem Vc.finishAt_remotes (s : Vc) (i st de tk : Nat) : (s.finishAt i st de tk).remotes = s.remotes := by obtain ⟨_, _, _, h⟩ := Vc.HqOnly.finishAt i st de tk (.refl s); rw [h]
@[simp] theorem Vc.finishAt_arms (s : Vc) (i st de tk : Nat) : (s.finishAt i st de tk).arms = s.arms := by obtain ⟨_, _, _, h⟩ := Vc.HqOnly.finishAt i st de tk (.refl s); rw [h]
@[simp] theorem Vc.finishAt_strs (s : Vc) (i st de tk : Nat) : (s.finishAt i st de tk).strs = s.strs := by obtain ⟨_, _, _, h⟩ := Vc.HqOnly.finishAt i st de tk (.refl s); rw [h]
@[simp] theorem Vc.finishAt_lanes (s : Vc) (i st de tk : Nat) : (s.finishAt i st de tk).lanes = s.lanes := by obtain ⟨_, _, _, h⟩ := Vc.HqOnly.finishAt i st de tk (.refl s); rw [h]
@[simp] theorem Vc.finishAt_prot (s : Vc) (i st de tk : Nat) : (s.finishAt i st de tk).prot = s.prot := by obtain ⟨_, _, _, h⟩ := Vc.HqOnly.finishAt i st de tk (.refl s); rw [h]
@[simp] theorem Vc.finishAt_ledger (s : Vc) (i st de tk : Nat) : (s.finishAt i st de tk).ledger = s.ledger := by obtain ⟨_, _, _, h⟩ := Vc.HqOnly.finishAt i st de tk (.refl s); rw [h]
@[simp] theorem Vc.finishAt_ap (s : Vc) (i st de tk : Nat) : (s.finishAt i st de tk).ap = s.ap := by obtain ⟨_, _, _, h⟩ := Vc.HqOnly.finishAt i st de tk (.refl s); rw [h]
@[simp] theorem Vc.finishAt_lens (s : Vc) (i st de tk : Nat) : (s.finishAt i st de tk).lens = s.lens := by obtain ⟨_, _, _, h⟩ := Vc.HqOnly.finishAt i st de tk (.refl s); rw [h]
@[simp] theorem Vc.finishAt_sched (s : Vc) (i st de tk : Nat) : (s.finishAt i st de tk).sched = s.sched := by obtain ⟨_, _, _, h⟩ := Vc.HqOnly.finishAt i st de tk (.refl s); rw [h]
@[simp] theorem Vc.finishAt_time (s : Vc) (i st de tk : Nat) : (s.finishAt i st de tk).time = s.time := by obtain ⟨_, _, _, h⟩ := Vc.HqOnly.finishAt i st de tk (.refl s); rw [h]
@[simp] theorem Vc.finishAt_casc (s : Vc) (i st de tk : Nat) : (s.finishAt i st de tk).casc = s.casc := by obtain ⟨_, _, _, h⟩ := Vc.HqOnly.finishAt i st de tk (.refl s); rw [h]
@[simp] theorem Vc.finishAt_voter (s : Vc) (i st de tk : Nat) : (s.finishAt i st de tk).voter = s.voter := by obtain ⟨_, _, _, h⟩ := Vc.HqOnly.finishAt i st de tk (.refl s); rw [h]
@[simp] theorem Vc.finishAt_boot (s : Vc) (i st de tk : Nat) : (s.finishAt i st de tk).boot = s.boot := by obtain ⟨_, _, _, h⟩ := Vc.HqOnly.finishAt i st de tk (.refl s); rw [h]
@[simp] theorem Vc.finishAt_comps (s : Vc) (i st de tk : Nat) : (s.finishAt i st de tk).comps = s.comps := by obtain ⟨_, _, _, h⟩ := Vc.HqOnly.finishAt i st de tk (.refl s); rw [h]
@[simp] theorem Vc.haltSq_frac (s : Vc) (q a b c : Nat) : (s.haltSq q a b c).frac = s.frac := by obtain ⟨_, _, _, h⟩ := Vc.HqOnly.haltSq q a b c (.refl s); rw [h]
@[simp] theorem Vc.haltSq_now (s : Vc) (q a b c : Nat) : (s.haltSq q a b c).now = s.now := by obtain ⟨_, _, _, h⟩ := Vc.HqOnly.haltSq q a b c (.refl s); rw [h]
@[simp] theorem Vc.haltSq_ticks (s : Vc) (q a b c : Nat) : (s.haltSq q a b c).ticks = s.ticks := by obtain ⟨_, _, _, h⟩ := Vc.HqOnly.haltSq q a b c (.refl s); rw [h]
@[simp] theorem Vc.haltSq_free (s : Vc) (q a b c : Nat) : (s.haltSq q a b c).free = s.free := by obtain ⟨_, _, _, h⟩ := Vc.HqOnly.haltSq q a b c (.refl s); rw [h]
@[simp] theorem Vc.haltSq_resetUntil (s : Vc) (q a b c : Nat) : (s.haltSq q a b c).resetUntil = s.resetUntil := by obtain ⟨_, _, _, h⟩ := Vc.HqOnly.haltSq q a b c (.refl s); rw [h]
@[simp] theorem Vc.haltSq_held (s : Vc) (q a b c : Nat) : (s.haltSq q a b c).held = s.held := by obtain ⟨_, _, _, h⟩ := Vc.HqOnly.haltSq q a b c (.refl s); rw [h]
@[simp] theorem Vc.haltSq_facets (s : Vc) (q a b c : Nat) : (s.haltSq q a b c).facets = s.facets := by obtain ⟨_, _, _, h⟩ := Vc.HqOnly.haltSq q a b c (.refl s); rw [h]
@[simp] theorem Vc.haltSq_remotes (s : Vc) (q a b c : Nat) : (s.haltSq q a b c).remotes = s.remotes := by obtain ⟨_, _, _, h⟩ := Vc.HqOnly.haltSq q a b c (.refl s); rw [h]
@[simp] theorem Vc.haltSq_arms (s : Vc) (q a b c : Nat) : (s.haltSq q a b c).arms = s.arms := by obtain ⟨_, _, _, h⟩ := Vc.HqOnly.haltSq q a b c (.refl s); rw [h]
@[simp] theorem Vc.haltSq_strs (s : Vc) (q a b c : Nat) : (s.haltSq q a b c).strs = s.strs := by obtain ⟨_, _, _, h⟩ := Vc.HqOnly.haltSq q a b c (.refl s); rw [h]
@[simp] theorem Vc.haltSq_lanes (s : Vc) (q a b c : Nat) : (s.haltSq q a b c).lanes = s.lanes := by obtain ⟨_, _, _, h⟩ := Vc.HqOnly.haltSq q a b c (.refl s); rw [h]
@[simp] theorem Vc.haltSq_prot (s : Vc) (q a b c : Nat) : (s.haltSq q a b c).prot = s.prot := by obtain ⟨_, _, _, h⟩ := Vc.HqOnly.haltSq q a b c (.refl s); rw [h]
@[simp] theorem Vc.haltSq_ledger (s : Vc) (q a b c : Nat) : (s.haltSq q a b c).ledger = s.ledger := by obtain ⟨_, _, _, h⟩ := Vc.HqOnly.haltSq q a b c (.refl s); rw [h]
@[simp] theorem Vc.haltSq_ap (s : Vc) (q a b c : Nat) : (s.haltSq q a b c).ap = s.ap := by obtain ⟨_, _, _, h⟩ := Vc.HqOnly.haltSq q a b c (.refl s); rw [h]
@[simp] theorem Vc.haltSq_lens (s : Vc) (q a b c : Nat) : (s.haltSq q a b c).lens = s.lens := by obtain ⟨_, _, _, h⟩ := Vc.HqOnly.haltSq q a b c (.refl s); rw [h]
@[simp] theorem Vc.haltSq_sched (s : Vc) (q a b c : Nat) : (s.haltSq q a b c).sched = s.sched := by obtain ⟨_, _, _, h⟩ := Vc.HqOnly.haltSq q a b c (.refl s); rw [h]
@[simp] theorem Vc.haltSq_time (s : Vc) (q a b c : Nat) : (s.haltSq q a b c).time = s.time := by obtain ⟨_, _, _, h⟩ := Vc.HqOnly.haltSq q a b c (.refl s); rw [h]
@[simp] theorem Vc.haltSq_casc (s : Vc) (q a b c : Nat) : (s.haltSq q a b c).casc = s.casc := by obtain ⟨_, _, _, h⟩ := Vc.HqOnly.haltSq q a b c (.refl s); rw [h]
@[simp] theorem Vc.haltSq_voter (s : Vc) (q a b c : Nat) : (s.haltSq q a b c).voter = s.voter := by obtain ⟨_, _, _, h⟩ := Vc.HqOnly.haltSq q a b c (.refl s); rw [h]
@[simp] theorem Vc.haltSq_boot (s : Vc) (q a b c : Nat) : (s.haltSq q a b c).boot = s.boot := by obtain ⟨_, _, _, h⟩ := Vc.HqOnly.haltSq q a b c (.refl s); rw [h]
@[simp] theorem Vc.haltSq_comps (s : Vc) (q a b c : Nat) : (s.haltSq q a b c).comps = s.comps := by obtain ⟨_, _, _, h⟩ := Vc.HqOnly.haltSq q a b c (.refl s); rw [h]
@[simp] theorem Vc.writeBuf_frac (s : Vc) (d : Desc) (a : Nat) (b : List Nat) (n : Nat) : (s.writeBuf d a b n).frac = s.frac := by obtain ⟨_, _, _, h⟩ := Vc.HqOnly.writeBuf d a b n (.refl s); rw [h]
@[simp] theorem Vc.writeBuf_now (s : Vc) (d : Desc) (a : Nat) (b : List Nat) (n : Nat) : (s.writeBuf d a b n).now = s.now := by obtain ⟨_, _, _, h⟩ := Vc.HqOnly.writeBuf d a b n (.refl s); rw [h]
@[simp] theorem Vc.writeBuf_ticks (s : Vc) (d : Desc) (a : Nat) (b : List Nat) (n : Nat) : (s.writeBuf d a b n).ticks = s.ticks := by obtain ⟨_, _, _, h⟩ := Vc.HqOnly.writeBuf d a b n (.refl s); rw [h]
@[simp] theorem Vc.writeBuf_free (s : Vc) (d : Desc) (a : Nat) (b : List Nat) (n : Nat) : (s.writeBuf d a b n).free = s.free := by obtain ⟨_, _, _, h⟩ := Vc.HqOnly.writeBuf d a b n (.refl s); rw [h]
@[simp] theorem Vc.writeBuf_resetUntil (s : Vc) (d : Desc) (a : Nat) (b : List Nat) (n : Nat) : (s.writeBuf d a b n).resetUntil = s.resetUntil := by obtain ⟨_, _, _, h⟩ := Vc.HqOnly.writeBuf d a b n (.refl s); rw [h]
@[simp] theorem Vc.writeBuf_held (s : Vc) (d : Desc) (a : Nat) (b : List Nat) (n : Nat) : (s.writeBuf d a b n).held = s.held := by obtain ⟨_, _, _, h⟩ := Vc.HqOnly.writeBuf d a b n (.refl s); rw [h]
@[simp] theorem Vc.writeBuf_facets (s : Vc) (d : Desc) (a : Nat) (b : List Nat) (n : Nat) : (s.writeBuf d a b n).facets = s.facets := by obtain ⟨_, _, _, h⟩ := Vc.HqOnly.writeBuf d a b n (.refl s); rw [h]
@[simp] theorem Vc.writeBuf_remotes (s : Vc) (d : Desc) (a : Nat) (b : List Nat) (n : Nat) : (s.writeBuf d a b n).remotes = s.remotes := by obtain ⟨_, _, _, h⟩ := Vc.HqOnly.writeBuf d a b n (.refl s); rw [h]
@[simp] theorem Vc.writeBuf_arms (s : Vc) (d : Desc) (a : Nat) (b : List Nat) (n : Nat) : (s.writeBuf d a b n).arms = s.arms := by obtain ⟨_, _, _, h⟩ := Vc.HqOnly.writeBuf d a b n (.refl s); rw [h]
@[simp] theorem Vc.writeBuf_strs (s : Vc) (d : Desc) (a : Nat) (b : List Nat) (n : Nat) : (s.writeBuf d a b n).strs = s.strs := by obtain ⟨_, _, _, h⟩ := Vc.HqOnly.writeBuf d a b n (.refl s); rw [h]
@[simp] theorem Vc.writeBuf_lanes (s : Vc) (d : Desc) (a : Nat) (b : List Nat) (n : Nat) : (s.writeBuf d a b n).lanes = s.lanes := by obtain ⟨_, _, _, h⟩ := Vc.HqOnly.writeBuf d a b n (.refl s); rw [h]
@[simp] theorem Vc.writeBuf_prot (s : Vc) (d : Desc) (a : Nat) (b : List Nat) (n : Nat) : (s.writeBuf d a b n).prot = s.prot := by obtain ⟨_, _, _, h⟩ := Vc.HqOnly.writeBuf d a b n (.refl s); rw [h]
@[simp] theorem Vc.writeBuf_ledger (s : Vc) (d : Desc) (a : Nat) (b : List Nat) (n : Nat) : (s.writeBuf d a b n).ledger = s.ledger := by obtain ⟨_, _, _, h⟩ := Vc.HqOnly.writeBuf d a b n (.refl s); rw [h]
@[simp] theorem Vc.writeBuf_ap (s : Vc) (d : Desc) (a : Nat) (b : List Nat) (n : Nat) : (s.writeBuf d a b n).ap = s.ap := by obtain ⟨_, _, _, h⟩ := Vc.HqOnly.writeBuf d a b n (.refl s); rw [h]
@[simp] theorem Vc.writeBuf_lens (s : Vc) (d : Desc) (a : Nat) (b : List Nat) (n : Nat) : (s.writeBuf d a b n).lens = s.lens := by obtain ⟨_, _, _, h⟩ := Vc.HqOnly.writeBuf d a b n (.refl s); rw [h]
@[simp] theorem Vc.writeBuf_sched (s : Vc) (d : Desc) (a : Nat) (b : List Nat) (n : Nat) : (s.writeBuf d a b n).sched = s.sched := by obtain ⟨_, _, _, h⟩ := Vc.HqOnly.writeBuf d a b n (.refl s); rw [h]
@[simp] theorem Vc.writeBuf_time (s : Vc) (d : Desc) (a : Nat) (b : List Nat) (n : Nat) : (s.writeBuf d a b n).time = s.time := by obtain ⟨_, _, _, h⟩ := Vc.HqOnly.writeBuf d a b n (.refl s); rw [h]
@[simp] theorem Vc.writeBuf_casc (s : Vc) (d : Desc) (a : Nat) (b : List Nat) (n : Nat) : (s.writeBuf d a b n).casc = s.casc := by obtain ⟨_, _, _, h⟩ := Vc.HqOnly.writeBuf d a b n (.refl s); rw [h]
@[simp] theorem Vc.writeBuf_voter (s : Vc) (d : Desc) (a : Nat) (b : List Nat) (n : Nat) : (s.writeBuf d a b n).voter = s.voter := by obtain ⟨_, _, _, h⟩ := Vc.HqOnly.writeBuf d a b n (.refl s); rw [h]
@[simp] theorem Vc.writeBuf_boot (s : Vc) (d : Desc) (a : Nat) (b : List Nat) (n : Nat) : (s.writeBuf d a b n).boot = s.boot := by obtain ⟨_, _, _, h⟩ := Vc.HqOnly.writeBuf d a b n (.refl s); rw [h]
@[simp] theorem Vc.writeBuf_comps (s : Vc) (d : Desc) (a : Nat) (b : List Nat) (n : Nat) : (s.writeBuf d a b n).comps = s.comps := by obtain ⟨_, _, _, h⟩ := Vc.HqOnly.writeBuf d a b n (.refl s); rw [h]
@[simp] theorem Vc.pump_frac (s : Vc) : (s.pump).frac = s.frac := by obtain ⟨_, _, _, h⟩ := Vc.HqOnly.pump (.refl s); rw [h]
@[simp] theorem Vc.pump_now (s : Vc) : (s.pump).now = s.now := by obtain ⟨_, _, _, h⟩ := Vc.HqOnly.pump (.refl s); rw [h]
@[simp] theorem Vc.pump_ticks (s : Vc) : (s.pump).ticks = s.ticks := by obtain ⟨_, _, _, h⟩ := Vc.HqOnly.pump (.refl s); rw [h]
@[simp] theorem Vc.pump_free (s : Vc) : (s.pump).free = s.free := by obtain ⟨_, _, _, h⟩ := Vc.HqOnly.pump (.refl s); rw [h]
@[simp] theorem Vc.pump_resetUntil (s : Vc) : (s.pump).resetUntil = s.resetUntil := by obtain ⟨_, _, _, h⟩ := Vc.HqOnly.pump (.refl s); rw [h]
@[simp] theorem Vc.pump_held (s : Vc) : (s.pump).held = s.held := by obtain ⟨_, _, _, h⟩ := Vc.HqOnly.pump (.refl s); rw [h]
@[simp] theorem Vc.pump_facets (s : Vc) : (s.pump).facets = s.facets := by obtain ⟨_, _, _, h⟩ := Vc.HqOnly.pump (.refl s); rw [h]
@[simp] theorem Vc.pump_remotes (s : Vc) : (s.pump).remotes = s.remotes := by obtain ⟨_, _, _, h⟩ := Vc.HqOnly.pump (.refl s); rw [h]
@[simp] theorem Vc.pump_arms (s : Vc) : (s.pump).arms = s.arms := by obtain ⟨_, _, _, h⟩ := Vc.HqOnly.pump (.refl s); rw [h]
@[simp] theorem Vc.pump_strs (s : Vc) : (s.pump).strs = s.strs := by obtain ⟨_, _, _, h⟩ := Vc.HqOnly.pump (.refl s); rw [h]
@[simp] theorem Vc.pump_lanes (s : Vc) : (s.pump).lanes = s.lanes := by obtain ⟨_, _, _, h⟩ := Vc.HqOnly.pump (.refl s); rw [h]
@[simp] theorem Vc.pump_prot (s : Vc) : (s.pump).prot = s.prot := by obtain ⟨_, _, _, h⟩ := Vc.HqOnly.pump (.refl s); rw [h]
@[simp] theorem Vc.pump_ledger (s : Vc) : (s.pump).ledger = s.ledger := by obtain ⟨_, _, _, h⟩ := Vc.HqOnly.pump (.refl s); rw [h]
@[simp] theorem Vc.pump_ap (s : Vc) : (s.pump).ap = s.ap := by obtain ⟨_, _, _, h⟩ := Vc.HqOnly.pump (.refl s); rw [h]
@[simp] theorem Vc.pump_lens (s : Vc) : (s.pump).lens = s.lens := by obtain ⟨_, _, _, h⟩ := Vc.HqOnly.pump (.refl s); rw [h]
@[simp] theorem Vc.pump_sched (s : Vc) : (s.pump).sched = s.sched := by obtain ⟨_, _, _, h⟩ := Vc.HqOnly.pump (.refl s); rw [h]
@[simp] theorem Vc.pump_time (s : Vc) : (s.pump).time = s.time := by obtain ⟨_, _, _, h⟩ := Vc.HqOnly.pump (.refl s); rw [h]
@[simp] theorem Vc.pump_casc (s : Vc) : (s.pump).casc = s.casc := by obtain ⟨_, _, _, h⟩ := Vc.HqOnly.pump (.refl s); rw [h]
@[simp] theorem Vc.pump_voter (s : Vc) : (s.pump).voter = s.voter := by obtain ⟨_, _, _, h⟩ := Vc.HqOnly.pump (.refl s); rw [h]
@[simp] theorem Vc.pump_boot (s : Vc) : (s.pump).boot = s.boot := by obtain ⟨_, _, _, h⟩ := Vc.HqOnly.pump (.refl s); rw [h]
@[simp] theorem Vc.pump_comps (s : Vc) : (s.pump).comps = s.comps := by obtain ⟨_, _, _, h⟩ := Vc.HqOnly.pump (.refl s); rw [h]
@[simp] theorem Vc.checkHalted_frac (s : Vc) (q : Nat) : (s.checkHalted q).frac = s.frac := by obtain ⟨_, _, _, h⟩ := Vc.HqOnly.checkHalted q (.refl s); rw [h]
@[simp] theorem Vc.checkHalted_now (s : Vc) (q : Nat) : (s.checkHalted q).now = s.now := by obtain ⟨_, _, _, h⟩ := Vc.HqOnly.checkHalted q (.refl s); rw [h]
@[simp] theorem Vc.checkHalted_ticks (s : Vc) (q : Nat) : (s.checkHalted q).ticks = s.ticks := by obtain ⟨_, _, _, h⟩ := Vc.HqOnly.checkHalted q (.refl s); rw [h]
@[simp] theorem Vc.checkHalted_free (s : Vc) (q : Nat) : (s.checkHalted q).free = s.free := by obtain ⟨_, _, _, h⟩ := Vc.HqOnly.checkHalted q (.refl s); rw [h]
@[simp] theorem Vc.checkHalted_resetUntil (s : Vc) (q : Nat) : (s.checkHalted q).resetUntil = s.resetUntil := by obtain ⟨_, _, _, h⟩ := Vc.HqOnly.checkHalted q (.refl s); rw [h]
@[simp] theorem Vc.checkHalted_held (s : Vc) (q : Nat) : (s.checkHalted q).held = s.held := by obtain ⟨_, _, _, h⟩ := Vc.HqOnly.checkHalted q (.refl s); rw [h]
@[simp] theorem Vc.checkHalted_facets (s : Vc) (q : Nat) : (s.checkHalted q).facets = s.facets := by obtain ⟨_, _, _, h⟩ := Vc.HqOnly.checkHalted q (.refl s); rw [h]
@[simp] theorem Vc.checkHalted_remotes (s : Vc) (q : Nat) : (s.checkHalted q).remotes = s.remotes := by obtain ⟨_, _, _, h⟩ := Vc.HqOnly.checkHalted q (.refl s); rw [h]
@[simp] theorem Vc.checkHalted_arms (s : Vc) (q : Nat) : (s.checkHalted q).arms = s.arms := by obtain ⟨_, _, _, h⟩ := Vc.HqOnly.checkHalted q (.refl s); rw [h]
@[simp] theorem Vc.checkHalted_strs (s : Vc) (q : Nat) : (s.checkHalted q).strs = s.strs := by obtain ⟨_, _, _, h⟩ := Vc.HqOnly.checkHalted q (.refl s); rw [h]
@[simp] theorem Vc.checkHalted_lanes (s : Vc) (q : Nat) : (s.checkHalted q).lanes = s.lanes := by obtain ⟨_, _, _, h⟩ := Vc.HqOnly.checkHalted q (.refl s); rw [h]
@[simp] theorem Vc.checkHalted_prot (s : Vc) (q : Nat) : (s.checkHalted q).prot = s.prot := by obtain ⟨_, _, _, h⟩ := Vc.HqOnly.checkHalted q (.refl s); rw [h]
@[simp] theorem Vc.checkHalted_ledger (s : Vc) (q : Nat) : (s.checkHalted q).ledger = s.ledger := by obtain ⟨_, _, _, h⟩ := Vc.HqOnly.checkHalted q (.refl s); rw [h]
@[simp] theorem Vc.checkHalted_ap (s : Vc) (q : Nat) : (s.checkHalted q).ap = s.ap := by obtain ⟨_, _, _, h⟩ := Vc.HqOnly.checkHalted q (.refl s); rw [h]
@[simp] theorem Vc.checkHalted_lens (s : Vc) (q : Nat) : (s.checkHalted q).lens = s.lens := by obtain ⟨_, _, _, h⟩ := Vc.HqOnly.checkHalted q (.refl s); rw [h]
@[simp] theorem Vc.checkHalted_sched (s : Vc) (q : Nat) : (s.checkHalted q).sched = s.sched := by obtain ⟨_, _, _, h⟩ := Vc.HqOnly.checkHalted q (.refl s); rw [h]
@[simp] theorem Vc.checkHalted_time (s : Vc) (q : Nat) : (s.checkHalted q).time = s.time := by obtain ⟨_, _, _, h⟩ := Vc.HqOnly.checkHalted q (.refl s); rw [h]
@[simp] theorem Vc.checkHalted_casc (s : Vc) (q : Nat) : (s.checkHalted q).casc = s.casc := by obtain ⟨_, _, _, h⟩ := Vc.HqOnly.checkHalted q (.refl s); rw [h]
@[simp] theorem Vc.checkHalted_voter (s : Vc) (q : Nat) : (s.checkHalted q).voter = s.voter := by obtain ⟨_, _, _, h⟩ := Vc.HqOnly.checkHalted q (.refl s); rw [h]
@[simp] theorem Vc.checkHalted_boot (s : Vc) (q : Nat) : (s.checkHalted q).boot = s.boot := by obtain ⟨_, _, _, h⟩ := Vc.HqOnly.checkHalted q (.refl s); rw [h]
@[simp] theorem Vc.checkHalted_comps (s : Vc) (q : Nat) : (s.checkHalted q).comps = s.comps := by obtain ⟨_, _, _, h⟩ := Vc.HqOnly.checkHalted q (.refl s); rw [h]

end Sys2Proof.Machine
end

