-- ==== Sys2Proof/Laws/HostWrite.lean ====
section
/-!
SUPPORT. Laws/HostWrite.lean: a host write that breaks no rule of R53 does what the register's own rule says.
-/
namespace Sys2Proof.Machine
set_option Elab.async false
open Reg

/-- An offset is the register of a tag at indices i and j; its row has no lock, and its fields take every value. -/
def rowIs (addr : Nat) (tag : RegTag) (i j : Nat) : Bool :=
  match findRow (vcRows (addr / 65536)) addr with
  | some (r, i', j') => r.tag = tag && i' = i && j' = j && r.lockF.isNone && r.parts.all fun p => p.ok = []
  | none => false

/-- Such a register is mapped, unlocked, and takes every word. -/
theorem Vc.mapped_at (s : Vc) (addr w : Nat) (tag : RegTag) (i j : Nat) (hr : rowIs addr tag i j = true) (ht : tag ≠ .portlink)
    (hb : s.rd BOOT.STATUS.STATE ≠ 2 ∨ addr / 65536 ∈ [0, 1, 0x15, 0x16]) :
    ∃ r : Row, r.tag = tag ∧ s.mapped addr = some (r, i, j) ∧ s.lockedRow r i = false ∧ r.takes w = true := by
  unfold rowIs at hr
  split at hr
  · rename_i r i' j' hf
    simp only [Bool.and_eq_true, decide_eq_true_eq, List.all_eq_true, Option.isNone_iff_eq_none] at hr
    obtain ⟨⟨⟨⟨h1, h2⟩, h3⟩, h4⟩, h5⟩ := hr
    subst h2 h3
    have hh : (s.bootHalted && addr / 65536 ≠ 0 && addr / 65536 ≠ 1 && addr / 65536 ≠ 0x15 && addr / 65536 ≠ 0x16) = false := by
      rcases hb with hb | hb
      · simp [Vc.bootHalted, hb]
      · simp only [List.mem_cons, List.not_mem_nil, or_false] at hb
        rcases hb with hb | hb | hb | hb <;> simp [hb]
    have hm : s.mapped addr = some (r, i', j') := by
      unfold Vc.mapped
      have hn : ¬ r.tag = .portlink := h1 ▸ ht
      dsimp only
      rw [hh]
      simp [hf, hn]
    have hk : r.takes w = true := by
      unfold Row.takes
      rw [List.all_eq_true]
      intro p hp
      simp [h5 p hp]
    exact ⟨r, h1, hm, by simp [Vc.lockedRow, h4], hk⟩
  · simp at hr

/-- A write of a register outside the control-die state takes effect at once. -/
theorem Vc.regWrite_at (s : Vc) (addr w : Nat) (tag : RegTag) (i j : Nat) (hr : rowIs addr tag i j = true) (ht : tag ≠ .portlink)
    (hw : inWindow addr = false) (hb : s.rd BOOT.STATUS.STATE ≠ 2 ∨ addr / 65536 ∈ [0, 1, 0x15, 0x16]) (hn : atBoundary addr = false) :
    ∃ r : Row, r.tag = tag ∧ s.regWrite addr w = s.writeRow r addr w i j := by
  obtain ⟨r, h1, hm, hl, hk⟩ := Vc.mapped_at s addr w tag i j hr ht hb
  refine ⟨r, h1, ?_⟩
  unfold Vc.regWrite
  rw [hw, hm]
  simp [hl, hk, hn]

/-- A host write of control-die state waits for the tick boundary (R37). -/
theorem Vc.hostWr_held (s : Vc) (req : BitVec 16) (addr : Nat) (w : Word) (tag : RegTag) (i j : Nat) (hr : rowIs addr tag i j = true)
    (ht : tag ≠ .portlink) (ha : addr % 4 = 0) (hw : inWindow addr = false) (hb : s.rd BOOT.STATUS.STATE ≠ 2) (hn : atBoundary addr = true) :
    s.hostWr req addr w true = (s.asHost req.toNat).hold (.host req.toNat 15 addr w.toNat) := by
  obtain ⟨r, h1, hm, hl, hk⟩ := Vc.mapped_at (s.asHost req.toNat) addr w.toNat tag i j hr ht (.inl hb)
  unfold Vc.hostWr Vc.barWrite
  simp only [if_true]
  rw [if_neg (by omega)]
  change (s.asHost req.toNat).regWrite addr w.toNat = _
  unfold Vc.regWrite
  rw [hw, hm]
  simp only [Bool.false_and, hl, hk, hn]
  rfl

/-- At the boundary such a write does what the register's own rule says. -/
theorem Vc.writeNow_at (s : Vc) (req be addr w : Nat) (tag : RegTag) (i j : Nat) (hr : rowIs addr tag i j = true) (ht : tag ≠ .portlink)
    (hb : s.rd BOOT.STATUS.STATE ≠ 2) :
    ∃ r : Row, r.tag = tag ∧ s.writeNow req be addr w =
      ({ s with host := { s.host with access := { req := req, byteEn := be } } } : Vc).writeRow r addr w i j := by
  obtain ⟨r, h1, hm, hl, _⟩ := Vc.mapped_at ({ s with host := { s.host with access := { req := req, byteEn := be } } } : Vc) addr w tag i j
    hr ht (.inl hb)
  refine ⟨r, h1, ?_⟩
  unfold Vc.writeNow
  dsimp only
  rw [hm]
  simp [hl]

theorem Vc.hostWr_at (s : Vc) (req : BitVec 16) (addr : Nat) (w : Word) (tag : RegTag) (i j : Nat) (hr : rowIs addr tag i j = true)
    (ht : tag ≠ .portlink) (ha : addr % 4 = 0) (hw : inWindow addr = false) (hb : s.rd BOOT.STATUS.STATE ≠ 2 ∨ addr / 65536 ∈ [0, 1, 0x15, 0x16])
    (hn : atBoundary addr = false) :
    ∃ r : Row, r.tag = tag ∧ s.hostWr req addr w true = (s.asHost req.toNat).writeRow r addr w.toNat i j := by
  obtain ⟨r, h1, h2⟩ := Vc.regWrite_at (s.asHost req.toNat) addr w.toNat tag i j hr ht hw hb hn
  refine ⟨r, h1, ?_⟩
  rw [← h2]
  unfold Vc.hostWr Vc.barWrite
  simp only [if_true]
  rw [if_neg (by omega)]
  rfl

@[simp] theorem Vc.hostWr_false (s : Vc) (req : BitVec 16) (addr : Nat) (w : Word) : s.hostWr req addr w false = s := rfl

/-- What a write does to a register whose rule does not need its row. -/
def Vc.rule (s : Vc) (tag : RegTag) (_addr w i _j : Nat) : Vc :=
  match tag with
  | .resetctl => s.resetCtl w
  | .voterctl => s.voterCtrl w
  | .errctl => s.clrSummary w
  | .casctl => (s.cascCtrl w).refreshCasc
  | .lensctl => s.clrLoad w
  | .setpt => s.setPoint i w
  | .ctxctl => s.ctxCtrl i w
  | .prismctl => if bit w 0 then s.wr PRISM.TIMING.MAX_END_NS 0 else s
  | .strmap => s.strMap i w
  | .armctl => s.armCtl i w
  | .protctl => s.protCtrl w
  | .prottest => s.protTest w
  | .tokcfg => s.tokCfg i w
  | .fire => s.fireWrite w
  | .itemctl => s.itemCtl w
  | .strctl =>
    let s := s.strCtrl i w
    if bit w 0 && !s.host.access.bad then s.lanesBegin else s
  | .lanectl => s.laneCtrl i w
  | .align => s.alignWrite i w
  | .lanetest => s.laneTest i w
  | .portlink => s
  | .timecfg => s.timeCfg w
  | .timectl => s.timeCtrl w
  | .sqcfg => s.sqCfg i w
  | .sqctl => s.sqCtrl i w
  | .cqcfg => s.cqCfg i w
  | .sqdb => s.sqDoorbell i w
  | .cqdb => s.cqDoorbell i w
  | .ledgerctl => (s.ledgerCtrl w).xKick
  | .apctl => s.apCtrl w
  | .compcfg => s.companionCfg w
  | .acc => s.companionAccess i w
  | .bootctl => s.bootCtrl w
  | _ => s

/-- The registers of that kind. -/
def ruled : List RegTag :=
  [.resetctl, .voterctl, .errctl, .casctl, .lensctl, .setpt, .ctxctl, .prismctl, .strmap, .armctl, .protctl, .prottest, .tokcfg, .fire, .itemctl, .strctl, .lanectl, .align, .lanetest, .portlink, .timecfg, .timectl, .sqcfg, .sqctl, .cqcfg, .sqdb, .cqdb, .ledgerctl, .apctl, .compcfg, .acc, .bootctl]

theorem Vc.writeRow_rule (s : Vc) (r : Row) (addr w i j : Nat) (h : r.tag ∈ ruled) : s.writeRow r addr w i j = s.rule r.tag addr w i j := by
  unfold Vc.writeRow Vc.rule
  generalize r.tag = tag at h
  cases tag <;> first | exact absurd h (by decide) | with_reducible rfl

/-- A host write of such a register that breaks no rule of R53. -/
theorem Vc.hostWr_rule (s : Vc) (req : BitVec 16) (addr : Nat) (w : Word) (tag : RegTag) (i j : Nat) (hr : rowIs addr tag i j = true)
    (hm : tag ∈ ruled) (ht : tag ≠ .portlink) (ha : addr % 4 = 0) (hw : inWindow addr = false) (hb : s.rd BOOT.STATUS.STATE ≠ 2 ∨ addr / 65536 ∈ [0, 1, 0x15, 0x16])
    (hn : atBoundary addr = false) :
    s.hostWr req addr w true = (s.asHost req.toNat).rule tag addr w.toNat i j := by
  obtain ⟨r, h1, h2⟩ := Vc.hostWr_at s req addr w tag i j hr ht ha hw hb hn
  rw [h2, Vc.writeRow_rule _ _ _ _ _ _ (h1 ▸ hm), h1]

/-- At the boundary a write of such a register of the control dies does what its rule says. -/
theorem Vc.writeNow_rule (s : Vc) (req be addr w : Nat) (tag : RegTag) (i j : Nat) (hr : rowIs addr tag i j = true)
    (hm : tag ∈ ruled) (ht : tag ≠ .portlink) (hb : s.rd BOOT.STATUS.STATE ≠ 2) :
    s.writeNow req be addr w = ({ s with host := { s.host with access := { req := req, byteEn := be } } } : Vc).rule tag addr w i j := by
  obtain ⟨r, h1, h2⟩ := Vc.writeNow_at s req be addr w tag i j hr ht hb
  rw [h2, Vc.writeRow_rule _ _ _ _ _ _ (h1 ▸ hm), h1]

theorem rowIs_stringCtrl : ∀ n : Fin 48, rowIs (0x80004 + 0x400 * n) .strctl n 0 = true := by decide
theorem rowIs_laneCtrl : ∀ n : Fin 108, rowIs (0xC0004 + 0x200 * n) .lanectl n 0 = true := by decide
theorem rowIs_armCtl : ∀ n : Fin 12, rowIs (0x4101C + 0x100 * n) .armctl n 0 = true := by decide
theorem rowIs_ctxCtl : ∀ n : Fin 16, rowIs (0x3100C + 0x800 * n) .ctxctl n 0 = true := by decide
theorem rowIs_setpt : ∀ n : Fin 64, rowIs (0x30100 + 4 * n) .setpt n 0 = true := by decide

end Sys2Proof.Machine
end

