-- ==== Sys2Proof/Laws/Effects.lean ====
section
/-!
SUPPORT. Laws/Effects.lean: what the shared effects do (a latch, a block, a violation), for proofs to cite instead of unfolding them.
-/
namespace Sys2Proof.Machine
set_option Elab.async false
open Reg

/-- The bit set is set. -/
theorem bit_withBit (n i : Nat) : bit (withBit n i) i = true := by
  unfold withBit
  split
  · assumption
  · rename_i h
    unfold bit at h ⊢
    simp only [decide_eq_true_eq] at h ⊢
    rw [Nat.add_div_right _ (Nat.two_pow_pos i)]
    omega

/-- A bit set within a width stays set in it. -/
theorem setBit_mod (n w i : Nat) (h : i < w) : bit (withBit n i % 2 ^ w) i = true := by
  have h1 := bit_withBit n i
  unfold bit at *
  simp only [decide_eq_true_eq] at *
  generalize withBit n i = m at *
  rw [← h1]
  have e : 2 ^ w = 2 ^ i * 2 ^ (w - i) := by rw [← Nat.pow_add]; congr 1; omega
  rw [e, Nat.mod_mul_right_div_self]
  exact Nat.mod_mod_of_dvd _ (Nat.dvd_of_pow_dvd (k := 1) (by omega) (Nat.pow_dvd_pow 2 (by omega)))

/-- Latching a cause sets its bit in CAUSE (R139). -/
theorem Vc.latchCause_bit (s : Vc) (c : Nat) (pre : List Rec) (a ch v x : Nat) (fr : Option (Nat × Nat)) (ps : List Nat)
    (hc : c - 1 < PROT.LATCH.CAUSE.w) : bit ((s.latchCause c pre a ch v x fr ps).rd PROT.LATCH.CAUSE) (c - 1) = true := by
  unfold Vc.latchCause
  dsimp only
  rw [Vc.rd_event _ _ _ _ _ (by decide)]
  have h1 := setBit_mod (s.rd PROT.LATCH.CAUSE) _ _ hc
  split
  · simpa [Vc.rd_wr_same, Vc.setBit] using h1
  · simpa (disch := decide) [Vc.rd_wr_same, Vc.rd_mk, Vc.get_regs, Vc.rd_wr_ne, Vc.rd_wr_val, Vc.rd_event, Vc.rd_irq, Vc.rd_flashEvent, Vc.setBit, Vc.set1] using h1

/-- The first cause latched blocks the valve and is FIRSTCAUSE (R139). -/
theorem Vc.latchCause_first (s : Vc) (c : Nat) (pre : List Rec) (a ch v x : Nat) (fr : Option (Nat × Nat)) (ps : List Nat)
    (h : s.latched = false) (hc : c < 2 ^ PROT.FIRSTCAUSE.CAUSE.w) : (s.latchCause c pre a ch v x fr ps).rd GLOBAL.STATUS.BLOCKED = 1 ∧
      (s.latchCause c pre a ch v x fr ps).rd PROT.FIRSTCAUSE.CAUSE = c := by
  have hm : c % 2 ^ PROT.FIRSTCAUSE.CAUSE.w = c := Nat.mod_eq_of_lt hc
  unfold Vc.latchCause
  simp only [h]
  constructor <;> simp (disch := decide) [Vc.rd_wr_same, hm, Vc.rd_event, Vc.rd_flashEvent, Vc.setBit, Vc.set1]

/-- A host block blocks the valve and sets HOST_BLK (R139). -/
theorem Vc.hostBlock_set (s : Vc) : s.hostBlock.rd GLOBAL.STATUS.BLOCKED = 1 ∧ s.hostBlock.rd PROT.STATUS.HOST_BLK = 1 := by
  unfold Vc.hostBlock
  dsimp only
  split <;> simp (disch := decide) [-Vc.rd_wr_same, Vc.rd_wr_val, Vc.rd_flashEvent, Vc.set1]

/-- The cascade off: STATE 0, not READY (R36). -/
theorem Vc.cascOff_set (s : Vc) : s.cascOff.rd CASCADE.STATUS.STATE = 0 ∧ s.cascOff.rd CASCADE.STATUS.READY = 0 := by
  unfold Vc.cascOff
  dsimp only
  split <;> simp (disch := decide) [-Vc.rd_wr_same, Vc.rd_wr_val]

/-- Every access violation is counted, saturating (R53). -/
theorem Vc.violation_count (v : Vc) (c a : Nat) (w : Bool) (q b : Nat) (i : Bool) :
    (v.violation c a w q b i).rd ERR.VIOL_CNT.COUNT = sat 32 (v.rd ERR.VIOL_CNT.COUNT + 1) := by
  have hs : sat 32 (v.rd ERR.VIOL_CNT.COUNT + 1) < 2 ^ ERR.VIOL_CNT.COUNT.w := by
    unfold sat
    show _ < 2 ^ 32
    omega
  unfold Vc.violation
  dsimp only
  split <;> simp (disch := decide) [Vc.count, -Vc.rd_wr_same, Vc.rd_event, Vc.set1] <;> exact Vc.rd_wr_val _ _ _ _ _ hs

/-- A refused write is an access violation (R53). -/
theorem Vc.badWrite_count (v : Vc) (c a : Nat) : (v.badWrite c a).rd ERR.VIOL_CNT.COUNT = sat 32 (v.rd ERR.VIOL_CNT.COUNT + 1) := by
  unfold Vc.badWrite
  dsimp only
  split <;> exact Vc.violation_count _ _ _ _ _ _ _

end Sys2Proof.Machine
end

