-- ==== Sys2Proof/Laws/Idle.lean ====
section
/-!
SUPPORT. Laws/Idle.lean: what a step on an empty queue can do: cores execute, and nothing else moves.
-/
namespace Sys2Proof.Machine
set_option Elab.async false

@[simp] theorem State.cellCore_scs (s : State) (n : Nat) : (s.cellCore n).scs = s.scs := rfl
@[simp] theorem State.cellCore_pending (s : State) (n : Nat) : (s.cellCore n).pending = s.pending := rfl

/-- A cell's core changes nothing of the controller but what was sent and the counter of free values. -/
theorem State.cellCore_vc (s : State) (n : Nat) : ∃ out free, (s.cellCore n).vc = { s.vc with out := out, free := free } := ⟨_, _, rfl⟩

/-- A cell's core leaves every other cell. -/
theorem State.cellCore_cell_ne (s : State) (n m : Nat) (h : m ≠ n) : (s.cellCore n).cell m = s.cell m :=
  State.putCw_cell_ne _ _ _ _ h

theorem State.cellCore_canon (s : State) (n : Nat) (h : s.Canon) : (s.cellCore n).Canon := State.putCw_canon _ _ _ h.1 h

/-- Of a fold over units, what each step keeps is kept. -/
theorem State.foldl_keeps {α : Type} (p : State → Prop) (f : State → α → State) (hf : ∀ s a, p s → p (f s a)) :
    ∀ (l : List α) (s : State), p s → p (l.foldl f s)
  | [], _, h => h
  | a :: l, s, h => State.foldl_keeps p f hf l (f s a) (hf s a h)

theorem State.runCores_canon (s : State) (h : s.Canon) : s.runCores.Canon := by
  refine State.foldl_keeps State.Canon _ State.cellCore_canon _ _ ⟨?_, h.2.1, h.2.2⟩
  have hv : Memory.wf s.vc.runCores.flash = true := by rw [Vc.runCores_flash]; exact h.1
  exact hv

@[simp] theorem State.runCores_scs (s : State) : s.runCores.scs = s.scs :=
  State.foldl_keeps (fun t => t.scs = s.scs) _ (fun t n (h : t.scs = s.scs) => (State.cellCore_scs t n).trans h) _ _ rfl
@[simp] theorem State.runCores_pending (s : State) : s.runCores.pending = s.pending :=
  State.foldl_keeps (fun t => t.pending = s.pending) _ (fun t n (h : t.pending = s.pending) => (State.cellCore_pending t n).trans h) _ _ rfl

/-- An idle step keeps the canonical form, the companions and the queue. -/
theorem State.idle_canon (s : State) (h : s.Canon) : s.idle.Canon := by
  unfold State.idle
  split
  · exact State.runCores_canon s h
  · exact h
@[simp] theorem State.idle_scs (s : State) : s.idle.scs = s.scs := by unfold State.idle; split <;> simp
@[simp] theorem State.idle_pending (s : State) : s.idle.pending = s.pending := by unfold State.idle; split <;> simp

end Sys2Proof.Machine
end

