-- ==== Sys2Proof/Laws/Vt.lean ====
section
/-!
SUPPORT. Laws/Vt.lean: the operations that a tick runs leave valve time as it was.

-/
namespace Sys2Proof.Machine
set_option Elab.async false
open Reg

@[simp] theorem foldl_vt {α : Type} (f : Vc → α → Vc) (h : ∀ s a, (f s a).vt = s.vt) (l : List α) (s : Vc) :
    (l.foldl f s).vt = s.vt := by
  induction l generalizing s with
  | nil => rfl
  | cons a l ih => rw [List.foldl_cons, ih, h]
@[simp] theorem forN_vt (n : Nat) (s : Vc) (f : Vc → Nat → Vc) (h : ∀ s a, (f s a).vt = s.vt) :
    (forN n s f).vt = s.vt := foldl_vt f h _ s
@[simp] theorem foldl1_vt {α β : Type} (f : Vc × β → α → Vc × β) (h : ∀ s a, (f s a).1.vt = s.1.vt) (l : List α)
    (s : Vc × β) : (l.foldl f s).1.vt = s.1.vt := by
  induction l generalizing s with
  | nil => rfl
  | cons a l ih => rw [List.foldl_cons, ih, h]
@[simp] theorem ite_vt (c : Prop) [Decidable c] (a b : Vc) : (if c then a else b).vt = if c then a.vt else b.vt :=
  apply_ite _ _ _ _
@[simp] theorem ite1_vt {β : Type} (c : Prop) [Decidable c] (a b : Vc × β) :
    (if c then a else b).1.vt = if c then a.1.vt else b.1.vt := apply_ite (fun x : Vc × β => x.1.vt) _ _ _

@[simp] theorem Vc.wr_vt (s : Vc) (f : Fld) (v : Nat) (i : Nat) (j : Nat) : (Vc.wr s f v i j).vt = s.vt := by
  unfold Vc.wr
  with_reducible rfl

@[simp] theorem Vc.set1_vt (s : Vc) (f : Fld) (i : Nat) (j : Nat) : (Vc.set1 s f i j).vt = s.vt := by
  simp [Vc.set1]

@[simp] theorem Vc.count_vt (s : Vc) (f : Fld) (i : Nat) (j : Nat) (n : Nat) : (Vc.count s f i j n).vt = s.vt := by
  simp [Vc.count]

@[simp] theorem Vc.setBit_vt (s : Vc) (f : Fld) (b : Nat) (i : Nat) : (Vc.setBit s f b i).vt = s.vt := by
  simp [Vc.setBit]

@[simp] theorem Vc.setFacet_vt (s : Vc) (n : Nat) (f : Facet) : (Vc.setFacet s n f).vt = s.vt := by
  unfold Vc.setFacet
  with_reducible rfl

@[simp] theorem Vc.setStr_vt (s : Vc) (n : Nat) (x : Str) : (Vc.setStr s n x).vt = s.vt := by
  unfold Vc.setStr
  with_reducible rfl

@[simp] theorem Vc.setLane_vt (s : Vc) (n : Nat) (x : LaneSt) : (Vc.setLane s n x).vt = s.vt := by
  unfold Vc.setLane
  with_reducible rfl

@[simp] theorem Vc.setToken_vt (s : Vc) (n : Nat) (x : Token) : (Vc.setToken s n x).vt = s.vt := by
  unfold Vc.setToken
  with_reducible rfl

@[simp] theorem Vc.setCq_vt (s : Vc) (n : Nat) (x : CqSt) : (Vc.setCq s n x).vt = s.vt := by
  unfold Vc.setCq
  with_reducible rfl

@[simp] theorem Vc.setSqTail_vt (s : Vc) (n v : Nat) : (Vc.setSqTail s n v).vt = s.vt := by
  unfold Vc.setSqTail
  with_reducible rfl

@[simp] theorem Vc.setStat_vt (s : Vc) (n : Nat) (x : FacetStat) : (Vc.setStat s n x).vt = s.vt := by
  unfold Vc.setStat
  with_reducible rfl

@[simp] theorem Vc.emit_vt (s : Vc) (e : Emit) : (Vc.emit s e).vt = s.vt := by
  unfold Vc.emit
  with_reducible rfl

@[simp] theorem Vc.msix_vt (s : Vc) (v : Nat) : (Vc.msix s v).vt = s.vt := by
  simp [Vc.msix]

@[simp] theorem Vc.irq_vt (s : Vc) (src : Nat) : (Vc.irq s src).vt = s.vt := by
  simp [Vc.irq]

@[simp] theorem Vc.summary_vt (s : Vc) (level cls : Nat) : (Vc.summary s level cls).vt = s.vt := by
  simp [Vc.summary]

@[simp] theorem Vc.corrected_vt (s : Vc) (level : Nat) : (Vc.corrected s level).vt = s.vt := by
  simp [Vc.corrected]

@[simp] theorem Vc.errRec_vt (s : Vc) (r : Rec) : (Vc.errRec s r).vt = s.vt := by
  simp [Vc.errRec]

@[simp] theorem Vc.queueRec_vt (s : Vc) (q : QRec) : (Vc.queueRec s q).vt = s.vt := by
  simp [Vc.queueRec]

@[simp] theorem Vc.closeRecs_vt (s : Vc) : (Vc.closeRecs s).vt = s.vt := by
  simp [Vc.closeRecs]

@[simp] theorem Vc.event_vt (s : Vc) (rs : List Rec) : (Vc.event s rs).vt = s.vt := by
  unfold Vc.event
  split <;> simp

@[simp] theorem Vc.cascBlocks_vt (s : Vc) (pairs : List Nat) (payload : Nat) : (Vc.cascBlocks s pairs payload).vt = s.vt := by
  simp [Vc.cascBlocks]

@[simp] theorem Vc.markSeen_vt (s : Vc) (id : Nat × Nat) : (Vc.markSeen s id).vt = s.vt := by
  simp [Vc.markSeen]

@[simp] theorem Vc.nextFlash_vt (s : Vc) : (Vc.nextFlash s).vt = s.vt := by
  unfold Vc.nextFlash
  with_reducible rfl

@[simp] theorem Vc.flashString_vt (s : Vc) (blk n : Nat) : (Vc.flashString s blk n).vt = s.vt := by
  unfold Vc.flashString
  dsimp only
  split <;> simp

@[simp] theorem Vc.flashEvent_vt (s : Vc) (cause : Nat) (from? : Option (Nat × Nat)) (pairs : List Nat) : (Vc.flashEvent s cause from? pairs).vt = s.vt := by
  simp [Vc.flashEvent]

@[simp] theorem Vc.latchCause_vt (s : Vc) (cause : Nat) (pre : List Rec) (lane ch value index : Nat)
    (from? : Option (Nat × Nat) := none) (pairs : List Nat) : (Vc.latchCause s cause pre lane ch value index from? pairs).vt = s.vt := by
  simp [Vc.latchCause]

@[simp] theorem Vc.hold_vt (s : Vc) (h : Held) : (Vc.hold s h).vt = s.vt := by
  unfold Vc.hold
  with_reducible rfl

@[simp] theorem Vc.modDesc_vt (s : Vc) (id : Nat) (f : Desc → Desc) : (Vc.modDesc s id f).vt = s.vt := by
  unfold Vc.modDesc
  with_reducible rfl

@[simp] theorem Vc.cqMessage_vt (s : Vc) (c : Nat) : (Vc.cqMessage s c).vt = s.vt := by
  simp [Vc.cqMessage]

@[simp] theorem Vc.post_vt (s : Vc) (d : Desc) (status detail tick : Nat) : (Vc.post s d status detail tick).vt = s.vt := by
  unfold Vc.post
  (repeat' split) <;> simp_all

@[simp] theorem Vc.checkHalted_vt (s : Vc) (q : Nat) : (Vc.checkHalted s q).vt = s.vt := by
  simp [Vc.checkHalted]

@[simp] theorem Vc.postOne_vt (s : Vc) (id : Nat) : (Vc.postOne s id).vt = s.vt := by
  unfold Vc.postOne
  (repeat' split) <;> simp

@[simp] theorem Vc.haltSq_vt (s : Vc) (q cause tag slot : Nat) : (Vc.haltSq s q cause tag slot).vt = s.vt := by
  simp [Vc.haltSq]

@[simp] theorem Vc.endDesc_vt (s : Vc) (d : Desc) (status detail tick : Nat) : (Vc.endDesc s d status detail tick).vt = s.vt := by
  simp [Vc.endDesc]

@[simp] theorem Vc.startOne_vt (s : Vc) (id : Nat) : (Vc.startOne s id).vt = s.vt := by
  unfold Vc.startOne
  split <;> simp

@[simp] theorem Vc.pump_vt (s : Vc) : (Vc.pump s).vt = s.vt := by
  simp [Vc.pump]

@[simp] theorem Vc.finishAt_vt (s : Vc) (id status detail tick : Nat) : (Vc.finishAt s id status detail tick).vt = s.vt := by
  unfold Vc.finishAt
  split <;> simp

@[simp] theorem Vc.finish_vt (s : Vc) (id status : Nat) (detail : Nat) : (Vc.finish s id status detail).vt = s.vt := by
  simp [Vc.finish]

@[simp] theorem Vc.withDesc_vt (s : Vc) (id type : Nat) (f : Vc → Desc → Vc) (h : ∀ s d, (f s d).vt = s.vt) :
    (s.withDesc id type f).vt = s.vt := by
  unfold Vc.withDesc
  repeat' (first | with_reducible rfl | (simp [h]; done) | split)

@[simp] theorem Vc.writeBuf_vt (s : Vc) (d : Desc) (a : Nat) (bs : List Nat) (detail : Nat) : (Vc.writeBuf s d a bs detail).vt = s.vt := by
  simp [Vc.writeBuf]

@[simp] theorem Vc.setArm_vt (s : Vc) (a : Nat) (x : ArmSt) : (Vc.setArm s a x).vt = s.vt := by
  unfold Vc.setArm
  with_reducible rfl

@[simp] theorem Vc.setRemote_vt (s : Vc) (g : Nat) (x : Remote) : (Vc.setRemote s g x).vt = s.vt := by
  unfold Vc.setRemote
  with_reducible rfl

@[simp] theorem Vc.setCtx_vt (s : Vc) (c : Nat) (x : Ctx) : (Vc.setCtx s c x).vt = s.vt := by
  unfold Vc.setCtx
  with_reducible rfl

@[simp] theorem Vc.spare_vt (s : Vc) (a code data : Nat) (pre : List Rec) : (Vc.spare s a code data pre).vt = s.vt := by
  simp [Vc.spare]

@[simp] theorem Vc.markMismatch_vt (s : Vc) (f : Facet) : (Vc.markMismatch s f).vt = s.vt := by
  simp [Vc.markMismatch]

@[simp] theorem Vc.leaveService_vt (s : Vc) (n cause : Nat) : (Vc.leaveService s n cause).vt = s.vt := by
  unfold Vc.leaveService
  dsimp only
  (repeat' split) <;> simp

@[simp] theorem Vc.enterService_vt (s : Vc) (n tick : Nat) : (Vc.enterService s n tick).vt = s.vt := by
  simp [Vc.enterService]

@[simp] theorem Vc.takeReport_vt (s : Vc) (n : Nat) (r : RxRep) (f : Facet) (badOther : Bool) : (Vc.takeReport s n r f badOther).vt = s.vt := by
  simp [Vc.takeReport]

@[simp] theorem Vc.missReport_vt (s : Vc) (n : Nat) (f : Facet) : (Vc.missReport s n f).vt = s.vt := by
  simp [Vc.missReport]

@[simp] theorem Vc.keepUnmapped_vt (s : Vc) (n : Nat) : (Vc.keepUnmapped s n).vt = s.vt := by
  simp [Vc.keepUnmapped]

@[simp] theorem Vc.commitFacet_vt (s : Vc) (n : Nat) (rx : List RxRep) : (Vc.commitFacet s n rx).vt = s.vt := by
  unfold Vc.commitFacet
  dsimp only
  split <;> simp

@[simp] theorem Vc.issueLocal_vt (s : Vc) (n mode edge newC eff : Nat) : (Vc.issueLocal s n mode edge newC eff).vt = s.vt := by
  simp [Vc.issueLocal]

@[simp] theorem Vc.issueOne_vt (s : Vc) (eff : Nat) (i : Issue) : (Vc.issueOne s eff i).vt = s.vt := by
  simp [Vc.issueOne]

@[simp] theorem Vc.putAgg_vt (s : Vc) (a : Nat) : (Vc.putAgg s a).vt = s.vt := by
  simp [Vc.putAgg]

@[simp] theorem Vc.selectArmTick_vt (s : Vc) (a : Nat) : (Vc.selectArmTick s a).1.vt = s.vt := by
  simp [Vc.selectArmTick]

@[simp] theorem Vc.putLnk_vt (s : Vc) (l : Nat) (x : Lnk) : (Vc.putLnk s l x).vt = s.vt := by
  simp [Vc.putLnk]

@[simp] theorem Vc.emitLane_vt (s : Vc) (l : Nat) (e : LinkEnd → Emit) : (Vc.emitLane s l e).vt = s.vt := by
  unfold Vc.emitLane
  split <;> simp

@[simp] theorem Vc.useEntry_vt (s : Vc) (l : Nat) (e : Option Nat) : (Vc.useEntry s l e).vt = s.vt := by
  simp [Vc.useEntry]

@[simp] theorem Vc.train_vt (s : Vc) (l : Nat) (o : LnkOut) : (Vc.train s l o).vt = s.vt := by
  unfold Vc.train
  (repeat' split) <;> simp

@[simp] theorem Vc.bringUp_vt (s : Vc) (l : Nat) : (Vc.bringUp s l).vt = s.vt := by
  simp [Vc.bringUp]

@[simp] theorem Vc.refreshLane_vt (s : Vc) (l : Nat) : (Vc.refreshLane s l).vt = s.vt := by
  simp [Vc.refreshLane]

@[simp] theorem Vc.queueMsg_vt (s : Vc) (n : Nat) (m : Msg) : (Vc.queueMsg s n m).vt = s.vt := by
  simp [Vc.queueMsg]

@[simp] theorem Vc.breakFields_vt (s : Vc) (n : Nat) : (Vc.breakFields s n).vt = s.vt := by
  unfold Vc.breakFields
  dsimp only
  (repeat' split) <;> simp

@[simp] theorem Vc.holdLink_vt (s : Vc) (n i : Nat) : (Vc.holdLink s n i).vt = s.vt := by
  simp [Vc.holdLink]

@[simp] theorem Vc.keepBreaks_vt (s : Vc) (n : Nat) (links : List Nat) : (Vc.keepBreaks s n links).vt = s.vt := by
  simp [Vc.keepBreaks]

@[simp] theorem Vc.onsets_vt (s : Vc) (n : Nat) (links : List Nat) : (Vc.onsets s n links).vt = s.vt := by
  simp [Vc.onsets]

@[simp] theorem Vc.breaks_vt (s : Vc) (n : Nat) (cut : List Nat) : (Vc.breaks s n cut).vt = s.vt := by
  simp [Vc.breaks]

@[simp] theorem Vc.retTime_vt (s : Vc) (n : Nat) : (Vc.retTime s n).vt = s.vt := by
  simp [Vc.retTime]

@[simp] theorem Vc.strCommit_vt (s : Vc) (n : Nat) : (Vc.strCommit s n).vt = s.vt := by
  simp [Vc.strCommit]

@[simp] theorem Vc.heldSlot_vt (s : Vc) (i eff : Nat) : (Vc.heldSlot s i eff).vt = s.vt := by
  simp [Vc.heldSlot]

@[simp] theorem Vc.slotWord_vt (s : Vc) (n p seq eff : Nat) : (Vc.slotWord s n p seq eff).1.vt = s.vt := by
  unfold Vc.slotWord
  (repeat' split) <;> simp

@[simp] theorem Vc.launch_vt (s : Vc) (n extra : Nat) : (Vc.launch s n extra).vt = s.vt := by
  simp [Vc.launch]

@[simp] theorem Vc.copyUpset_vt (s : Vc) (u : CmpUpset) : (Vc.copyUpset s u).vt = s.vt := by
  unfold Vc.copyUpset
  with_reducible rfl

@[simp] theorem Vc.copyCheck_vt (s : Vc) (ups : List CmpUpset) : (Vc.copyCheck s ups).vt = s.vt := by
  unfold Vc.copyCheck
  refine (forN_vt _ _ _ fun s k => ?_).trans ?_
  · dsimp only
    split <;> rfl
  · simp

@[simp] theorem Vc.fireCheck_vt (s : Vc) (n : Nat) : (Vc.fireCheck s n).vt = s.vt := by
  simp [Vc.fireCheck]

@[simp] theorem Vc.fireTick_vt (s : Vc) : (Vc.fireTick s).vt = s.vt := by
  simp [Vc.fireTick]

@[simp] theorem Vc.fireAdvance_vt (s : Vc) : (Vc.fireAdvance s).vt = s.vt := by
  unfold Vc.fireAdvance
  split <;> simp

@[simp] theorem Vc.refreshLoad_vt (s : Vc) : (Vc.refreshLoad s).vt = s.vt := by
  simp [Vc.refreshLoad]

@[simp] theorem Vc.endSwap_vt (s : Vc) (c status : Nat) : (Vc.endSwap s c status).vt = s.vt := by
  unfold Vc.endSwap
  dsimp only
  (repeat' split) <;> simp

@[simp] theorem Vc.dropStep_vt (s : Vc) (c : Nat) : (Vc.dropStep s c).vt = s.vt := by
  simp [Vc.dropStep]

@[simp] theorem Vc.ctxLeave_vt (s : Vc) (c st : Nat) : (Vc.ctxLeave s c st).vt = s.vt := by
  simp [Vc.ctxLeave]

@[simp] theorem Vc.lensAction_vt (s : Vc) (c act code data at_ : Nat) : (Vc.lensAction s c act code data at_).vt = s.vt := by
  simp [Vc.lensAction]

@[simp] theorem Vc.ctxFault_vt (s : Vc) (c code data at_ : Nat) : (Vc.ctxFault s c code data at_).vt = s.vt := by
  simp [Vc.ctxFault]

@[simp] theorem Vc.refuseStart_vt (s : Vc) (c code : Nat) : (Vc.refuseStart s c code).vt = s.vt := by
  simp [Vc.refuseStart]

@[simp] theorem Vc.handShift_vt (s : Vc) (c k : Nat) : (Vc.handShift s c k).vt = s.vt := by
  simp [Vc.handShift]

@[simp] theorem Vc.saturation_vt (s : Vc) (c : Nat) (j : Job) (at_ : Nat) : (Vc.saturation s c j at_).vt = s.vt := by
  simp [Vc.saturation]

@[simp] theorem Vc.cascSend_vt (s : Vc) (c : Nat) : (Vc.cascSend s c).vt = s.vt := by
  simp [Vc.cascSend]

@[simp] theorem Vc.commitStep_vt (s : Vc) (c : Nat) (at_ : Nat) : (Vc.commitStep s c at_).vt = s.vt := by
  unfold Vc.commitStep
  split <;> simp

@[simp] theorem Vc.overrun_vt (s : Vc) (c cause : Nat) : (Vc.overrun s c cause).vt = s.vt := by
  simp [Vc.overrun]

@[simp] theorem Vc.lateStep_vt (s : Vc) (c : Nat) : (Vc.lateStep s c).vt = s.vt := by
  simp [Vc.lateStep]

@[simp] theorem Vc.stepOverrun_vt (s : Vc) (c : Nat) : (Vc.stepOverrun s c).vt = s.vt := by
  simp [Vc.stepOverrun]

@[simp] theorem Vc.keepTotals_vt (s : Vc) (due : List Nat) : (Vc.keepTotals s due).vt = s.vt := by
  simp [Vc.keepTotals]

@[simp] theorem Vc.takeStep_vt (s : Vc) (v : Vc) (c k : Nat) : (Vc.takeStep s v c k).vt = s.vt := by
  simp [Vc.takeStep]

@[simp] theorem Vc.shiftReady_vt (s : Vc) (tp c : Nat) : (Vc.shiftReady s tp c).vt = s.vt := by
  unfold Vc.shiftReady
  split <;> simp

@[simp] theorem Vc.lateCommit_vt (s : Vc) : (Vc.lateCommit s).vt = s.vt := by
  unfold Vc.lateCommit
  (repeat' split) <;> simp

@[simp] theorem Vc.runJobs_vt (u : Nat) (l : List Nat) : ∀ (s : Vc) (c : Nat), (Vc.runJobs u l s c).1.vt = s.vt := by
  induction l with
  | nil => intro s c; rfl
  | cons a l ih =>
    intro s c
    unfold Vc.runJobs
    repeat' (first | with_reducible rfl | (simp [ih]; done) | split | (dsimp only; split))

@[simp] theorem Vc.lensTick_vt (s : Vc) (k : Nat) : (Vc.lensTick s k).vt = s.vt := by
  simp [Vc.lensTick]

@[simp] theorem Vc.takeBlockReqs_vt (s : Vc) : (Vc.takeBlockReqs s).1.vt = s.vt := by
  unfold Vc.takeBlockReqs
  with_reducible rfl

@[simp] theorem Vc.setItem_vt (s : Vc) (j : Nat) (x : ItemSt) : (Vc.setItem s j x).vt = s.vt := by
  unfold Vc.setItem
  with_reducible rfl

@[simp] theorem Vc.setRun_vt (s : Vc) (n : Nat) (r : Option Run) : (Vc.setRun s n r).vt = s.vt := by
  unfold Vc.setRun
  with_reducible rfl

@[simp] theorem Vc.setHart_vt (s : Vc) (n : Nat) (h : Hart) : (Vc.setHart s n h).vt = s.vt := by
  unfold Vc.setHart
  with_reducible rfl

@[simp] theorem Vc.setItemState_vt (s : Vc) (j st : Nat) : (Vc.setItemState s j st).vt = s.vt := by
  simp [Vc.setItemState]

@[simp] theorem Vc.ctlResult_vt (s : Vc) (host : Bool) (j r : Nat) : (Vc.ctlResult s host j r).vt = s.vt := by
  simp [Vc.ctlResult]

@[simp] theorem Vc.freeFrame_vt (s : Vc) (j : Nat) : (Vc.freeFrame s j).vt = s.vt := by
  unfold Vc.freeFrame
  with_reducible rfl

@[simp] theorem Vc.startRun_vt (s : Vc) (n j : Nat) (swap : Nat) : (Vc.startRun s n j swap).vt = s.vt := by
  simp [Vc.startRun]

@[simp] theorem Vc.saveFrame_vt (s : Vc) (n j : Nat) : (Vc.saveFrame s n j).vt = s.vt := by
  unfold Vc.saveFrame
  with_reducible rfl

@[simp] theorem Vc.dispatch_vt (s : Vc) : (Vc.dispatch s).vt = s.vt := by
  unfold Vc.dispatch
  refine forN_vt _ _ _ fun s a => ?_
  split
  · rfl
  · split <;> simp

@[simp] theorem Vc.preemptOnce_vt (s : Vc) : (Vc.preemptOnce s).vt = s.vt := by
  unfold Vc.preemptOnce
  (repeat' split) <;> simp

@[simp] theorem Vc.decrease_vt (s : Vc) (j : Nat) : (Vc.decrease s j).vt = s.vt := by
  unfold Vc.decrease
  split <;> simp

@[simp] theorem Vc.dropItem_vt (s : Vc) (j : Nat) : (Vc.dropItem s j).vt = s.vt := by
  unfold Vc.dropItem
  dsimp only
  rw [Vc.freeFrame_vt]
  refine forN_vt _ _ _ ?_
  intro s n
  split
  · split <;> simp
  · rfl

@[simp] theorem Vc.succPolicies_vt (s : Vc) (j : Nat) : (s.succPolicies j).1.vt = s.vt := by
  unfold Vc.succPolicies
  refine (foldl1_vt _ ?_ _ _).trans rfl
  intro p e
  split <;> simp

@[simp] theorem Vc.cancelOne_vt (p : Vc × List Nat) (e : Nat × Bool × Bool) : (Vc.cancelOne p e).1.vt = p.1.vt := by
  unfold Vc.cancelOne
  dsimp only
  split
  · simp
  · split <;> simp

@[simp] theorem Vc.cancelWaves_vt (n : Nat) : ∀ (s : Vc) (l : List (Nat × Bool × Bool)), (Vc.cancelWaves n s l).vt = s.vt := by
  induction n with
  | zero => intro s l; rfl
  | succ n ih =>
    intro s l
    unfold Vc.cancelWaves
    repeat' (first | with_reducible rfl | (simp [ih]; done) | split)

@[simp] theorem Vc.complete_vt (s : Vc) (x : Notice) : (Vc.complete s x).vt = s.vt := by
  simp [Vc.complete]

@[simp] theorem Vc.trapItem_vt (s : Vc) (x : Notice) (cause tval : Nat) : (Vc.trapItem s x cause tval).vt = s.vt := by
  simp [Vc.trapItem]

@[simp] theorem Vc.applySetpoints_vt (s : Vc) (js : List Nat) : (Vc.applySetpoints s js).vt = s.vt := by
  simp [Vc.applySetpoints]

@[simp] theorem Vc.makeReady_vt (s : Vc) : (Vc.makeReady s).vt = s.vt := by
  simp [Vc.makeReady]

@[simp] theorem Vc.applyNotice_vt (s : Vc) (x : Notice) : (Vc.applyNotice s x).vt = s.vt := by
  unfold Vc.applyNotice
  split <;> simp

@[simp] theorem Vc.schedEnd_vt (s : Vc) : (Vc.schedEnd s).vt = s.vt := by
  simp [Vc.schedEnd]

@[simp] theorem Vc.missAct_vt (s : Vc) (j : Nat) : (Vc.missAct s j).vt = s.vt := by
  unfold Vc.missAct
  dsimp only
  split <;> simp

@[simp] theorem Vc.schedRest_vt (s : Vc) (traps : List (Nat × Bool × Bool)) : (Vc.schedRest s traps).vt = s.vt := by
  simp [Vc.schedRest]

@[simp] theorem Vc.schedCommit_vt (s : Vc) (k : Nat) : (Vc.schedCommit s k).vt = s.vt := by
  simp [Vc.schedCommit]

@[simp] theorem Vc.setDie_vt (s : Vc) (d st : Nat) : (Vc.setDie s d st).vt = s.vt := by
  simp [Vc.setDie]

@[simp] theorem Vc.resetDie_vt (s : Vc) (d st : Nat) : (Vc.resetDie s d st).vt = s.vt := by
  simp [Vc.resetDie]

@[simp] theorem Vc.abandonCopy_vt (s : Vc) : (Vc.abandonCopy s).vt = s.vt := by
  simp [Vc.abandonCopy]

@[simp] theorem Vc.voteLost_vt (s : Vc) (f : Fld) (b : Nat) (pre : List Rec) : (Vc.voteLost s f b pre).vt = s.vt := by
  simp [Vc.voteLost]

@[simp] theorem Vc.doubleFault_vt (s : Vc) (ds : List Nat) : (Vc.doubleFault s ds).vt = s.vt := by
  simp [Vc.doubleFault]

@[simp] theorem Vc.dieFault_vt (s : Vc) (d : Nat) : (Vc.dieFault s d).vt = s.vt := by
  unfold Vc.dieFault
  (repeat' split) <;> simp

@[simp] theorem Vc.dieFaults_vt (s : Vc) (ds : List Nat) : (Vc.dieFaults s ds).vt = s.vt := by
  unfold Vc.dieFaults
  (repeat' split) <;> simp

@[simp] theorem Vc.copyTick_vt (s : Vc) : (Vc.copyTick s).vt = s.vt := by
  simp [Vc.copyTick]

@[simp] theorem Vc.voteEnd_vt (s : Vc) (bad : List Nat) (split : Bool) : (Vc.voteEnd s bad split).vt = s.vt := by
  simp [Vc.voteEnd]

@[simp] theorem Vc.voteTick_vt (s : Vc) (dies : List DieData) (reqs far : List Nat) : (Vc.voteTick s dies reqs far).vt = s.vt := by
  simp [Vc.voteTick]

@[simp] theorem Vc.cascVals_vt (s : Vc) : (Vc.cascVals s).vt = s.vt := by
  unfold Vc.cascVals
  with_reducible rfl

@[simp] theorem Vc.sliceCommit_vt (s : Vc) (sl : List (Nat × Nat)) : (Vc.sliceCommit s sl).vt = s.vt := by
  unfold Vc.sliceCommit
  first
    | with_reducible rfl
    | (simp; done)
    | ((repeat' split) <;> first | with_reducible rfl | (simp; done) | (simp_all; done))
    | (repeat' (first
        | with_reducible rfl
        | (simp; done)
        | (dsimp only; refine (foldl_vt _ ?_ _ _).trans ?_ <;> intros)
        | (dsimp only; refine (foldl1_vt _ ?_ _ _).trans ?_ <;> intros)
        | (refine (forN_vt _ _ _ ?_).trans ?_ <;> intros)
        | split
        | (intros; split)
        | (simp; split)
        | (simp; intros; split)))

@[simp] theorem Vc.noteFacet_vt (s : Vc) (was st i : Nat) : (Vc.noteFacet s was st i).vt = s.vt := by
  unfold Vc.noteFacet
  split
  · split <;> simp
  · split <;> simp

@[simp] theorem Vc.noteCommit_vt (s : Vc) (n : ArmNote) : (Vc.noteCommit s n).vt = s.vt := by
  unfold Vc.noteCommit
  dsimp only
  split
  · rfl
  · refine (forN_vt _ _ _ ?_).trans rfl
    intro s m
    split <;> simp

@[simp] theorem Vc.cascSlices_vt (s : Vc) : (Vc.cascSlices s).vt = s.vt := by
  simp [Vc.cascSlices]

@[simp] theorem Vc.cascIssue_vt (s : Vc) (iss : List Issue) : (Vc.cascIssue s iss).vt = s.vt := by
  simp [Vc.cascIssue]

@[simp] theorem Vc.setArea_vt (s : Vc) (a : Nat) (x : ApArea) : (Vc.setArea s a x).vt = s.vt := by
  unfold Vc.setArea
  with_reducible rfl

@[simp] theorem Vc.apTo_vt (s : Vc) (st : Nat) : (Vc.apTo s st).vt = s.vt := by
  simp [Vc.apTo]

@[simp] theorem Vc.apWrite_vt (s : Vc) (e : ApEnt) : (Vc.apWrite s e).vt = s.vt := by
  unfold Vc.apWrite
  split <;> simp

@[simp] theorem Vc.apChange_vt (s : Vc) (vt n tag v : Nat) : (Vc.apChange s vt n tag v).vt = s.vt := by
  simp [Vc.apChange]

@[simp] theorem Vc.fullSet_vt (s : Vc) (vt : Nat) : (Vc.fullSet s vt).vt = s.vt := by
  unfold Vc.fullSet
  repeat' (first | with_reducible rfl | (simp; done) | split | (dsimp only; refine (foldl_vt _ ?_ _ _).trans ?_ <;> intros))

@[simp] theorem Vc.takeArea_vt (s : Vc) (a vt : Nat) : (Vc.takeArea s a vt).vt = s.vt := by
  simp [Vc.takeArea]

@[simp] theorem Vc.apFacets_vt (s : Vc) : (Vc.apFacets s).vt = s.vt := by
  simp [Vc.apFacets]

@[simp] theorem Vc.apRelease_vt (s : Vc) (a : Nat) : (Vc.apRelease s a).vt = s.vt := by
  simp [Vc.apRelease]

@[simp] theorem Vc.apReadNow_vt (s : Vc) (d : Desc) : (Vc.apReadNow s d).vt = s.vt := by
  simp [Vc.apReadNow]

@[simp] theorem Vc.apServe_vt (s : Vc) (a : Nat) : (Vc.apServe s a).vt = s.vt := by
  simp [Vc.apServe]

@[simp] theorem Vc.ignoreTrig_vt (s : Vc) : (Vc.ignoreTrig s).vt = s.vt := by
  simp [Vc.ignoreTrig]

@[simp] theorem Vc.takeTrig_vt (s : Vc) (mask : Nat) : (Vc.takeTrig s mask).vt = s.vt := by
  simp [Vc.takeTrig]

@[simp] theorem Vc.areaDone_vt (s : Vc) (trunc : Bool) : (Vc.areaDone s trunc).vt = s.vt := by
  simp [Vc.areaDone]

@[simp] theorem Vc.apStopNow_vt (s : Vc) : (Vc.apStopNow s).vt = s.vt := by
  simp [Vc.apStopNow]

@[simp] theorem Vc.apClear_vt (s : Vc) : (Vc.apClear s).vt = s.vt := by
  unfold Vc.apClear
  with_reducible rfl

@[simp] theorem Vc.apTake_vt (p : Vc × List (Nat × Nat × Option Nat)) (e : Nat × Nat × Nat) : (Vc.apTake p e).1.vt = p.1.vt := by
  unfold Vc.apTake
  dsimp only
  split
  · split <;> simp
  · simp

@[simp] theorem Vc.apTrigs_vt (s : Vc) (mask : Nat) : (Vc.apTrigs s mask).vt = s.vt := by
  unfold Vc.apTrigs
  split <;> simp

@[simp] theorem Vc.apSamplePoint_vt (s : Vc) : (Vc.apSamplePoint s).vt = s.vt := by
  simp [Vc.apSamplePoint]

@[simp] theorem Vc.prismTiming_vt (s : Vc) : (Vc.prismTiming s).vt = s.vt := by
  simp [Vc.prismTiming]

@[simp] theorem Vc.facetCommit_vt (s : Vc) : (Vc.facetCommit s).vt = s.vt := by
  simp [Vc.facetCommit]

@[simp] theorem Vc.selectAll_vt (s : Vc) : (Vc.selectAll s).1.vt = s.vt := by
  simp [Vc.selectAll]

@[simp] theorem Vc.memberReport_vt (s : Vc) : (Vc.memberReport s).vt = s.vt := by
  simp [Vc.memberReport]

end Sys2Proof.Machine
end

