-- ==== Sys2Proof/Laws/Lanes.lean ====
section
/-!
SUPPORT. Laws/Lanes.lean: what the bring-up and the power states of the VC's lanes change.
-/
namespace Sys2Proof.Machine
set_option Elab.async false

/-- Only registers, the lanes' own state, and what is sent differ. -/
def Vc.LnOnly (s t : Vc) : Prop := ∃ regs lanes out, t = { s with regs := regs, lanes := lanes, out := out }

variable {s t : Vc}
theorem Vc.LnOnly.refl (s : Vc) : s.LnOnly s := ⟨_, _, _, rfl⟩
theorem Vc.LnOnly.wr (f : Fld) (v i j : Nat) (h : s.LnOnly t) : s.LnOnly (t.wr f v i j) := by
  obtain ⟨_, _, _, rfl⟩ := h
  exact ⟨_, _, _, rfl⟩
theorem Vc.LnOnly.emit (e : Emit) (h : s.LnOnly t) : s.LnOnly (t.emit e) := by
  obtain ⟨_, _, _, rfl⟩ := h
  exact ⟨_, _, _, rfl⟩
theorem Vc.LnOnly.setLane (n : Nat) (x : LaneSt) (h : s.LnOnly t) : s.LnOnly (t.setLane n x) := by
  obtain ⟨_, _, _, rfl⟩ := h
  exact ⟨_, _, _, rfl⟩
theorem Vc.LnOnly.ite (c : Prop) [Decidable c] {u : Vc} (h : s.LnOnly t) (h' : s.LnOnly u) : s.LnOnly (if c then t else u) := by
  split <;> assumption
theorem Vc.LnOnly.emitLane (l : Nat) (e : LinkEnd → Emit) (h : s.LnOnly t) : s.LnOnly (t.emitLane l e) := by
  unfold Vc.emitLane
  split
  · exact .emit _ h
  · exact h
theorem Vc.LnOnly.putLnk (l : Nat) (x : Lnk) (h : s.LnOnly t) : s.LnOnly (t.putLnk l x) := by
  unfold Vc.putLnk
  exact .ite _ (.wr _ _ _ _ (.wr _ _ _ _ (.setLane _ _ (.wr _ _ _ _ (.wr _ _ _ _ (.wr _ _ _ _ (.wr _ _ _ _ h)))))))
    (.setLane _ _ (.wr _ _ _ _ (.wr _ _ _ _ (.wr _ _ _ _ (.wr _ _ _ _ h)))))
theorem Vc.LnOnly.foldl {α : Type} (f : Vc → α → Vc) (hf : ∀ t a, s.LnOnly t → s.LnOnly (f t a)) (l : List α) (h : s.LnOnly t) :
    s.LnOnly (l.foldl f t) := by
  induction l generalizing t with
  | nil => exact h
  | cons a l ih => exact ih (hf _ _ h)
theorem Vc.LnOnly.useEntry (l : Nat) (e : Option Nat) (h : s.LnOnly t) : s.LnOnly (t.useEntry l e) := by
  unfold Vc.useEntry
  exact .emitLane _ _ h
theorem Vc.LnOnly.train (l : Nat) (o : LnkOut) (h : s.LnOnly t) : s.LnOnly (t.train l o) := by
  unfold Vc.train
  have h1 := LnOnly.foldl _ (fun _ e h => .useEntry l e h) o.entries (LnOnly.putLnk l o.l h)
  dsimp only
  generalize o.entries.foldl (fun s e => s.useEntry l e) (t.putLnk l o.l) = v at *
  have h2 : s.LnOnly (if o.rateFail then v.set1 Reg.LANE.ERRSTAT.RATE_FAIL l else v) := .ite _ (.wr _ _ _ _ h1) h1
  generalize (if o.rateFail then v.set1 Reg.LANE.ERRSTAT.RATE_FAIL l else v) = u at *
  have h3 : s.LnOnly (if o.mismatch then u.set1 Reg.LANE.ERRSTAT.CHOICE_MISMATCH l else u) := .ite _ (.wr _ _ _ _ h2) h2
  split
  · exact .emitLane _ _ h3
  · exact h3
theorem Vc.LnOnly.bringUp (l : Nat) (h : s.LnOnly t) : s.LnOnly (t.bringUp l) := by
  unfold Vc.bringUp
  exact .ite _ (.foldl _ (fun _ _ h => .useEntry _ _ h) _ (.putLnk _ _ h)) (.train _ _ h)
theorem Vc.LnOnly.refreshLane (l : Nat) (h : s.LnOnly t) : s.LnOnly (t.refreshLane l) := by
  unfold Vc.refreshLane
  exact .ite _ h (.ite _ (.putLnk _ _ (.wr _ _ _ _ h)) (.ite _ (.wr _ _ _ _ h) (.bringUp _ (.wr _ _ _ _ h))))
theorem Vc.LnOnly.refreshPort (n : Nat) (h : s.LnOnly t) : s.LnOnly (t.refreshPort n) := .refreshLane _ (.refreshLane _ h)
theorem Vc.LnOnly.refreshCasc (h : s.LnOnly t) : s.LnOnly t.refreshCasc := by
  unfold Vc.refreshCasc
  simp only [List.foldl_cons, List.foldl_nil]
  exact .refreshLane _ (.refreshLane _ (.refreshLane _ (.refreshLane _ h)))

/-! ### Field by field -/


@[simp] theorem Vc.emitLane_frac (s : Vc) (l : Nat) (e : LinkEnd → Emit) : (s.emitLane l e).frac = s.frac := by obtain ⟨_, _, _, h⟩ := Vc.LnOnly.emitLane l e (.refl s); rw [h]
@[simp] theorem Vc.emitLane_now (s : Vc) (l : Nat) (e : LinkEnd → Emit) : (s.emitLane l e).now = s.now := by obtain ⟨_, _, _, h⟩ := Vc.LnOnly.emitLane l e (.refl s); rw [h]
@[simp] theorem Vc.emitLane_ticks (s : Vc) (l : Nat) (e : LinkEnd → Emit) : (s.emitLane l e).ticks = s.ticks := by obtain ⟨_, _, _, h⟩ := Vc.LnOnly.emitLane l e (.refl s); rw [h]
@[simp] theorem Vc.emitLane_free (s : Vc) (l : Nat) (e : LinkEnd → Emit) : (s.emitLane l e).free = s.free := by obtain ⟨_, _, _, h⟩ := Vc.LnOnly.emitLane l e (.refl s); rw [h]
@[simp] theorem Vc.emitLane_facets (s : Vc) (l : Nat) (e : LinkEnd → Emit) : (s.emitLane l e).facets = s.facets := by obtain ⟨_, _, _, h⟩ := Vc.LnOnly.emitLane l e (.refl s); rw [h]
@[simp] theorem Vc.emitLane_remotes (s : Vc) (l : Nat) (e : LinkEnd → Emit) : (s.emitLane l e).remotes = s.remotes := by obtain ⟨_, _, _, h⟩ := Vc.LnOnly.emitLane l e (.refl s); rw [h]
@[simp] theorem Vc.emitLane_arms (s : Vc) (l : Nat) (e : LinkEnd → Emit) : (s.emitLane l e).arms = s.arms := by obtain ⟨_, _, _, h⟩ := Vc.LnOnly.emitLane l e (.refl s); rw [h]
@[simp] theorem Vc.emitLane_strs (s : Vc) (l : Nat) (e : LinkEnd → Emit) : (s.emitLane l e).strs = s.strs := by obtain ⟨_, _, _, h⟩ := Vc.LnOnly.emitLane l e (.refl s); rw [h]
@[simp] theorem Vc.emitLane_prot (s : Vc) (l : Nat) (e : LinkEnd → Emit) : (s.emitLane l e).prot = s.prot := by obtain ⟨_, _, _, h⟩ := Vc.LnOnly.emitLane l e (.refl s); rw [h]
@[simp] theorem Vc.emitLane_host (s : Vc) (l : Nat) (e : LinkEnd → Emit) : (s.emitLane l e).host = s.host := by obtain ⟨_, _, _, h⟩ := Vc.LnOnly.emitLane l e (.refl s); rw [h]
@[simp] theorem Vc.emitLane_ledger (s : Vc) (l : Nat) (e : LinkEnd → Emit) : (s.emitLane l e).ledger = s.ledger := by obtain ⟨_, _, _, h⟩ := Vc.LnOnly.emitLane l e (.refl s); rw [h]
@[simp] theorem Vc.emitLane_ap (s : Vc) (l : Nat) (e : LinkEnd → Emit) : (s.emitLane l e).ap = s.ap := by obtain ⟨_, _, _, h⟩ := Vc.LnOnly.emitLane l e (.refl s); rw [h]
@[simp] theorem Vc.emitLane_lens (s : Vc) (l : Nat) (e : LinkEnd → Emit) : (s.emitLane l e).lens = s.lens := by obtain ⟨_, _, _, h⟩ := Vc.LnOnly.emitLane l e (.refl s); rw [h]
@[simp] theorem Vc.emitLane_sched (s : Vc) (l : Nat) (e : LinkEnd → Emit) : (s.emitLane l e).sched = s.sched := by obtain ⟨_, _, _, h⟩ := Vc.LnOnly.emitLane l e (.refl s); rw [h]
@[simp] theorem Vc.emitLane_time (s : Vc) (l : Nat) (e : LinkEnd → Emit) : (s.emitLane l e).time = s.time := by obtain ⟨_, _, _, h⟩ := Vc.LnOnly.emitLane l e (.refl s); rw [h]
@[simp] theorem Vc.emitLane_casc (s : Vc) (l : Nat) (e : LinkEnd → Emit) : (s.emitLane l e).casc = s.casc := by obtain ⟨_, _, _, h⟩ := Vc.LnOnly.emitLane l e (.refl s); rw [h]
@[simp] theorem Vc.emitLane_voter (s : Vc) (l : Nat) (e : LinkEnd → Emit) : (s.emitLane l e).voter = s.voter := by obtain ⟨_, _, _, h⟩ := Vc.LnOnly.emitLane l e (.refl s); rw [h]
@[simp] theorem Vc.emitLane_boot (s : Vc) (l : Nat) (e : LinkEnd → Emit) : (s.emitLane l e).boot = s.boot := by obtain ⟨_, _, _, h⟩ := Vc.LnOnly.emitLane l e (.refl s); rw [h]
@[simp] theorem Vc.emitLane_comps (s : Vc) (l : Nat) (e : LinkEnd → Emit) : (s.emitLane l e).comps = s.comps := by obtain ⟨_, _, _, h⟩ := Vc.LnOnly.emitLane l e (.refl s); rw [h]
@[simp] theorem Vc.putLnk_frac (s : Vc) (l : Nat) (x : Lnk) : (s.putLnk l x).frac = s.frac := by obtain ⟨_, _, _, h⟩ := Vc.LnOnly.putLnk l x (.refl s); rw [h]
@[simp] theorem Vc.putLnk_now (s : Vc) (l : Nat) (x : Lnk) : (s.putLnk l x).now = s.now := by obtain ⟨_, _, _, h⟩ := Vc.LnOnly.putLnk l x (.refl s); rw [h]
@[simp] theorem Vc.putLnk_ticks (s : Vc) (l : Nat) (x : Lnk) : (s.putLnk l x).ticks = s.ticks := by obtain ⟨_, _, _, h⟩ := Vc.LnOnly.putLnk l x (.refl s); rw [h]
@[simp] theorem Vc.putLnk_free (s : Vc) (l : Nat) (x : Lnk) : (s.putLnk l x).free = s.free := by obtain ⟨_, _, _, h⟩ := Vc.LnOnly.putLnk l x (.refl s); rw [h]
@[simp] theorem Vc.putLnk_facets (s : Vc) (l : Nat) (x : Lnk) : (s.putLnk l x).facets = s.facets := by obtain ⟨_, _, _, h⟩ := Vc.LnOnly.putLnk l x (.refl s); rw [h]
@[simp] theorem Vc.putLnk_remotes (s : Vc) (l : Nat) (x : Lnk) : (s.putLnk l x).remotes = s.remotes := by obtain ⟨_, _, _, h⟩ := Vc.LnOnly.putLnk l x (.refl s); rw [h]
@[simp] theorem Vc.putLnk_arms (s : Vc) (l : Nat) (x : Lnk) : (s.putLnk l x).arms = s.arms := by obtain ⟨_, _, _, h⟩ := Vc.LnOnly.putLnk l x (.refl s); rw [h]
@[simp] theorem Vc.putLnk_strs (s : Vc) (l : Nat) (x : Lnk) : (s.putLnk l x).strs = s.strs := by obtain ⟨_, _, _, h⟩ := Vc.LnOnly.putLnk l x (.refl s); rw [h]
@[simp] theorem Vc.putLnk_prot (s : Vc) (l : Nat) (x : Lnk) : (s.putLnk l x).prot = s.prot := by obtain ⟨_, _, _, h⟩ := Vc.LnOnly.putLnk l x (.refl s); rw [h]
@[simp] theorem Vc.putLnk_host (s : Vc) (l : Nat) (x : Lnk) : (s.putLnk l x).host = s.host := by obtain ⟨_, _, _, h⟩ := Vc.LnOnly.putLnk l x (.refl s); rw [h]
@[simp] theorem Vc.putLnk_ledger (s : Vc) (l : Nat) (x : Lnk) : (s.putLnk l x).ledger = s.ledger := by obtain ⟨_, _, _, h⟩ := Vc.LnOnly.putLnk l x (.refl s); rw [h]
@[simp] theorem Vc.putLnk_ap (s : Vc) (l : Nat) (x : Lnk) : (s.putLnk l x).ap = s.ap := by obtain ⟨_, _, _, h⟩ := Vc.LnOnly.putLnk l x (.refl s); rw [h]
@[simp] theorem Vc.putLnk_lens (s : Vc) (l : Nat) (x : Lnk) : (s.putLnk l x).lens = s.lens := by obtain ⟨_, _, _, h⟩ := Vc.LnOnly.putLnk l x (.refl s); rw [h]
@[simp] theorem Vc.putLnk_sched (s : Vc) (l : Nat) (x : Lnk) : (s.putLnk l x).sched = s.sched := by obtain ⟨_, _, _, h⟩ := Vc.LnOnly.putLnk l x (.refl s); rw [h]
@[simp] theorem Vc.putLnk_time (s : Vc) (l : Nat) (x : Lnk) : (s.putLnk l x).time = s.time := by obtain ⟨_, _, _, h⟩ := Vc.LnOnly.putLnk l x (.refl s); rw [h]
@[simp] theorem Vc.putLnk_casc (s : Vc) (l : Nat) (x : Lnk) : (s.putLnk l x).casc = s.casc := by obtain ⟨_, _, _, h⟩ := Vc.LnOnly.putLnk l x (.refl s); rw [h]
@[simp] theorem Vc.putLnk_voter (s : Vc) (l : Nat) (x : Lnk) : (s.putLnk l x).voter = s.voter := by obtain ⟨_, _, _, h⟩ := Vc.LnOnly.putLnk l x (.refl s); rw [h]
@[simp] theorem Vc.putLnk_boot (s : Vc) (l : Nat) (x : Lnk) : (s.putLnk l x).boot = s.boot := by obtain ⟨_, _, _, h⟩ := Vc.LnOnly.putLnk l x (.refl s); rw [h]
@[simp] theorem Vc.putLnk_comps (s : Vc) (l : Nat) (x : Lnk) : (s.putLnk l x).comps = s.comps := by obtain ⟨_, _, _, h⟩ := Vc.LnOnly.putLnk l x (.refl s); rw [h]
@[simp] theorem Vc.train_frac (s : Vc) (l : Nat) (o : LnkOut) : (s.train l o).frac = s.frac := by obtain ⟨_, _, _, h⟩ := Vc.LnOnly.train l o (.refl s); rw [h]
@[simp] theorem Vc.train_now (s : Vc) (l : Nat) (o : LnkOut) : (s.train l o).now = s.now := by obtain ⟨_, _, _, h⟩ := Vc.LnOnly.train l o (.refl s); rw [h]
@[simp] theorem Vc.train_ticks (s : Vc) (l : Nat) (o : LnkOut) : (s.train l o).ticks = s.ticks := by obtain ⟨_, _, _, h⟩ := Vc.LnOnly.train l o (.refl s); rw [h]
@[simp] theorem Vc.train_free (s : Vc) (l : Nat) (o : LnkOut) : (s.train l o).free = s.free := by obtain ⟨_, _, _, h⟩ := Vc.LnOnly.train l o (.refl s); rw [h]
@[simp] theorem Vc.train_facets (s : Vc) (l : Nat) (o : LnkOut) : (s.train l o).facets = s.facets := by obtain ⟨_, _, _, h⟩ := Vc.LnOnly.train l o (.refl s); rw [h]
@[simp] theorem Vc.train_remotes (s : Vc) (l : Nat) (o : LnkOut) : (s.train l o).remotes = s.remotes := by obtain ⟨_, _, _, h⟩ := Vc.LnOnly.train l o (.refl s); rw [h]
@[simp] theorem Vc.train_arms (s : Vc) (l : Nat) (o : LnkOut) : (s.train l o).arms = s.arms := by obtain ⟨_, _, _, h⟩ := Vc.LnOnly.train l o (.refl s); rw [h]
@[simp] theorem Vc.train_strs (s : Vc) (l : Nat) (o : LnkOut) : (s.train l o).strs = s.strs := by obtain ⟨_, _, _, h⟩ := Vc.LnOnly.train l o (.refl s); rw [h]
@[simp] theorem Vc.train_prot (s : Vc) (l : Nat) (o : LnkOut) : (s.train l o).prot = s.prot := by obtain ⟨_, _, _, h⟩ := Vc.LnOnly.train l o (.refl s); rw [h]
@[simp] theorem Vc.train_host (s : Vc) (l : Nat) (o : LnkOut) : (s.train l o).host = s.host := by obtain ⟨_, _, _, h⟩ := Vc.LnOnly.train l o (.refl s); rw [h]
@[simp] theorem Vc.train_ledger (s : Vc) (l : Nat) (o : LnkOut) : (s.train l o).ledger = s.ledger := by obtain ⟨_, _, _, h⟩ := Vc.LnOnly.train l o (.refl s); rw [h]
@[simp] theorem Vc.train_ap (s : Vc) (l : Nat) (o : LnkOut) : (s.train l o).ap = s.ap := by obtain ⟨_, _, _, h⟩ := Vc.LnOnly.train l o (.refl s); rw [h]
@[simp] theorem Vc.train_lens (s : Vc) (l : Nat) (o : LnkOut) : (s.train l o).lens = s.lens := by obtain ⟨_, _, _, h⟩ := Vc.LnOnly.train l o (.refl s); rw [h]
@[simp] theorem Vc.train_sched (s : Vc) (l : Nat) (o : LnkOut) : (s.train l o).sched = s.sched := by obtain ⟨_, _, _, h⟩ := Vc.LnOnly.train l o (.refl s); rw [h]
@[simp] theorem Vc.train_time (s : Vc) (l : Nat) (o : LnkOut) : (s.train l o).time = s.time := by obtain ⟨_, _, _, h⟩ := Vc.LnOnly.train l o (.refl s); rw [h]
@[simp] theorem Vc.train_casc (s : Vc) (l : Nat) (o : LnkOut) : (s.train l o).casc = s.casc := by obtain ⟨_, _, _, h⟩ := Vc.LnOnly.train l o (.refl s); rw [h]
@[simp] theorem Vc.train_voter (s : Vc) (l : Nat) (o : LnkOut) : (s.train l o).voter = s.voter := by obtain ⟨_, _, _, h⟩ := Vc.LnOnly.train l o (.refl s); rw [h]
@[simp] theorem Vc.train_boot (s : Vc) (l : Nat) (o : LnkOut) : (s.train l o).boot = s.boot := by obtain ⟨_, _, _, h⟩ := Vc.LnOnly.train l o (.refl s); rw [h]
@[simp] theorem Vc.train_comps (s : Vc) (l : Nat) (o : LnkOut) : (s.train l o).comps = s.comps := by obtain ⟨_, _, _, h⟩ := Vc.LnOnly.train l o (.refl s); rw [h]
@[simp] theorem Vc.bringUp_frac (s : Vc) (l : Nat) : (s.bringUp l).frac = s.frac := by obtain ⟨_, _, _, h⟩ := Vc.LnOnly.bringUp l (.refl s); rw [h]
@[simp] theorem Vc.bringUp_now (s : Vc) (l : Nat) : (s.bringUp l).now = s.now := by obtain ⟨_, _, _, h⟩ := Vc.LnOnly.bringUp l (.refl s); rw [h]
@[simp] theorem Vc.bringUp_ticks (s : Vc) (l : Nat) : (s.bringUp l).ticks = s.ticks := by obtain ⟨_, _, _, h⟩ := Vc.LnOnly.bringUp l (.refl s); rw [h]
@[simp] theorem Vc.bringUp_free (s : Vc) (l : Nat) : (s.bringUp l).free = s.free := by obtain ⟨_, _, _, h⟩ := Vc.LnOnly.bringUp l (.refl s); rw [h]
@[simp] theorem Vc.bringUp_facets (s : Vc) (l : Nat) : (s.bringUp l).facets = s.facets := by obtain ⟨_, _, _, h⟩ := Vc.LnOnly.bringUp l (.refl s); rw [h]
@[simp] theorem Vc.bringUp_remotes (s : Vc) (l : Nat) : (s.bringUp l).remotes = s.remotes := by obtain ⟨_, _, _, h⟩ := Vc.LnOnly.bringUp l (.refl s); rw [h]
@[simp] theorem Vc.bringUp_arms (s : Vc) (l : Nat) : (s.bringUp l).arms = s.arms := by obtain ⟨_, _, _, h⟩ := Vc.LnOnly.bringUp l (.refl s); rw [h]
@[simp] theorem Vc.bringUp_strs (s : Vc) (l : Nat) : (s.bringUp l).strs = s.strs := by obtain ⟨_, _, _, h⟩ := Vc.LnOnly.bringUp l (.refl s); rw [h]
@[simp] theorem Vc.bringUp_prot (s : Vc) (l : Nat) : (s.bringUp l).prot = s.prot := by obtain ⟨_, _, _, h⟩ := Vc.LnOnly.bringUp l (.refl s); rw [h]
@[simp] theorem Vc.bringUp_host (s : Vc) (l : Nat) : (s.bringUp l).host = s.host := by obtain ⟨_, _, _, h⟩ := Vc.LnOnly.bringUp l (.refl s); rw [h]
@[simp] theorem Vc.bringUp_ledger (s : Vc) (l : Nat) : (s.bringUp l).ledger = s.ledger := by obtain ⟨_, _, _, h⟩ := Vc.LnOnly.bringUp l (.refl s); rw [h]
@[simp] theorem Vc.bringUp_ap (s : Vc) (l : Nat) : (s.bringUp l).ap = s.ap := by obtain ⟨_, _, _, h⟩ := Vc.LnOnly.bringUp l (.refl s); rw [h]
@[simp] theorem Vc.bringUp_lens (s : Vc) (l : Nat) : (s.bringUp l).lens = s.lens := by obtain ⟨_, _, _, h⟩ := Vc.LnOnly.bringUp l (.refl s); rw [h]
@[simp] theorem Vc.bringUp_sched (s : Vc) (l : Nat) : (s.bringUp l).sched = s.sched := by obtain ⟨_, _, _, h⟩ := Vc.LnOnly.bringUp l (.refl s); rw [h]
@[simp] theorem Vc.bringUp_time (s : Vc) (l : Nat) : (s.bringUp l).time = s.time := by obtain ⟨_, _, _, h⟩ := Vc.LnOnly.bringUp l (.refl s); rw [h]
@[simp] theorem Vc.bringUp_casc (s : Vc) (l : Nat) : (s.bringUp l).casc = s.casc := by obtain ⟨_, _, _, h⟩ := Vc.LnOnly.bringUp l (.refl s); rw [h]
@[simp] theorem Vc.bringUp_voter (s : Vc) (l : Nat) : (s.bringUp l).voter = s.voter := by obtain ⟨_, _, _, h⟩ := Vc.LnOnly.bringUp l (.refl s); rw [h]
@[simp] theorem Vc.bringUp_boot (s : Vc) (l : Nat) : (s.bringUp l).boot = s.boot := by obtain ⟨_, _, _, h⟩ := Vc.LnOnly.bringUp l (.refl s); rw [h]
@[simp] theorem Vc.bringUp_comps (s : Vc) (l : Nat) : (s.bringUp l).comps = s.comps := by obtain ⟨_, _, _, h⟩ := Vc.LnOnly.bringUp l (.refl s); rw [h]
@[simp] theorem Vc.refreshLane_frac (s : Vc) (l : Nat) : (s.refreshLane l).frac = s.frac := by obtain ⟨_, _, _, h⟩ := Vc.LnOnly.refreshLane l (.refl s); rw [h]
@[simp] theorem Vc.refreshLane_now (s : Vc) (l : Nat) : (s.refreshLane l).now = s.now := by obtain ⟨_, _, _, h⟩ := Vc.LnOnly.refreshLane l (.refl s); rw [h]
@[simp] theorem Vc.refreshLane_ticks (s : Vc) (l : Nat) : (s.refreshLane l).ticks = s.ticks := by obtain ⟨_, _, _, h⟩ := Vc.LnOnly.refreshLane l (.refl s); rw [h]
@[simp] theorem Vc.refreshLane_free (s : Vc) (l : Nat) : (s.refreshLane l).free = s.free := by obtain ⟨_, _, _, h⟩ := Vc.LnOnly.refreshLane l (.refl s); rw [h]
@[simp] theorem Vc.refreshLane_facets (s : Vc) (l : Nat) : (s.refreshLane l).facets = s.facets := by obtain ⟨_, _, _, h⟩ := Vc.LnOnly.refreshLane l (.refl s); rw [h]
@[simp] theorem Vc.refreshLane_remotes (s : Vc) (l : Nat) : (s.refreshLane l).remotes = s.remotes := by obtain ⟨_, _, _, h⟩ := Vc.LnOnly.refreshLane l (.refl s); rw [h]
@[simp] theorem Vc.refreshLane_arms (s : Vc) (l : Nat) : (s.refreshLane l).arms = s.arms := by obtain ⟨_, _, _, h⟩ := Vc.LnOnly.refreshLane l (.refl s); rw [h]
@[simp] theorem Vc.refreshLane_strs (s : Vc) (l : Nat) : (s.refreshLane l).strs = s.strs := by obtain ⟨_, _, _, h⟩ := Vc.LnOnly.refreshLane l (.refl s); rw [h]
@[simp] theorem Vc.refreshLane_prot (s : Vc) (l : Nat) : (s.refreshLane l).prot = s.prot := by obtain ⟨_, _, _, h⟩ := Vc.LnOnly.refreshLane l (.refl s); rw [h]
@[simp] theorem Vc.refreshLane_host (s : Vc) (l : Nat) : (s.refreshLane l).host = s.host := by obtain ⟨_, _, _, h⟩ := Vc.LnOnly.refreshLane l (.refl s); rw [h]
@[simp] theorem Vc.refreshLane_ledger (s : Vc) (l : Nat) : (s.refreshLane l).ledger = s.ledger := by obtain ⟨_, _, _, h⟩ := Vc.LnOnly.refreshLane l (.refl s); rw [h]
@[simp] theorem Vc.refreshLane_ap (s : Vc) (l : Nat) : (s.refreshLane l).ap = s.ap := by obtain ⟨_, _, _, h⟩ := Vc.LnOnly.refreshLane l (.refl s); rw [h]
@[simp] theorem Vc.refreshLane_lens (s : Vc) (l : Nat) : (s.refreshLane l).lens = s.lens := by obtain ⟨_, _, _, h⟩ := Vc.LnOnly.refreshLane l (.refl s); rw [h]
@[simp] theorem Vc.refreshLane_sched (s : Vc) (l : Nat) : (s.refreshLane l).sched = s.sched := by obtain ⟨_, _, _, h⟩ := Vc.LnOnly.refreshLane l (.refl s); rw [h]
@[simp] theorem Vc.refreshLane_time (s : Vc) (l : Nat) : (s.refreshLane l).time = s.time := by obtain ⟨_, _, _, h⟩ := Vc.LnOnly.refreshLane l (.refl s); rw [h]
@[simp] theorem Vc.refreshLane_casc (s : Vc) (l : Nat) : (s.refreshLane l).casc = s.casc := by obtain ⟨_, _, _, h⟩ := Vc.LnOnly.refreshLane l (.refl s); rw [h]
@[simp] theorem Vc.refreshLane_voter (s : Vc) (l : Nat) : (s.refreshLane l).voter = s.voter := by obtain ⟨_, _, _, h⟩ := Vc.LnOnly.refreshLane l (.refl s); rw [h]
@[simp] theorem Vc.refreshLane_boot (s : Vc) (l : Nat) : (s.refreshLane l).boot = s.boot := by obtain ⟨_, _, _, h⟩ := Vc.LnOnly.refreshLane l (.refl s); rw [h]
@[simp] theorem Vc.refreshLane_comps (s : Vc) (l : Nat) : (s.refreshLane l).comps = s.comps := by obtain ⟨_, _, _, h⟩ := Vc.LnOnly.refreshLane l (.refl s); rw [h]
@[simp] theorem Vc.refreshPort_vt (s : Vc) (n : Nat) : (s.refreshPort n).vt = s.vt := by obtain ⟨_, _, _, h⟩ := Vc.LnOnly.refreshPort n (.refl s); rw [h]
@[simp] theorem Vc.refreshPort_frac (s : Vc) (n : Nat) : (s.refreshPort n).frac = s.frac := by obtain ⟨_, _, _, h⟩ := Vc.LnOnly.refreshPort n (.refl s); rw [h]
@[simp] theorem Vc.refreshPort_now (s : Vc) (n : Nat) : (s.refreshPort n).now = s.now := by obtain ⟨_, _, _, h⟩ := Vc.LnOnly.refreshPort n (.refl s); rw [h]
@[simp] theorem Vc.refreshPort_ticks (s : Vc) (n : Nat) : (s.refreshPort n).ticks = s.ticks := by obtain ⟨_, _, _, h⟩ := Vc.LnOnly.refreshPort n (.refl s); rw [h]
@[simp] theorem Vc.refreshPort_free (s : Vc) (n : Nat) : (s.refreshPort n).free = s.free := by obtain ⟨_, _, _, h⟩ := Vc.LnOnly.refreshPort n (.refl s); rw [h]
@[simp] theorem Vc.refreshPort_facets (s : Vc) (n : Nat) : (s.refreshPort n).facets = s.facets := by obtain ⟨_, _, _, h⟩ := Vc.LnOnly.refreshPort n (.refl s); rw [h]
@[simp] theorem Vc.refreshPort_remotes (s : Vc) (n : Nat) : (s.refreshPort n).remotes = s.remotes := by obtain ⟨_, _, _, h⟩ := Vc.LnOnly.refreshPort n (.refl s); rw [h]
@[simp] theorem Vc.refreshPort_arms (s : Vc) (n : Nat) : (s.refreshPort n).arms = s.arms := by obtain ⟨_, _, _, h⟩ := Vc.LnOnly.refreshPort n (.refl s); rw [h]
@[simp] theorem Vc.refreshPort_strs (s : Vc) (n : Nat) : (s.refreshPort n).strs = s.strs := by obtain ⟨_, _, _, h⟩ := Vc.LnOnly.refreshPort n (.refl s); rw [h]
@[simp] theorem Vc.refreshPort_prot (s : Vc) (n : Nat) : (s.refreshPort n).prot = s.prot := by obtain ⟨_, _, _, h⟩ := Vc.LnOnly.refreshPort n (.refl s); rw [h]
@[simp] theorem Vc.refreshPort_host (s : Vc) (n : Nat) : (s.refreshPort n).host = s.host := by obtain ⟨_, _, _, h⟩ := Vc.LnOnly.refreshPort n (.refl s); rw [h]
@[simp] theorem Vc.refreshPort_ledger (s : Vc) (n : Nat) : (s.refreshPort n).ledger = s.ledger := by obtain ⟨_, _, _, h⟩ := Vc.LnOnly.refreshPort n (.refl s); rw [h]
@[simp] theorem Vc.refreshPort_ap (s : Vc) (n : Nat) : (s.refreshPort n).ap = s.ap := by obtain ⟨_, _, _, h⟩ := Vc.LnOnly.refreshPort n (.refl s); rw [h]
@[simp] theorem Vc.refreshPort_lens (s : Vc) (n : Nat) : (s.refreshPort n).lens = s.lens := by obtain ⟨_, _, _, h⟩ := Vc.LnOnly.refreshPort n (.refl s); rw [h]
@[simp] theorem Vc.refreshPort_sched (s : Vc) (n : Nat) : (s.refreshPort n).sched = s.sched := by obtain ⟨_, _, _, h⟩ := Vc.LnOnly.refreshPort n (.refl s); rw [h]
@[simp] theorem Vc.refreshPort_time (s : Vc) (n : Nat) : (s.refreshPort n).time = s.time := by obtain ⟨_, _, _, h⟩ := Vc.LnOnly.refreshPort n (.refl s); rw [h]
@[simp] theorem Vc.refreshPort_casc (s : Vc) (n : Nat) : (s.refreshPort n).casc = s.casc := by obtain ⟨_, _, _, h⟩ := Vc.LnOnly.refreshPort n (.refl s); rw [h]
@[simp] theorem Vc.refreshPort_voter (s : Vc) (n : Nat) : (s.refreshPort n).voter = s.voter := by obtain ⟨_, _, _, h⟩ := Vc.LnOnly.refreshPort n (.refl s); rw [h]
@[simp] theorem Vc.refreshPort_boot (s : Vc) (n : Nat) : (s.refreshPort n).boot = s.boot := by obtain ⟨_, _, _, h⟩ := Vc.LnOnly.refreshPort n (.refl s); rw [h]
@[simp] theorem Vc.refreshPort_comps (s : Vc) (n : Nat) : (s.refreshPort n).comps = s.comps := by obtain ⟨_, _, _, h⟩ := Vc.LnOnly.refreshPort n (.refl s); rw [h]
@[simp] theorem Vc.refreshCasc_vt (s : Vc) : (s.refreshCasc ).vt = s.vt := by obtain ⟨_, _, _, h⟩ := Vc.LnOnly.refreshCasc (.refl s); rw [h]
@[simp] theorem Vc.refreshCasc_frac (s : Vc) : (s.refreshCasc ).frac = s.frac := by obtain ⟨_, _, _, h⟩ := Vc.LnOnly.refreshCasc (.refl s); rw [h]
@[simp] theorem Vc.refreshCasc_now (s : Vc) : (s.refreshCasc ).now = s.now := by obtain ⟨_, _, _, h⟩ := Vc.LnOnly.refreshCasc (.refl s); rw [h]
@[simp] theorem Vc.refreshCasc_ticks (s : Vc) : (s.refreshCasc ).ticks = s.ticks := by obtain ⟨_, _, _, h⟩ := Vc.LnOnly.refreshCasc (.refl s); rw [h]
@[simp] theorem Vc.refreshCasc_free (s : Vc) : (s.refreshCasc ).free = s.free := by obtain ⟨_, _, _, h⟩ := Vc.LnOnly.refreshCasc (.refl s); rw [h]
@[simp] theorem Vc.refreshCasc_facets (s : Vc) : (s.refreshCasc ).facets = s.facets := by obtain ⟨_, _, _, h⟩ := Vc.LnOnly.refreshCasc (.refl s); rw [h]
@[simp] theorem Vc.refreshCasc_remotes (s : Vc) : (s.refreshCasc ).remotes = s.remotes := by obtain ⟨_, _, _, h⟩ := Vc.LnOnly.refreshCasc (.refl s); rw [h]
@[simp] theorem Vc.refreshCasc_arms (s : Vc) : (s.refreshCasc ).arms = s.arms := by obtain ⟨_, _, _, h⟩ := Vc.LnOnly.refreshCasc (.refl s); rw [h]
@[simp] theorem Vc.refreshCasc_strs (s : Vc) : (s.refreshCasc ).strs = s.strs := by obtain ⟨_, _, _, h⟩ := Vc.LnOnly.refreshCasc (.refl s); rw [h]
@[simp] theorem Vc.refreshCasc_prot (s : Vc) : (s.refreshCasc ).prot = s.prot := by obtain ⟨_, _, _, h⟩ := Vc.LnOnly.refreshCasc (.refl s); rw [h]
@[simp] theorem Vc.refreshCasc_host (s : Vc) : (s.refreshCasc ).host = s.host := by obtain ⟨_, _, _, h⟩ := Vc.LnOnly.refreshCasc (.refl s); rw [h]
@[simp] theorem Vc.refreshCasc_ledger (s : Vc) : (s.refreshCasc ).ledger = s.ledger := by obtain ⟨_, _, _, h⟩ := Vc.LnOnly.refreshCasc (.refl s); rw [h]
@[simp] theorem Vc.refreshCasc_ap (s : Vc) : (s.refreshCasc ).ap = s.ap := by obtain ⟨_, _, _, h⟩ := Vc.LnOnly.refreshCasc (.refl s); rw [h]
@[simp] theorem Vc.refreshCasc_lens (s : Vc) : (s.refreshCasc ).lens = s.lens := by obtain ⟨_, _, _, h⟩ := Vc.LnOnly.refreshCasc (.refl s); rw [h]
@[simp] theorem Vc.refreshCasc_sched (s : Vc) : (s.refreshCasc ).sched = s.sched := by obtain ⟨_, _, _, h⟩ := Vc.LnOnly.refreshCasc (.refl s); rw [h]
@[simp] theorem Vc.refreshCasc_time (s : Vc) : (s.refreshCasc ).time = s.time := by obtain ⟨_, _, _, h⟩ := Vc.LnOnly.refreshCasc (.refl s); rw [h]
@[simp] theorem Vc.refreshCasc_casc (s : Vc) : (s.refreshCasc ).casc = s.casc := by obtain ⟨_, _, _, h⟩ := Vc.LnOnly.refreshCasc (.refl s); rw [h]
@[simp] theorem Vc.refreshCasc_voter (s : Vc) : (s.refreshCasc ).voter = s.voter := by obtain ⟨_, _, _, h⟩ := Vc.LnOnly.refreshCasc (.refl s); rw [h]
@[simp] theorem Vc.refreshCasc_boot (s : Vc) : (s.refreshCasc ).boot = s.boot := by obtain ⟨_, _, _, h⟩ := Vc.LnOnly.refreshCasc (.refl s); rw [h]
@[simp] theorem Vc.refreshCasc_comps (s : Vc) : (s.refreshCasc ).comps = s.comps := by obtain ⟨_, _, _, h⟩ := Vc.LnOnly.refreshCasc (.refl s); rw [h]

end Sys2Proof.Machine
end

