-- ==== Sys2Proof/Laws/Parts.lean ====
section
/-!
SUPPORT. Laws/Parts.lean: the parts of the VC that tables hold: what a part reads after it, another part, a register or the output is
changed.
-/
namespace Sys2Proof.Machine
set_option Elab.async false

@[simp] theorem Vc.facet_setFacet (s : Vc) (n : Nat) (x : Facet) : (s.setFacet n x).facet n = x := Tab.get_set_same _ _ _ _
theorem Vc.facet_setFacet_ne (s : Vc) (n m : Nat) (x : Facet) (h : m ≠ n) : (s.setFacet n x).facet m = s.facet m := Tab.get_set_ne _ _ _ _ _ h
@[simp] theorem Vc.facet_wr (s : Vc) (n : Nat) (f : Fld) (v i j : Nat) : (s.wr f v i j).facet n = s.facet n := rfl
@[simp] theorem Vc.facet_emit (s : Vc) (n : Nat) (e : Emit) : (s.emit e).facet n = s.facet n := rfl
@[simp] theorem Vc.facet_elapse (s : Vc) (n dt : Nat) : (s.elapse dt).facet n = s.facet n := rfl
@[simp] theorem Vc.facet_asHost (s : Vc) (n q : Nat) : (s.asHost q).facet n = s.facet n := rfl

@[simp] theorem Vc.str_setStr (s : Vc) (n : Nat) (x : Str) : (s.setStr n x).str n = x := Tab.get_set_same _ _ _ _
theorem Vc.str_setStr_ne (s : Vc) (n m : Nat) (x : Str) (h : m ≠ n) : (s.setStr n x).str m = s.str m := Tab.get_set_ne _ _ _ _ _ h
@[simp] theorem Vc.str_wr (s : Vc) (n : Nat) (f : Fld) (v i j : Nat) : (s.wr f v i j).str n = s.str n := rfl
@[simp] theorem Vc.str_emit (s : Vc) (n : Nat) (e : Emit) : (s.emit e).str n = s.str n := rfl
@[simp] theorem Vc.str_elapse (s : Vc) (n dt : Nat) : (s.elapse dt).str n = s.str n := rfl
@[simp] theorem Vc.str_asHost (s : Vc) (n q : Nat) : (s.asHost q).str n = s.str n := rfl

@[simp] theorem Vc.lane_setLane (s : Vc) (n : Nat) (x : LaneSt) : (s.setLane n x).lane n = x := Tab.get_set_same _ _ _ _
theorem Vc.lane_setLane_ne (s : Vc) (n m : Nat) (x : LaneSt) (h : m ≠ n) : (s.setLane n x).lane m = s.lane m := Tab.get_set_ne _ _ _ _ _ h
@[simp] theorem Vc.lane_wr (s : Vc) (n : Nat) (f : Fld) (v i j : Nat) : (s.wr f v i j).lane n = s.lane n := rfl
@[simp] theorem Vc.lane_emit (s : Vc) (n : Nat) (e : Emit) : (s.emit e).lane n = s.lane n := rfl
@[simp] theorem Vc.lane_elapse (s : Vc) (n dt : Nat) : (s.elapse dt).lane n = s.lane n := rfl
@[simp] theorem Vc.lane_asHost (s : Vc) (n q : Nat) : (s.asHost q).lane n = s.lane n := rfl

@[simp] theorem Vc.chan_setChan (s : Vc) (n : Nat) (x : Chan) : (s.setChan n x).chan n = x := Tab.get_set_same _ _ _ _
theorem Vc.chan_setChan_ne (s : Vc) (n m : Nat) (x : Chan) (h : m ≠ n) : (s.setChan n x).chan m = s.chan m := Tab.get_set_ne _ _ _ _ _ h
@[simp] theorem Vc.chan_wr (s : Vc) (n : Nat) (f : Fld) (v i j : Nat) : (s.wr f v i j).chan n = s.chan n := rfl
@[simp] theorem Vc.chan_emit (s : Vc) (n : Nat) (e : Emit) : (s.emit e).chan n = s.chan n := rfl
@[simp] theorem Vc.chan_elapse (s : Vc) (n dt : Nat) : (s.elapse dt).chan n = s.chan n := rfl
@[simp] theorem Vc.chan_asHost (s : Vc) (n q : Nat) : (s.asHost q).chan n = s.chan n := rfl

@[simp] theorem Vc.token_setToken (s : Vc) (n : Nat) (x : Token) : (s.setToken n x).token n = x := Tab.get_set_same _ _ _ _
theorem Vc.token_setToken_ne (s : Vc) (n m : Nat) (x : Token) (h : m ≠ n) : (s.setToken n x).token m = s.token m := Tab.get_set_ne _ _ _ _ _ h
@[simp] theorem Vc.token_wr (s : Vc) (n : Nat) (f : Fld) (v i j : Nat) : (s.wr f v i j).token n = s.token n := rfl
@[simp] theorem Vc.token_emit (s : Vc) (n : Nat) (e : Emit) : (s.emit e).token n = s.token n := rfl
@[simp] theorem Vc.token_elapse (s : Vc) (n dt : Nat) : (s.elapse dt).token n = s.token n := rfl
@[simp] theorem Vc.token_asHost (s : Vc) (n q : Nat) : (s.asHost q).token n = s.token n := rfl

@[simp] theorem Vc.cq_setCq (s : Vc) (n : Nat) (x : CqSt) : (s.setCq n x).cq n = x := Tab.get_set_same _ _ _ _
theorem Vc.cq_setCq_ne (s : Vc) (n m : Nat) (x : CqSt) (h : m ≠ n) : (s.setCq n x).cq m = s.cq m := Tab.get_set_ne _ _ _ _ _ h
@[simp] theorem Vc.cq_wr (s : Vc) (n : Nat) (f : Fld) (v i j : Nat) : (s.wr f v i j).cq n = s.cq n := rfl
@[simp] theorem Vc.cq_emit (s : Vc) (n : Nat) (e : Emit) : (s.emit e).cq n = s.cq n := rfl
@[simp] theorem Vc.cq_elapse (s : Vc) (n dt : Nat) : (s.elapse dt).cq n = s.cq n := rfl
@[simp] theorem Vc.cq_asHost (s : Vc) (n q : Nat) : (s.asHost q).cq n = s.cq n := rfl

@[simp] theorem Vc.sqTail_setSqTail (s : Vc) (n : Nat) (x : Nat) : (s.setSqTail n x).sqTail n = x := Tab.get_set_same _ _ _ _
theorem Vc.sqTail_setSqTail_ne (s : Vc) (n m : Nat) (x : Nat) (h : m ≠ n) : (s.setSqTail n x).sqTail m = s.sqTail m := Tab.get_set_ne _ _ _ _ _ h
@[simp] theorem Vc.sqTail_wr (s : Vc) (n : Nat) (f : Fld) (v i j : Nat) : (s.wr f v i j).sqTail n = s.sqTail n := rfl
@[simp] theorem Vc.sqTail_emit (s : Vc) (n : Nat) (e : Emit) : (s.emit e).sqTail n = s.sqTail n := rfl
@[simp] theorem Vc.sqTail_elapse (s : Vc) (n dt : Nat) : (s.elapse dt).sqTail n = s.sqTail n := rfl
@[simp] theorem Vc.sqTail_asHost (s : Vc) (n q : Nat) : (s.asHost q).sqTail n = s.sqTail n := rfl

@[simp] theorem Vc.stat_setStat (s : Vc) (n : Nat) (x : FacetStat) : (s.setStat n x).stat n = x := Tab.get_set_same _ _ _ _
theorem Vc.stat_setStat_ne (s : Vc) (n m : Nat) (x : FacetStat) (h : m ≠ n) : (s.setStat n x).stat m = s.stat m := Tab.get_set_ne _ _ _ _ _ h
@[simp] theorem Vc.stat_wr (s : Vc) (n : Nat) (f : Fld) (v i j : Nat) : (s.wr f v i j).stat n = s.stat n := rfl
@[simp] theorem Vc.stat_emit (s : Vc) (n : Nat) (e : Emit) : (s.emit e).stat n = s.stat n := rfl
@[simp] theorem Vc.stat_elapse (s : Vc) (n dt : Nat) : (s.elapse dt).stat n = s.stat n := rfl
@[simp] theorem Vc.stat_asHost (s : Vc) (n q : Nat) : (s.asHost q).stat n = s.stat n := rfl

@[simp] theorem Vc.arm_setArm (s : Vc) (n : Nat) (x : ArmSt) : (s.setArm n x).arm n = x := Tab.get_set_same _ _ _ _
theorem Vc.arm_setArm_ne (s : Vc) (n m : Nat) (x : ArmSt) (h : m ≠ n) : (s.setArm n x).arm m = s.arm m := Tab.get_set_ne _ _ _ _ _ h
@[simp] theorem Vc.arm_wr (s : Vc) (n : Nat) (f : Fld) (v i j : Nat) : (s.wr f v i j).arm n = s.arm n := rfl
@[simp] theorem Vc.arm_emit (s : Vc) (n : Nat) (e : Emit) : (s.emit e).arm n = s.arm n := rfl
@[simp] theorem Vc.arm_elapse (s : Vc) (n dt : Nat) : (s.elapse dt).arm n = s.arm n := rfl
@[simp] theorem Vc.arm_asHost (s : Vc) (n q : Nat) : (s.asHost q).arm n = s.arm n := rfl

@[simp] theorem Vc.remote_setRemote (s : Vc) (n : Nat) (x : Remote) : (s.setRemote n x).remote n = x := Tab.get_set_same _ _ _ _
theorem Vc.remote_setRemote_ne (s : Vc) (n m : Nat) (x : Remote) (h : m ≠ n) : (s.setRemote n x).remote m = s.remote m := Tab.get_set_ne _ _ _ _ _ h
@[simp] theorem Vc.remote_wr (s : Vc) (n : Nat) (f : Fld) (v i j : Nat) : (s.wr f v i j).remote n = s.remote n := rfl
@[simp] theorem Vc.remote_emit (s : Vc) (n : Nat) (e : Emit) : (s.emit e).remote n = s.remote n := rfl
@[simp] theorem Vc.remote_elapse (s : Vc) (n dt : Nat) : (s.elapse dt).remote n = s.remote n := rfl
@[simp] theorem Vc.remote_asHost (s : Vc) (n q : Nat) : (s.asHost q).remote n = s.remote n := rfl

@[simp] theorem Vc.ctx_setCtx (s : Vc) (n : Nat) (x : Ctx) : (s.setCtx n x).ctx n = x := Tab.get_set_same _ _ _ _
theorem Vc.ctx_setCtx_ne (s : Vc) (n m : Nat) (x : Ctx) (h : m ≠ n) : (s.setCtx n x).ctx m = s.ctx m := Tab.get_set_ne _ _ _ _ _ h
@[simp] theorem Vc.ctx_wr (s : Vc) (n : Nat) (f : Fld) (v i j : Nat) : (s.wr f v i j).ctx n = s.ctx n := rfl
@[simp] theorem Vc.ctx_emit (s : Vc) (n : Nat) (e : Emit) : (s.emit e).ctx n = s.ctx n := rfl
@[simp] theorem Vc.ctx_elapse (s : Vc) (n dt : Nat) : (s.elapse dt).ctx n = s.ctx n := rfl
@[simp] theorem Vc.ctx_asHost (s : Vc) (n q : Nat) : (s.asHost q).ctx n = s.ctx n := rfl

@[simp] theorem Vc.itemSt_setItem (s : Vc) (n : Nat) (x : ItemSt) : (s.setItem n x).itemSt n = x := Tab.get_set_same _ _ _ _
theorem Vc.itemSt_setItem_ne (s : Vc) (n m : Nat) (x : ItemSt) (h : m ≠ n) : (s.setItem n x).itemSt m = s.itemSt m := Tab.get_set_ne _ _ _ _ _ h
@[simp] theorem Vc.itemSt_wr (s : Vc) (n : Nat) (f : Fld) (v i j : Nat) : (s.wr f v i j).itemSt n = s.itemSt n := rfl
@[simp] theorem Vc.itemSt_emit (s : Vc) (n : Nat) (e : Emit) : (s.emit e).itemSt n = s.itemSt n := rfl
@[simp] theorem Vc.itemSt_elapse (s : Vc) (n dt : Nat) : (s.elapse dt).itemSt n = s.itemSt n := rfl
@[simp] theorem Vc.itemSt_asHost (s : Vc) (n q : Nat) : (s.asHost q).itemSt n = s.itemSt n := rfl

@[simp] theorem Vc.run_setRun (s : Vc) (n : Nat) (x : Option Run) : (s.setRun n x).run? n = x := Tab.get_set_same _ _ _ _
theorem Vc.run_setRun_ne (s : Vc) (n m : Nat) (x : Option Run) (h : m ≠ n) : (s.setRun n x).run? m = s.run? m := Tab.get_set_ne _ _ _ _ _ h
@[simp] theorem Vc.run_wr (s : Vc) (n : Nat) (f : Fld) (v i j : Nat) : (s.wr f v i j).run? n = s.run? n := rfl
@[simp] theorem Vc.run_emit (s : Vc) (n : Nat) (e : Emit) : (s.emit e).run? n = s.run? n := rfl
@[simp] theorem Vc.run_elapse (s : Vc) (n dt : Nat) : (s.elapse dt).run? n = s.run? n := rfl
@[simp] theorem Vc.run_asHost (s : Vc) (n q : Nat) : (s.asHost q).run? n = s.run? n := rfl

@[simp] theorem Vc.area_setArea (s : Vc) (n : Nat) (x : ApArea) : (s.setArea n x).area n = x := Tab.get_set_same _ _ _ _
theorem Vc.area_setArea_ne (s : Vc) (n m : Nat) (x : ApArea) (h : m ≠ n) : (s.setArea n x).area m = s.area m := Tab.get_set_ne _ _ _ _ _ h
@[simp] theorem Vc.area_wr (s : Vc) (n : Nat) (f : Fld) (v i j : Nat) : (s.wr f v i j).area n = s.area n := rfl
@[simp] theorem Vc.area_emit (s : Vc) (n : Nat) (e : Emit) : (s.emit e).area n = s.area n := rfl
@[simp] theorem Vc.area_elapse (s : Vc) (n dt : Nat) : (s.elapse dt).area n = s.area n := rfl
@[simp] theorem Vc.area_asHost (s : Vc) (n q : Nat) : (s.asHost q).area n = s.area n := rfl

@[simp] theorem Vc.comp_setComp (s : Vc) (n : Nat) (x : Comp) : (s.setComp n x).comp n = x := Tab.get_set_same _ _ _ _
theorem Vc.comp_setComp_ne (s : Vc) (n m : Nat) (x : Comp) (h : m ≠ n) : (s.setComp n x).comp m = s.comp m := Tab.get_set_ne _ _ _ _ _ h
@[simp] theorem Vc.comp_wr (s : Vc) (n : Nat) (f : Fld) (v i j : Nat) : (s.wr f v i j).comp n = s.comp n := rfl
@[simp] theorem Vc.comp_emit (s : Vc) (n : Nat) (e : Emit) : (s.emit e).comp n = s.comp n := rfl
@[simp] theorem Vc.comp_elapse (s : Vc) (n dt : Nat) : (s.elapse dt).comp n = s.comp n := rfl
@[simp] theorem Vc.comp_asHost (s : Vc) (n q : Nat) : (s.asHost q).comp n = s.comp n := rfl

end Sys2Proof.Machine
end

