-- ==== Sys2Proof/Laws/Resets.lean ====
section
/-!
SUPPORT. Laws/Resets.lean: what registers read after a warm and a cold reset.
-/
namespace Sys2Proof.Machine
set_option Elab.async false
open Reg

theorem Fld.key_div (f : Fld) (i j : Nat) : f.key i j / 1048576 = f.id := by
  unfold Fld.key
  omega

/-- A table cut to the keys that satisfy a test reads as before at those keys. -/
theorem Tab.get_keep {α : Type} (d : Nat → α) (p : Nat → Bool) (t : Tab α) (k : Nat) (h : p k = true) :
    Tab.get d (t.filter fun e => p e.1) k = Tab.get d t k := Memory.get_filter d p t k h

/-- It reads the default at the others. -/
theorem Tab.get_drop {α : Type} (d : Nat → α) (p : Nat → Bool) (t : Tab α) (k : Nat) (h : p k = false) :
    Tab.get d (t.filter fun e => p e.1) k = d k := by
  induction t with
  | nil => rfl
  | cons e t ih =>
    by_cases hp : p e.1 = true
    · simp only [List.filter_cons, hp, if_true]
      have hk : e.1 ≠ k := fun he => by simp [he, h] at hp
      simp only [Tab.get, if_neg hk]
      exact ih
    · simp only [List.filter_cons, hp]
      exact ih

/-- The registers of a VC that keeps the fields of a list. -/
theorem Vc.rd_keep (s t : Vc) (ids : List Nat) (ht : t.regs = s.regs.filter fun e => ids.contains (e.1 / 1048576)) (f : Fld) (i j : Nat) :
    t.rd f i j = if ids.contains f.id then s.rd f i j else f.reset j := by
  unfold Vc.rd
  rw [ht]
  split
  · rename_i h
    exact Tab.get_keep _ (fun k => ids.contains (k / 1048576)) _ _ (by rw [Fld.key_div]; exact h)
  · rename_i h
    exact Tab.get_drop _ (fun k => ids.contains (k / 1048576)) _ _ (by rw [Fld.key_div]; simpa using h)

theorem Vc.rd_afterReset (s : Vc) (c : Nat) (f : Fld) (i j : Nat)
    (h : f.id ∉ [GLOBAL.RESETCAUSE.CAUSE.id, PROT.STATUS.PERMIT_A.id, PROT.STATUS.PERMIT_B.id, TIME.STATUS.STATE.id]) :
    (s.afterReset c).rd f i j = s.rd f i j := by
  simp only [List.mem_cons, List.not_mem_nil, or_false, not_or] at h
  unfold Vc.afterReset
  rw [Vc.rd_wr_ne _ _ _ _ _ _ _ _ h.2.2.2, Vc.rd_wr_ne _ _ _ _ _ _ _ _ h.2.2.1, Vc.rd_wr_ne _ _ _ _ _ _ _ _ h.2.1,
    Vc.rd_wr_ne _ _ _ _ _ _ _ _ h.1]

theorem Vc.afterReset_cause (s : Vc) (c : Nat) : (s.afterReset c).rd GLOBAL.RESETCAUSE.CAUSE = c % 8 := by
  unfold Vc.afterReset
  rw [Vc.rd_wr_ne _ _ _ _ _ _ _ _ (by decide), Vc.rd_wr_ne _ _ _ _ _ _ _ _ (by decide), Vc.rd_wr_ne _ _ _ _ _ _ _ _ (by decide),
    Vc.rd_wr_same]
  rfl

theorem Vc.afterReset_state (s : Vc) (c : Nat) : (s.afterReset c).rd TIME.STATUS.STATE = b2n (s.on TIME.CFG.PTP_EN) := by
  unfold Vc.afterReset
  dsimp only
  rw [Vc.rd_wr_same]
  have h : ((((s.wr GLOBAL.RESETCAUSE.CAUSE c).wr PROT.STATUS.PERMIT_A (b2n (s.wr GLOBAL.RESETCAUSE.CAUSE c).prot.pinA)).wr
      PROT.STATUS.PERMIT_B (b2n (s.wr GLOBAL.RESETCAUSE.CAUSE c).prot.pinB)).on TIME.CFG.PTP_EN) = s.on TIME.CFG.PTP_EN := by
    unfold Vc.on
    rw [Vc.rd_wr_ne _ _ _ _ _ _ _ _ (by decide), Vc.rd_wr_ne _ _ _ _ _ _ _ _ (by decide), Vc.rd_wr_ne _ _ _ _ _ _ _ _ (by decide)]
  erw [h]
  cases s.on TIME.CFG.PTP_EN <;> rfl

/-- Fields that the end of a recording writes. -/
def apStopIds : List Nat := [APERTURE.STATUS.UNREAD.id, APERTURE.ERRSTAT.DONE.id, APERTURE.STATUS.STATE.id, HOSTQ.IRQSTAT.PEND.id]

theorem Vc.RdSame.apStopNow {s t : Vc} (h : Vc.RdSame apStopIds s t) : Vc.RdSame apStopIds s t.apStopNow := by
  have hd : Vc.RdSame apStopIds s (t.areaDone true) := by
    unfold Vc.areaDone Vc.set1
    exact .irq _ (by decide) (.wr _ _ _ _ (by decide) (.wr _ _ _ _ (by decide) (.regs (t := t) rfl h)))
  unfold Vc.apStopNow
  refine .regs (t := Vc.apTo _ 0) rfl (.wr _ _ _ _ (by decide) (.ite _ hd (.ite _ (.regs (t := t) rfl h) h)))

theorem Vc.xEnd_regs (s : Vc) : s.xEnd.regs = s.regs := by
  unfold Vc.xEnd
  split <;> rfl

/-- Fields that a warm reset writes before it resets. -/
def beforeResetIds : List Nat := flashIds ++ apStopIds

theorem Vc.rd_beforeReset (s : Vc) (f : Fld) (i j : Nat) (h : f.id ∉ beforeResetIds) : s.beforeReset.rd f i j = s.rd f i j := by
  unfold beforeResetIds at h
  rw [List.mem_append, not_or] at h
  unfold Vc.beforeReset
  rw [Vc.rd_congr _ _ (Vc.xEnd_regs _), Vc.RdSame.apStopNow (.refl _ _) f i j h.2, Vc.rd_flashEvent _ _ _ _ _ _ _ h.1]

theorem Vc.holdDies_eq (s : Vc) (ds : List Nat) : ∃ regs, s.holdDies ds = { s with regs := regs } := by
  have hf : ∃ regs, ds.foldl (fun s d => s.setDie d 4) s = { s with regs := regs } := by
    induction ds generalizing s with
    | nil => exact ⟨s.regs, rfl⟩
    | cons d ds ih =>
      obtain ⟨r, h⟩ := ih (s.setDie d 4)
      exact ⟨r, h⟩
  obtain ⟨r, h⟩ := hf
  unfold Vc.holdDies
  rw [h]
  exact ⟨_, rfl⟩

theorem Vc.rd_holdDies (s : Vc) (ds : List Nat) (f : Fld) (i j : Nat)
    (h : f.id ∉ [VOTER.STATUS.MODE.id, VOTER.STATUS.STATE_A.id, VOTER.STATUS.STATE_B.id, VOTER.STATUS.STATE_C.id]) :
    (s.holdDies ds).rd f i j = s.rd f i j := by
  simp only [List.mem_cons, List.not_mem_nil, or_false, not_or] at h
  unfold Vc.holdDies
  rw [Vc.rd_wr_ne _ _ _ _ _ _ _ _ h.1]
  induction ds generalizing s with
  | nil => rfl
  | cons d ds ih =>
    rw [List.foldl_cons, ih]
    refine Vc.rd_wr_ne _ _ _ _ _ _ _ _ ?_
    unfold dieFld
    split
    · exact h.2.1
    · exact h.2.2.1
    · exact h.2.2.2

/-- Fields that a reset writes. -/
def resetIds : List Nat := [GLOBAL.RESETCAUSE.CAUSE.id, PROT.STATUS.PERMIT_A.id, PROT.STATUS.PERMIT_B.id, TIME.STATUS.STATE.id]

/-- Fields in which dies held out show. -/
def dieIds : List Nat := [VOTER.STATUS.MODE.id, VOTER.STATUS.STATE_A.id, VOTER.STATUS.STATE_B.id, VOTER.STATUS.STATE_C.id]

/-- The registers after a warm reset: those kept, but for what the reset itself writes. -/
theorem Vc.rd_warmReset (s : Vc) (c : Nat) (f : Fld) (i j : Nat) (hb : f.id ∉ beforeResetIds) (hr : f.id ∉ resetIds) (hd : f.id ∉ dieIds) :
    (s.warmReset c).rd f i j = if keptFields.contains f.id then s.rd f i j else f.reset j := by
  rw [← Vc.rd_beforeReset s f i j hb]
  unfold Vc.warmReset
  rw [Vc.rd_afterReset _ _ _ _ _ hr, Vc.rd_holdDies _ _ _ _ _ hd]
  exact Vc.rd_keep s.beforeReset _ keptFields rfl f i j

theorem Vc.warmReset_cause (s : Vc) (c : Nat) : (s.warmReset c).rd GLOBAL.RESETCAUSE.CAUSE = c % 8 := Vc.afterReset_cause _ _

theorem Vc.xEnd_vt (s : Vc) : s.xEnd.vt = s.vt := by
  unfold Vc.xEnd
  split <;> rfl

theorem Vc.beforeReset_vt (s : Vc) : s.beforeReset.vt = s.vt := by
  unfold Vc.beforeReset
  refine (Vc.xEnd_vt _).trans ?_
  rw [Vc.apStopNow_vt, Vc.flashEvent_vt]

/-- A warm reset but for registers. -/
theorem Vc.warmReset_eq (s : Vc) (c : Nat) : ∃ regs, s.warmReset c = { s.beforeReset.resetKeep with regs := regs } := by
  unfold Vc.warmReset
  obtain ⟨r, h⟩ := Vc.holdDies_eq s.beforeReset.resetKeep ((List.range 3).filter fun d => s.beforeReset.dieState d = 4)
  dsimp only
  rw [h]
  exact ⟨_, rfl⟩

theorem Vc.warmReset_vt (s : Vc) (c : Nat) : (s.warmReset c).vt = s.vt := by
  obtain ⟨r, h⟩ := Vc.warmReset_eq s c
  rw [h]
  exact Vc.beforeReset_vt s

/-- Parts that a warm reset returns to their reset state. -/
theorem Vc.warmReset_parts (s : Vc) (c : Nat) : (s.warmReset c).strs = s.beforeReset.keepReleases ∧
    (s.warmReset c).held = [] ∧ (s.warmReset c).lanes = [] ∧ (s.warmReset c).facets = [] ∧
    (s.warmReset c).lens = {} ∧ (s.warmReset c).ap.areas = s.beforeReset.ap.areas ∧ (s.warmReset c).out = s.beforeReset.out ++ [.reset 4] ∧
    (s.warmReset c).boot.running = false := by
  obtain ⟨r, h⟩ := Vc.warmReset_eq s c
  rw [h]
  exact ⟨rfl, rfl, rfl, rfl, rfl, rfl, rfl, rfl⟩

end Sys2Proof.Machine
end

