-- ==== Sys2Proof/Tests/Slice0.lean ====
section
/-!
SUPPORT. Tests/Slice0.lean: commands of the wrong shape are refused by the check of shapes; for every statement about the
model, a state and operands that meet its hypotheses; a few steps with values worked out from the spec's words.
-/
namespace Sys2Proof.Tests
set_option Elab.async false
open Sys2Proof Sys2Proof.Machine Sys2Proof.Machine.Reg

/-- Fields of a map at other values than at reset: field, index, value. -/
abbrev Sets := List (Fld × Nat × Nat)

/-- A controller with those fields, a state with it, and one with a cell out of cold reset at string 0, position 0, or with a
powered companion on port 0. -/
def vset (l : Sets) : Vc := l.foldl (fun v e => v.wr e.1 e.2.2 e.2.1) {}
def vs (l : Sets) (f : Vc → Vc := id) : State := { vc := f (vset l) }
def cs (l : Sets) (f : Cell → Cell := id) (v : Vc := {}) : State :=
  { vc := v
    cells := [(0, f { run := true, regs := l.foldl (fun r e => Tab.set (fun _ => e.1.reset 0) r (e.1.key e.2.1 0) e.2.2) [] })] }
def ss (l : Sets) (f : Sc → Sc := id) (v : Vc := {}) : State :=
  { vc := v
    scs := [(0, f { power := true, regs := l.foldl (fun r e => Tab.set (fun _ => e.1.reset 0) r (e.1.key e.2.1 0) e.2.2) [] })] }

/-- A step's next state shows `p`. -/
def after (o : Host.Outcome State Fault Refusal) (p : State → Bool) : Bool :=
  match o with
  | .next t => p t
  | _ => false

/-! ### Resets, the start, BAR0, the tick, the voter, the cascade -/

theorem test_hyp_ValveTimeThroughResets : (∃ b, ColdCause.power true = .power b) ∧ ∃ ns, 1000 ≤ ns ∧ ColdCause.pin 1000 = .pin ns :=
  ⟨⟨_, rfl⟩, 1000, by decide, rfl⟩

theorem test_hyp_StartSteps :
    (let s := vs []; s.vc.rd BOOT.STATUS.STATE = 0 ∧ s.vc.boot.running = false) ∧
    (let s := vs [] fun v => { v with boot := { running := true } }
     s.vc.boot.running = true ∧ s.vc.rd BOOT.STATUS.STEP = 0 ∧ s.vc.boot.since + 4000000 ≤ (s.vc.elapse 4000000).now) ∧
    (∀ n, n = 6 ∨ n = 7 ∨ n = 8 → let s := vs [(BOOT.STATUS.STEP, 0, n)] fun v => { v with boot := { running := true } }
     s.vc.boot.running = true ∧ s.vc.rd BOOT.STATUS.STEP = n ∧
       s.vc.boot.since + stepLimit n * 4000000 ≤ (s.vc.elapse (stepLimit n * 4000000)).now) ∧
    (let s := vs [(BOOT.STATUS.STATE, 0, 1)]
     s.vc.rd BOOT.STATUS.STATE = 1 ∧ bit s.vc.boot.done 9 = false ∧ bits (4#32).toNat 2 0 = 4) := by
  refine ⟨by decide, by decide, ?_, by decide⟩
  rintro n (rfl | rfl | rfl) <;> decide

theorem test_hyp_BootCommands :
    (let s := vs [(BOOT.STATUS.TRIAL, 0, 1)]
     s.vc.rd BOOT.STATUS.TRIAL = 1 ∧ s.vc.rd BOOT.STATUS.CONFIRM_BUSY = 0 ∧ s.vc.boot.xspi = [] ∧
       bits (0x7E810001#32).toNat 2 0 = 1 ∧ bits (0x7E810001#32).toNat 31 16 = 0x7E81) ∧
    bits (0x7E810002#32).toNat 2 0 = 2 ∧ bits (0x7E810002#32).toNat 31 16 = 0x7E81 := by decide +kernel

theorem test_hyp_WrongAccess :
    (2#22).toNat % 4 ≠ 0 ∧ (7#4) ≠ 15 ∧ (vs []).vc.rd ERR.VIOL_INFO.VALID = 0 ∧ GLOBAL.STATUS.BLOCKED.id ∉ violationFields := by decide +kernel

/-- VOTER.CFG is a register without a rule of its own. -/
theorem test_hyp_PlainRegisterWrite : bit (1#32).toNat 0 = true ∧ (let s := vs []
  ((findRow (vcRows ((0x20000#22).toNat / 65536)) (0x20000#22).toNat).any fun (r, i, _) => decide (r.tag = .plain) &&
    !s.vc.lockedRow r i && r.takes (5#32).toNat && decide (r.parts.map fun p => p.f.id).Nodup &&
    (r.parts.any fun p => decide (p.acc = .rwl ∧ p.sh = 0 ∧ 0 < p.w ∧ p.w = p.f.w))) = true ∧
  (0x20000#22).toNat % 4 = 0 ∧ inWindow (0x20000#22).toNat = false ∧ s.vc.rd BOOT.STATUS.STATE ≠ 2) := by decide +kernel

/-- GLOBAL.STATUS, ERR.LAST_VT's low word and its high word. -/
theorem test_hyp_LatchedReads :
    (∀ e ∈ [((8 : Nat), Half.none), (0x160014, Half.low), (0x160018, Half.high)],
      ((findRow (vcRows (e.1 / 65536)) e.1).any fun (r, _, _) => decide (r.half = e.2 ∧ r.tag ≠ .portlink)) = true ∧
        (BitVec.ofNat 22 e.1).toNat % 4 = 0 ∧ inWindow e.1 = false) ∧
    (vs []).vc.rd BOOT.STATUS.STATE ≠ 2 ∧
    (((vs [] fun v => { v with host := { latch := [(0x160018, 7)] } }).vc.host.latch.find? fun e => e.1 = 0x160018) =
      some (0x160018, 7)) ∧
    ((vs []).vc.host.latch.find? fun e => e.1 = 0x160018) = none := by decide +kernel

theorem test_hyp_TickInstants : (vs []).vc.rd GLOBAL.TICKCFG.TP_NS ≠ 0 ∧
    (vs []).vc.rd TIME.TICKOFS.OFS = (vs []).vc.casc.tickOfs.getD ((vs []).vc.rd TIME.TICKOFS.OFS) := by decide +kernel

/-- A die in service while three agree, and while two do; a flit that checks and one that does not. -/
theorem test_hyp_DieFailuresAndRealignment :
    ((vs [(VOTER.STATUS.STATE_A, 0, 0), (VOTER.STATUS.MODE, 0, 0)]).vc.rd (dieFld 0) = 0 ∧
      (vs [(VOTER.STATUS.STATE_A, 0, 0), (VOTER.STATUS.MODE, 0, 0)]).vc.rd VOTER.STATUS.MODE = 0) ∧
    (let s := vs [(VOTER.STATUS.STATE_A, 0, 0), (VOTER.STATUS.MODE, 0, 1)]
     s.vc.rd (dieFld 0) = 0 ∧ s.vc.rd VOTER.STATUS.MODE = 1 ∧ s.vc.voter.lastAside = none) ∧
    (vs [(VOTER.STATUS.STATE_A, 0, 1)]).vc.rd (dieFld 0) ≠ 0 ∧ 2 ≤ (vs [(VOTER.STATUS.MODE, 0, 2)]).vc.rd VOTER.STATUS.MODE ∧
    16 ≤ (vs [] fun v => { v with voter := { replays := [16, 0, 0] } }).vc.voter.replays.getD (0 : Fin 3) 0 ∧
    (BitVec.ofNat 16 (check16 (bitsUp (0#256).toNat 0 256))).toNat = check16 (bitsUp (0#256).toNat 0 256) ∧
    (BitVec.ofNat 16 (check16 (bitsUp (0#256).toNat 0 256)) + 1).toNat ≠ check16 (bitsUp (0#256).toNat 0 256) ∧
    (vs []).vc.voter.replays.getD (0 : Fin 3) 0 < 16 := by decide +kernel

theorem test_hyp_DieFailuresAndRealignment_back :
    (vs [(VOTER.STATUS.STATE_A, 0, 1)]).vc.rd (dieFld 0) = 1 ∧
    (let s := vs [(VOTER.STATUS.STATE_A, 0, 0), (VOTER.STATUS.MODE, 0, 0)]
     s.vc.rd BOOT.STATUS.STATE ≠ 2 ∧ bits (0xC3A50010#32).toNat 31 16 = 0xC3A5 ∧ bits (0xC3A50010#32).toNat 6 4 = 1 ∧
       bits (0xC3A50010#32).toNat 2 0 = 0 ∧ s.vc.rd VOTER.STATUS.MODE = 0 ∧ s.vc.rd VOTER.STATUS.STATE_A = 0) ∧
    (let s := vs [(VOTER.STATUS.STATE_B, 0, 2), (VOTER.STATUS.MODE, 0, 1)]
     bits (0xC3A50002#32).toNat 31 16 = 0xC3A5 ∧ bits (0xC3A50002#32).toNat 6 4 = 0 ∧ bits (0xC3A50002#32).toNat 2 0 = 2 ∧
       s.vc.rd VOTER.STATUS.MODE = 1 ∧ s.vc.rd VOTER.STATUS.STATE_B = 2) ∧
    (let s := vs [(VOTER.STATUS.STATE_A, 0, 3)] fun v => { v with voter := { copy := 64 } }
     s.vc.rd (dieFld 0) = 3 ∧ s.vc.voter.copy = 64) := by decide +kernel

theorem test_hyp_CascadeStartAndStop :
    (let s := vs [(CASCADE.CFG.ROLE, 0, 1), (CASCADE.CFG.VC_COUNT, 0, 16)]
     s.vc.rd BOOT.STATUS.STATE ≠ 2 ∧ bits (1#32).toNat 1 0 = 1 ∧ s.vc.rd CASCADE.STATUS.STATE = 0 ∧ s.vc.rd CASCADE.CFG.ROLE = 1 ∧
       1 ≤ s.vc.rd CASCADE.CFG.VC_COUNT ∧ s.vc.rd CASCADE.CFG.VC_COUNT ≤ 16) ∧
    bit (2#32).toNat 1 = true ∧
    (let s := vs [(CASCADE.CFG.ROLE, 0, 2), (CASCADE.STATUS.READY, 0, 1)]
     s.vc.rd CASCADE.STATUS.STATE = 0 ∧ s.vc.rd CASCADE.CFG.ROLE = 2 ∧ s.vc.rd CASCADE.STATUS.READY = 1 ∧ (15#8).toNat < 16) ∧
    (let s := vs [(CASCADE.STATUS.STATE, 0, 1), (CASCADE.CFG.VC_COUNT, 0, 2)]
     s.vc.rd CASCADE.STATUS.STATE = 1 ∧ (∃ a ∈ [(1#8, 3#8)], a.2.toNat ≠ s.vc.rd CASCADE.CFG.VC_COUNT) ∧
       (∀ a ∈ [(1#8, 2#8)], a.1.toNat < 16 ∧ a.2.toNat = s.vc.rd CASCADE.CFG.VC_COUNT) ∧
       (∀ i < s.vc.rd CASCADE.CFG.VC_COUNT - 1, ∃ a ∈ [(1#8, 2#8)], a.1.toNat = i + 1) ∧
       (s.vc.elapse 40000000).now ≤ s.vc.casc.startAt + 40000000 ∧ s.vc.casc.startAt + 40000000 ≤ (s.vc.elapse 40000000).now) := by
  refine ⟨by decide +kernel, by decide +kernel, by decide +kernel, ?_, ?_, ?_, ?_, ?_⟩
  · decide +kernel
  · decide +kernel
  · intro a ha
    obtain rfl := List.mem_singleton.1 ha
    exact ⟨by decide +kernel, by decide +kernel⟩
  · decide +kernel
  · exact ⟨Nat.le_refl 40000000, Nat.le_refl 40000000⟩

theorem test_hyp_CascadeFrames :
    (let s := vs [(CASCADE.STATUS.STATE, 0, 2), (CASCADE.CFG.ROLE, 0, 2), (CASCADE.CFG.VC_ID, 0, 1)]
     s.vc.rd CASCADE.STATUS.STATE = 2 ∧ (s.vc.elapse 0).budgetMet = true ∧ s.vc.rd CASCADE.CFG.ROLE = 2 ∧
       s.vc.rd CASCADE.CFG.VC_ID = (1 : Fin 16) ∧ s.vc.casc.members.length = 0) ∧
    (let s := vs [(CASCADE.STATUS.STATE, 0, 2)] fun v => { v with casc := { aligned := true, members := [(3, 0)] } }
     s.vc.rd CASCADE.STATUS.STATE = 2 ∧ s.vc.casc.aligned = true ∧ ∀ m ∈ s.vc.casc.members, m.1 ≠ (2 : Fin 16)) ∧
    (let s := vs [(CASCADE.STATUS.STATE, 0, 3), (LANE.STATUS.BSTATE, 104, 7)]
     let b : Block := ⟨true, BitVec.ofNat 64 (flashBlock 1 0 7)⟩
     b.ctl = true ∧ flashOk b.pay.toNat = true ∧ s.vc.prot.seenCasc = [] ∧ s.vc.pairUp (b2n false) = true ∧
       s.vc.rd PROT.LATCH.CAUSE = 0) := by decide +kernel
/-! ### Lens, Prism, protection -/

/-- A context of one state and one output, on every tick. -/
def ctx0 : Sets := [(CTX.CFG0.NX, 0, 1), (CTX.CFG0.NU, 0, 1), (CTX.CFG1.RATE_DIV, 0, 1), (CTX.CFG2.INV_LIMIT, 0, 1), (CTX.CFG0.NX, 1, 33)]

/-- A job of a step under way. -/
def job0 : Job := { ready := none, left := [], u := [], v := [], xhat := [], xi := [], ok := true, bank := 0, swap := none, swapSat := false, sample := 0, ins := [] }

theorem test_hyp_LoopContexts :
    (let s := vs ctx0
     s.vc.rd BOOT.STATUS.STATE ≠ 2 ∧ bits (1#32).toNat 1 0 = 1 ∧ s.vc.rd CTX.STATUS.STATE (0 : Fin 16) ≠ 1 ∧
       s.vc.startCode (0 : Fin 16) = 0 ∧ s.vc.startCode (1 : Fin 16) ≠ 0) ∧
    (let s := vs (ctx0 ++ [(CTX.STATUS.STATE, 0, 1)])
     bits (2#32).toNat 1 0 = 2 ∧ s.vc.rd CTX.STATUS.STATE (1 : Fin 16) = 0 ∧ s.vc.rd CTX.STATUS.STATE (0 : Fin 16) ≠ 0 ∧
       s.vc.stopRefused (0 : Fin 16) = false) ∧
    (let s := vs (ctx0 ++ [(CTX.STATUS.STATE, 0, 1), (CTX.STATUS.STATE, 1, 1), (CTX.CFG1.PARENT_EN, 1, 1)])
     s.vc.rd CTX.STATUS.STATE (0 : Fin 16) ≠ 0 ∧ s.vc.stopRefused (0 : Fin 16) = true) ∧
    (vs ctx0).vc.stopRefused (0 : Fin 16) = false ∧
    (let s := vs [(SCHED.SETPT_OWN.OWN, 1, 1)]
     bit (s.vc.rd SCHED.SETPT_OWN.OWN ((33 : Fin 64).val / 32)) ((33 : Fin 64).val % 32) = false ∧
       bit (s.vc.rd SCHED.SETPT_OWN.OWN ((32 : Fin 64).val / 32)) ((32 : Fin 64).val % 32) = true) ∧
    (let s := vs [(CTX.STATUS.STATE, 0, 1)] fun v => { v with lens := { ctxs := [(0, { job := some job0 })] } }
     s.vc.rd CTX.STATUS.STATE (0 : Fin 16) = 1 ∧ (s.vc.ctx (0 : Fin 16)).job ≠ none ∧
       (s.vc.elapse 0).ctxDue (0 : Fin 16) (s.vc.elapse 0).nextTickNo = true) := by decide +kernel

/-- A started descriptor of these words in flight, Bus Master Enable set. -/
def desc (ws : List Nat) : Desc := { id := 0, sq := 0, slot := 0, words := ws, stage := .started }
def dv (l : Sets) (ws : List Nat) (f : Vc → Vc := id) : State :=
  vs l fun v => f { v with host := { descs := [desc ws], bme := true } }

/-- The same descriptor at the tick boundary it waited for, with its buffer, and a controller that holds it. -/
def dued (ws : List Nat) (buf : HostBuf) : Desc := { desc ws with waiting := true, bound := some buf }
def due (l : Sets) (ws : List Nat) (buf : HostBuf) (f : Vc → Vc := id) : Vc :=
  f { vset l with host := { descs := [dued ws buf], bme := true } }

/-- The words of a COEF_LOAD of one element (R88): A of bank 1 of context 0, and of a reserved matrix. -/
def coefWords (dir m : Nat) : List Nat :=
  [2 * 16777216, 0, 0, 0, dir * 2147483648 + 0x1000 + m * 256, 0x01010000, 0, 0, 4, if dir = 1 then 0 else crc32c [0, 0, 128, 63]]

theorem test_hyp_LensDescriptors :
    (∀ e ∈ [((0 : Nat), (0 : Nat)), (12, 1)], let d := desc (coefWords 0 e.1); let s := dv [] (coefWords 0 e.1)
      s.vc.Started d 2 ∧ bit (d.word 4) 31 = false) ∧
    (∀ e ∈ [((0 : Nat), (0 : Nat)), (12, 1)], let d := desc (coefWords 0 e.1)
      let d' := dued (coefWords 0 e.1) (.bytes [0, 0, 128, 63])
      let v := due [] (coefWords 0 e.1) (.bytes [0, 0, 128, 63])
      v.Due d' 2 (.bytes [0, 0, 128, 63]) ∧ bit (d'.word 4) 31 = false ∧ v.coefStatus d' (.bytes [0, 0, 128, 63]) = e.2 ∧
        bufBytes (.bytes [0, 0, 128, 63]) (d.word 8) = some [0, 0, 128, 63] ∧ (subBlock (d.word 5))[0]? = some (0, 0)) ∧
    (let d := desc (coefWords 1 0); let s := dv [] (coefWords 1 0)
     s.vc.Started d 2 ∧ bit (d.word 4) 31 = true ∧ s.vc.coefStatus d (.bytes [0, 0, 0, 0]) = 0 ∧ s.vc.coefStatus d .failed = 0 ∧
       s.vc.host.bme = true ∧ (dv [] (coefWords 1 12)).vc.coefStatus (desc (coefWords 1 12)) .failed ≠ 0 ∧
       (dv [] (coefWords 1 0) fun v => { v with host := {} }).vc.host.bme = false) ∧
    (∀ e ∈ [((1 : Nat), (0 : Nat)), (0, 4)], let ws := [3 * 16777216, 0, 0, 0, 0x1000]; let s := dv [(CTX.STATUS.STATE, 0, e.1)] ws
      let d := dued ws .failed
      let v := due [(CTX.STATUS.STATE, 0, e.1)] ws .failed
      s.vc.Started (desc ws) 3 ∧ v.Due d 3 .failed ∧ v.swapStatus d = e.2) ∧
    (let a : Asdu := ⟨[0x41], 5, 1, 1, []⟩
     let f : SvFrame := ⟨false, 0, 0, 0x88BA, 0x4000, false, [a]⟩
     let s (crc : Nat) := vs [(SVSUB.CTL.ENABLE, 0, 1), (SVSUB.CTL.APPID, 0, 0x4000), (SVSUB.DMAC_LO.DMAC_LO, 0, 0),
       (SVSUB.DMAC_HI.DMAC_HI, 0, 0), (SVSUB.SVID_CRC.SVID_CRC, 0, crc), (SVSUB.CONFREV.CONFREV, 0, 1)]
     svSupported { f with sim := true } = false ∧ svSupported f = true ∧ f.asdus = [a] ∧
       (∀ crc ∈ [0, crc32c [0x41]], (s crc).vc.svMatches (0 : Fin 8) f = true) ∧
       crc32c (a.svId.map BitVec.toNat) = (s (crc32c [0x41])).vc.rd SVSUB.SVID_CRC.SVID_CRC (0 : Fin 8) ∧
       a.confRev.toNat = (s 0).vc.rd SVSUB.CONFREV.CONFREV (0 : Fin 8) ∧
       crc32c (a.svId.map BitVec.toNat) ≠ (s 0).vc.rd SVSUB.SVID_CRC.SVID_CRC (0 : Fin 8)) := by
  simp only [Vc.Started, Vc.Due]
  refine ⟨?_, ?_, ?_, ?_, ?_⟩ <;> decide +kernel

/-- Arm 0 of one string of one cell, whose facet meets R111. -/
def arm0 : State := vs [(PRISM.STRMAP.EN, 0, 1), (PRISM.STRMAP.ARM, 0, 0), (PRISM.STRMAP.HOME_VC, 0, 0), (STRING.CFG.CELLS, 0, 1),
    (STRING.STATUS.STATE, 0, 6), (STRING.STATUS.LC, 0, 1), (ARM.CFG1.N_ARM, 0, 1), (ARM.CFG1.N_SPARE, 0, 0), (ARM.CFG2.N_MIN, 0, 1), (PROT.CFG.MLANE_EN, 0, 1)]
  fun v => { v with facets := [(0, { inSvc := true, rstate := 1, cstate := 1, accepted := true })] }

theorem test_hyp_ArmsAndFacets :
    arm0.vc.formCode (0 : Fin 12) = 0 ∧ arm0.vc.formCode (1 : Fin 12) ≠ 0 ∧ arm0.vc.rd BOOT.STATUS.STATE ≠ 2 ∧
    (let s (b : Nat) := vs [(ARM.STAT.STATE, 0, 1), (GLOBAL.STATUS.BLOCKED, 0, b)]
     (∀ b, b < 2 → (s b).vc.rd ARM.STAT.STATE (0 : Fin 12) ≠ 0 ∧ (s b).vc.rd GLOBAL.STATUS.BLOCKED = b) ∧ bits (2#32).toNat 1 0 = 2) := by
  decide +kernel

/-- The words of a FACET_CTL (R131) on facet 0, and on too many; the trim byte is 5. -/
def facetWords (op count : Nat) : List Nat :=
  [1 * 16777216, 0, 0, 0, op * 268435456, count, 0, 0, if op = 0 then 1 else 0, if op = 0 then crc32c [5] else 0]

/-- Facet 0 of arm 0 of this VC, in service or not. -/
def arm0f (v : Vc) (b : Bool) : Vc := { v with facets := [(0, { inSvc := b, rstate := 1, accepted := true, arm := 0, home := 0 })] }

def facetDue (op good : Nat) : Vc :=
  due [] (facetWords op 1) (.bytes [5]) fun v =>
    arm0f { v with regs := (arm0.vc.wr ARM.STAT.STATE 1 0).regs } (decide (op ≠ 1) == decide (good = 1))

theorem test_hyp_ArmsAndFacets_due : ∀ e ∈ [((1 : Nat), (0 : Nat)), (1, 1), (2, 0), (2, 1), (3, 1)],
    let d := dued (facetWords e.1 1) (.bytes [5])
    let v := facetDue e.1 e.2
    v.Due d 1 (.bytes [5]) ∧ bits (d.word 4) 31 28 = e.1 ∧ v.facetCtlBad d = decide (e.2 = 0) ∧ 0 < bits (d.word 5) 12 0 := by
  simp only [Vc.Due]; decide +kernel

/-- A FACET_CTL is started with good words, and with a range too long; SET_TRIM is due. -/
theorem test_hyp_ArmsAndFacets_facets : ∀ op < 4, (∀ e ∈ [((1 : Nat), (0 : Nat)), (4609, 2)],
    let d := desc (facetWords op e.1)
    let s := dv [] (facetWords op e.1)
    s.vc.Started d 1 ∧ bits (d.word 4) 31 28 = op ∧ s.vc.facetCtlWords d (.bytes [5]) = e.2) ∧
    (op = 0 → let d := dued (facetWords op 1) (.bytes [5])
      let v := due [] (facetWords op 1) (.bytes [5]) fun v => arm0f v true
      v.Due d 1 (.bytes [5]) ∧ v.facetCtlBad d = false ∧ bufBytes (.bytes [5]) (d.word 8) = some [5] ∧ (v.facet 0).arm ≠ 15) := by
  simp only [Vc.Started, Vc.Due]
  refine fun op h => ⟨?_, ?_⟩ <;> revert op <;> decide +kernel

theorem test_hyp_ProtectionBlock :
    ((vs []).vc.rd BOOT.STATUS.STATE ≠ 2 ∧ bits (0x5A3C0001#32).toNat 1 0 = 1 ∧ bits (0x5A3C0001#32).toNat 31 16 = 0x5A3C ∧
      bits (1#32).toNat 1 0 = 1 ∧ bits (1#32).toNat 31 16 ≠ 0x5A3C ∧ bits (0x5A3C0002#32).toNat 1 0 = 2 ∧
      bits (0x5A3C0002#32).toNat 31 16 = 0x5A3C) ∧
    (let s := vs [(PROT.STATUS.PERMIT_A, 0, 1), (PROT.STATUS.PERMIT_B, 0, 1)] fun v => { v with prot := { pinA := true, pinB := true } }
     (s.vc.elapse 0).causeActive = false ∧ s.vc.rd PROT.STATUS.PERMIT_A = 1) ∧
    (((vs []).vc.elapse 0).causeActive = true ∧ (vs []).vc.blocked = true ∧ bit (0x8000#32).toNat 15 = true ∧
      (vs [(GLOBAL.STATUS.BLOCKED, 0, 0)]).vc.blocked = false) ∧
    (∀ act < 2, let s := vs [(PROT.CFG.MLANE_EN, 0, 1), (MLANE.CHCFG.EN, 0, 1), (MLANE.MCFG.MISS_ACT, 0, act)]
     s.vc.chEnabled (0 : Fin 8) (0 : Fin 4) = true ∧ (s.vc.chan (4 * (0 : Fin 8).val + (0 : Fin 4).val)).missed = false ∧
       (s.vc.elapse 400000000).pastMiss (0 : Fin 8) (0 : Fin 4) = true ∧ s.vc.rd MLANE.MCFG.MISS_ACT (0 : Fin 8) = act) := by
  decide +kernel

/-- Lane 0 with one channel, unit 7, aligned; a good frame of FSEQ 3 and a first block of its words. -/
def mlane0 : State := vs [(PROT.CFG.MLANE_EN, 0, 1), (MLANE.MCFG.NCH, 0, 1), (MLANE.MCFG.UNIT_ID, 0, 7), (LANE.STATUS.BSTATE, 96, 7)]
def mA : DWord := 0x000100070003015A#64
def mD : DWord := BitVec.ofNat 64 (check16 (bitsUp mA.toNat 0 64 ++ bitsUp 0x1234 0 64 ++ bitsUp 0 0 64))

theorem test_hyp_MeasurementFrames :
    bit ((vs []).vc.rd PROT.CFG.MLANE_EN) (0 : Fin 8) = false ∧ bit (mlane0.vc.rd PROT.CFG.MLANE_EN) (0 : Fin 8) = true ∧
    ([] : List Block).length ≠ 4 ∧ mlane0.vc.rd LANE.STATUS.BSTATE (96 + (0 : Fin 8).val) = 7 ∧ mA.toNat % 256 = 0x5A ∧
    bits mD.toNat 15 0 = check16 (bitsUp mA.toNat 0 64 ++ bitsUp (0x1234#64).toNat 0 64 ++ bitsUp (0#64).toNat 0 64) ∧
    bits mA.toNat 47 32 = mlane0.vc.rd MLANE.MCFG.UNIT_ID (0 : Fin 8) ∧ bits mA.toNat 10 8 = mlane0.vc.rd MLANE.MCFG.NCH (0 : Fin 8) ∧
    (0 : Fin 4).val < bits mA.toNat 10 8 ∧ bit (bits mA.toNat 51 48) 0 = true ∧ bit (bits mA.toNat 51 48) 2 = false := by decide +kernel

theorem test_hyp_TokensAndFirings :
    (bits (0x96E18004#32).toNat 15 12 = 8 ∧ bits (0x96E18004#32).toNat 31 16 = 0x96E1 ∧ bits (0x96E18004#32).toNat 7 0 ≠ 0 ∧
      8 < bits (0x96E19004#32).toNat 15 12 ∧ bits (0x96E18000#32).toNat 7 0 = 0 ∧ bits (0x96E10000#32).toNat 15 12 = 0 ∧
      (vs []).vc.rd BOOT.STATUS.STATE ≠ 2) ∧
    (let s := vs [] fun v => { v with prot := { tokens := [(0, ⟨0, 8, 100⟩)] } }
     (s.vc.elapse 100).tokenValid (0 : Fin 12) = false ∧ (s.vc.elapse 50).tokenValid (0 : Fin 12) = true) ∧
    (bits (0x96E111FF#32).toNat 31 16 = 0x96E1 ∧ bits (0x96E111FF#32).toNat 12 0 < 4608 ∧ 4608 ≤ bits (0x96E11200#32).toNat 12 0) ∧
    (let g : Firing := { facet := 3, left := 0, effIn := 0, after := 16 }
     let s := vs [] fun v => { v with prot := { firing := some g } }
     s.vc.prot.firing = some g ∧ g.left = 0 ∧ g.effIn = 0 ∧ 16 ≤ g.after) := by decide +kernel
/-! ### Work scheduler, strings and links -/

theorem test_hyp_WorkItems :
    ((vs []).vc.rd BOOT.STATUS.STATE ≠ 2 ∧ bits (0x10000003#32).toNat 31 28 = 1 ∧ bits (0x20000003#32).toNat 31 28 = 2 ∧
      bits (0x30000003#32).toNat 31 28 = 3 ∧ bits (0x10000003#32).toNat 7 0 = 3) ∧
    ((vs [(ITEM.W7.STATE, 3, 1)]).vc.itemIdle 3 = false ∧ (vs [(ITEM.W7.STATE, 3, 1)]).vc.rd ITEM.W7.STATE 3 < 5) ∧
    ((vs []).vc.itemIdle 3 = true ∧ (vs [(ITEM.ENTRY.ENTRY, 3, 1)]).vc.entryOk 3 = false ∧ (vs [(ITEM.ENTRY.ENTRY, 3, 0x100)]).vc.entryOk 3 = true) ∧
    5 ≤ (vs [(ITEM.W7.STATE, 3, 5)]).vc.rd ITEM.W7.STATE 3 ∧
    (let s := vs [(ITEM.W7.STATE, 0, 2)] fun v => { v with sched := { items := [(0, { deadline := some 5 })] }, time := { tickVt := some 5 } }
     (s.vc.itemSt (0 : Fin 256)).deadline = some 5 ∧ s.vc.time.tickVt = some 5 ∧ 1 ≤ s.vc.rd ITEM.W7.STATE (0 : Fin 256) ∧
       s.vc.rd ITEM.W7.STATE (0 : Fin 256) ≤ 4 ∧ (s.vc.itemSt (0 : Fin 256)).checked = false ∧
       s.vc.rd ITEM.W5.DL_ACT (0 : Fin 256) ≤ 1) := by decide +kernel

theorem test_hyp_CoresAndItems :
    (let s := vs [(SCHED.SETPT_OWN.OWN, 0, 1)] fun v => { v with sched := { runs := [(0, some ⟨3, 0, 0⟩)] } }
     s.vc.run? (0 : Fin 8) = some ⟨3, 0, 0⟩ ∧ bit (s.vc.rd SCHED.SETPT_OWN.OWN ((0 : Fin 64).val / 32)) ((0 : Fin 64).val % 32) = true ∧
       bit (s.vc.rd SCHED.SETPT_OWN.OWN ((1 : Fin 64).val / 32)) ((1 : Fin 64).val % 32) = false) ∧
    (vs []).vc.run? (0 : Fin 8) = none := by decide +kernel

/-- Core 0 with item 3, whose pc and x1 are given, and an instruction's bytes there. -/
def core0 (pc w : Nat) : Vc :=
  { sched := { runs := [(0, some ⟨3, 0, 0⟩)], harts := [(0, { pc := pc, x := [(1, 5)] })]
               tcm := (List.range 4).map fun i => (pc + i, some (w / 256 ^ i % 256)) } }

/-- `ADDI x2, x1, 7`, at an address whose next word is not the scheduler's exit. -/
theorem test_hyp_CoresAndItems_step :
    (∃ v : Vc, v.run? (0 : Fin 8) = some ⟨3, 0, 0⟩ ∧ ((v.hart (0 : Fin 8)).pc + 4) % 4294967296 ≠ schedExit ∧
      v.coreFetch (0 : Fin 8) (v.hart (0 : Fin 8)).pc = some (7 * 1048576 + (1 : Fin 32).val * 32768 + (2 : Fin 32).val * 128 + 0x13)) ∧
    (core0 0 0).coreFetch (0 : Fin 8) ((core0 0 0).hart (0 : Fin 8)).pc = some 0 ∧
    tcmKey (0 : Fin 8) ((core0 0x40000000 0).hart (0 : Fin 8)).pc = none := by
  refine ⟨?_, by decide +kernel, by decide +kernel⟩
  by_cases h : schedExit = 4
  · refine ⟨core0 8 0x00708113, by decide +kernel, ?_, by decide +kernel⟩
    rw [h]; decide +kernel
  · exact ⟨core0 0 0x00708113, by decide +kernel, Ne.symm h, by decide +kernel⟩

/-- String 0 with one cell, in a state. -/
def str0 (st : Nat) (l : Sets) (f : Str → Str := id) : State :=
  vs ([(STRING.CFG.EN, 0, 1), (STRING.CFG.CELLS, 0, 1), (STRING.STATUS.STATE, 0, st)] ++ l) fun v => { v with strs := [(0, f {})] }

/-- Lane `l` of the controller in use. -/
def laneUp (l : Nat) : Fld × Nat × Nat := (LANE.STATUS.BSTATE, l, 7)

theorem test_hyp_StringControl :
    ((vs []).vc.rd BOOT.STATUS.STATE ≠ 2 ∧ bits (1#32).toNat 2 0 = 1 ∧ (vs []).vc.rd STRING.CFG.EN (0 : Fin 48) = 0) ∧
    ((str0 0 []).vc.rd STRING.CFG.EN (0 : Fin 48) = 1 ∧ (str0 0 []).vc.rd STRING.CFG.CELLS (0 : Fin 48) ≠ 0 ∧
      (str0 0 []).vc.rd STRING.STATUS.STATE (0 : Fin 48) = 0) ∧
    (∀ e ∈ [((1000 : Nat), true), (100, false)], let s := str0 0 [(GLOBAL.TICKCFG.TP_NS, 0, e.1)]
      tpPasses (s.vc.rd GLOBAL.TICKCFG.TP_NS) (s.vc.rd STRING.CFG.CELLS (0 : Fin 48)) (s.vc.strRate (0 : Fin 48)) = e.2) ∧
    (bits (2#32).toNat 2 0 = 2 ∧ (str0 7 []).vc.rd GLOBAL.STATUS.BLOCKED = 1 ∧ (str0 7 []).vc.rd STRING.STATUS.STATE (0 : Fin 48) = 7 ∧
      (str0 6 []).vc.strRuns (0 : Fin 48) = true ∧ ((str0 6 []).vc.str (0 : Fin 48)).stopLeft = none) ∧
    (let s := str0 6 [(PRISM.STRMAP.EN, 0, 1), (PRISM.STRMAP.ARM, 0, 0), (PRISM.STRMAP.HOME_VC, 0, 0), (ARM.STAT.STATE, 0, 1), (GLOBAL.STATUS.BLOCKED, 0, 0)]
     s.vc.rd GLOBAL.STATUS.BLOCKED = 0 ∧ (s.vc.strArm (0 : Fin 48)).state = 1) ∧
    ((str0 6 [] fun x => { x with stopLeft := some 0 }).vc.str (0 : Fin 48)).stopLeft = some 0 ∧
    (bits (4#32).toNat 2 0 = 4 ∧ (str0 6 []).vc.rd STRING.STATUS.LOAD_BUSY (0 : Fin 48) = 0 ∧ ((str0 6 []).vc.str (0 : Fin 48)).msgs = [] ∧
      ((str0 6 []).vc.str (0 : Fin 48)).msgOut = none ∧
      (str0 6 [(STRING.STATUS.LOAD_BUSY, 0, 1)]).vc.rd STRING.STATUS.LOAD_BUSY (0 : Fin 48) = 1) ∧
    (∀ g < 2, let t := str0 5 [(STRING.STATUS.LGEN, 0, g)] fun x => { x with load := some ⟨false, 8⟩ }
     let s : State := { t with vc := { t.vc with facets := [(0, { seqDone := some 1 })] } }
     (s.vc.str (0 : Fin 48)).load = some ⟨false, 8⟩ ∧ s.vc.rd STRING.STATUS.STATE (0 : Fin 48) = 5 ∧
       (g = 0 → ∀ p < s.vc.rd STRING.CFG.CELLS (0 : Fin 48), s.vc.confirms (0 : Fin 48) p = true) ∧
       (g = 1 → ∃ p < s.vc.rd STRING.CFG.CELLS (0 : Fin 48), s.vc.confirms (0 : Fin 48) p = false)) := by decide +kernel

/-- A message frame, and a header, of these words with their checks. -/
def msg (src tag addr dest op : Nat) (pl : List Nat) : MsgFrame :=
  let m0 := msgHead src tag addr dest pl.length op
  { m0 := ⟨true, BitVec.ofNat 64 m0⟩, payload := pl.map (BitVec.ofNat 64), check := BitVec.ofNat 64 (msgCheck m0 pl) }
def header (b0 b1 b2 b3 : Nat) : List Block :=
  [⟨true, BitVec.ofNat 64 b0⟩, ⟨false, BitVec.ofNat 64 b1⟩, ⟨false, BitVec.ofNat 64 b2⟩,
    ⟨false, BitVec.ofNat 64 (b3 + headerCheck b0 b1 b2 b3 * 281474976710656)⟩]

theorem test_hyp_StringBringUp :
    (∀ st ∈ [1, 2], ((str0 st []).vc.str (0 : Fin 48)).since + 400000000 ≤ ((str0 st []).vc.elapse 400000000).now ∧
      (str0 st []).vc.rd STRING.STATUS.STATE (0 : Fin 48) = st ∧
      ((str0 st []).vc.str (0 : Fin 48)).assignAt + 4000000 ≤ ((str0 st []).vc.elapse 400000000).now) ∧
    (let s := str0 2 [laneUp 1]
     (msg 0x7F 0 1 0x7F 5 []).ok = true ∧ (msg 0x7F 0 1 0x7F 5 []).op = 5 ∧ s.vc.endInUse (0 : Fin 48) 1 = true ∧
       (msg 0x7F 0 2 0x7F 5 []).addr ≠ s.vc.rd STRING.CFG.CELLS (0 : Fin 48) ∧ (msg 0x7F 0 2 0x7F 5 []).ok = true ∧
       (msg 0x7F 0 1 0x7F 5 []).addr = s.vc.rd STRING.CFG.CELLS (0 : Fin 48)) ∧
    ((str0 3 [] fun x => { x with calFail := true }).vc.str (0 : Fin 48)).calFail = true ∧
    (∀ e ∈ [((1000 : Nat), true), (50, false)],
     let s := str0 3 [(GLOBAL.TICKCFG.TP_NS, 0, e.1)] fun x => { x with calVals := (List.range 16).map fun k => (k, 0) }
     s.vc.rd STRING.STATUS.STATE (0 : Fin 48) = 3 ∧ (s.vc.str (0 : Fin 48)).calFail = false ∧ 16 ≤ (s.vc.str (0 : Fin 48)).calVals.length ∧
       (s.vc.str (0 : Fin 48)).msgOut = none ∧ (s.vc.str (0 : Fin 48)).msgs = [] ∧ decide (s.vc.calcLc (0 : Fin 48) ≤ 4) = e.2) ∧
    (let s := str0 4 [] fun x => { x with imgDone := some 0 }
     s.vc.rd STRING.STATUS.STATE (0 : Fin 48) = 4 ∧ (s.vc.str (0 : Fin 48)).imgDone = some 0 ∧ 0 + 32000000 ≤ (s.vc.elapse 32000000).now ∧
       s.vc.rd STRING.CFG.CELLS (0 : Fin 48) ≠ 0 ∧ s.vc.rd STRING.CFG.CELLS (0 : Fin 48) ≤ 1 ∧
       bits (0x30000000#32).toNat 31 28 = 3 ∧ (BitVec.ofNat 32 s.vc.cellImage.2).toNat = s.vc.cellImage.2) ∧
    (let s := str0 5 [] fun x => { x with clean := 16, syncTicks := 256 }
     s.vc.rd STRING.STATUS.STATE (0 : Fin 48) = 5 ∧ 16 ≤ (s.vc.str (0 : Fin 48)).clean ∧ 256 ≤ (s.vc.str (0 : Fin 48)).syncTicks) ∧
    (let s := str0 6 []
     s.vc.rd STRING.STATUS.STATE (0 : Fin 48) = 6 ∧ s.vc.endInUse (0 : Fin 48) 0 = false ∧ s.vc.endInUse (0 : Fin 48) 1 = false) := by
  decide +kernel

theorem test_hyp_StringTraffic :
    (let m : Msg := ⟨.wdog, 1, 0, 0x300, 1, [0], 0⟩
     let s := str0 6 [] fun x => { x with msgs := [m] }
     (s.vc.str (0 : Fin 48)).msgOut = none ∧ 2 ≤ s.vc.rd STRING.STATUS.STATE (0 : Fin 48) ∧ s.vc.rd STRING.STATUS.STATE (0 : Fin 48) ≤ 6 ∧
       (s.vc.str (0 : Fin 48)).img = [] ∧ (s.vc.str (0 : Fin 48)).msgs = [m] ∧ m.dest ≠ 0x7F ∧
       (s.vc.elapse 0).msgFits (0 : Fin 48) (m.payload.length + 2) = true) ∧
    (let o : MsgOut := ⟨⟨.wdog, 1, 0, 0x300, 1, [0], 0⟩, 9, 0⟩
     let s := str0 6 [laneUp 0] fun x => { x with msgOut := some o }
     (s.vc.str (0 : Fin 48)).msgOut = some o ∧ s.vc.endInUse (0 : Fin 48) (b2n false) = true ∧ o.msg.op = 1 ∧
       o.sent + max (16 * s.vc.tq) 160000 ≤ (s.vc.elapse 1600000).now ∧
       ∀ m ∈ [msg 0 9 0x300 0x7F 3 [], msg 0 9 0x300 0x7F 4 [1]], m.ok = true ∧ m.tag = o.tag ∧ m.dest = 0x7F ∧ m.src = o.msg.dest ∧
         (m.op = 3 ∨ m.op = 4 ∧ m.len = 1)) ∧
    (str0 6 [laneUp 0]).vc.strRuns (0 : Fin 48) = true ∧ headerOk (header 0x6996 0 0 0) = true ∧ headerOk (header 0x6996 0 0 0).tail = false ∧
    (0 : Fin 96).val < (str0 6 [laneUp 0]).vc.rd STRING.CFG.CELLS (0 : Fin 48) := by decide +kernel

/-- A training frame of a node of the VC: type, rate, number of entries, chosen entry, highest rate 2. -/
def train (type rate chosen fom : Nat) : TrainFrame :=
  trainFrame (type + 2 * 65536 + rate * 262144 + 1048576 + chosen * 16777216 + 268435456) fom 0 0

/-- Lane 0 of a string that trains, and the down lane of cell 0. -/
def vlane (bst : Nat) (f : LaneSt → LaneSt := id) (l : Sets := []) : State :=
  vs ([(STRING.CFG.EN, 0, 1), (STRING.STATUS.STATE, 0, 1), (LANE.STATUS.PSTATE, 0, 0), (LANE.STATUS.BSTATE, 0, bst)] ++ l)
    fun v => { v with lanes := [(0, f {})] }
def clane (bst : Nat) (f : Cell → Cell := id) (l : Sets := []) : State :=
  cs ([(CCLINK.LSTAT.PSTATE, 1, 0), (CCLINK.LSTAT.BSTATE, 1, bst)] ++ l) f

theorem test_hyp_LinkTraining :
    (∀ t ∈ [1, 2, 3, 4], (train t 1 0 255).valid = true ∧ (train t 1 0 255).type = t ∧ (train t 1 0 255).rate = 1) ∧
    (train 1 0 0 0).rate = 0 ∧
    (∀ n ∈ [1, 2], let s := vlane 2 fun x => { x with rxRun := n }
     (n = 1 → (s.linkEnd (.vc 0)).st.rxRun < 2) ∧ (n = 2 → 2 ≤ (s.linkEnd (.vc 0)).st.rxRun) ∧
       (s.linkEnd (.vc 0)).st.since + 8 * frameTime ≤ (s.vc.elapse 4352).now) ∧
    (∀ r < 3, let s := vlane 2 id [(STRING.CFG.RATE, 0, r)]
     s.linkTrains (.vc 0) = true ∧ (s.linkEnd (.vc 0)).bst = 2 ∧ (s.linkCfg (.vc 0)).max = r ∧ (s.linkCfg (.vc 0)).anyT = false ∧
       (train 1 0 0 0).maxRate = 2 ∧ (trainFrame (1 + 268435456) 0 0 0).valid = true ∧ (trainFrame (1 + 268435456) 0 0 0).maxRate = 0) ∧
    ((clane 2).linkTrains (.cc 0 0 true) = true ∧ ((clane 2).linkEnd (.cc 0 0 true)).bst = 2 ∧ ((clane 2).linkCfg (.cc 0 0 true)).anyT = true) ∧
    (let s := vlane 3 (fun x => { x with cur := 1, target := 2 })
     s.linkTrains (.vc 0) = true ∧ (s.linkEnd (.vc 0)).bst = 3 ∧ (train 2 1 0 0).rate = (s.linkEnd (.vc 0)).st.cur) ∧
    (∀ tgt ∈ [1, 2], let s := vlane 5 (fun x => { x with cur := 1, target := tgt, foms := [255] })
     let j (f : TrainFrame) := chooseEntry (s.linkEnd (.vc 0)).st.foms f.foms ((s.linkEnd (.vc 0)).slots (s.linkCfg (.vc 0)))
     s.linkTrains (.vc 0) = true ∧ (s.linkEnd (.vc 0)).bst = 5 ∧ (train 3 1 0 255).rate = (s.linkEnd (.vc 0)).st.cur ∧
       max (s.linkCfg (.vc 0)).fomMin (train 3 1 0 255).fomMin ≤ (j (train 3 1 0 255)).2 ∧
       (j (train 3 1 0 0)).2 < max (s.linkCfg (.vc 0)).fomMin (train 3 1 0 0).fomMin ∧
       (tgt = 2 → (s.linkEnd (.vc 0)).st.cur < (s.linkEnd (.vc 0)).st.target) ∧
       (tgt = 1 → (s.linkEnd (.vc 0)).st.target ≤ (s.linkEnd (.vc 0)).st.cur)) ∧
    (let s := vlane 6 (fun x => { x with cur := 1, target := 1, jstar := 2 })
     s.linkTrains (.vc 0) = true ∧ (s.linkEnd (.vc 0)).bst = 6 ∧ (s.linkEnd (.vc 0)).st.switched = false ∧
       (train 4 1 2 0).rate = (s.linkEnd (.vc 0)).st.target ∧ (train 4 1 2 0).chosen = (s.linkEnd (.vc 0)).st.jstar ∧
       (train 4 1 1 0).valid = true ∧ (train 4 1 1 0).chosen ≠ (s.linkEnd (.vc 0)).st.jstar) := by decide +kernel

/-- A LINK_FAULT that checks, and one that does not. -/
def fault0 (ok : Bool) : Block := ⟨ok, BitVec.ofNat 64 (linkFaultBlock 0)⟩

theorem test_hyp_LinkTimersAndLosses :
    (∀ b ∈ [1, 4, 6, 8], let s := vlane b (fun x => { x with switched := decide (b = 6) })
     s.linkTrains (.vc 0) = true ∧ (s.linkEnd (.vc 0)).bst = b ∧ ((s.linkEnd (.vc 0)).st.switched = decide (b = 6)) ∧
       (s.linkEnd (.vc 0)).st.since + (s.linkEnd (.vc 0)).slots (s.linkCfg (.vc 0)) * 160000 ≤ (s.vc.elapse 4000000).now ∧
       (s.vc.elapse 80000).now ≤ (s.linkEnd (.vc 0)).st.since + 80000 ∧ (s.linkEnd (.vc 0)).st.since + 80000 ≤ (s.vc.elapse 80000).now ∧
       (s.linkEnd (.vc 0)).st.since + 4000000 ≤ (s.vc.elapse 4000000).now) ∧
    (let s := vlane 7 (fun x => { x with lost := true })
     s.linkTrains (.vc 0) = true ∧ (s.linkEnd (.vc 0)).bst = 7 ∧ (s.linkEnd (.vc 0)).st.lost = true ∧
       (s.linkEnd (.vc 0)).st.okSince + 4000000 ≤ (s.vc.elapse 4000000).now) ∧
    (faultOk (fault0 true) = true ∧ faultOk (fault0 false) = false ∧ isMeasLane (0 : Fin 108) = false ∧ isMeasLane (96 : Fin 108) = true) ∧
    (∀ l ∈ [(0 : Fin 108), 96], (vs [laneUp l]).vc.rd LANE.STATUS.BSTATE l = 7) ∧
    ((clane 7).linkThere (.cc 0 0 true) = true ∧ ((clane 7).linkEnd (.cc 0 0 true)).bst = 7 ∧ (clane 7).linkThere (.cc 0 0 false) = true) ∧
    ((vlane 2).linkTrains (.vc 0) = true ∧ (⟨0, 0, 0, 0⟩ : TrainFrame).valid = false) ∧
    (let s := vs [(LANE.STATUS.BSTATE, 96, 4)]
     let j (foms : List (Option Byte)) := chooseEntry ((foms.map fun (m : Option Byte) => (m.map BitVec.toNat).getD 0).take (s.vc.lnkCfg (96 + (0 : Fin 8).val)).nent)
       ((foms.map fun (m : Option Byte) => (m.map BitVec.toNat).getD 0).take (s.vc.lnkCfg (96 + (0 : Fin 8).val)).nent) (s.vc.lnkCfg (96 + (0 : Fin 8).val)).nent
     s.vc.rd LANE.STATUS.BSTATE (96 + (0 : Fin 8).val) = 4 ∧
       (s.vc.lane (96 + (0 : Fin 8).val)).since + (s.vc.lnkCfg (96 + (0 : Fin 8).val)).nent * 160000 ≤ (s.vc.elapse 4000000).now ∧
       (s.vc.lnkCfg (96 + (0 : Fin 8).val)).fomMin ≤ (j [some 255]).2 ∧ (j [none]).2 < (s.vc.lnkCfg (96 + (0 : Fin 8).val)).fomMin) := by
  decide +kernel

theorem test_hyp_LinkMeasurement :
    (let s := clane 7
     s.linkThere (.cc 0 0 true) = true ∧ (s.linkEnd (.cc 0 0 true)).inUse = true ∧
       probeNum ⟨true, BitVec.ofNat 64 (probeBlock 5)⟩ = some 5 ∧ echoOf ⟨true, BitVec.ofNat 64 (echoBlock 15 8)⟩ = some (15, 8)) ∧
    (let s := str0 3 [laneUp 0]
     (0 : Fin 108).val = 2 * (0 : Fin 48).val ∧ (s.linkEnd (.vc 0)).inUse = true ∧ s.vc.rd STRING.STATUS.STATE (0 : Fin 48) = 3 ∧ 15 ≤ 15 ∧
       ((s.vc.str (0 : Fin 48)).calVals.any fun v => v.1 = 15) = false ∧ (s.vc.str (0 : Fin 48)).calVals.length < 16 ∧
       (s.vc.str (0 : Fin 48)).since + 400000 ≤ (s.vc.elapse 400000).now) ∧
    (∀ n ∈ [0, 15], let vals : List (Nat × Int) := (List.range n).map fun k => (k, 8000)
     let s := clane 7 fun c => { c with calVals := some vals }
     (s.linkEnd (.cc 0 0 true)).inUse = true ∧ (s.cellAt (0 : Fin 48) (0 : Fin 96)).calVals = some vals ∧ (vals.any fun v => v.1 = 15) = false ∧
       (n = 0 → vals.length < 15) ∧ (n = 15 → 15 ≤ vals.length ∧ spreads ((vals ++ [(15, (10000 : Int) - 250 * (8 : Nat))]).map fun (v : Nat × Int) => v.2) = false)) := by
  decide +kernel

theorem test_hyp_LanePages :
    (let s := vlane 7
     s.vc.rd BOOT.STATUS.STATE ≠ 2 ∧ bits (1#32).toNat 2 0 = 1 ∧ s.vc.rd LANE.STATUS.PSTATE (0 : Fin 108) = 0 ∧ s.vc.inTest (0 : Fin 108) = false ∧
       bits (2#32).toNat 2 0 = 2 ∧ (0 : Fin 108).val < 96 ∧ 96 ≤ (107 : Fin 108).val ∧ bits (4#32).toNat 2 0 = 4 ∧
       s.vc.ownerIdle (0 : Fin 108) = false) ∧
    (let s := vs []
     s.vc.inTest (0 : Fin 108) = false ∧ s.vc.ownerIdle (0 : Fin 108) = true ∧ bit (0x80000000#32).toNat 31 = true ∧
       bits (0x80000000#32).toNat 21 20 ≠ 3 ∧ bits (0x80000000#32).toNat 2 0 < s.vc.rd LANE.CFG.NENT (0 : Fin 108)) ∧
    (let s := vs [(LANE.TEST.EN, 0, 1), (LANE.ALIGN.ALIGN_OFF, 0, 1)]
     bit (0#32).toNat 31 = false ∧ s.vc.inTest (0 : Fin 108) = true ∧ bits (0#32).toNat 21 20 ≠ 3 ∧
       bits (0#32).toNat 2 0 < s.vc.rd LANE.CFG.NENT (0 : Fin 108) ∧ bit (1#32).toNat 0 = true ∧ s.vc.rd LANE.ALIGN.ALIGN_OFF (0 : Fin 108) = 1) ∧
    (vs []).vc.rd LANE.ALIGN.ALIGN_OFF (0 : Fin 108) = 0 ∧
    (let s := clane 7 fun c => { c with testEnd := some 100 }
     s.linkThere (.cc 0 0 false) = true ∧ (s.cellAt (0 : Fin 48) (0 : Fin 96)).testEnd = some 100 ∧ 100 ≤ (s.vc.elapse 100).now) := by
  decide +kernel
/-! ### Cells -/

/-- Cell 0 of string 0 at position 0, its up and down lanes in use, with a start-up state; the same cell 0 units later. -/
def cell0 (l : Sets) (f : Cell → Cell := id) : State :=
  cs ([(CCID.POS.VALID, 0, 1), (CCID.POS.POS, 0, 0), (CCLINK.LSTAT.BSTATE, 0, 7), (CCLINK.LSTAT.BSTATE, 1, 7)] ++ l) f
def at0 (s : State) : Cw := s.cellAt (0 : Fin 48) (0 : Fin 96)
def in0 (s : State) : Cw := s.cellIn 0 (0 : Fin 48) (0 : Fin 96)

/-- A sweep header in direction X with SEQ 1, one cell, L_C 1, an EFF_VT, TQ 4000 (R174), and the command of R175 for cell 0. -/
def hdrOf (eff : Nat) : List Block := header (0x6996 + 1 * 524288 + 1 * 1099511627776 + 1 * 281474976710656) 0 eff 4000
def cmdOf (w : Nat) : Block :=
  let low := w * 4294967296 % 281474976710656 + 256
  ⟨false, BitVec.ofNat 64 (low + check16 (bitsUp low 0 48) * 281474976710656)⟩

theorem test_hyp_SweepCopies :
    (∀ eff ∈ [100, 100000], let s := cell0 []
     ((readHdr (hdrOf eff)).any fun x => decide (x.eff = eff ∧ x.seq = 1) && (in0 s).candidate x false && (in0 s).accepts x (cmdOf 0) &&
       !(in0 s).accepts x ⟨false, 0⟩ && !(in0 s).candidate x true) = true ∧
     (in0 s).run = true ∧ (in0 s).inUse false = true ∧ (in0 s).inUse true = true ∧ (in0 s).queue = [] ∧ (in0 s).queue.length < 4 ∧
     (eff = 100 → eff < 0 + 600) ∧ (eff = 100000 → 0 + 600 ≤ eff)) ∧
    (at0 (cs [])).inUse false = false := by decide +kernel

theorem test_hyp_FlashesAndWatchdogOfCells :
    (let b : Block := ⟨true, BitVec.ofNat 64 (flashBlock 1 2 3)⟩
     let s (seen : List (Nat × Nat)) := cell0 [(GATE.STATUS.STATE, 0, 3)] fun c => { c with acted := seen }
     b.ctl = true ∧ b.pay.toNat % 256 = 0xC3 ∧ flashOk b.pay.toNat = true ∧
       (∀ x ∈ [[], [(1, 2)]], (at0 (s x)).run = true ∧ (at0 (s x)).inUse false = true ∧ (at0 (s x)).inUse true = true ∧
         (at0 (s x)).acted.contains (bits b.pay.toNat 39 36, bits b.pay.toNat 31 24) = decide (x ≠ []))) ∧
    (let s := cell0 [(CCWDOG.SWEEP.WDOG_TICKS, 0, 8), (CCWDOG.WSTAT.MISSED, 0, 8)] fun c => { c with wdogOn := true }
     (at0 s).wdogOn = true ∧ (at0 s).rd CCWDOG.SWEEP.WDOG_TICKS ≤ (at0 s).rd CCWDOG.WSTAT.MISSED) ∧
    (at0 (cell0 [])).wdogOn = false := by decide +kernel

/-- A state with the queue `q`, whose next instant is 4000. -/
def cellQ (st : Nat) (q : List QCmd) (l : Sets := []) : State :=
  cell0 ([(GATE.STATUS.STATE, 0, st)] ++ l) fun c => { c with grid := some (4000, 4000), queue := q }
def q0 (word : Nat) : QCmd := ⟨4000, word, 4000, none⟩

theorem test_hyp_CellTickInstants :
    (∀ dt ∈ [0, 4000], let s := cellQ 1 []
     let c := s.cellIn dt (0 : Fin 48) (0 : Fin 96)
     c.run = true ∧ c.nextInst = some 4000 ∧ c.grid = some (4000, 4000) ∧ (dt = 0 → c.time < 4000) ∧ (dt = 4000 → 4000 ≤ c.time) ∧
       (at0 s).queue = []) ∧
    (∀ e ∈ [((3 : Nat), (4 * 17592186044416 : Nat)), (1, 17592186044416 + 10 * 1073741824), (1, 5 * 17592186044416 + 0xA5), (1, 5 * 17592186044416)],
      let s := cellQ e.1 [q0 e.2]
      let c := s.cellIn 4000 (0 : Fin 48) (0 : Fin 96)
      c.run = true ∧ c.nextInst = some 4000 ∧ c.grid = some (4000, 4000) ∧ 4000 ≤ c.time ∧ (at0 s).queue = [q0 e.2] ∧ (q0 e.2).eff ≤ 4000 ∧
        (q0 e.2).load = none ∧ bit (q0 e.2).word 25 = false ∧ (at0 s).tripped = false ∧ (at0 s).ov2 = false ∧ (at0 s).st = e.1 ∧
        (at0 s).gate.edges = [] ∧ (at0 s).gate.movedTo = none ∧ (at0 s).gate.unknown = none ∧ (at0 s).rd CCBYP.STATUS.ARMED = 0 ∧
        bits (q0 e.2).word 43 30 < (q0 e.2).tq) ∧
    (bits (q0 (4 * 17592186044416)).word 47 44 = 4 ∧ bits (q0 (17592186044416 + 10 * 1073741824)).word 47 44 = 1 ∧
      bits (q0 (5 * 17592186044416)).word 47 44 = 5 ∧ (at0 (cellQ 1 [])).rd CCID.POS.POS = 0 ∧
      bits (q0 (5 * 17592186044416 + 0xA5)).word 7 0 = Nat.xor 0 0xA5 ∧ bits (q0 (5 * 17592186044416)).word 7 0 ≠ Nat.xor 0 0xA5 ∧
      (at0 (cellQ 1 [q0 0] [(CCBYP.STATUS.ARMED, 0, 1)])).rd CCBYP.STATUS.ARMED = 1) := by decide +kernel

theorem test_hyp_CellMessages :
    (let s := cell0 []
     (at0 s).run = true ∧
     (∀ m ∈ [msg 0x7F 1 0x204 0 1 [125 + 125 * 4294967296], msg 0x7F 1 0x204 0 1 [5000 + 5000 * 4294967296], msg 0x7F 1 0x7000 0 1 [0], msg 0x7F 1 0 0 1 []],
        (at0 s).actsOn false m 1 = true ∧ (at0 s).mine m = true ∧ m.dest ≠ 0x7F) ∧
     findRow ccRows 0x7000 = none ∧ (msg 0x7F 1 0 0 1 []).len = 0 ∧ (msg 0x7F 1 0x204 0 1 [125 + 125 * 4294967296]).addr = 0x204) ∧
    (let s := cell0 []
     let rd (addr len : Nat) : MsgFrame :=
       let m0 := msgHead 0x7F 1 addr 0 len 0
       { m0 := ⟨true, BitVec.ofNat 64 m0⟩, payload := [], check := BitVec.ofNat 64 (msgCheck m0 []) }
     (∀ e ∈ [((0 : Nat), (0 : Nat)), (0x7000, 1), (0x430, 1), (0, 1)], (at0 s).actsOn false (rd e.1 e.2) 0 = true ∧ (at0 s).mine (rd e.1 e.2) = true ∧
       (rd e.1 e.2).len = e.2) ∧
     (∀ a ∈ (List.range 2).map fun k => 0x430 + 4 * k, findRow ccRows a ≠ none) ∧ 0x434 ∈ ((List.range 2).map fun k => 0x430 + 4 * k) ∧
     (∀ a ∈ (List.range 2).map fun k => 4 * k, findRow ccRows a ≠ none) ∧ 0x434 ∉ ((List.range 2).map fun k => 4 * k)) ∧
    (let r : CcResp := ⟨false, 0, []⟩
     let s (h : Option SweepAt) := cell0 [] fun c => { c with resps := [r], hdrY := h }
     (∀ h ∈ [none, some ⟨0, 4000, 640⟩], (at0 (s h)).refl r.down = false ∧ (at0 (s h)).sendEnd r.down ≤ 5 * ((s h).vc.elapse 0).now ∧
       (at0 (s h)).passEnd r.down ≤ 5 * ((s h).vc.elapse 0).now ∧ (at0 (s h)).run = true ∧ (at0 (s h)).resps = [r] ∧ (at0 (s h)).inUse r.down = true ∧ (at0 (s h)).hdrY = h) ∧
       5 * ((s none).vc.elapse 0).now + (r.payload.length + 6) * 128 ≤ 5 * (0 + 4000) ∧
       5 * (0 + 4000) + 640 + 480 ≤ 5 * ((s none).vc.elapse 5000).now ∧
       (5 * ((s none).vc.elapse 4000).now < 5 * (0 + 4000) + 640 + 480 ∧ 5 * (0 + 4000) < 5 * ((s none).vc.elapse 4000).now + (r.payload.length + 6) * 128) ∧
       5 * ((s none).vc.elapse 0).now < (at0 (cell0 [] fun c => { c with resps := [r], sendUp := 1 })).sendEnd r.down) := by
  decide +kernel

theorem test_hyp_CellBroadcasts :
    (let s := cell0 []
     (at0 s).run = true ∧ (at0 s).inUse false = true ∧ (msg 0x7F 1 5 0x7F 5 []).ok = true ∧ (msg 0x7F 1 5 0x7F 5 []).op = 5 ∧
       (at0 s).actsOn false (msg 0x7F 1 0 0 6 []) 6 = true ∧ (at0 s).mine (msg 0x7F 1 0 0 6 []) = true) ∧
    (∀ e ∈ [((3 : Nat), true, (0 : Nat)), (0, true, 0), (0, false, 1)],
      let s := cell0 [(GATE.STATUS.STATE, 0, e.1), (CCBOOT.STATUS.STATE, 0, e.2.2)] fun c => { c with armed := e.2.1 }
      let m := msg 0x7F 1 0 0x7F 7 [1]
      (at0 s).run = true ∧ (at0 s).actsOn false m 7 = true ∧ m.dest = 0x7F ∧ m.addr < 768 ∧ 1 ≤ m.len ∧ (at0 s).st = e.1 ∧
        (at0 s).armed = e.2.1 ∧ (at0 s).rd CCBOOT.STATUS.STATE = e.2.2) ∧
    (∀ len ∈ [0, 64, 128], let s := cell0 [(CCBOOT.STATUS.STATE, 0, 1)] fun c => { c with blks := [(0, true)] }
      let m := msg 0x7F 1 0xFFFF 0x7F 7 [0, 0, 0, 0, len]
      let has := fun k => Tab.get (fun _ => false) (at0 s).blks k
      (at0 s).actsOn false m 7 = true ∧ m.addr = 0xFFFF ∧ m.len = 5 ∧ (at0 s).armed = false ∧ (at0 s).st < 2 ∧
        (m.payload.map BitVec.toNat).getD 4 0 % 4294967296 = len ∧ (len = 64 → ∀ k, k < ceilDiv len 64 → has k = true) ∧
        (len = 128 → 1 < ceilDiv len 64 ∧ has 1 = false ∧ ∀ k, k < 1 → has k = true)) := by decide +kernel

theorem test_hyp_CellResets :
    (at0 (cs [] fun c => { c with bypOn := true })).bypOn = true ∧ (10000 : Nat) ≤ 10000 ∧ (at0 (vs [])).run = false ∧
    (at0 (cell0 [])).run = true ∧ (at0 (cell0 [])).coreRuns = true ∧ (at0 (cell0 [])).st < 2 ∧ bits (1#32).toNat 31 16 ≠ 0xA55A ∧
    bit (1#32).toNat 0 = true := by decide +kernel

theorem test_hyp_CellCore :
    (let s := cell0 [(CCWDOG.CORE.EN, 0, 1), (CCWDOG.CORE.TIMEOUT_US, 0, 100)] fun c => { c with kickAt := some 0 }
     (at0 s).run = true ∧ (at0 s).kickAt = some 0 ∧ 0 + 4000 * (at0 s).rd CCWDOG.CORE.TIMEOUT_US ≤ (s.vc.elapse 400000).now ∧
       (s.vc.elapse 399999).now < 0 + 4000 * (at0 s).rd CCWDOG.CORE.TIMEOUT_US ∧ (at0 s).rd CCWDOG.CORE.EN ≠ 0 ∧
       (at0 (cell0 [(CCWDOG.CORE.EN, 0, 0)])).rd CCWDOG.CORE.EN = 0) ∧
    ((at0 (cell0 [])).coreRuns = true ∧ bits (0#32).toNat 31 16 ≠ 0x3CA5) ∧
    (∀ st ∈ [2, 3], let s := cell0 [(CCBOOT.STATUS.STATE, 0, st)] fun c => { c with recheck := true }
     (at0 s).rd CCBOOT.STATUS.STATE = st ∧ (at0 s).recheck = true ∧ (at0 s).image = []) := by decide +kernel

/-- A cell without an image, and a digest received. -/
def digested (d : List Nat) : Cw := { toCell := { digest := d }, n := 0, now := 0, free := 0 }

/-- The digest check finds an image good, and bad. -/
theorem test_hyp_CellCore_digest : (digested (sm3 [])).imageGood = true ∧ (digested []).imageGood = false := by decide +kernel

/-- The converter with a job. -/
def adc0 (j : AdcJob) (l : Sets := []) (f : Cell → Cell := id) : State := cell0 l fun c => f { c with adc := { job := j } }

theorem test_hyp_CellConversions :
    ((at0 (adc0 (.bg 9))).run = true ∧ (at0 (adc0 (.bg 9))).adc.ow = none ∧ (at0 (adc0 (.bg 9))).adc.job = .bg 9 ∧
      (∀ set < 2, (at0 (adc0 (.bg 9) [(ADC.REFCTL.SETTLED, 0, set)])).unsettled 9 = decide (set = 0)) ∧
      ((adc0 (.bg 9)).vc.elapse 1999).now < (at0 (adc0 (.bg 9))).adc.start + 2000 * ((at0 (adc0 (.bg 9))).adc.slot + 1) ∧
      (at0 (adc0 (.bg 9))).adc.start + 2000 * ((at0 (adc0 (.bg 9))).adc.slot + 1) ≤ ((adc0 (.bg 9)).vc.elapse 2000).now) ∧
    (let s := adc0 (.vcap 0) [(CCBYP.OV2.TH, 0, 1000), (CCBYP.OV3.TH, 0, 2000)]
     (at0 s).adc.job = .vcap 0 ∧ (at0 s).rd CCBYP.STATUS.OV2 = 0 ∧ (at0 s).ov3Since = none ∧
       (at0 s).value 0 (0 : BitVec 16).toNat < (at0 s).rd CCBYP.OV2.TH ∧ (at0 s).value 0 (0 : BitVec 16).toNat < (at0 s).rd CCBYP.OV3.TH ∧
       (at0 s).rd CCBYP.OV3.TH ≤ (at0 s).value 0 (0xFFFF : BitVec 16).toNat ∧ (at0 s).rd CCBYP.OV2.TH ≤ (at0 s).value 0 (0xFFFF : BitVec 16).toNat) ∧
    (let s := adc0 (.vcap 0) [] fun c => { c with ov3Since := some 0 }
     (at0 s).ov3Since = some 0 ∧ 0 + 80000 < (s.vc.elapse 80001).now ∧ (at0 s).ov3Fired = false ∧
       (s.cellIn 80001 (0 : Fin 48) (0 : Fin 96)).firesNow = false) ∧
    (∀ fired < 2, let s := adc0 (.bg 6) [(CCBYP.STATUS.FIRED, 0, fired)] fun c => { c with fireAt := some 0 }
     (at0 s).adc.job = .bg 6 ∧ (at0 s).rd CCBYP.BYPTH.TH ≤ (0xFFFF : BitVec 16).toNat ∧ (at0 s).rd CCBYP.STATUS.FIRED = fired ∧
       (at0 s).fireAt = some 0 ∧ (s.vc.elapse 0).now ≤ 0 + 4000000 * (at0 s).rd CCBYP.CFG.CONFIRM_MS ∧ (at0 s).rd CCBYP.STATUS.UNCONFIRMED = 0) ∧
    (let s := adc0 (.bg 1) [(ADC.AB_DIFF.DIFF, 0, 10)]
     (at0 s).adc.job = .bg 1 ∧ (at0 s).rd ADC.AB_DIFF.DIFF < max ((at0 s).rd ADC.LAST.VALUE 0) ((at0 s).value 1 (0xFFFF : BitVec 16).toNat) -
       min ((at0 s).rd ADC.LAST.VALUE 0) ((at0 s).value 1 (0xFFFF : BitVec 16).toNat)) := by decide +kernel

theorem test_hyp_CellMeasurements :
    (let s := cellQ 1 [] [(ADC.CFG.TICK_EN, 0, 1), (ADC.CFG.SAMPLE_LEAD, 0, 400), (CCTIME.TSTAT.VALID, 0, 1)]
     (∀ dt ∈ [3599, 3600], let c := s.cellIn dt (0 : Fin 48) (0 : Fin 96)
       c.nextInst = some 4000 ∧ (dt = 3600 → 4000 ≤ c.time + c.rd ADC.CFG.SAMPLE_LEAD) ∧ (dt = 3599 → c.time + c.rd ADC.CFG.SAMPLE_LEAD < 4000)) ∧
     (at0 s).run = true ∧ (at0 s).grid = some (4000, 4000) ∧ (at0 s).ticking = true ∧ (at0 s).rd ADC.CFG.SAMPLE_LEAD < 4000 ∧ (at0 s).adc.heldFor ≠ some 4000) ∧
    (let s := cell0 [(ADC.REFCTL.BUF_EN, 0, 1)]
     (at0 s).rd ADC.REFCTL.BUF_EN = 1 ∧ (at0 s).adc.bufSince + 600000 ≤ (s.vc.elapse 600000).now) ∧
    (∀ step ∈ [1, 3], let x : OwTest := { ch := 3, step := step, since := 0, s := 40000, from_ := 0 }
     let s := cell0 [] fun c => { c with adc := { ow := some x } }
     (at0 s).adc.ow = some x ∧ x.due = none ∧ x.since + x.s ≤ (s.vc.elapse 40000).now ∧ (step = 1 → x.step < 3) ∧ (step = 3 → 3 ≤ x.step ∧ x.ch < 4)) ∧
    ((at0 (cell0 [])).coreRuns = true ∧
      (0x80000101#32).toNat = 0x80000000 + 1 * 256 + (1 : Fin 4).val ∧ (0x8000FF03#32).toNat = 0x80000000 + 255 * 256 + (3 : Fin 4).val ∧
      (at0 (cell0 [])).owRefused (1 : Fin 4) = false ∧ (at0 (cell0 [])).owRefused (3 : Fin 4) = true ∧ (at0 (cell0 [])).adc.queue = [] ∧
      (0xFFFF#32).toNat < 65536 ∧ findRow ccRows (0x7000#16).toNat = none) ∧
    (let e : QEntry := ⟨false, 0, 0, 0, 0⟩
     (at0 (cell0 [] fun c => { c with adc := { queue := [e] } })).adc.queue = [e]) ∧
    (at0 (cell0 [] fun c => { c with halted := true })).coreRuns = false := by decide +kernel

theorem test_hyp_CellFiringTimes :
    (∀ conf < 2, let s := cell0 [(CCBYP.CFG.PULSE_MS, 0, 5), (CCBYP.CFG.CONFIRM_MS, 0, 20), (CCBYP.STATUS.CONFIRMED, 0, conf)] (fun c => { c with fireAt := some 0, bypOn := true });
     (at0 s).run = true ∧ (at0 s).fireAt = some 0 ∧ (at0 s).bypOn = true ∧ 0 + 4000000 * (at0 s).rd CCBYP.CFG.PULSE_MS ≤ (s.vc.elapse 20000000).now ∧
       (s.vc.elapse 19999999).now < 0 + 4000000 * (at0 s).rd CCBYP.CFG.PULSE_MS ∧
       0 + 4000000 * (at0 s).rd CCBYP.CFG.CONFIRM_MS ≤ (s.vc.elapse 80000000).now ∧ (at0 s).rd CCBYP.STATUS.CONFIRMED = conf) := by decide +kernel

theorem test_hyp_GateTiming :
    (let x : Edge := { at_ := 1000, st := 3 }
     let s := cell0 [(GATE.STATUS.STATE, 0, 2)] fun c => { c with gate := { edges := [x] } }
     (at0 s).run = true ∧ (at0 s).gate.edges = x :: [] ∧ (at0 s).turnOnBefore x.at_ = false ∧ x.at_ ≤ (s.cellIn 1000 (0 : Fin 48) (0 : Fin 96)).time ∧
       (in0 s).time < x.at_ ∧ (at0 s).gate.tOn = none ∧ x.st ≠ (at0 s).st ∧ 1 ≤ x.st ∧ x.st ≤ 5) ∧
    (let s := cell0 [] fun c => { c with gate := { pend := [(1, 500), (0, 500)] } }
     firstPend (at0 s).gate.pend = some (1, 500) ∧ 500 ≤ (s.cellIn 500 (0 : Fin 48) (0 : Fin 96)).time ∧
       ((at0 s).gate.edges.any fun x => decide (x.at_ < 500)) = false ∧ (at0 s).gate.tOn ≠ some 500 ∧ (in0 s).time < 500) ∧
    (let s := cell0 []
     (at0 s).rd GATE.DLSTAT.FAIL_A (3 : Fin 4) = 0 ∧ (at0 s).rd GATE.DLSTAT.FAIL_B (3 : Fin 4) = 0 ∧ (at0 s).rd GATE.DLSTAT.LINE (3 : Fin 4) = 0 ∧
       Tab.get (fun _ => 0) (at0 s).gate.calAt (3 : Fin 4) + 4000000 ≤ (s.vc.elapse 4000000).now ∧
       (s.cellIn 4000000 (0 : Fin 48) (0 : Fin 96)).edgeNear (3 : Fin 4) = false ∧
       ((cell0 [] fun c => { c with gate := { edges := [{ at_ := 1000, st := 3 }], pend := [(3, 1000)] } }).cellIn 1000 (0 : Fin 48) (0 : Fin 96)).edgeNear
         (3 : Fin 4) = true) := by decide +kernel

theorem test_hyp_Trips :
    (∀ en < 2, let s := cell0 [(TRIP.TCFG.EN, 0, en), (TRIP.TCFG.ACT_LOW, 0, 0), (TRIP.TCFG.TYPE, 0, 0)]
     (at0 s).run = true ∧ bit (at0 s).pins (0 : Fin 6) ≠ true ∧ (at0 s).rd TRIP.TCFG.EN (0 : Fin 6) = en ∧
       true = decide ((at0 s).rd TRIP.TCFG.ACT_LOW (0 : Fin 6) = 0) ∧ (at0 s).rd TRIP.TCFG.TYPE (0 : Fin 6) = 0 ∧
       bit ((at0 s).rd TRIP.LATCH.LATCHED) (0 : Fin 6) = false ∧ (at0 s).rd TRIP.LATCH.LATCHED = 0 ∧ (at0 s).active (0 : Fin 6) = false) ∧
    (let s := cell0 [(TRIP.TCFG.EN, 0, 1), (TRIP.TCFG.ACT_LOW, 0, 0), (TRIP.TCFG.TYPE, 0, 1), (GATE.STATUS.OUT, 0, 1), (TRIP.TCFG.OUTSEL, 0, 0)] (fun c => { c with pins := 1 });
     (at0 s).rd TRIP.TCFG.EN (0 : Fin 6) = 1 ∧ (at0 s).active (0 : Fin 6) = true ∧ (at0 s).rd TRIP.TCFG.TYPE (0 : Fin 6) = 1 ∧
       bit ((at0 s).rd GATE.STATUS.OUT) ((at0 s).rd TRIP.TCFG.OUTSEL (0 : Fin 6)) = true ∧
       (s.cellIn 100000 (0 : Fin 48) (0 : Fin 96)).blanked ((at0 s).rd TRIP.TCFG.OUTSEL (0 : Fin 6)) = false) ∧
    (let s := cell0 [(TRIP.LATCH.LATCHED, 0, 1), (TRIP.TCFG.ACT_LOW, 0, 0), (TRIP.TCFG.EN, 0, 1)] fun c => { c with pins := 1 }
     (at0 s).coreRuns = true ∧ (at0 s).ov2Cyc ≠ some (in0 s).cycle ∧ bit (1#32).toNat 0 = true ∧
       bit ((at0 s).rd TRIP.LATCH.LATCHED) 0 = true ∧ (at0 s).active 0 = true ∧ (at0 s).adc.vcap < (at0 s).rd CCBYP.OV2.TH ∧
       bits (1#32).toNat 31 16 ≠ 0x5AC3) := by decide +kernel
/-! ### Valve time, host queues and descriptors -/

/-- A PTP message of clock 7, port 1 on PTP port 0 in domain 0; the servo in a state with that master selected. -/
def ptp0 (two : Bool) (sec : Nat) : PtpMsg :=
  ⟨false, 0, 0, 7, 1, 3, 0, 0, two, true, BitVec.ofNat 48 sec, 0, 0⟩
def gm0 : GmData := ⟨8, 128, 6, 0x21, 0x4E5D, 128, 9, 37, true⟩
def time0 (servo : Nat) (l : Sets) (f : TimeSt → TimeSt := id) : State :=
  vs ([(TIME.CFG.PTP_EN, 0, 1), (TIME.CFG.PORT, 0, 0), (TIME.CFG.DOMAIN, 0, 0), (TIME.STATUS.STATE, 0, servo), (TPORT.PSTAT.PDV, 0, 1)] ++ l)
    fun v => { v with time := f { master := some (7, 1, 9), tickVt := none, foreign := [⟨7, 1, gm0, 0, none, 4000000000⟩] } }

theorem test_hyp_PtpSyncs :
    ((vs []).vc.ptpTakes (ptp0 false 0) = false ∧ (time0 3 []).vc.ptpTakes (ptp0 false 0) = true ∧ (time0 3 []).vc.fromMaster (ptp0 false 0) = true ∧
      -3 ≤ (ptp0 false 0).interval.toInt ∧ (ptp0 false 0).interval.toInt ≤ 0 ∧ (ptp0 true 0).twoStep = true ∧ (ptp0 true 0).interval = 0 ∧
      (time0 3 [(TPORT.PSTAT.PDV, 0, 0)]).vc.rd TPORT.PSTAT.PDV 0 = 0 ∧ (time0 3 []).vc.rd TPORT.PSTAT.PDV 0 = 1) ∧
    (∀ arm < 2, ∀ servo ∈ [1, 3, 4], let s := time0 servo [(TIME.STATUS.STEP_ARM, 0, arm)]
     let o (sec : Nat) := (s.vc.elapse 0).ingress (ptp0 false sec) - (ptpTime (ptp0 false sec) + ptpCorr (ptp0 false sec) + s.vc.time.mld (s.vc.rd TIME.CFG.PORT))
     s.vc.servo = servo ∧ s.vc.rd TIME.STATUS.STEP_ARM = arm ∧ (o 0).natAbs ≤ s.vc.rd TIME.STEPGUARD.NS * uNs ∧
       s.vc.rd TIME.STEPGUARD.NS * uNs < (o 5).natAbs ∧ s.vc.stepFree = true) ∧
    (time0 3 [(STRING.STATUS.STATE, 0, 6)]).vc.stepFree = false ∧
    (let s := time0 3 [(TIME.STATUS.STEP_ARM, 0, 0)] fun t => { t with prevTime := some (-1000000000000), integral := 100000000000000000 }
     s.vc.servo = 3 ∧ s.vc.time.prevTime = some (-1000000000000) ∧ (-1000000000000 : Int) < ptpTime (ptp0 false 0) + ptpCorr (ptp0 false 0) ∧
       rateMax < s.vc.time.integral) ∧
    (let s := time0 3 [] fun t => { t with syncPend := some (3, (5 : Int).toNat, 0) }
     s.vc.time.syncPend = some (3, (5 : Int).toNat, 0) ∧ (0 : Int) ≤ 5 ∧ 3 = (ptp0 true 0).seq.toNat) := by decide +kernel

theorem test_hyp_PtpMastersAndPeers :
    (let g : GmData := { gm0 with id := 0 }
     let f0 : Foreign := ⟨7, 1, g, 0, none, 4000000000⟩
     let s := time0 3 [] fun t => { t with foreign := [f0] }
     (s.vc.elapse 0).ptpTakes (ptp0 false 0) = true ∧ s.vc.time.foreign = [f0] ∧ f0.clock = (ptp0 false 0).clock.toNat ∧
       f0.portNo = (ptp0 false 0).portNo.toNat ∧ (s.vc.elapse 0).now ≤ f0.last + 4 * interval (ptp0 false 0).interval ∧
       s.vc.time.master = some (7, 1, 9) ∧ 9 ≠ g.id.toNat ∧ s.vc.servo = 3 ∧ f0 ∈ s.vc.time.foreign ∧
       f0.last + s.vc.rd TIME.CFG.ANN_TO * f0.every ≤ (s.vc.elapse 40000000000).now) ∧
    (let s := time0 5 [] fun t => { t with syncEvery := 4000000000 }
     s.vc.servo = 5 ∧ s.vc.time.lastSync + 3 * s.vc.time.syncEvery ≤ (s.vc.elapse 12000000000).now ∧ s.vc.ptpOn = true) ∧
    (let s := time0 3 [] fun t => { t with pdOut := some (3, 0, 0), pdResp := some (1000, 500, 0) }
     s.vc.ptpTakes (ptp0 false 0) = true ∧ s.vc.time.pdOut = some ((ptp0 false 0).seq.toNat, 0, 0) ∧ (ptp0 false 0).mine = true ∧
       (ptp0 true 0).twoStep = true ∧ (ptp0 false 0).twoStep = false ∧ s.vc.time.pdResp = some (1000, 500, 0) ∧
       0 + 4000000000 ≤ (s.vc.elapse 4000000000).now ∧ (s.vc.elapse 3999999999).now < 0 + 4000000000) ∧
    (let s := time0 0 []
     s.vc.servo ≠ 2 ∧ s.vc.servo ≠ 3 ∧ s.vc.servo ≠ 5 ∧ s.vc.time.master = some (7, 1, 9)) := by decide +kernel

theorem test_hyp_TimeControl :
    ((time0 2 [(TIME.STATUS.STEP_ARM, 0, 1)]).vc.servo = 2 ∧ (time0 2 [(TIME.STATUS.STEP_ARM, 0, 1)]).vc.rd TIME.STATUS.STEP_ARM = 1 ∧
      (time0 2 []).vc.stepFree = true ∧ (str0 6 []).vc.stepFree = false) ∧
    ((vs []).vc.rd BOOT.STATUS.STATE ≠ 2 ∧ (vs []).vc.rd TIME.CFG.LOCK = 0 ∧ bits (0x40002000#32).toNat 15 12 = 2 ∧ bits (0x4000A000#32).toNat 15 12 = 10 ∧
      (vs []).vc.allOff = true ∧ bit (0x40002000#32).toNat 30 = true ∧ (vs []).vc.rd BOOT.ALT.NO_PTP = 0 ∧ (vs []).vc.servo = 0 ∧
      bit (0x2000#32).toNat 30 = false ∧ (vs []).vc.servo ≠ 6 ∧ (str0 6 []).vc.allOff = false) ∧
    (bits (0xD25A0002#32).toNat 1 0 = 2 ∧ bits (0xD25A0002#32).toNat 31 16 = 0xD25A ∧ bits (0xD25A0001#32).toNat 1 0 = 1 ∧
      bits (2#32).toNat 1 0 = 2 ∧ bits (2#32).toNat 31 16 ≠ 0xD25A ∧ (vs []).vc.stepFree = true ∧ (time0 3 []).vc.servo ≠ 0) := by decide +kernel

theorem test_hyp_QueueSetup :
    (let s := vs [(SQ.STATUS.STATE, 0, 1), (SQ.CFG.EN, 0, 1), (SQ.CFG.LOG2SIZE, 0, 4)]
     s.vc.rd SQ.STATUS.STATE (0 : Fin 16) ≠ 0 ∧ bits (15#32).toNat 11 0 < s.vc.sqSize (0 : Fin 16) ∧ s.vc.sqSize (0 : Fin 16) ≤ bits (16#32).toNat 11 0 ∧
       s.vc.rd SQ.CFG.EN (0 : Fin 16) = 1 ∧ s.vc.rd SQ.STATUS.STATE (0 : Fin 16) ≠ 3) ∧
    (let s := vs [(CQ.CFG.EN, 0, 1), (CQ.CFG.LOG2SIZE, 0, 4)] fun v => { v with host := { cqs := [(0, { unread := 1 })] } }
     let adv (v : Nat) := (v + s.vc.cqSize (0 : Fin 16) - s.vc.rd CQ.STATUS.HEAD (0 : Fin 16)) % s.vc.cqSize (0 : Fin 16)
     s.vc.rd CQ.CFG.EN (0 : Fin 16) = 1 ∧ 1 < s.vc.cqSize (0 : Fin 16) ∧ adv 1 ≤ (s.vc.cq (0 : Fin 16)).unread ∧ (s.vc.cq (0 : Fin 16)).unread < adv 2 ∧
       s.vc.cqSize (0 : Fin 16) ≤ bits (16#32).toNat 11 0) ∧
    (4 ≤ bits (0x84000001#32).toNat 27 24 ∧ bits (0x8C000100#32).toNat 27 24 ≤ 12 ∧ 1 ≤ bits (0x84000001#32).toNat 8 0 ∧ bits (0x8C000100#32).toNat 8 0 ≤ 256 ∧
      bit (0x84000001#32).toNat 31 = true ∧ bit (0x04000001#32).toNat 31 = false ∧ (vs []).vc.rd SQ.CFG.EN (0 : Fin 16) = 0 ∧
      (vs [(CQ.CFG.EN, 0, 1)]).vc.rd CQ.CFG.EN (bits (0x84000001#32).toNat 19 16) = 1 ∧ (vs []).vc.rd CQ.CFG.EN (bits (0x84000001#32).toNat 19 16) = 0) ∧
    (let s := vs [(SQ.STATUS.STATE, 0, 3), (SQ.CFG.EN, 0, 1)]
     s.vc.rd SQ.CFG.EN (0 : Fin 16) = 1 ∧ s.vc.rd SQ.STATUS.STATE (0 : Fin 16) = 3) := by decide +kernel

/-- SQ 0 active with one descriptor to fetch. -/
def fetch0 : State :=
  vs [(SQ.STATUS.STATE, 0, 1), (SQ.CFG.EN, 0, 1), (SQ.CFG.LOG2SIZE, 0, 4), (SQ.CFG.INFLIGHT_MAX, 0, 1), (CQ.CFG.EN, 0, 1), (CQ.CFG.LOG2SIZE, 0, 4)]
    fun v => { v with host := { bme := true, tails := [(0, 1)] } }

theorem test_hyp_QueueFlow :
    ((vs []).vc.nextSq = none ∧ fetch0.vc.nextSq = some 0 ∧ (∀ e ∈ fetch0.vc.host.descs, e.id ≠ fetch0.vc.host.nextId) ∧
      (desc [0xFF000000]).badHeader = true ∧ (desc [0, 0x80000001]).badHeader = false ∧ bit ((desc [0, 0x80000001]).word 1) 31 = true ∧
      bits ((desc [0, 0x80000001]).word 1) 3 0 ≠ fetch0.vc.rd CASCADE.CFG.VC_ID ∧ (desc [0, 0x80000001]).order ≠ 2 ∧
      (let d := desc [0x00800000, 0x80000001]; d.badHeader = false ∧ d.order = 2 ∧ bit (d.word 1) 31 = true) ∧ (desc []).badHeader = false ∧ bit ((desc []).word 1) 31 = false) ∧
    (let s := vs [(CQ.COAL.COAL_US, 0, 10)] fun v => { v with host := { cqs := [(0, { coalSince := some 0 })], bme := true } }
     (vs []).vc.host.bme = false ∧
     (s.vc.cq (0 : Fin 16)).coalSince = some 0 ∧ s.vc.rd CQ.COAL.COAL_US (0 : Fin 16) ≠ 0 ∧ 0 + 4000 * s.vc.rd CQ.COAL.COAL_US (0 : Fin 16) ≤ (s.vc.elapse 40000).now ∧
       (s.vc.elapse 39999).now < 0 + 4000 * s.vc.rd CQ.COAL.COAL_US (0 : Fin 16) ∧ s.vc.host.bme = true) ∧
    (∀ st ∈ [0, 1, 2, 3], let s := vs [(SQ.STATUS.STATE, 0, st), (SQ.CFG.LOG2SIZE, 0, 4)]
     s.vc.rd SQ.STATUS.STATE (0 : Fin 16) = st ∧ bits (3#32).toNat 11 0 < s.vc.sqSize (0 : Fin 16) ∧ ∀ e ∈ s.vc.host.descs, e.sq ≠ (0 : Fin 16)) ∧
    (bits (0x80000000#32).toNat 31 29 = 4 ∧ bits (0xA0000003#32).toNat 31 29 = 5 ∧ bits (0x40000000#32).toNat 31 29 = 2) := by decide +kernel

theorem test_hyp_QueueFlow_masked :
    (∀ m < 2, let s := vs [] fun v => { v with host := { pcie := { mask := BitVec.ofNat 32 m } } }
     s.vc.host.pcie.masked (s.vc.rd CQ.CFG.VECTOR (0 : Fin 16)) = decide (m = 1)) ∧
    (let d := desc [10 * 16777216, 0, 0, 0, 2 * 268435456]
     (dv [] d.words).vc.desc? d.id = some d ∧ d.sq = 0 ∧ d.stage = .started ∧ d.orphan = false ∧ (dv [] d.words).vc.withdrawable d = true) := by
  decide +kernel

theorem test_hyp_EndpointResets :
    (vs [(SQ.STATUS.STATE, 0, 1)]).vc.rd SQ.STATUS.STATE (0 : Fin 16) = 1 ∧ (vs []).vc.rd SQ.STATUS.STATE (0 : Fin 16) ≠ 1 ∧
    (let d : Desc := { desc [] with stage := .done 0 0 0 }
     let s := vs [] fun v => { v with host := { descs := [d] } }
     s.vc.desc? d.id = some d ∧ d.stage = .done 0 0 0 ∧ d.orphan = false ∧ d.order ≠ 1) := by decide +kernel

/-- The words of a VALVE_CTL (R305), and a state without a failing condition of a deblock. -/
def valveWords (op : Nat) : List Nat := [10 * 16777216, 0, 0, 0, op * 268435456]
def permits : Sets := [(PROT.STATUS.PERMIT_A, 0, 1), (PROT.STATUS.PERMIT_B, 0, 1)]

theorem test_hyp_ValveDescriptors :
    ((dv [] []).vc.Started (desc []) 0) ∧
    (∀ op < 3, let s := dv permits (valveWords op)
     s.vc.Started (desc (valveWords op)) 10 ∧ (desc (valveWords op)).valveOk = decide (op ≠ 0) ∧ bits ((desc (valveWords op)).word 4) 31 28 = op ∧
       s.vc.rd CASCADE.CFG.ROLE ≠ 2) ∧
    (dv [(CASCADE.CFG.ROLE, 0, 2)] (valveWords 1)).vc.rd CASCADE.CFG.ROLE = 2 ∧
    (let ws := [11 * 16777216, 0, 0, 0, 0, 1]
     (dv [] ws).vc.Started (desc ws) 11) := by
  simp only [Vc.Started]; refine ⟨?_, ?_, ?_, ?_⟩ <;> decide +kernel

/-- VALVE_CTL at its boundary: a block, a deblock with the permits and without, beside a block of the same boundary, and of a deblocked valve. -/
theorem test_hyp_ValveDescriptors_due :
    (∀ op ∈ [1, 2], let d := dued (valveWords op) .failed
     (due permits (valveWords op) .failed).Due d 10 .failed ∧ bits (d.word 4) 31 28 = op) ∧
    ((due permits (valveWords 1) .failed).blocked = true ∧ (due permits (valveWords 1) .failed).deblockDetail = 0 ∧
      (due permits (valveWords 1) .failed).prot.blkTick = none ∧ (due [] (valveWords 1) .failed).deblockDetail ≠ 0) ∧
    (let v := due permits (valveWords 1) .failed fun v => { v with prot := { v.prot with blkTick := some 1 } }
     v.blocked = true ∧ v.deblockDetail = 0 ∧ v.prot.blkTick.isSome = true) ∧
    (due [(GLOBAL.STATUS.BLOCKED, 0, 0)] (valveWords 1) .failed).blocked = false := by
  simp only [Vc.Due]; refine ⟨?_, ?_, ?_, ?_⟩ <;> decide +kernel

/-- CELL_CLEAR at its boundary, refused and taken; one that waits for a report, has waited 16 ticks, and whose facet has reported. -/
theorem test_hyp_ValveDescriptors_clear :
    (let ws := [11 * 16777216, 0, 0, 0, 0, 1]
     let l : Sets := [(STRING.STATUS.STATE, 0, 6), (STRING.CFG.CELLS, 0, 1)]
     (due [] ws .failed).Due (dued ws .failed) 11 .failed ∧ (due [] ws .failed).cellClearStatus (dued ws .failed) ≠ 0 ∧
     (due l ws .failed fun v => arm0f v true).cellClearStatus (dued ws .failed) = 0) ∧
    (let d : Desc := { desc [11 * 16777216, 0, 0, 0, 0, 1] with waiting := true }
     (∀ n ∈ [0, 16], let s := vs [] fun v => { v with ticks := n, host := { descs := [d] } }
       s.vc.desc? d.id = some d ∧ d.stage = .started ∧ d.type = 11 ∧ d.waiting = true ∧ d.bound = none ∧ d.orphan = false ∧
         d.clearRange.all s.vc.clearedFacet = false ∧ (n = 0 → s.vc.ticks < d.aux + 16) ∧ (n = 16 → d.aux + 16 ≤ s.vc.ticks)) ∧
     d.clearRange.all (vs [] fun v => { v with facets := [(0, { clrSeq := some 1, lastSeq := 1, seqDone := some 1 })] }).vc.clearedFacet = true) := by
  simp only [Vc.Due]; refine ⟨?_, ?_⟩ <;> decide +kernel

theorem test_hyp_ValveDescriptors_snapshot :
    (∀ e ∈ [((0x80 : Nat), (0 : Nat), (64 : Nat)), (0, 1, 64), (0, 0, 0x01000001), (0, 0, 0)],
     let d := desc [9 * 16777216, 0, 0, 0, e.1, 0, e.2.1, 0, e.2.2]
     let bad := [7, 9, 10, 11, 13, 14, 15].any (bit (d.word 4)) || decide (8388608 ≤ d.word 4) || decide (1 < d.word 5) || !d.zeroFrom 9
     let fault := bufFault (d.word 6) (d.word 7) (d.word 8)
     (dv [] d.words).vc.Started d 9 ∧ bad = decide (e.1 = 0x80) ∧ fault = (if e.2.1 = 1 then 1 else if e.2.2 = 0x01000001 then 2 else 0)) := by
  simp only [Vc.Started]; decide +kernel

/-- A snapshot of no page at its boundary: too long for a buffer of 0 bytes, not for one of 100,000. -/
theorem test_hyp_ValveDescriptors_snapshot_due : ∀ len ∈ [0, 100000],
    let ws := [9 * 16777216, 0, 0, 0, 0, 0, 0, 0, len]
    let d := dued ws .failed
    let v := due [] ws .failed
    let bs := (v.modDesc d.id fun e => { e with waiting := false, bound := none }).refreshLoad.snapshotBytes (d.word 4) (bit (d.word 5) 0)
    v.Due d 9 .failed ∧ v.host.bme = true ∧ (due [] ws .failed fun v => { v with host := { v.host with bme := false } }).host.bme = false ∧
      (len = 0 → d.word 8 < bs.length) ∧ (len = 100000 → bs.length ≤ d.word 8) := by
  simp only [Vc.Due]; decide +kernel

/-- The words of a CELL_MSG of one block on string 0 (R194), a LEDGER_READ of one entry (R318), an APERTURE_READ (R325). -/
def cellMsgWords (op len : Nat) : List Nat :=
  [6 * 16777216, 0, 0, 0, op * 65536, 0x204 + 65536, 0, 0, len, if op = 1 then crc32c (List.replicate 8 0) else 0]
def ledgerWords (area len : Nat) : List Nat := [7 * 16777216, 0, 0, 0, area * 268435456, 0, 1, 0, 0, len]
def apWords (mark len : Nat) : List Nat := [8 * 16777216, 0, 0, 0, mark * 256, 0, 0, 0, len]

theorem test_hyp_ReadoutDescriptors :
    (∀ op < 2, ∀ e ∈ [((8 : Nat), (0 : Nat)), (7, 2)], let d := desc (cellMsgWords op e.1)
     let s := dv [(STRING.STATUS.STATE, 0, 6)] d.words
     s.vc.Started d 6 ∧ d.aux = 0 ∧ bits (d.word 4) 19 16 = op ∧ s.vc.msgRoom (bits (d.word 4) 25 20) = true ∧
       (s.vc.cellMsgStatus d (.bytes (List.replicate 8 0))).1 = e.2) ∧
    (let s := dv [] (cellMsgWords 0 8) fun v => { v with strs := [(0, { msgs := List.replicate 16 ⟨.descriptor 1, 1, 0, 0, 1, [0], 0⟩ })] }
     s.vc.msgRoom 0 = false) ∧
    (∀ e ∈ [((0 : Nat), (64 : Nat), (1 : Nat)), (2, 64, 1), (0, 64, 0)], let d := desc (ledgerWords e.1 e.2.1)
     let s := dv [(LEDGER.STATUS.STATE, 0, e.2.2)] d.words
     s.vc.Started d 7 ∧ s.vc.boot.xspi = [] ∧ s.vc.host.bme = true ∧ ((s.vc.ledgerReadStatus d).1 = 0 ↔ e.2.2 = 1) ∧
       (e.1 = 0 → bits (d.word 4) 31 28 < 2) ∧ (e.1 = 2 → 2 ≤ bits (d.word 4) 31 28)) ∧
    ((dv [] [] fun v => { v with boot := { xspi := [⟨.confirm, true, []⟩] } }).vc.boot.xspi ≠ []) ∧
    (∀ mark < 2, ∀ len ∈ [0, 100000], let d := desc (apWords mark len)
     let s (st : Nat) (c : Bool) := dv [(APERTURE.STATUS.STATE, 0, st)] d.words fun v => { v with ap := { areas := [(0, { complete := c })] } }
     let a := bits (d.word 4) 2 0
     let bad := decide (bits (d.word 4) 31 9 ≠ 0) || decide (bits (d.word 4) 7 3 ≠ 0) || decide (d.word 5 ≠ 0) ||
       (List.range 7).any (fun k => decide (d.word (9 + k) ≠ 0)) || decide ((s 0 true).vc.apCount ≤ a)
     (∀ st ∈ [0, 3], ∀ c : Bool, (s st c).vc.Started d 8 ∧ (s st c).vc.apState = st ∧ (s st c).vc.apArea = a ∧ ((s st c).vc.area a).complete = c ∧ (s st c).vc.host.bme = true) ∧
       bad = false ∧ bufFault (d.word 6) (d.word 7) (d.word 8) = 0 ∧ (bit (d.word 4) 8 = decide (mark = 1)) ∧
       (len = 0 → d.word 8 < (((s 0 true).vc.area a).bytes).length) ∧
       (len = 100000 → (((s 0 true).vc.area a).bytes).length ≤ d.word 8)) := by
  simp only [Vc.Started]; refine ⟨?_, ?_, ?_, ?_, ?_⟩ <;> decide +kernel

/-- A settings image without records (R364), and the words of a CONFIG_WRITE and of an FW_BLOCK (R360, R365). -/
def setImage : List Nat := bytesOfWords [0x53455431, 0, 0xFFFF0000, 0, 0, 0, 0, 0]
def configWords (len : Nat) : List Nat := [4 * 16777216, 0, 0, 0, 0, 0, 0, 0, len, crc32c setImage]
def fwWords (op : Nat) : List Nat :=
  [5 * 16777216, 0, 0, 0, op * 268435456 + 1, 0, 0, 0, 0, 0]

theorem test_hyp_FirmwareDescriptors :
    (∀ e ∈ [((32 : Nat), (0 : Nat)), (33, 8)], let d := desc (configWords e.1); let s := dv [] d.words
     s.vc.Started d 4 ∧ s.vc.boot.xspi = [] ∧ (s.vc.configStatus d (.bytes (setImage.map (BitVec.ofNat 8)))).1 = e.2) ∧
    (∀ op ∈ [1, 2], let d := desc (fwWords op); let s := dv [(BOOT.STATUS.STAGED, 0, 1)] d.words
     s.vc.Started d 5 ∧ bits (d.word 4) 31 28 = op ∧ s.vc.boot.xspi = [] ∧ (s.vc.fwStatus d .failed).1 = 0 ∧
       bits (d.word 4) 0 0 = 1 ∧ s.vc.inheritOps 1 = [] ∧ s.vc.imageCheck 1 ≠ 0) ∧
    (∀ op ∈ [1, 2], let d := desc (fwWords op); let s := dv [(BOOT.STATUS.RUN_SLOT, 0, 1)] d.words
     s.vc.Started d 5 ∧ (s.vc.fwStatus d .failed).1 ≠ 0) ∧
    (let s := dv [(BOOT.STATUS.STAGED, 0, 1)] (fwWords 2) fun v => { v with boot := { fused := 128 } }
     (s.vc.fwStatus (desc (fwWords 2)) .failed).1 = 0x14) ∧
    (let x : XReq := ⟨.fwActivate 0, true, [.erase 0, .erase 4096]⟩
     let s := vs [] fun v => { v with boot := { xspi := [x] } }
     s.vc.boot.xspi = ⟨.fwActivate 0, true, .erase 0 :: .erase 4096 :: []⟩ :: []) ∧
    (let d := desc (configWords 32)
     let s := dv [] d.words fun v => { v with boot := { xspi := [⟨.config d.id 0 1 setImage, true, [.erase 0]⟩] } }
     s.vc.boot.xspi = [⟨.config d.id 0 1 setImage, true, [.erase 0]⟩] ∧ s.vc.desc? d.id = some d ∧ d.stage = .started ∧ d.orphan = false) := by
  simp only [Vc.Started]; refine ⟨?_, ?_, ?_, ?_, ?_, ?_⟩ <;> decide +kernel

/-- A WRITE of one sector whose bytes check. -/
def fwWriteWords (bs : List Byte) : List Nat := [0x05000000, 0, 0, 0, 1, 0, 0, 0, 4096, crc32c (bs.map BitVec.toNat)]

theorem test_hyp_FirmwareDescriptors_write (bs : List Byte) (hl : bs.length = 4096) :
    (dv [] (fwWriteWords bs)).vc.Started (desc (fwWriteWords bs)) 5 ∧ bits ((desc (fwWriteWords bs)).word 4) 31 28 = 0 ∧
      ((dv [] (fwWriteWords bs)).vc.fwStatus (desc (fwWriteWords bs)) (.bytes bs)).1 = 0 := by
  have h9 : (desc (fwWriteWords bs)).word 9 = crc32c (bs.map BitVec.toNat) := rfl
  have h8 : (desc (fwWriteWords bs)).word 8 = 4096 := rfl
  have h4 : (desc (fwWriteWords bs)).word 4 = 1 := rfl
  have h5 : (desc (fwWriteWords bs)).word 5 = 0 := rfl
  have h6 : (desc (fwWriteWords bs)).word 6 = 0 := rfl
  have h7 : (desc (fwWriteWords bs)).word 7 = 0 := rfl
  have hz : (desc (fwWriteWords bs)).zeroFrom 10 = true := rfl
  have hr : (dv [] (fwWriteWords bs)).vc.rd BOOT.STATUS.RUN_SLOT = 0 := rfl
  have ht : (dv [] (fwWriteWords bs)).vc.on BOOT.STATUS.TRIAL = false := rfl
  have hb : (dv [] (fwWriteWords bs)).vc.host.bme = true := rfl
  have h0 : (desc (fwWriteWords bs)).type = 5 := by
    unfold Desc.type; rw [show (desc (fwWriteWords bs)).word 0 = 0x05000000 from rfl]; decide +kernel
  have e1 : bits 1 31 28 = 0 := by decide
  refine ⟨⟨rfl, rfl, h0, rfl, rfl, by show (0 : Nat) ≠ 2; decide⟩, by rw [h4, e1], ?_⟩
  have e2 : bits 1 27 1 = 0 := by decide
  have e3 : bits 1 0 0 = 1 := by decide
  have e4 : bufFault 0 0 4096 = 0 := by decide
  unfold Vc.fwStatus
  rw [h4, h5, h6, h7, h8, h9, hz, hr, ht, e1, e2, e3]
  simp [Vc.readBuf, bufBytes, hl, hb, e4]

theorem test_hyp_FirmwareDescriptors_sector : (List.replicate 4096 (0 : Byte)).length = 4096 := List.length_replicate
/-! ### Ledger, Aperture, companions, the whole machine -/

/-- A record waiting to be programmed. -/
def qrec0 : QRec := ⟨⟨0x0100, 1, 3, 2, 3, 1, 0, 0⟩, 0, true, none⟩

theorem test_hyp_LedgerCommands :
    (∀ r ∈ [0, 255, 256], let s := vs [(LEDGER.STATUS.STATE, 0, 1), (LEDGER.NEXT_RSEQ.VALUE, 0, r)] fun v => { v with ledger := { queue := [qrec0] } }
     s.vc.rd LEDGER.STATUS.STATE = 1 ∧ s.vc.ledger.queue = qrec0 :: [] ∧ s.vc.ledger.closings = [] ∧ s.vc.ledger.lostPend = 0 ∧
       (r = 255 → 256 ≤ s.vc.rd LEDGER.NEXT_RSEQ.VALUE + 1) ∧ (r = 256 → 256 ≤ r ∧ (recordAt r - flashCirc) % 4096 = 0) ∧
       ∀ i, i < 64 → Memory.read s.vc.flash (recordAt r + i) = 0xFF#8) ∧
    (let s := vs [(LEDGER.STATUS.STATE, 0, 1), (LEDGER.HOURS.VALUE, 0, 100000000)] fun v => { v with ledger := { queue := [qrec0], lastFail := some 0 } }
     s.vc.ledger.queue ≠ [] ∧ s.vc.ledger.statsAt + 60 * s.vc.rd LEDGER.CFG.STATS_MIN ≤ s.vc.rd LEDGER.HOURS.VALUE ∧
       s.vc.ledger.lastFail = some 0 ∧ (s.vc.elapse 1).now < 0 + 240000000000) ∧
    ((vs []).vc.ledger.lastFail = none ∧ (vs []).vc.rd LEDGER.STATUS.STATE ≠ 1 ∧ Tab.wf (fun _ => ({} : Facet)) (vs []).vc.facets = true ∧
      (vs []).vc.rd BOOT.STATUS.STATE ≠ 2 ∧ (vs []).vc.rd BOOT.ALT.NO_LEDGER = 0 ∧ (vs [(LEDGER.STATUS.STATE, 0, 2)]).vc.rd LEDGER.STATUS.STATE = 2) ∧
    (bits (2#32).toNat 3 0 = 2 ∧ bits (4#32).toNat 3 0 = 4 ∧ bits (0x6B1D0001#32).toNat 3 0 = 1 ∧ bits (0x6B1D0001#32).toNat 31 16 = 0x6B1D ∧
      bits (0x6B1D0008#32).toNat 3 0 = 8 ∧ bits (1#32).toNat 31 16 ≠ 0x6B1D ∧ bits (8#32).toNat 31 16 ≠ 0x6B1D) ∧
    ((vs []).vc.boot.xspi = [] ∧ (vs []).vc.ledger.queue.length ≤ 64 ∧ Memory.blankAt (runOps [] (vs []).vc.flash) flashPerm 0x15000 = true) := by
  decide +kernel

/-- The xSPI unit at work with another request, with one of the ledger's own, and at the end of a format. -/
theorem test_hyp_LedgerCommands_queue :
    (∀ k ∈ [XKind.confirm, .ledgerWrite, .ledgerHours, .ledgerStats],
      let s := vs [(LEDGER.STATUS.STATE, 0, 1), (LEDGER.HOURS.VALUE, 0, 100000000)]
        fun v => { v with ledger := { queue := [qrec0] }, boot := { xspi := [⟨k, true, [.erase 0]⟩] } }
      s.vc.rd LEDGER.STATUS.STATE = 1 ∧ s.vc.boot.xspi ≠ [] ∧ s.vc.ledger.queue ≠ [] ∧ (∃ x ∈ s.vc.boot.xspi, x.kind = k) ∧
        (∀ x ∈ s.vc.boot.xspi.head?, x.begun = true ∧ x.ops ≠ []) ∧
        (k = .confirm → ∀ x ∈ s.vc.boot.xspi, x.kind ≠ .ledgerWrite ∧ x.kind ≠ .ledgerHours ∧ x.kind ≠ .ledgerStats)) ∧
    (vs [] fun v => { v with boot := { xspi := [⟨.ledgerFormat 1, true, []⟩] } }).vc.boot.xspi = [⟨.ledgerFormat 1, true, []⟩] ∧
    (vs [(BOOT.ALT.NO_LEDGER, 0, 1)]).vc.rd BOOT.ALT.NO_LEDGER ≠ 0 ∧
    ({ qrec0 with close := some (1, 2) } : QRec).close = some (1, 2) := by decide +kernel

theorem test_hyp_ApertureCommands :
    (bits (1#32).toNat 2 0 = 1 ∧ bits (2#32).toNat 2 0 = 2 ∧ bits (4#32).toNat 2 0 = 4 ∧ (vs []).vc.rd BOOT.STATUS.STATE ≠ 2 ∧ (vs []).vc.apState = 0 ∧
      (vs [(APERTURE.CHSEL.EN, 0, 1)]).vc.apStartBad = false ∧ (vs []).vc.apStartBad = true ∧ (vs [(APERTURE.STATUS.STATE, 0, 1)]).vc.apState ≠ 0) ∧
    (∀ e ∈ [(true, (0 : Nat)), (false, 5), (false, 4)],
     let s := vs [(APERTURE.STATUS.STATE, 0, 3), (APERTURE.POSTMAX.VALUE, 0, 5)] (fun v => { v with ticks := e.2, ap := { areas := [(0, { postFull := e.1 })] } });
     s.vc.apState = 3 ∧ s.vc.apArea < 8 ∧
       ((s.vc.area s.vc.apArea).postFull || decide (s.vc.ap.trigAt + s.vc.rd APERTURE.POSTMAX.VALUE ≤ s.vc.ticks)) = decide (e ≠ (false, 4)) ∧
       ∀ d ∈ s.vc.host.descs, d.type = 8 → d.waiting = true → bits (d.word 4) 2 0 ≠ s.vc.apArea) ∧
    (∀ mode < 2, ∀ n ∈ [7, 8], ∀ unread ∈ [0, 255], let s := vs [(APERTURE.STATUS.STATE, 0, 4), (APERTURE.HOLDOFF.MODE, 0, mode), (APERTURE.HOLDOFF.VALUE, 0, 8),
         (APERTURE.CFG.WRAP, 0, 0), (APERTURE.STATUS.UNREAD, 0, unread)] (fun v => { v with ticks := n, ap := { ignored := n } });
     s.vc.apState = 4 ∧ decide (s.vc.rd APERTURE.HOLDOFF.VALUE ≤ s.vc.ap.ignored) = decide (n = 8) ∧
       decide (s.vc.ap.trigAt + s.vc.rd APERTURE.HOLDOFF.VALUE ≤ s.vc.ticks) = decide (n = 8) ∧
       (unread = 255 → s.vc.nextArea = none) ∧ (unread = 0 → (s.vc.nextArea.any fun a => decide (a < 8)) = true)) := by decide +kernel

/-- Companion port 0 enabled, in a state. -/
def port0 (c : Comp) (l : Sets := []) : State := vs ([(COMPANION.CFG.EN, 0, 1)] ++ l) fun v => { v with comps := [(0, c)] }

/-- A response that checks, to request `q`: RESULT and value; then the second word. -/
def respWord (q result value w1 : Nat) : DWord :=
  let low := 0x1E + bits q 23 8 * 256 + result * 16777216 + bits q 39 32 * 4294967296 + value * 1099511627776
  BitVec.ofNat 64 (low + check16 (bitsUp low 0 48 ++ bitsUp w1 0 64) * 281474976710656)

theorem test_hyp_CompanionPorts :
    (∀ e ∈ [(({} : Comp), true), ({ out := some (requestWord 0 1 0 0), sent := some 0, misses := 9 }, true),
        ({ out := some (requestWord 1 1 5 0), sent := some 0, acc := some 0x500, tries := 10 }, true),
        ({ out := some (requestWord 1 1 5 0), sent := some 0, acc := some 0x500, tries := 1 }, true),
        ({ out := some (requestWord 0 1 0 0), sent := some 0, acc := some 0x500, tries := 1 }, true), ({ sent := some 1 }, false)],
      let s := port0 e.1
      s.vc.comp (0 : Fin 2) = e.1 ∧
        (s.vc.portOn (0 : Fin 2) && (match e.1.sent with | some t0 => decide (t0 + 400000 ≤ (s.vc.elapse 400000).now) | none => true)) = e.2) ∧
    (∀ addr ∈ [0, 5], ∀ result ∈ [0, 1, 2], let q := requestWord (min addr 1) 1 addr 0
     let w1 := 0x00000000FF#64
     let w0 := respWord q result 7 w1.toNat
     let s := port0 { out := some q } [(CPORT.STATUS.SC_STATUS, 0, 128)]
     w0.toNat / 281474976710656 = check16 (bitsUp w0.toNat 0 48 ++ bitsUp w1.toNat 0 64) ∧ (s.vc.comp (0 : Fin 2)).out = some q ∧
       bits w0.toNat 7 0 = 0x1E ∧ bits w0.toNat 23 8 = bits q 23 8 ∧ bits w0.toNat 39 32 = bits q 39 32 ∧ bits w0.toNat 31 24 = result ∧
       (addr = 5 → bits q 15 8 ≠ 0) ∧ (addr = 0 → bits q 15 8 = 0) ∧
       bits (respWord (q + 65536) result 7 w1.toNat).toNat 23 8 ≠ bits q 23 8 ∧ bit (s.vc.rd CPORT.STATUS.SC_STATUS (0 : Fin 2)) 7 = true ∧ bit 0x7F 7 = false ∧
       bit (0x100#64).toNat 8 = true ∧ bit (s.vc.rd CPORT.STATUS.LOCKOUT (0 : Fin 2)) 0 = false) ∧
    ((0x1000000000000#64).toNat / 281474976710656 ≠ check16 (bitsUp 0 0 48 ++ bitsUp 0 0 64) ∧ ((port0 {}).vc.comp (0 : Fin 2)).out = none) ∧
    (bit (0x80000000#32).toNat 31 = true ∧ (port0 {}).vc.rd CPORT.ACCSTAT.BUSY (0 : Fin 2) = 0 ∧ (port0 {}).vc.portOn (0 : Fin 2) = true ∧
      (vs []).vc.portOn (0 : Fin 2) = false ∧ (port0 {} [(CPORT.ACCSTAT.BUSY, 0, 1)]).vc.rd CPORT.ACCSTAT.BUSY (0 : Fin 2) ≠ 0) ∧
    (let s := vs [] fun v => { v with prot := { v.prot with differAt := some 0 } }
     s.vc.prot.differAt = some 0 ∧ 0 + 8000000 < (s.vc.elapse 8000001).now ∧ (s.vc.elapse 8000000).now ≤ 0 + 8000000 ∧
       (vs []).vc.prot.differAt = none) := by decide +kernel

/-- Companion 0 as it stands. -/
def sw0 (s : State) : Sw := s.swAt (0 : Fin 2)

theorem test_hyp_SafetyCycle :
    ((vs []).sc (0 : Fin 2)).power = false ∧ ((ss []).sc (0 : Fin 2)).power = true ∧ (sw0 (ss [])).rd SC.GENCAUSE.PQ = 0 ∧
    1 ≤ ((ss [] fun x => { x with pqRun := 1 }).sc (0 : Fin 2)).pqRun ∧
    (let u := (((ss []).swIn 0 (0 : Fin 2)).readPins {}).functions
     ((match ({} : ScCycle).qOuts with | some b => decide (b.toNat ≠ u.wanted u.mayPermit) | none => false) || ({} : ScCycle).qLock) = false ∧
       (({ qLock := true } : ScCycle).qLock = true)) ∧
    (let x := (vs []).sc (0 : Fin 2)
     let s := ss [(SC.MODE.STATE, 0, 2)] fun y => { y with cmdP := 1, active := [(0x40, 0x90)] }
     x.power = false ∧ bit (s.sc (0 : Fin 2)).cmdP 0 = true ∧ bits ((sw0 s).outCfg 0) 6 4 = 1 ∧ (sw0 s).mode = 2) := by decide +kernel

theorem test_hyp_SafetyFieldSide :
    ((ss []).sc (0 : Fin 2)).power = true ∧ (List.replicate 16 (0#16)).length = 16 ∧
    (let s := ss []
     (s.sc (0 : Fin 2)).fieldAt + 4000000 < (s.vc.elapse 4000001).now ∧ (s.vc.elapse 4000000).now ≤ (s.sc (0 : Fin 2)).fieldAt + 4000000 ∧
       (s.sc (0 : Fin 2)).logicAt + 4000000 < (s.vc.elapse 4000001).now ∧ (s.vc.elapse 4000000).now ≤ (s.sc (0 : Fin 2)).logicAt + 4000000 ∧
       (143#8).toNat < 144 ∧ 148 < (149#8).toNat) ∧
    (let s := ss [] fun x => { x with lowSince := some 0 }
     (s.sc (0 : Fin 2)).lowSince = some 0 ∧ 0 + 8000000 < (s.vc.elapse 8000001).now ∧ (s.vc.elapse 8000000).now ≤ 0 + 8000000) ∧
    (let s := ss [] fun x => { x with cmdP := 1, cmdQ := 1, high := 1, low := 1, active := [(0x40, 0x98)] }
     (sw0 s).isOn (0 : Fin 8) = true ∧ (sw0 s).isOn (1 : Fin 8) = false ∧ bit ((sw0 s).outCfg (0 : Fin 8)) 3 = true ∧
       bit ((sw0 s).outCfg (1 : Fin 8)) 3 = false ∧ (s.sc (0 : Fin 2)).test = none) ∧
    (∀ high : Bool, let x : OffTest := ⟨0, high, 0, 2⟩
     let s := ss [] fun y => { y with test := some x }
     (s.sc (0 : Fin 2)).test = some x ∧ x.since + 40000 * (sw0 s).par 0x4A ≤ (s.vc.elapse 40000000).now ∧
       ¬ x.since + 40000 * (sw0 s).par 0x4A ≤ (s.vc.elapse 0).now ∧ x.high = high ∧ 1 ≠ x.k ∧ (sw0 s).isOn 1 = false ∧
       bit x.outP 1 = true ∧ bit (0#8).toNat 1 = false) := by decide +kernel

/-- The slot of output 1 on the high side, and the same time as no slot; a short to the supply in each of its forms; no power. -/
theorem test_hyp_SafetyFieldSide_slots :
    (let s := ss [] fun x => { x with cmdP := 2, cmdQ := 2, high := 2, low := 2 }
     let since := (s.vc.elapse ((sw0 s).par 0x49 * 50000000)).now - (s.sc (0 : Fin 2)).poweredAt
     let period := (sw0 s).par 0x49 * 400000000
     (sw0 s).isOn (1 : Fin 8) = true ∧ (s.sc (0 : Fin 2)).test = none ∧
       ∀ high : Bool, (decide (since % period = (1 : Fin 8).val * (period / 8)) && decide (high = decide (since / period % 2 = 0))) = high) ∧
    (let s := ss [] fun x => { x with hotSince := [(3, 0)], stuck := [(4, 1)] }
     (3, 0) ∈ (s.sc (0 : Fin 2)).hotSince ∧ 0 + (sw0 s).par 0x49 * 400000000 ≤ (s.vc.elapse ((sw0 s).par 0x49 * 400000000)).now ∧
       (4, 1) ∈ (s.sc (0 : Fin 2)).stuck ∧ (∀ k, k < 8 → bit 1 k = true → (sw0 s).isOn k = false)) ∧
    (let x : OffTest := ⟨0, true, 0, 0⟩
     let s (st : List (Nat × Nat)) := ss [] fun y => { y with test := some x, stuck := st }
     ((s []).sc (0 : Fin 2)).test = some x ∧ bit (1#8).toNat x.k = true ∧ ((s []).sc (0 : Fin 2)).stuck = [] ∧
       ((s []).sc (0 : Fin 2)).hotSince = [] ∧ (∀ j, j < 8 → j ≠ x.k → (sw0 (s [])).isOn j = false ∧ bit x.outP j = false) ∧
       ((s [(1, 1)]).sc (0 : Fin 2)).stuck = [(1, 1)] ∧ bit 1 x.k = true ∧ bit (0#8).toNat x.k = false) ∧
    (let s := vs [] fun v => v
     let u : State := { s with scs := [(0, { lowSince := some 0 })] }
     (u.sc (0 : Fin 2)).power = false ∧ (u.sc (0 : Fin 2)).lowSince = some 0 ∧ 0 + 8000000 < (u.vc.elapse 8000001).now ∧
       (u.sc (0 : Fin 2)).fieldAt + 4000000 < (u.vc.elapse 8000001).now) := by decide +kernel

theorem test_hyp_CompanionPowerUp :
    ((ss [(SC.GENCAUSE.POWER_UP, 0, 1)]).sc (0 : Fin 2)).power = true ∧ (sw0 (ss [(SC.GENCAUSE.POWER_UP, 0, 1)])).rd SC.GENCAUSE.POWER_UP = 1 ∧
    (Instr.rstStuck 0 0 ≠ Instr.resetButton 0 0 100) ∧ after (exec (.rstStuck 0 0) (ss [(SC.GENCAUSE.POWER_UP, 0, 1)])) (fun _ => true) = true := by
  decide +kernel

/-- The earthing switch in a state, with a request and a mode. -/
def esw0 (st req mode : Nat) (l : Sets := []) (f : Sc → Sc := id) : State :=
  ss ([(SC.ESWSTAT.STATE, 0, st), (SC.MODE.STATE, 0, mode), (SC.GENCAUSE.POWER_UP, 0, 0)] ++ l) fun x => f { x with req := req }

theorem test_hyp_SafetyResetAndSwitch :
    ((sw0 (ss [])).rd SC.RSTSTAT.STUCK = 0 ∧ (sw0 (ss [(SC.RSTSTAT.STUCK, 0, 1)])).rd SC.RSTSTAT.STUCK ≠ 0 ∧
      (sw0 (ss [(SC.FUNCCAUSE.ACC_WB, 0, 1)])).acc = true ∧ (sw0 (ss [])).rd SC.MODE.CONFIRM_PEND = 0 ∧
      (sw0 (ss [(SC.MODE.CONFIRM_PEND, 0, 1)])).rd SC.MODE.CONFIRM_PEND ≠ 0 ∧ ((vs []).vc.elapse 0).now ≤ ((ss []).sc (0 : Fin 2)).pendEnd ∧
      ((ss []).sc (0 : Fin 2)).log.length < 4096) ∧
    (∀ req < 4, ∀ st < 6, (sw0 (esw0 st req 2)).req = req ∧ (sw0 (esw0 st req 2)).eswState = st ∧ (sw0 (esw0 st req 2)).mode = 2 ∧
      (sw0 (esw0 st req 2)).esw = false ∧ (sw0 (esw0 st req 2)).general = false ∧ (sw0 (esw0 st req 1)).mode ≠ 2) ∧
    ((sw0 (esw0 3 2 2)).allActive 1 = true ∧ (sw0 (esw0 3 2 2 [(SC.FUNCCAUSE.ESW_LIVE, 0, 1)])).esw = true ∧
      bit ((sw0 (esw0 3 2 2 [] fun x => { x with active := [(0x40, 0x90)] })).funcOuts 1) 0 = true ∧
      bit ((sw0 (esw0 2 3 2 [] fun x => { x with active := [(0x40, 0xA0)] })).funcOuts 2) 0 = true) ∧
    (let w := sw0 (esw0 1 0 2)
     w.eswSince + 4000000000 * bits (w.par 0x60) 3 0 ≤ ((vs []).vc.elapse 60000000000).now ∧
       ¬ w.eswSince + 4000000000 * bits (w.par 0x60) 3 0 ≤ ((vs []).vc.elapse 0).now ∧
       w.eswSince + 4000000000 * bits (w.par 0x60) 7 4 ≤ ((vs []).vc.elapse 60000000000).now ∧ w.allActive 2 = true) ∧
    (let s := esw0 1 0 2 [] fun x => { x with active := [(0x20, 0x82)] }
     (sw0 s).eswState = 1 ∧ (sw0 s).allActive 2 = false) := by decide +kernel

/-- A request of the companion link. -/
def reqOf (op addr v : Nat) : DWord := BitVec.ofNat 64 (requestWord op 9 addr v)

theorem test_hyp_SafetyRequests :
    (requestOk (reqOf 0 0 0).toNat 0 = true ∧ requestOk (reqOf 1 5 0).toNat 1 = true ∧ requestOk (reqOf 2 5 7).toNat 2 = true ∧
      requestOk (0#64).toNat 0 = false ∧ requestOk (0#64).toNat 1 = false ∧ requestOk (0#64).toNat 2 = false ∧
      ((ss [] fun x => { x with lastReq := some (9, 1, 2) }).sc (0 : Fin 2)).lastReq = some (bits (reqOf 0 0 0).toNat 23 16, 1, 2) ∧
      ((ss []).sc (0 : Fin 2)).lastReq = none) ∧
    (∀ a ∈ [0x01, 0x61, 0x84, 0x85, 0x89, 0x91, 0x10, 0x49], ∀ v ∈ [1, 2, 3, 0x43], requestOk (reqOf 2 a v).toNat 2 = true ∧
      bits (reqOf 2 a v).toNat 39 32 = a ∧ bits (reqOf 2 a v).toNat 47 40 = v) ∧
    (((ss []).swIn 0 (0 : Fin 2)).byte 0 ≠ none ∧ ((ss []).swIn 0 (0 : Fin 2)).byte 0xFF = none ∧ findRow scRows 0xFF = none) ∧
    (∀ m < 3, ∀ u < 2, let w := (ss [(SC.MODE.STATE, 0, m), (SC.SECSTAT.UNLOCKED, 0, u), (SC.SECSTAT.BARRED, 0, u), (SC.SECSTAT.TRIES, 0, m)]).swIn 0 (0 : Fin 2)
     w.mode = m ∧ w.rd SC.SECSTAT.UNLOCKED = u ∧ w.rd SC.SECSTAT.BARRED = u ∧ w.rd SC.SECSTAT.TRIES = m) ∧
    (let s := ss [] fun x => { x with pwd := [0, 0, 0, 5], log := List.replicate 4096 ⟨0, 0, 0, 0, 0, 0⟩ }
     (s.sc (0 : Fin 2)).unlockB.set 3 5 = (s.sc (0 : Fin 2)).pwd ∧ (s.sc (0 : Fin 2)).unlockB.set 3 6 ≠ (s.sc (0 : Fin 2)).pwd) ∧
    (((ss []).sc (0 : Fin 2)).log.length < 4096 ∧ 0x10 ∈ setAddrs ∧ 0x49 ∈ setAddrs ∧ paramTakes 0x10 0 = false ∧ paramTakes 0x10 0x43 = true ∧
      paramTakes 0x49 0 = false ∧ paramTakes 0x49 1 = true) ∧
    (let w := (ss [] fun x => { x with unlockEnd := 5, barEnd := 5, pendEnd := 5 }).swIn 5 (0 : Fin 2)
     w.unlockEnd ≤ w.now ∧ w.barEnd ≤ w.now ∧ w.pendEnd ≤ w.now) ∧
    (let w := (ss [] fun x => { x with unlockEnd := 5, barEnd := 5, pendEnd := 5 }).swIn 4 (0 : Fin 2)
     w.now < w.unlockEnd ∧ w.now < w.barEnd ∧ w.now < w.pendEnd) := by decide +kernel

/-- A full change log, a set whose CRC is confirmed and one that is not consistent. -/
theorem test_hyp_SafetyRequests_sets :
    4096 ≤ ((ss [] fun x => { x with log := List.replicate 4096 ⟨0, 0, 0, 0, 0, 0⟩ }).sc (0 : Fin 2)).log.length ∧
    (∃ b : List Nat, ∃ v : Nat, ofBytes (b.set 3 v) = setCrc [] ∧ consistent [] = true) ∧ consistent [(0x20, 0x80), (0x10, 0), (0x11, 0)] = false ∧
    ofBytes ([0, 0, 0, 0].set 3 0) ≠ setCrc [] := by
  refine ⟨?_, ⟨bytesOf (setCrc []) 4, bits (setCrc []) 31 24, by decide +kernel, by decide +kernel⟩, by decide +kernel, by decide +kernel⟩
  show 4096 ≤ (List.replicate 4096 (⟨0, 0, 0, 0, 0, 0⟩ : LogEntry)).length
  exact Nat.le_of_eq List.length_replicate.symm

/-- A companion request is new to a companion that has executed none. -/
theorem test_hyp_SafetyRequests_fresh : ((ss []).sc (0 : Fin 2)).fresh (reqOf 0 0 0).toNat := by
  intro r h; cases h

theorem test_hyp_CommandFrames :
    after (exec (.ccResetRelease 0 3 5) State.reset) (fun t => decide (t.cell 293 ≠ State.reset.cell 293)) = true ∧
    after (exec (.scPowerUp 0 1 false) State.reset) (fun t => decide (t.sc 1 ≠ State.reset.sc 1)) = true ∧
    (groupsOf (.clrLoad 0 0 0)).isSome = true ∧ GLOBAL.STATUS.BLOCKED.id ∉ violationFields ∧
    (∀ gs ∈ groupsOf (.clrLoad 0 0 0), GLOBAL.STATUS.BLOCKED.group ∉ gs) ∧ mayProgram (.clrLoad 0 0 0) = false := by decide +kernel

theorem test_hyp_EveryStepKeepsCanonicalForm : State.reset.Canon ∧ step State.reset = .next State.reset ∧ State.reset.pending = [] :=
  ⟨⟨rfl, rfl, rfl, rfl⟩, rfl, rfl⟩

theorem test_hyp_EveryStepKeepsSpecialRegisters : State.reset.vc.Sound ∧ step State.reset = .next State.reset := by
  refine ⟨?_, rfl⟩
  simp only [Vc.Sound, Vc.HeldOk, Vc.SqOk, Vc.CqOk]
  refine ⟨fun req be a w h => ?_, ?_, ?_, ?_, ?_⟩
  · exact absurd h List.not_mem_nil
  all_goals decide +kernel
/-! ### Steps and values worked out in the spec -/

/-- Slot 11 of the halted retune (14_host_queues): the load fails CHECK, its completion is 0x0A11_0302, 0x000B_0001 at entry 41 of
CQ 2, and HALT_ON_ERR halts SQ 2 with cause 4. -/
theorem test_step_failed_load :
    let d : Desc := { id := 0, sq := 2, slot := 11, stage := .started, waiting := true, bound := some (.bytes [1, 0, 0, 0]), words := [0x02100A11, 0, 0, 0, 0x1100, 0x01010000, 0, 0, 4, 0] }
    let s := vs [(SQ.CFG.CQ, 2, 2), (SQ.STATUS.STATE, 2, 1), (CQ.CFG.EN, 2, 1), (CQ.STATUS.TAIL, 2, 41), (CQ.STATUS.PHASE, 2, 1), (CQ.CFG.LOG2SIZE, 2, 8)]
      (fun v => { v with host := { descs := [d], bme := true } });
    let t := s.vc.descNow 0
    ((t.out.any fun e => match e with
        | .cqEntry 2 41 w0 w1 0 _ => decide (w0 = 0x0A110302 ∧ w1 = 0x000B0001)
        | _ => false) && decide (t.rd SQ.STATUS.HALT_CAUSE 2 = 4)) = true := by decide +kernel

/-- The RESUME of that example, 0xA000_000B, sets HEAD to 11. -/
theorem test_step_resume :
    after (exec (.sqResume 0 2 0 0xA000000B#32) (vs [(SQ.STATUS.STATE, 2, 3), (SQ.CFG.LOG2SIZE, 2, 8)])) (fun t =>
      decide (t.vc.rd SQ.STATUS.STATE 2 = 1 ∧ t.vc.rd SQ.STATUS.HEAD 2 = 11)) = true := by decide +kernel

/-- Earthing the valve hall (16_safety_companion): ACC = 0xC000_6101 waits as ESWREQ CLOSE, and the SC goes to WAIT. -/
theorem test_step_esw_request :
    after (exec (.companionAccess 0 0 0 0xC0006101#32) (port0 {})) (fun t => decide ((t.vc.comp 0).acc = some 0xC0006101)) = true ∧
    after (exec (.companionRequest 0) (port0 { acc := some 0xC0006101 })) (fun t =>
      decide ((t.vc.comp 0).out = some (requestWord 2 1 0x61 1))) = true ∧
    after (exec (.eswClose 0 0) (esw0 0 1 2)) (fun t => decide ((t.swAt 0).eswState = 1)) = true := by decide +kernel

/-- The tick sample (12_cell_measurement): RAW 47,871 under GAIN 0x7F7D is 47,680; it reaches LAST. -/
theorem test_step_calibrated_value :
    after (exec (.adcSlot 2000 0 0 0xBAFF#16) (adc0 (.vcap 0) [(ADC.CAL_A.GAIN, 0, 0x7F7D)])) (fun t =>
      decide ((t.cellAt 0 0).rd ADC.LAST.VALUE 0 = 47680 ∧ (t.cellAt 0 0).rd ADC.LAST.RAW 0 = 47871)) = true := by decide +kernel

/-- One Harrowgate tick (01_converter_architecture): 88 cells, 10 ns links: t_X is 3,610 ns and L_C is 3. -/
theorem test_value_lc :
    let s := (vs [(STRING.CFG.CELLS, 0, 88), (STRING.CFG.RATE, 0, 2), (GLOBAL.TICKCFG.TP_NS, 0, 1500)]).vc
    let s := forN 89 s fun s i => s.wr STRING.HOPDLY.DELAY 40 0 i
    s.arrival 0 false = 3610 * 20 ∧ s.arrival 0 true = 3610 * 20 ∧ s.calcLc 0 = 3 := by decide +kernel

/-- The inner loop (03_lens_control_engine): CTXCFG0 0x000A_3198 is 24 states, 6 outputs, 6 measurements and 5 references, and its step
takes 82 ns; 0x0086_414C takes 72 ns. -/
theorem test_value_step_time :
    (let v := (vs []).vc.writeNow 0 15 0x31000 0x000A3198
     v.rd CTX.CFG0.NX 0 = 24 ∧ v.rd CTX.CFG0.NU 0 = 6 ∧ v.rd CTX.CFG0.NY 0 = 6 ∧ v.rd CTX.CFG0.NR 0 = 5 ∧ v.stepNs 0 = 82) ∧
    ((vs []).vc.writeNow 0 15 0x31000 0x0086414C).stepNs 0 = 72 := by decide +kernel

/-- The servo's terms (13_valve_time): an offset of 240 ns over 1 s with KP 3 and KI 7. -/
theorem test_value_servo : -(rnDiv (240 * 281474976710656) (1000000000 * 8)) = -8444249 ∧
    -(rnDiv (240 * 281474976710656) (1000000000 * 128)) = -527766 := by decide +kernel

/-- An edge at the pins (11_cell_gate_timing): E ends in 0x4855, SKEW −2 and +3, M 33: cycle 0x485 and tap 8; cycle 0x57F and tap 13. -/
theorem test_value_edge_tap :
    let c := at0 (cell0 [(GATE.SKEW.SKEW_AH, 0, 3), (GATE.SKEW.SKEW_AL, 0, 254), (GATE.DLSTAT.M_A, 0, 33), (GATE.DLSTAT.M_A, 1, 33)])
    c.place125 1 0x4855 = (0x485, 8) ∧ c.place125 0 (0x4855 + 4000) = (0x57F, 13) := by decide +kernel

/-! ### RISC-V instructions, by their encodings and examples in the RISC-V specifications -/

/-- A core with registers x1 = 5 and x3 = −5, f1 = 1.0 and f2 = 2.0. -/
def hart0 : Hart := { pc := 0x100, x := [(1, 5), (3, 4294967291)], f := [(1, 0x3F800000), (2, 0x40000000)] }
def runs (w : Nat) (p : Hart → Bool) : Bool :=
  match hart0.run ⟨true, some 0, 0⟩ w with
  | .done h => p h
  | _ => false

/-- ADD x2, x1, x3 wraps to 0; DIV by zero gives all ones; MULHU of 5 and 2^32 − 5 gives 4; C.ADDI x1, −1 moves the pc by 2. -/
theorem test_riscv_integer :
    runs 0x00308133 (fun h => h.reg 2 = 0 && h.pc = 0x104) = true ∧ runs 0x0200C133 (fun h => h.reg 2 = 0xFFFFFFFF) = true ∧
    runs 0x0230B133 (fun h => h.reg 2 = 4) = true ∧ runs 0x10FD (fun h => h.reg 1 = 4 && h.pc = 0x102) = true := by decide +kernel

/-- BLT x3, x1, +16 is taken; JAL x1, −4 links; ECALL traps with cause 11; SW stores, and LBU loads, at x1 + 3. -/
theorem test_riscv_control :
    runs 0x0011C863 (fun h => h.pc = 0x110) = true ∧ runs 0xFFDFF0EF (fun h => h.pc = 0xFC && h.reg 1 = 0x104) = true ∧
    hart0.run ⟨true, some 0, 0⟩ 0x00000073 = .trap 11 0 ∧
    hart0.run ⟨true, some 0, 0⟩ 0x0030A1A3 = .store { hart0 with pc := 0x104 } 8 4 4294967291 ∧
    hart0.run ⟨true, some 0, 0⟩ 0x0030C103 = .load { hart0 with pc := 0x104 } 8 1 false false 2 := by decide +kernel

/-- FADD.S 1.0 + 2.0 = 3.0 exact; FDIV.S 1.0 / 0.0 is infinite and raises DZ; FCVT.W.S of 1.5 to nearest even is 2 and inexact. -/
theorem test_riscv_float :
    runs 0x002081D3 (fun h => h.freg 3 = 0x40400000 && h.fcsr = 0) = true ∧ runs 0x1800F1D3 (fun h => h.freg 3 = 0x7F800000 && h.fcsr = 8) = true ∧
    Rv.ftoInt 0 false 0x3FC00000 = (2, 1) ∧ Rv.fadd 0 0x3F800000 0x33800000 = (0x3F800000, 1) := by decide +kernel

/-! ### Commands of the wrong shape -/

/-- Each check of shapes refuses a command that breaks it alone. -/
theorem test_ill_formed :
    ([.tick (List.replicate 4 {}) [], .enumAcknowledge 0 (List.replicate 16 (0, 0)) 0, .cascadeCommandFrame 0 0 (List.replicate 4609 (0, 0)) ⟨false, []⟩ 0,
      .cascadeCommandFrame 0 0 [] ⟨false, List.replicate 193 ⟨0, 0, 0, 0, 0, 0⟩⟩ 0,
      .facetSliceRx 0 0 0 0 (List.replicate 97 0) 0, .memberStatusRx 0 0 0 (List.replicate 49 ⟨0, 0, 0, 0, 0, 0, false, 0⟩) 0,
      .svFrame 0 ⟨false, 0, 0, 0, 0, false, List.replicate 256 ⟨[], 0, 0, 0, []⟩⟩, .svFrame 0 ⟨false, 0, 0, 0, 0, false, [⟨[], 0, 0, 0, List.replicate 186 (0, true, false)⟩]⟩,
      .svFrame 0 ⟨false, 0, 0, 0, 0, false, [⟨List.replicate 130 0, 0, 0, 0, []⟩]⟩, .measFrameRx 0 0 [] 0, .assignReturn 0 0 ⟨⟨true, 0⟩, List.replicate 9 0, 0⟩,
      .imageLoadDone 0 0 [] (List.replicate 97 none) [], .imageLoadDone 0 0 [] [] (List.replicate 97 0), .sweepReturn 0 0 false [] 0 [] none,
      .sweepReturn 0 0 false (List.replicate 4 ⟨true, 0⟩) 0 (List.replicate 97 0) none, .msgResponseRx 0 0 false ⟨⟨true, 0⟩, List.replicate 9 0, 0⟩,
      .sweepCopyRx 0 0 0 false [] ⟨false, 0⟩ ⟨false, 0⟩ ⟨false, 0⟩ ⟨false, 0⟩ 0, .ccMsgRead 0 0 0 false ⟨⟨true, 0⟩, List.replicate 9 0, 0⟩,
      .ccMsgWrite 0 0 0 false ⟨⟨true, 0⟩, List.replicate 9 0, 0⟩, .ccMsgAssign 0 0 0 false ⟨⟨true, 0⟩, List.replicate 9 0, 0⟩,
      .ccMsgCalStart 0 0 0 false ⟨⟨true, 0⟩, List.replicate 9 0, 0⟩, .ccMsgFwBlock 0 0 0 false ⟨⟨true, 0⟩, List.replicate 9 0, 0⟩,
      .trialSlotsDone 0 (.vc 0) (List.replicate 9 none), .mlaneEqSlotsDone 0 0 (List.replicate 9 none), .descriptorFetch 0 (some []),
      .isoFrameRx 0 0 true (.toLogic [] 0 0 (List.replicate 8 0) 0), .isoFrameRx 0 0 true (.toLogic (List.replicate 16 0) 0 0 [] 0)] : List Instr).all (fun c => !c.wellFormed) = true := by decide +kernel

/-- A buffer of more than 16 MiB is refused wherever a command carries one. -/
theorem test_ill_formed_buffer (b : List Byte) (h : 16777216 < b.length) (c : Instr)
    (hc : c ∈ [Instr.coefLoad 0 0 (.bytes b), .coefReadback 0 0 (.bytes b), .facetSetTrim 0 0 (.bytes b), .facetReturn 0 0 (.bytes b),
      .facetRemove 0 0 (.bytes b), .facetClearCounts 0 0 (.bytes b), .cellMsgRead 0 0 (.bytes b), .cellMsgWrite 0 0 (.bytes b),
      .configWrite 0 0 (.bytes b), .fwWrite 0 0 (.bytes b), .fwVerify 0 0 (.bytes b), .fwActivate 0 0 (.bytes b)]) : c.wellFormed = false := by
  have hb : HostBuf.wellFormed (.bytes b) = false := by simp [HostBuf.wellFormed]; omega
  simp only [List.mem_cons, List.not_mem_nil, or_false] at hc
  rcases hc with h | h | h | h | h | h | h | h | h | h | h | h <;> subst h <;> exact hb

theorem test_well_formed : ([.tick [{}, {}, {}] [], .measFrameRx 0 0 (List.replicate 4 ⟨true, 0⟩) 0, .clrLoad 0 0 0,
    .isoFrameRx 0 0 true (.toLogic (List.replicate 16 0) 0 0 (List.replicate 8 0) 0)] : List Instr).all (·.wellFormed) = true := by decide +kernel

/-! ### Premises that many statements share, and further forms -/

theorem wr_resetUntil (v : Vc) (f : Fld) (x i j : Nat) : (v.wr f x i j).resetUntil = v.resetUntil := rfl

theorem vset_resetUntil (l : Sets) (v : Vc) : (l.foldl (fun v e => v.wr e.1 e.2.2 e.2.1) v).resetUntil = v.resetUntil := by
  induction l generalizing v with
  | nil => rfl
  | cons e es ih => exact ih _

/-- Every state built here has its VC out of cold reset, with no write waiting for the boundary. -/
theorem test_hyp_inReset (l : Sets) (f : Vc → Vc) (h : ∀ v, (f v).resetUntil = v.resetUntil) : (vs l f).vc.inReset = false := by
  have e : (f (vset l)).resetUntil = 0 := (h _).trans (vset_resetUntil l {})
  show decide ((f (vset l)).now < (f (vset l)).resetUntil) = false
  rw [e]; exact decide_eq_false (Nat.not_lt_zero _)

theorem test_hyp_HeldOk : (vs []).vc.HeldOk ∧ (vs [] fun v => { v with held := [.host 0 15 0x3100C 1] }).vc.HeldOk := by
  refine And.intro (fun req be a w h => nomatch h) (fun req be a w h => ?_)
  obtain rfl : a = 0x3100C := by
    have h : Held.host req be a w ∈ [Held.host 0 15 0x3100C 1] := h
    cases List.mem_singleton.1 h; rfl
  decide +kernel

/-- While a cold reset holds the VC; a RESET_N pulse of each length. -/
theorem test_hyp_ResetsOfTheController : ((vs [] fun v => { v with resetUntil := 10 }).vc.elapse 5).inReset = true ∧
    (1000 ≤ 1000 ∧ 100 ≤ 500 ∧ 500 < 1000 ∧ 99 < 100) := by decide +kernel

theorem test_hyp_StartSteps_hang : let r : BootRes := { diePass := 7, ptrBad := false, hang := none }
    r.hang = none ∧ ({ r with hang := some 0 } : BootRes).hang = some 0 := by decide

theorem test_hyp_BootCommands_queued :
    (∃ x xs, (vs [] fun v => { v with boot := { xspi := [⟨.confirm, true, [.erase 0]⟩] } }).vc.boot.xspi = x :: xs ∧ x.begun = true ∧ x.ops ≠ []) ∧
    bits (2#32).toNat 2 0 = 2 ∧ bits (2#32).toNat 31 16 ≠ 0x7E81 ∧ bits (1#32).toNat 2 0 = 1 ∧ bits (1#32).toNat 31 16 ≠ 0x7E81 ∧
    (vs []).vc.rd BOOT.STATUS.TRIAL = 0 := by
  refine ⟨⟨_, _, rfl, rfl, by decide⟩, ?_⟩
  decide +kernel

theorem test_hyp_WrongAccess_header : (vs []).vc.host.pcie.ur = false ∧ (vs []).vc.host.pcie.ca = false := by decide

/-- PROT.CFG locked; a step mode that CTX.CFG0 rejects; LENS.SETPT and VOTER.CFG; ERR's flags and a vector's map; no register. -/
theorem test_hyp_PlainRegisterWrite_forms :
    ((findRow (vcRows 2) 0x20000).any fun (r, _, _) => !(vs []).vc.lockedRow r 0 && !r.takes 0) = true ∧
    (((findRow (vcRows 2) 0x20000)).any fun (r, _, _) => (vs [(VOTER.CFG.LOCK, 0, 1)]).vc.lockedRow r 0 && decide (r.tag = .plain)) = true ∧
    (∀ e ∈ [((0x30218 : Nat), RegTag.plain, true), (0x10004, .irqstat, false), (0x10040, .irqmap, false), (0x100028, .plain, false)],
      ((findRow (vcRows (e.1 / 65536)) e.1).any fun (r, i, _) => decide (r.tag = e.2.1) && !(vs []).vc.lockedRow r i && r.takes 0) = true ∧
        atBoundary e.1 = e.2.2 ∧ inWindow e.1 = false ∧ e.1 < 4194304) ∧
    inWindow 0x200004 = true ∧ findRow (vcRows (0x170000 / 65536)) 0x170000 = none ∧ inWindow 0x170000 = false ∧
    (vs [(BOOT.STATUS.STATE, 0, 2)]).vc.rd BOOT.STATUS.STATE = 2 ∧ (0x20000#22).toNat / 65536 ∉ [0, 1, 0x15, 0x16] := by decide +kernel

/-- The tick instant of a tick before; two dies that fail in one tick; a realignment that is not asked, wrong keys. -/
theorem test_hyp_TickInstants_last : (vs [] fun v => { v with time := { v.time with tickVt := some 0 } }).vc.time.tickVt = some 0 := by decide

theorem test_hyp_DieFailuresAndRealignment_keys :
    (let s := vs [(VOTER.STATUS.STATE_B, 0, 1), (VOTER.STATUS.MODE, 0, 1)] fun v => { v with voter := { v.voter with lastAside := some (1, v.ticks) } }
     s.vc.rd (dieFld 0) = 0 ∧ s.vc.rd VOTER.STATUS.MODE = 1 ∧ s.vc.voter.lastAside = some ((1 : Fin 3).val, s.vc.ticks)) ∧
    ((vs [(VOTER.STATUS.MODE, 0, 1)]).vc.rd VOTER.STATUS.MODE ≠ 0 ∧ (vs []).vc.rd (dieFld 0) ≠ 2) ∧
    bits (0x10#32).toNat 6 4 ≠ 0 ∧ bits (0x10#32).toNat 31 16 ≠ 0xC3A5 ∧ bits (1#32).toNat 2 0 ≠ 0 ∧ bits (1#32).toNat 31 16 ≠ 0xC3A5 := by
  decide +kernel

theorem test_hyp_Cascade_refused :
    ((vs []).vc.rd CASCADE.STATUS.STATE = 0 ∧ (vs [(CASCADE.CFG.VC_COUNT, 0, 0)]).vc.rd CASCADE.CFG.VC_COUNT = 0 ∧
      16 < (vs [(CASCADE.CFG.VC_COUNT, 0, 17)]).vc.rd CASCADE.CFG.VC_COUNT ∧ bits (1#32).toNat 1 0 = 1) ∧
    (let b : Block := ⟨true, 0xC3#64⟩
     b.ctl = true ∧ b.pay.toNat % 256 = 0xC3 ∧ flashOk b.pay.toNat = false ∧
       (vs [(LANE.STATUS.BSTATE, 104, 7)]).vc.pairUp (b2n false) = true ∧ (vs []).vc.pairUp (b2n false) = false) := by decide +kernel

theorem test_hyp_LoopContexts_boundary : bit (1#32).toNat 0 = true ∧ bit (2#32).toNat 1 = true ∧ bit 3 0 = true ∧ bit 3 1 = true := by decide

/-- A read-back that its words refuse, and frames of four blocks with one thing wrong; the FSEQ that follows and one that does not. -/
theorem test_hyp_MeasurementFrames_discarded :
    (∀ e ∈ [(false, false, mA.toNat, mD.toNat), (true, true, mA.toNat, mD.toNat), (true, false, (mA + 1#64).toNat, mD.toNat),
        (true, false, mA.toNat, (mD + 1#64).toNat), (true, false, (mA + 0x100000000#64).toNat, mD.toNat),
        (true, false, (mA + 0x100#64).toNat, mD.toNat)],
      let a : Block := ⟨e.1, BitVec.ofNat 64 e.2.2.1⟩
      let d : Block := ⟨e.2.1, BitVec.ofNat 64 e.2.2.2⟩
      a.ctl = false ∨ d.ctl = true ∨ a.pay.toNat % 256 ≠ 0x5A ∨
        bits d.pay.toNat 15 0 ≠ check16 (bitsUp a.pay.toNat 0 64 ++ bitsUp 0x1234 0 64 ++ bitsUp 0 0 64) ∨
        bits a.pay.toNat 47 32 ≠ mlane0.vc.rd MLANE.MCFG.UNIT_ID (0 : Fin 8) ∨ bits a.pay.toNat 10 8 ≠ mlane0.vc.rd MLANE.MCFG.NCH (0 : Fin 8)) ∧
    (vs [(LANE.STATUS.BSTATE, 96, 6)]).vc.rd LANE.STATUS.BSTATE (96 + (0 : Fin 8).val) ≠ 7 ∧
    (∀ q ∈ [(2 : Nat), 1], (Tab.get (fun _ => none) (vs [] fun v => { v with prot := { v.prot with fseqSeen := [(0, some q)] } }).vc.prot.fseqSeen
      (0 : Fin 8).val = some q)) ∧ bits mA.toNat 31 16 = (2 + 1) % 65536 ∧ bits mA.toNat 31 16 ≠ (1 + 1) % 65536 ∧
    Tab.get (fun _ => none) mlane0.vc.prot.fseqSeen (0 : Fin 8).val = none := by decide +kernel

theorem test_hyp_ProtectionBlock_more : bits (0x10002#32).toNat 1 0 = 2 ∧ bits (0x10002#32).toNat 31 16 ≠ 0x5A3C ∧
    (100 ≤ 100 ∧ 59 < 60) := by decide

theorem test_hyp_WorkItems_refused : bits 0 31 28 = 0 ∧ 3 < bits 0x40000000 31 28 ∧ bits 0x10000003 7 0 = 3 ∧ bits 0x40000000 31 28 = 4 := by decide

theorem test_hyp_StringControl_more :
    bits (3#32).toNat 1 0 = 3 ∧ (str0 7 []).vc.rd STRING.STATUS.STATE (0 : Fin 48) ≠ 0 ∧
    (let s := str0 6 [] fun x => { x with stopLeft := some 1 }
     s.vc.strRuns (0 : Fin 48) = true ∧ (s.vc.str (0 : Fin 48)).stopLeft.isSome = true) ∧
    (str0 0 []).vc.strRuns (0 : Fin 48) = false ∧
    (let m : Msg := ⟨.wdog, 1, 0, 0x300, 1, [0], 0⟩
     ((∃ x ∈ ((str0 6 [] fun x => { x with msgs := [m] }).vc.str (0 : Fin 48)).msgs, x.op = 1) ∧
      ((str0 6 [] fun x => { x with msgOut := some ⟨m, 9, 0⟩ }).vc.str (0 : Fin 48)).msgOut = some ⟨m, 9, 0⟩ ∧ m.op = 1)) := by
  decide +kernel

/-- A broadcast that fits, a message that does not, a string that is OFF; the READ and calibration READ of a response; responses that
change nothing. -/
theorem test_hyp_StringTraffic_more :
    (∀ e ∈ [(([] : List (Nat × Nat)), true), ([(0, 20)], false)], let m : Msg := ⟨.wdog, 1, 0x7F, 0x300, 1, [0], 0⟩
     let s := str0 6 [] fun x => { x with msgs := [m], launched := e.1 }
     (s.vc.str (0 : Fin 48)).msgs = [m] ∧ m.dest = 0x7F ∧ (s.vc.elapse 0).msgFits (0 : Fin 48) (m.payload.length + 2) = e.2) ∧
    (str0 0 []).vc.rd STRING.STATUS.STATE (0 : Fin 48) < 2 ∧
    (∀ p ∈ [(.wdog : MsgFor), .calRead 1], let o : MsgOut := ⟨⟨p, 0, 0, 0x600, 1, [], 0⟩, 9, 0⟩
     let m := msg 0 9 0x600 0x7F 2 [5]
     let s := str0 3 [laneUp 0] fun x => { x with msgOut := some o }
     (s.vc.str (0 : Fin 48)).msgOut = some o ∧ s.vc.endInUse (0 : Fin 48) (b2n false) = true ∧ m.ok = true ∧ m.tag = o.tag ∧ m.dest = 0x7F ∧
       m.src = o.msg.dest ∧ m.op = 2 ∧ o.msg.op = 0 ∧ m.len = o.msg.len ∧ (m.payload.getD 0 0).toNat % 65536 ≠ 0) ∧
    ((msg 0 9 0x600 0x7F 2 [5]).ok = true ∧ ({ msg 0 9 0x600 0x7F 2 [5] with check := 0 } : MsgFrame).ok = false ∧
      (str0 3 []).vc.endInUse (0 : Fin 48) (b2n false) = false ∧ ((str0 3 []).vc.str (0 : Fin 48)).msgOut = none) := by
  decide +kernel

/-- Three awaited frames in a row before eight frames' time, and kept; CAPs that lower a limit; both lanes of a cell. -/
theorem test_hyp_LinkTraining_more :
    (let s := vlane 2 fun x => { x with rxRun := 2 }
     (s.linkEnd (.vc 0)).st.got = none ∧ 2 ≤ (s.linkEnd (.vc 0)).st.rxRun ∧
       (s.vc.elapse 0).now < (s.linkEnd (.vc 0)).st.since + 8 * frameTime) ∧
    (∀ b ∈ [2, 3], let s := vlane b fun x => { x with got := some (train 1 0 0 0) }
     s.linkTrains (.vc 0) = true ∧ (s.linkEnd (.vc 0)).bst = b ∧ (s.linkEnd (.vc 0)).st.got = some (train 1 0 0 0) ∧
       (s.linkEnd (.vc 0)).st.since + 8 * frameTime ≤ (s.vc.elapse 4352).now ∧ (s.linkCfg (.vc 0)).max ≤ (train 1 0 0 0).maxRate ∧
       (train 2 1 0 0).valid = true ∧ (train 2 1 0 0).type = 2 ∧ (train 2 1 0 0).rate = 1) ∧
    (∀ b ∈ [2, 7], let s := clane b id [(CCLINK.LSTAT.PSTATE, 0, 0), (CCLINK.LSTAT.BSTATE, 0, b)]
     s.linkTrains (.cc 0 0 true) = true ∧ (s.linkEnd (.cc 0 0 true)).st.got = none ∧ s.linkTrains (.cc 0 0 (!true)) = true ∧
       (s.linkEnd (.cc 0 0 true)).bst = b ∧ (s.linkEnd (.cc 0 0 (!true))).bst = b ∧
       (trainFrame (1 + 268435456) 0 0 0).maxRate < (s.cellAt (0 : Fin 48) (0 : Fin 96)).rd CCLINK.LSTAT.RLIMIT ∧
       (s.cellAt (0 : Fin 48) (0 : Fin 96)).rd CCLINK.LSTAT.RLIMIT ≤ (train 1 0 0 0).maxRate) := by decide +kernel

/-- A receiver in lock that keeps it over a block with an invalid sync header. -/
theorem test_hyp_LinkTimersAndLosses_receiver :
    (let s := vlane 7 (fun x => { x with pcs := { lock := true } }) [(LANE.STATUS.RATE, 0, 1)]
     s.vc.rd LANE.STATUS.PSTATE (0 : Fin 108) = 0 ∧ (s.vc.lane (0 : Fin 108)).got = none ∧ s.vc.rd LANE.STATUS.RATE (0 : Fin 108) ≠ 0 ∧
       (s.vc.lane (0 : Fin 108)).pcs.lock = true ∧ (s.vc.lane (0 : Fin 108)).pcs.hiBer = false ∧ (s.vc.lane (0 : Fin 108)).pcs.berCnt < 15 ∧
       (s.vc.lane (0 : Fin 108)).pcs.shBad < 15 ∧ (0#66).toNat % 4 = 0 ∧
       ((s.vc.lane (0 : Fin 108)).pcs.receive (s.vc.rd LANE.STATUS.RATE (0 : Fin 108)) 0 (s.vc.inTest (0 : Fin 108)) (.blocks [0])).2.2 = false ∧
       ((s.vc.lane (0 : Fin 108)).pcs.receive (s.vc.rd LANE.STATUS.RATE (0 : Fin 108)) 0 (s.vc.inTest (0 : Fin 108))
         (.blocks (List.replicate 16 0))).2.2 = true ∧ s.vc.rd LANE.STATUS.BSTATE (0 : Fin 108) = 7) ∧
    (let s := clane 7
     s.linkThere (.cc 0 0 true) = true ∧ (s.cellAt (0 : Fin 48) (0 : Fin 96)).rd CCLINK.LSTAT.PSTATE (b2n true) = 0 ∧
       (s.linkEnd (.cc 0 0 true)).st.got = none ∧
       ((s.linkEnd (.cc 0 0 true)).st.pcs.receive (s.linkEnd (.cc 0 0 true)).rate 0 ((s.cellAt (0 : Fin 48) (0 : Fin 96)).inTest true)
         (.blocks [])).2.2 = false) := by decide +kernel

theorem test_hyp_LanePages_more :
    (vs []).vc.rd LANE.STATUS.PSTATE (0 : Fin 108) ≠ 0 ∧ isMeasLane (96 : Fin 108) = true ∧ bits (0x300000#32).toNat 21 20 = 3 ∧
    (vs []).vc.rd LANE.CFG.NENT (0 : Fin 108) ≤ bits (7#32).toNat 2 0 := by decide +kernel

/-- A full queue; a flash acted on before and after a copy's header. -/
theorem test_hyp_SweepCopies_more :
    ¬ (cellQ 1 (List.replicate 4 (q0 0))).cells.isEmpty ∧ 4 ≤ (in0 (cellQ 1 (List.replicate 4 (q0 0)))).queue.length ∧
    (∀ a ∈ [(50 : Nat), 100], let s := cell0 [] fun c => { c with flashed := true, actedAt := some a }
     (at0 s).flashed = true ∧ (at0 s).actedAt = some a ∧ (at0 s).fgenAt ≤ (s.vc.elapse 200).now - 100 ∧
       (a = 50 → a < (s.vc.elapse 200).now - 100) ∧ (a = 100 → (s.vc.elapse 200).now - 100 ≤ a)) := by decide +kernel

/-- An armed cell whose BYPASS_FIRE has its EFF_VT in the flash's own cycle. -/
theorem test_hyp_FlashesAndWatchdogOfCells_fires :
    let q : QCmd := ⟨0, 5 * 17592186044416 + 0xA5, 4000, none⟩
    let s := cell0 [(GATE.STATUS.STATE, 0, 1), (CCBYP.STATUS.ARMED, 0, 1)] fun c => { c with queue := [q] }
    (at0 s).queue = [q] ∧ q.eff / 16 = (s.cellIn 0 (0 : Fin 48) (0 : Fin 96)).cycle ∧ (s.cellIn 0 (0 : Fin 48) (0 : Fin 96)).firesBy q = true := by
  decide +kernel

theorem test_hyp_CellResets_more : (at0 (cell0 [] fun c => { c with syncEnd := some 5 })).syncEnd.isSome = true := by decide +kernel

/-- A TAP that shifts IDCODE. That a part is of development grade is its own (`Config.devGrade`), as is the hash of the key in its fuses. -/
theorem test_hyp_CellCore_tap : (at0 (cell0 [])).halted = false ∧ (Tab.get (fun _ => {}) (cell0 []).taps (tapKey .vc 0)).ir = .idcode ∧
    ((cell0 []).vc.elapse 0).inReset = false ∧ (List.replicate 32 false).length = 32 ∧ TapPart.vc ≠ TapPart.cell := by decide +kernel

theorem test_hyp_CellMeasurements_more :
    let s := adc0 (.vcap 0)
    (at0 s).coreRuns = true ∧ (at0 s).owRefused (0 : Fin 4) = false ∧ (at0 s).adc.job = .vcap 0 ∧ (s.vc.elapse 0).now ≤ (at0 s).sampleAt ∧
      (0x80000100#32).toNat = 0x80000000 + 1 * 256 + (0 : Fin 4).val := by decide +kernel

/-- Short states: an edge before the turn-on decision, a turn-on with the next edge near and far, a moved edge, an end that was not known; line B. -/
theorem test_hyp_GateTiming_short :
    (∀ pol < 2, let l : Sets := [(GATE.STATUS.STATE, 0, 2), (GATE.CFG.MP_POLICY, 0, pol), (GATE.MINPULSE.TIME, 0, 10)]
     let s := cell0 l fun c => { c with gate := { edges := [{ at_ := 1000, st := 3 }], tOn := some 2000 } }
     (at0 s).turnOnBefore 1000 = false ∧ 1000 ≤ (s.cellIn 1000 (0 : Fin 48) (0 : Fin 96)).time ∧ (at0 s).gate.tOn = some 2000 ∧
       (at0 s).stretches = decide (pol = 1) ∧
     ∀ e ∈ [((510 : Nat), true), (2000, false)],
       let s := cell0 l fun c => { c with gate := { edges := [{ at_ := e.1, st := 3 }], tOn := some 500, pend := [(1, 500)] } }
       firstPend (at0 s).gate.pend = some (1, 500) ∧ ((at0 s).gate.edges.any fun x => decide (x.at_ < 500)) = false ∧
         (at0 s).gate.tOn = some 500 ∧ (at0 s).isShort 500 e.1 = e.2 ∧ 500 ≤ (s.cellIn 500 (0 : Fin 48) (0 : Fin 96)).time) ∧
    (∀ g ∈ [({ edges := [{ at_ := 9000, st := 2, moved := true }] } : GateSt), { unknown := some 3990 }, { unknown := some 100 }],
     let q := q0 (17592186044416 + 10 * 1073741824)
     let s := cell0 [(GATE.STATUS.STATE, 0, 2), (GATE.MINPULSE.TIME, 0, 10)] fun c => { c with grid := some (4000, 4000), queue := [q], gate := g }
     let c := s.cellIn 4000 (0 : Fin 48) (0 : Fin 96)
     c.nextInst = some 4000 ∧ c.grid.isSome = true ∧ 4000 ≤ c.time ∧ (at0 s).queue = [q] ∧ q.eff ≤ 4000 ∧ q.load = none ∧ bit q.word 25 = false ∧
       bits q.word 47 44 = 1 ∧ bits q.word 43 30 < q.tq ∧ (at0 s).st = 2 ∧ (at0 s).tripped = false ∧ (at0 s).ov2 = false ∧
       (at0 s).gate.movedTo = none ∧ q.eff + bits q.word 43 30 ≤ 9000 ∧ (at0 s).isShort 3990 (q.eff + bits q.word 43 30) = true ∧
       (at0 s).isShort 100 (q.eff + bits q.word 43 30) = false) ∧
    (at0 (cell0 [(GATE.DLSTAT.LINE, 3, 1)])).rd GATE.DLSTAT.LINE (3 : Fin 4) = 1 ∧
    (at0 (cell0 [(GATE.DLSTAT.FAIL_A, 3, 1)])).rd GATE.DLSTAT.FAIL_A (3 : Fin 4) ≠ 0 := by decide +kernel

/-- Another grandmaster than the one followed, no master with the last one's Announce due; the lock of TIME.CFG; wrong keys. -/
theorem test_hyp_Time_more :
    (let s := time0 3 [] fun t => { t with gm := some 9 }
     s.vc.time.gm = some 9 ∧ 9 ≠ ({ gm0 with id := 0 } : GmData).id.toNat) ∧
    (let s := time0 3 [] fun t => { t with master := none, annEvery := 4000000000 }
     s.vc.servo = 3 ∧ s.vc.time.master = none ∧ s.vc.time.annAt + s.vc.rd TIME.CFG.ANN_TO * s.vc.time.annEvery ≤ (s.vc.elapse 40000000000).now) ∧
    (vs [(TIME.CFG.LOCK, 0, 1)]).vc.rd TIME.CFG.LOCK = 1 ∧ bits (0#32).toNat 15 12 < 2 ∧ 10 < bits (0xB000#32).toNat 15 12 ∧
    bits (1#32).toNat 1 0 = 1 ∧ bits (1#32).toNat 31 16 ≠ 0xD25A := by decide +kernel

theorem test_hyp_QueueSetup_more :
    bits (0x83000001#32).toNat 27 24 < 4 ∧ 12 < bits (0x8D000001#32).toNat 27 24 ∧ bits (0x84000000#32).toNat 8 0 < 1 ∧
    256 < bits (0x84000101#32).toNat 8 0 ∧
    (∀ en < 2, let s := vs [(CQ.CFG.EN, 3, 1), (SQ.CFG.EN, 0, en), (SQ.CFG.CQ, 0, 3)]
     s.vc.rd CQ.CFG.EN (3 : Fin 16) = 1 ∧ decide (∃ k : Fin 16, s.vc.rd SQ.CFG.EN k ≠ 0 ∧ s.vc.rd SQ.CFG.CQ k = (3 : Fin 16).val) = decide (en = 1)) := by
  decide +kernel

theorem test_hyp_EndpointResets_unmask :
    let s := vs [(pbaFld, 1, 4)] fun v => { v with host := { v.host with bme := true } }
    s.vc.host.bme = true ∧ s.vc.host.pcie.fmask = false ∧ bit s.vc.pba (2 : Fin 32) = true ∧ bit (0#32).toNat 0 = false ∧ (3#32).toNat % 4 = 3 := by
  decide +kernel

/-- Slot 1 with an image of 4,096 bytes whose second component, of 256 bytes, is inherited. -/
def imageFlash : List Host.Cell :=
  Memory.program [] 0xA00000 (bytesOfWords ([0x4F4E5531, 0x10000, 4096, 1, 0, 0, 0, 0] ++ [1024, 256, 0, 0, 0, 0, 0, 0] ++
    [2048, 256, 0, 0x80000000, 0, 0, 0, 0] ++ [3072, 256, 0, 0, 0, 0, 0, 0]))

/-- An FW_BLOCK VERIFY that first copies an inherited component. -/
theorem test_hyp_FirmwareDescriptors_inherit :
    (dv [] [] fun v => { v with flash := imageFlash }).vc.inheritOps 1 ≠ [] ∧
    (let d := desc (configWords 32)
     let s := dv [] d.words fun v => { v with boot := { xspi := [⟨.config d.id 0 1 setImage, true, [.erase 0]⟩] } }
     (XReq.mk (.config d.id 0 1 setImage) true []).desc = some d.id ∧ s.vc.desc? d.id = some d) := by decide +kernel

theorem test_hyp_ApertureCommands_both : bit (3#32).toNat 0 = true ∧ bits 3 2 0 = 3 ∧ bits 4 2 0 = 4 ∧ (vs [(APERTURE.STATUS.STATE, 0, 1)]).vc.apState ≠ 0 := by
  decide +kernel

theorem test_hyp_TokensAndFirings_keys : bits (0x00008004#32).toNat 15 12 ≠ 0 ∧ bits (0x00008004#32).toNat 31 16 ≠ 0x96E1 ∧
    bits (4#32).toNat 15 12 = 0 ∧ bits (4#32).toNat 31 16 ≠ 0x96E1 := by decide

end Sys2Proof.Tests
end

section
/-!
PROOF. Valve time through resets (R271): what the warm and the cold reset leave in the VT counter, RATE, STEP_ARM and
the servo's state.
-/
namespace Sys2Proof.Machine
open Reg

/-! ### The fields that a warm reset keeps (R7) -/

/-- A field of a register table is kept when the table marks it so. -/
theorem mem_keptFields {page : Nat} {f : Fld} (hpage : page < 23) (hf : ∃ r ∈ vcRows page, ∃ p ∈ r.parts, p.f = f)
    (hkeep : f.keep = true) : f.id ∈ keptFields := by
  obtain ⟨r, hr, p, hp, rfl⟩ := hf
  unfold keptFields
  rw [List.mem_eraseDups]
  exact List.mem_flatMap.mpr ⟨r, List.mem_flatMap.mpr ⟨page, List.mem_range.mpr hpage, hr⟩,
    List.mem_map.mpr ⟨p, List.mem_filter.mpr ⟨hp, hkeep⟩, rfl⟩⟩

theorem rate_mem_keptFields : TIME.RATE.RATE.id ∈ keptFields := mem_keptFields (page := 16) (by decide) (by decide) rfl

theorem stepArm_mem_keptFields : TIME.STATUS.STEP_ARM.id ∈ keptFields :=
  mem_keptFields (page := 16) (by decide) (by decide) rfl

/-- A warm reset leaves a field as it was when R7 keeps it and the reset does not itself write it. -/
theorem Vc.rd_warmReset_of_mem_keptFields (s : Vc) (c : Nat) (f : Fld) (i j : Nat) (hf : f.id ∈ keptFields)
    (hb : f.id ∉ beforeResetIds) (hr : f.id ∉ resetIds) (hd : f.id ∉ dieIds) : (s.warmReset c).rd f i j = s.rd f i j := by
  rw [Vc.rd_warmReset s c f i j hb hr hd, if_pos (List.contains_iff_mem.mpr hf)]

/-! ### The servo's state after any reset (R271) -/

/-- The servo starts from FREE when PTP_EN is 0, and from LISTEN otherwise. -/
theorem Vc.servoState_afterReset (s : Vc) (c : Nat) :
    (s.afterReset c).rd TIME.STATUS.STATE = if (s.afterReset c).rd TIME.CFG.PTP_EN = 0 then 0 else 1 := by
  rw [Vc.afterReset_state, Vc.rd_afterReset _ _ _ _ _ (by decide)]
  by_cases h : s.rd TIME.CFG.PTP_EN = 0 <;> simp [Vc.on, b2n, h]

theorem Vc.servoState_warmReset (s : Vc) (c : Nat) :
    (s.warmReset c).rd TIME.STATUS.STATE = if (s.warmReset c).rd TIME.CFG.PTP_EN = 0 then 0 else 1 :=
  Vc.servoState_afterReset _ _

theorem Vc.servoState_coldReset (s : Vc) (powerUp : Bool) :
    (s.coldReset powerUp).rd TIME.STATUS.STATE = if (s.coldReset powerUp).rd TIME.CFG.PTP_EN = 0 then 0 else 1 :=
  Vc.servoState_afterReset _ _

/-! ### The cold reset (R383) -/

theorem Vc.coldReset_vt (s : Vc) (powerUp : Bool) : (s.coldReset powerUp).vt = 0 := rfl

/-- A cold reset sets every register to its reset value, but for those that the reset itself writes. -/
theorem Vc.rd_coldReset (s : Vc) (powerUp : Bool) (f : Fld) (i j : Nat) (hr : f.id ∉ resetIds) :
    (s.coldReset powerUp).rd f i j = f.reset j := Vc.rd_afterReset _ _ f i j hr

/-- Power and a RESET_N of 1 µs or more reset the VC cold. -/
theorem Vc.coldResetBy_eq_coldReset (s : Vc) (c : ColdCause) (hc : (∃ b, c = .power b) ∨ ∃ ns, 1000 ≤ ns ∧ c = .pin ns) :
    ∃ powerUp, s.coldResetBy c = s.coldReset powerUp := by
  obtain ⟨b, rfl⟩ | ⟨ns, hns, rfl⟩ := hc
  · exact ⟨true, rfl⟩
  · have hlong : ¬ ns < 100 := by omega
    exact ⟨false, by simp only [Vc.coldResetBy, if_neg hlong, if_pos hns]⟩

/-! ### R271 -/

/-- Settles O2: what a warm reset keeps is in R7's list and outside what the reset writes, and a cold reset leaves reset values. -/
theorem valveTimeThroughResets : Obligations.ValveTimeThroughResets := by
  unfold Obligations.ValveTimeThroughResets
  constructor
  · intro s dt b hs
    refine ⟨s.vcCmd dt fun v => v.warmReset (b + 2), rfl, ?_⟩
    rw [State.vcCmd_vc s dt _ hs]
    refine ⟨Vc.warmReset_vt _ _, ?_, ?_, Vc.servoState_warmReset _ _⟩
    · exact Vc.rd_warmReset_of_mem_keptFields _ _ _ _ _ rate_mem_keptFields (by decide) (by decide) (by decide)
    · exact Vc.rd_warmReset_of_mem_keptFields _ _ _ _ _ stepArm_mem_keptFields (by decide) (by decide) (by decide)
  · intro s c hc
    refine ⟨_, rfl, ?_⟩
    obtain ⟨powerUp, h⟩ := Vc.coldResetBy_eq_coldReset { s.vc with out := [] } c hc
    dsimp only
    rw [h]
    refine ⟨Vc.coldReset_vt _ _, ?_, ?_, Vc.servoState_coldReset _ _⟩
    · exact Vc.rd_coldReset _ _ _ _ _ (by decide)
    · exact Vc.rd_coldReset _ _ _ _ _ (by decide)

end Sys2Proof.Machine
end

section
/-!
PROOF. Power-up of a companion (R346): which operations of a companion leave the cause POWER_UP of its GENERAL lock-out, and what the
lock-out keeps from it.
-/
namespace Sys2Proof.Machine
open Reg

/-! ### Reading a field of a companion -/

@[simp] theorem Sw.rd_mk (x : Sc) (n now : Nat) (out : List Emit) (f : Fld) (i : Nat) :
    (Sw.mk x n now out).rd f i = Tab.get (fun _ => f.reset 0) x.regs (f.key i 0) := rfl
@[simp] theorem Sw.get_regs (w : Sw) (f : Fld) (i : Nat) : Tab.get (fun _ => f.reset 0) w.regs (f.key i 0) = w.rd f i := rfl

/-- A field reads the same in two companions with the same registers. -/
theorem Sw.rd_congr {v w : Sw} (h : v.regs = w.regs) (f : Fld) (i : Nat) : v.rd f i = w.rd f i := by
  unfold Sw.rd
  rw [h]

/-- A fold over units leaves a field that each step leaves. -/
theorem Sw.rd_foldl {α : Type} (f : Sw → α → Sw) (g : Fld) (i : Nat) (h : ∀ w a, (f w a).rd g i = w.rd g i) (l : List α) (w : Sw) :
    (l.foldl f w).rd g i = w.rd g i := by
  induction l generalizing w with
  | nil => rfl
  | cons a l ih => rw [List.foldl_cons, ih, h]

/-! ### The cause POWER_UP through what a companion does (R344, R346) -/

section
variable (w : Sw)

theorem Sw.powerUpCause_wr (f : Fld) (v i : Nat) (h : SC.GENCAUSE.POWER_UP.id ≠ f.id) :
    (w.wr f v i).rd SC.GENCAUSE.POWER_UP = w.rd SC.GENCAUSE.POWER_UP := Sw.rd_wr_ne w f _ v i 0 h

theorem Sw.powerUpCause_set1 (f : Fld) (i : Nat) (h : SC.GENCAUSE.POWER_UP.id ≠ f.id) :
    (w.set1 f i).rd SC.GENCAUSE.POWER_UP = w.rd SC.GENCAUSE.POWER_UP := Sw.powerUpCause_wr w f 1 i h

@[simp] theorem Sw.powerUpCause_off (m : Nat) : (w.off m).rd SC.GENCAUSE.POWER_UP = w.rd SC.GENCAUSE.POWER_UP := rfl

@[simp] theorem Sw.powerUpCause_withdraw : w.withdraw.rd SC.GENCAUSE.POWER_UP = w.rd SC.GENCAUSE.POWER_UP :=
  Sw.powerUpCause_wr _ _ 0 0 (by decide)

theorem Sw.powerUpCause_lockOut (k : Nat) (flag : Fld) (h : SC.GENCAUSE.POWER_UP.id ≠ flag.id) :
    (w.lockOut k flag).rd SC.GENCAUSE.POWER_UP = w.rd SC.GENCAUSE.POWER_UP := by
  have hlocked : SC.GENCAUSE.POWER_UP.id ≠ SC.OUTDIAG.LOCKED.id := by decide
  have houtput : SC.GENCAUSE.POWER_UP.id ≠ SC.GENCAUSE.OUTPUT.id := by decide
  unfold Sw.lockOut
  dsimp only
  rw [Sw.powerUpCause_withdraw, Sw.powerUpCause_off, Sw.powerUpCause_set1 _ _ _ houtput, Sw.powerUpCause_set1 _ _ _ hlocked,
    Sw.powerUpCause_set1 _ _ _ h]
  split <;> rfl

theorem Sw.powerUpCause_ite (p : Prop) [Decidable p] {v : Sw} (h : v.rd SC.GENCAUSE.POWER_UP = w.rd SC.GENCAUSE.POWER_UP) :
    (if p then v else w).rd SC.GENCAUSE.POWER_UP = w.rd SC.GENCAUSE.POWER_UP := by
  split
  · exact h
  · rfl

/-! #### The earthing switch (R341) -/

@[simp] theorem Sw.powerUpCause_eswTo (st : Nat) : (w.eswTo st).rd SC.GENCAUSE.POWER_UP = w.rd SC.GENCAUSE.POWER_UP := by
  unfold Sw.eswTo
  split <;> simp (disch := decide) only [Sw.powerUpCause_wr, Sw.powerUpCause_withdraw, Sw.rd_mk, Sw.get_regs]

theorem Sw.powerUpCause_eswFail (cause : Fld) (h : SC.GENCAUSE.POWER_UP.id ≠ cause.id) :
    (w.eswFail cause).rd SC.GENCAUSE.POWER_UP = w.rd SC.GENCAUSE.POWER_UP := by
  simp only [Sw.eswFail, Sw.powerUpCause_set1 _ _ _ h, Sw.powerUpCause_eswTo, Sw.powerUpCause_off]

@[simp] theorem Sw.powerUpCause_eswRefuse : w.eswRefuse.rd SC.GENCAUSE.POWER_UP = w.rd SC.GENCAUSE.POWER_UP :=
  Sw.powerUpCause_set1 w _ 0 (by decide)

@[simp] theorem Sw.powerUpCause_eswClose : w.eswClose.rd SC.GENCAUSE.POWER_UP = w.rd SC.GENCAUSE.POWER_UP := by
  unfold Sw.eswClose
  dsimp only
  (repeat' split) <;> simp only [Sw.powerUpCause_eswTo, Sw.powerUpCause_eswRefuse, Sw.rd_mk, Sw.get_regs]

@[simp] theorem Sw.powerUpCause_eswOpen : w.eswOpen.rd SC.GENCAUSE.POWER_UP = w.rd SC.GENCAUSE.POWER_UP := by
  unfold Sw.eswOpen
  dsimp only
  (repeat' split) <;> simp only [Sw.powerUpCause_off, Sw.powerUpCause_eswTo, Sw.powerUpCause_eswRefuse, Sw.rd_mk, Sw.get_regs]

@[simp] theorem Sw.powerUpCause_eswAbort : w.eswAbort.rd SC.GENCAUSE.POWER_UP = w.rd SC.GENCAUSE.POWER_UP := by
  unfold Sw.eswAbort
  dsimp only
  split
  · rfl
  · split <;> simp (disch := decide) only [Sw.powerUpCause_eswFail, Sw.powerUpCause_eswTo, Sw.powerUpCause_eswRefuse, Sw.rd_mk, Sw.get_regs]

@[simp] theorem Sw.powerUpCause_eswDelay : w.eswDelay.rd SC.GENCAUSE.POWER_UP = w.rd SC.GENCAUSE.POWER_UP := by
  unfold Sw.eswDelay
  (repeat' split) <;> simp only [Sw.powerUpCause_eswTo, Sw.powerUpCause_eswRefuse]

@[simp] theorem Sw.powerUpCause_eswFbTimeout : w.eswFbTimeout.rd SC.GENCAUSE.POWER_UP = w.rd SC.GENCAUSE.POWER_UP := by
  unfold Sw.eswFbTimeout
  split <;> simp (disch := decide) only [Sw.powerUpCause_eswFail]

@[simp] theorem Sw.powerUpCause_eswFeedback : w.eswFeedback.rd SC.GENCAUSE.POWER_UP = w.rd SC.GENCAUSE.POWER_UP := by
  unfold Sw.eswFeedback
  split
  case h_6 => rfl
  all_goals (repeat' split) <;> simp (disch := decide) only [Sw.powerUpCause_eswFail, Sw.powerUpCause_eswTo, Sw.powerUpCause_off]

/-! #### The safety cycle (R328 to R334, R340, R342) -/

@[simp] theorem Sw.powerUpCause_filterInputs : w.filterInputs.rd SC.GENCAUSE.POWER_UP = w.rd SC.GENCAUSE.POWER_UP := by
  unfold Sw.filterInputs
  dsimp only
  rw [Sw.rd_foldl _ _ _ fun w q => Sw.powerUpCause_wr w _ _ _ (by decide)]
  apply Sw.rd_foldl
  exact fun _ _ => rfl

@[simp] theorem Sw.powerUpCause_pairLock (j : Nat) (wb : Bool) :
    (w.pairLock j wb).rd SC.GENCAUSE.POWER_UP = w.rd SC.GENCAUSE.POWER_UP := by
  unfold Sw.pairLock
  split
  · rfl
  all_goals split <;> exact Sw.powerUpCause_set1 _ _ _ (by decide)

@[simp] theorem Sw.powerUpCause_judgePair (j : Nat) : (w.judgePair j).rd SC.GENCAUSE.POWER_UP = w.rd SC.GENCAUSE.POWER_UP := by
  unfold Sw.judgePair
  extract_lets on v broken act dis was w₁ w₂ n limit set w₃ w₄ w₅ released
  have h₂ : w₂.rd SC.GENCAUSE.POWER_UP = w.rd SC.GENCAUSE.POWER_UP := by
    simp (disch := decide) only [w₂, w₁, Sw.powerUpCause_wr]
  have hset (v : Sw) (c : Nat) : (set v c).rd SC.GENCAUSE.POWER_UP = v.rd SC.GENCAUSE.POWER_UP := rfl
  have h₅ : w₅.rd SC.GENCAUSE.POWER_UP = w.rd SC.GENCAUSE.POWER_UP := by
    rw [← h₂]
    unfold w₅
    (repeat' split) <;> simp (disch := decide) only [Sw.powerUpCause_pairLock, Sw.powerUpCause_wr, w₃, w₄, hset]
  split
  · rw [Sw.powerUpCause_set1 _ _ _ (by decide), h₅]
  · exact h₅

@[simp] theorem Sw.powerUpCause_settle : w.settle.rd SC.GENCAUSE.POWER_UP = w.rd SC.GENCAUSE.POWER_UP := by
  unfold Sw.settle
  dsimp only
  rw [Sw.rd_foldl _ _ _ fun w x => Sw.powerUpCause_lockOut w _ _ (by decide)]
  simp only [Sw.rd_mk, Sw.get_regs]
  rw [Sw.rd_foldl _ _ _ fun w x => Sw.powerUpCause_lockOut w _ _ (by decide)]
  rfl

@[simp] theorem Sw.powerUpCause_readPins (c : ScCycle) : (w.readPins c).rd SC.GENCAUSE.POWER_UP = w.rd SC.GENCAUSE.POWER_UP := by
  unfold Sw.readPins
  dsimp only
  split <;> simp (disch := decide) only [Sw.powerUpCause_set1, Sw.rd_mk, Sw.get_regs]

@[simp] theorem Sw.powerUpCause_functions : w.functions.rd SC.GENCAUSE.POWER_UP = w.rd SC.GENCAUSE.POWER_UP := by
  unfold Sw.functions
  dsimp only
  rw [Sw.powerUpCause_settle, Sw.powerUpCause_eswFeedback, Sw.powerUpCause_eswAbort, Sw.powerUpCause_eswOpen,
    Sw.powerUpCause_eswClose, Sw.rd_foldl _ _ _ Sw.powerUpCause_judgePair, Sw.powerUpCause_filterInputs]

@[simp] theorem Sw.powerUpCause_compare (o : Nat) (p : Bool) (qo : Nat) (qp qLock : Bool) :
    (w.compare o p qo qp qLock).rd SC.GENCAUSE.POWER_UP = w.rd SC.GENCAUSE.POWER_UP := by
  unfold Sw.compare
  dsimp only
  rw [Sw.powerUpCause_wr _ _ _ _ (by decide)]
  (repeat' split) <;> simp (disch := decide) only [Sw.powerUpCause_set1, Sw.rd_mk, Sw.get_regs]

@[simp] theorem Sw.powerUpCause_cycle (c : ScCycle) : (w.cycle c).rd SC.GENCAUSE.POWER_UP = w.rd SC.GENCAUSE.POWER_UP := by
  simp (disch := decide) only [Sw.cycle, Sw.powerUpCause_wr, Sw.powerUpCause_compare, Sw.powerUpCause_functions, Sw.powerUpCause_readPins]

/-! #### The isolation link and the supply (R338, R339) -/

@[simp] theorem Sw.powerUpCause_supply (v : Nat) : (w.supply v).rd SC.GENCAUSE.POWER_UP = w.rd SC.GENCAUSE.POWER_UP := by
  unfold Sw.supply
  dsimp only
  split <;> simp (disch := decide) only [Sw.powerUpCause_wr, Sw.rd_mk, Sw.get_regs]

@[simp] theorem Sw.powerUpCause_readback (p n : Nat) : (w.readback p n).rd SC.GENCAUSE.POWER_UP = w.rd SC.GENCAUSE.POWER_UP := by
  unfold Sw.readback
  dsimp only
  split <;> rfl

@[simp] theorem Sw.powerUpCause_isoFrame (good : Bool) (f : IsoFrame) :
    (w.isoFrame good f).rd SC.GENCAUSE.POWER_UP = w.rd SC.GENCAUSE.POWER_UP := by
  unfold Sw.isoFrame
  split
  · (repeat' split) <;> simp (disch := decide) only [Sw.powerUpCause_wr, Sw.rd_mk, Sw.get_regs]
  · cases f with
    | toField => dsimp only; split <;> rfl
    | toLogic cur p n loads fsv =>
      dsimp only
      split
      · exact Sw.powerUpCause_supply w _
      · rw [Sw.powerUpCause_supply, Sw.powerUpCause_readback]
        apply Sw.rd_foldl
        exact fun _ _ => rfl

@[simp] theorem Sw.powerUpCause_isoTimeout (field : Bool) :
    (w.isoTimeout field).rd SC.GENCAUSE.POWER_UP = w.rd SC.GENCAUSE.POWER_UP := by
  unfold Sw.isoTimeout
  dsimp only
  (repeat' split) <;> simp (disch := decide) only [Sw.powerUpCause_set1, Sw.powerUpCause_withdraw, Sw.rd_mk, Sw.get_regs]

@[simp] theorem Sw.powerUpCause_sag (v : Nat) : (w.sag v).rd SC.GENCAUSE.POWER_UP = w.rd SC.GENCAUSE.POWER_UP := by
  unfold Sw.sag
  dsimp only
  (repeat' split) <;> simp (disch := decide) only [Sw.powerUpCause_set1, Sw.powerUpCause_supply]

@[simp] theorem Sw.powerUpCause_sagEnd (v : Nat) : (w.sagEnd v).rd SC.GENCAUSE.POWER_UP = w.rd SC.GENCAUSE.POWER_UP := by
  unfold Sw.sagEnd
  dsimp only
  (repeat' split) <;> simp (disch := decide) only [Sw.powerUpCause_wr, Sw.powerUpCause_supply]

@[simp] theorem Sw.powerUpCause_supplyLow : w.supplyLow.rd SC.GENCAUSE.POWER_UP = w.rd SC.GENCAUSE.POWER_UP := by
  unfold Sw.supplyLow
  split
  · dsimp only
    (repeat' split) <;> simp (disch := decide) only [Sw.powerUpCause_set1, Sw.powerUpCause_withdraw, Sw.powerUpCause_off, Sw.rd_mk, Sw.get_regs]
  · rfl

/-! #### Output faults and OFF tests (R335 to R337) -/

@[simp] theorem Sw.powerUpCause_overload (k : Nat) : (w.overload k).rd SC.GENCAUSE.POWER_UP = w.rd SC.GENCAUSE.POWER_UP := by
  unfold Sw.overload
  split <;> simp (disch := decide) only [Sw.powerUpCause_lockOut]

@[simp] theorem Sw.powerUpCause_overtemp (k : Nat) : (w.overtemp k).rd SC.GENCAUSE.POWER_UP = w.rd SC.GENCAUSE.POWER_UP :=
  Sw.powerUpCause_lockOut w k _ (by decide)

@[simp] theorem Sw.powerUpCause_openWire (k : Nat) : (w.openWire k).rd SC.GENCAUSE.POWER_UP = w.rd SC.GENCAUSE.POWER_UP := by
  unfold Sw.openWire
  split <;> simp (disch := decide) only [Sw.powerUpCause_set1]

@[simp] theorem Sw.powerUpCause_offTest (k : Nat) (high : Bool) :
    (w.offTest k high).rd SC.GENCAUSE.POWER_UP = w.rd SC.GENCAUSE.POWER_UP := by
  unfold Sw.offTest
  split <;> rfl

@[simp] theorem Sw.powerUpCause_offTestEnd (during : Nat) (nUp : Bool) :
    (w.offTestEnd during nUp).rd SC.GENCAUSE.POWER_UP = w.rd SC.GENCAUSE.POWER_UP := by
  unfold Sw.offTestEnd
  split
  · rfl
  next t _ =>
    extract_lets w₁ dips w₂ w₃ w₄
    have h₃ : w₃.rd SC.GENCAUSE.POWER_UP = w.rd SC.GENCAUSE.POWER_UP :=
      Sw.rd_foldl _ _ _ (fun v j => by simp (disch := decide) only [Sw.powerUpCause_lockOut]) _ w₂
    have h₄ : w₄.rd SC.GENCAUSE.POWER_UP = w.rd SC.GENCAUSE.POWER_UP := by
      rw [← h₃]
      unfold w₄
      split
      · rfl
      · split
        · simp (disch := decide) only [Sw.powerUpCause_lockOut]
          rfl
        · split <;> rfl
    repeat' split
    · rfl
    · rfl
    · exact Sw.powerUpCause_lockOut w₁ _ _ (by decide)
    · rw [Sw.powerUpCause_settle, h₄]

/-! #### The companion link (R347 to R351) -/

@[simp] theorem Sw.powerUpCause_store : w.store.rd SC.GENCAUSE.POWER_UP = w.rd SC.GENCAUSE.POWER_UP := rfl
@[simp] theorem Sw.powerUpCause_append (kind addr old new : Nat) :
    (w.append kind addr old new).rd SC.GENCAUSE.POWER_UP = w.rd SC.GENCAUSE.POWER_UP := rfl

@[simp] theorem Sw.powerUpCause_enterRun : w.enterRun.rd SC.GENCAUSE.POWER_UP = w.rd SC.GENCAUSE.POWER_UP := by
  simp (disch := decide) only [Sw.enterRun, Sw.powerUpCause_set1, Sw.powerUpCause_wr, Sw.powerUpCause_off, Sw.powerUpCause_withdraw]

@[simp] theorem Sw.powerUpCause_unlock : w.unlock.rd SC.GENCAUSE.POWER_UP = w.rd SC.GENCAUSE.POWER_UP := by
  unfold Sw.unlock
  (repeat' split) <;> simp (disch := decide) only [Sw.powerUpCause_set1, Sw.powerUpCause_wr, Sw.rd_mk, Sw.get_regs]

@[simp] theorem Sw.powerUpCause_confirm : w.confirm.rd SC.GENCAUSE.POWER_UP = w.rd SC.GENCAUSE.POWER_UP := by
  unfold Sw.confirm
  split <;> simp (disch := decide) only [Sw.powerUpCause_set1, Sw.rd_mk, Sw.get_regs]

@[simp] theorem Sw.powerUpCause_writeParam (a v : Nat) :
    (w.writeParam a v).1.rd SC.GENCAUSE.POWER_UP = w.rd SC.GENCAUSE.POWER_UP := by
  unfold Sw.writeParam
  dsimp only
  (repeat' split) <;> simp (disch := decide) only [Sw.powerUpCause_set1, Sw.powerUpCause_withdraw, Sw.powerUpCause_append,
    Sw.powerUpCause_store, Sw.rd_mk, Sw.get_regs]

/-- No row of the map lets a request write POWER_UP (R354). -/
theorem powerUp_readOnly : ∀ r ∈ scRows, ∀ p ∈ r.parts, p.acc = .ro ∨ SC.GENCAUSE.POWER_UP.id ≠ p.f.id := by decide

theorem findRow_mem {rows : List Row} {a : Nat} {x : Row × Nat × Nat} (h : findRow rows a = some x) : x.1 ∈ rows := by
  obtain ⟨r, hr, he⟩ := List.exists_of_findSome?_eq_some h
  obtain ⟨_, _, rfl⟩ := Option.map_eq_some_iff.mp he
  exact hr

theorem Sw.powerUpCause_putRow (r : Row) (v i : Nat) (hr : r ∈ scRows) :
    (w.putRow r v i).rd SC.GENCAUSE.POWER_UP = w.rd SC.GENCAUSE.POWER_UP := by
  have hparts : ∀ p ∈ r.parts, p.acc = .ro ∨ SC.GENCAUSE.POWER_UP.id ≠ p.f.id := powerUp_readOnly r hr
  unfold Sw.putRow
  generalize r.parts = ps at hparts
  induction ps generalizing w with
  | nil => rfl
  | cons p ps ih =>
    rw [List.foldl_cons, ih _ fun q hq => hparts q (List.mem_cons_of_mem p hq)]
    obtain hp | hp := hparts p List.mem_cons_self
    · simp only [hp]
    · split <;> simp only [Sw.powerUpCause_wr _ _ _ _ hp]

@[simp] theorem Sw.powerUpCause_write (a v : Nat) : (w.write a v).1.rd SC.GENCAUSE.POWER_UP = w.rd SC.GENCAUSE.POWER_UP := by
  unfold Sw.write
  split
  · rfl
  next r i _ h =>
    have hput := Sw.powerUpCause_putRow w r v i (findRow_mem h)
    extract_lets roHit commissioned tried changed confirming
    split
    · rfl
    split
    · exact Sw.powerUpCause_writeParam w a _
    split
    case h_1 hmode =>
      repeat' split
      · exact (Sw.powerUpCause_withdraw _).trans (Sw.powerUpCause_wr w SC.MODE.STATE 1 0 (by decide))
      · rfl
      · exact (Sw.powerUpCause_enterRun _).trans (Sw.powerUpCause_wr w SC.MODE.CONFIRM_PEND 0 0 (by decide))
      all_goals rfl
    case h_2 heswreq => split <;> rfl
    case h_3 houtforce =>
      split
      · exact Sw.powerUpCause_wr w _ v 0 (by decide)
      · rfl
    case h_4 hunlock =>
      repeat' split
      · rfl
      · exact Sw.powerUpCause_unlock tried
      · rfl
    case h_5 hsecctl =>
      split
      · exact Sw.powerUpCause_wr w _ 0 0 (by decide)
      · rfl
    case h_6 hpwd => (repeat' split) <;> rfl
    case h_7 hconfirm =>
      repeat' split
      · rfl
      · exact Sw.powerUpCause_confirm confirming
      · rfl
    case h_8 hlogidx =>
      repeat' split
      · rfl
      · exact hput
    case h_9 hplain => exact hput

@[simp] theorem Sw.powerUpCause_answer (q result data : Nat) :
    (w.answer q result data).rd SC.GENCAUSE.POWER_UP = w.rd SC.GENCAUSE.POWER_UP := rfl

@[simp] theorem Sw.powerUpCause_perform (q op a v : Nat) :
    (w.perform q op a v).rd SC.GENCAUSE.POWER_UP = w.rd SC.GENCAUSE.POWER_UP := by
  unfold Sw.perform
  split
  · rfl
  · split <;> rfl
  · exact Sw.powerUpCause_write w a v

@[simp] theorem Sw.powerUpCause_serve (q op : Nat) (takes : Nat → Nat → Bool) :
    (w.serve q op takes).rd SC.GENCAUSE.POWER_UP = w.rd SC.GENCAUSE.POWER_UP := by
  unfold Sw.serve
  dsimp only
  split
  · rfl
  split
  · split
    · rfl
    · exact w.powerUpCause_perform q op _ _
  · exact w.powerUpCause_perform q op _ _

@[simp] theorem Sw.powerUpCause_unlockExpiry : w.unlockExpiry.rd SC.GENCAUSE.POWER_UP = w.rd SC.GENCAUSE.POWER_UP := by
  unfold Sw.unlockExpiry
  dsimp only
  (repeat' split) <;> simp (disch := decide) only [Sw.powerUpCause_wr]

@[simp] theorem Sw.powerUpCause_confirmTimeout : w.confirmTimeout.rd SC.GENCAUSE.POWER_UP = w.rd SC.GENCAUSE.POWER_UP := by
  unfold Sw.confirmTimeout
  split <;> simp (disch := decide) only [Sw.powerUpCause_wr]

/-! #### Power (R346, R386) -/

@[simp] theorem Sw.powerUpCause_rstStuck : w.rstStuck.rd SC.GENCAUSE.POWER_UP = w.rd SC.GENCAUSE.POWER_UP := by
  simp (disch := decide) only [Sw.rstStuck, Sw.powerUpCause_set1]

@[simp] theorem Sw.powerUpCause_rstStuckClear : w.rstStuckClear.rd SC.GENCAUSE.POWER_UP = w.rd SC.GENCAUSE.POWER_UP :=
  Sw.powerUpCause_wr w _ 0 0 (by decide)

@[simp] theorem Sw.powerUpCause_unpower : w.unpower.rd SC.GENCAUSE.POWER_UP = w.rd SC.GENCAUSE.POWER_UP := by
  unfold Sw.unpower
  split <;> rfl

end

/-! ### What a command does to a companion -/

/-- What a command makes of a companion leaves the cause POWER_UP where it stands. -/
def KeepsPowerUp (f : Sw → Sw) : Prop := ∀ w, w.rd SC.GENCAUSE.POWER_UP = 1 → (f w).rd SC.GENCAUSE.POWER_UP = 1

theorem keepsPowerUp_of_eq {f : Sw → Sw} (h : ∀ w, (f w).rd SC.GENCAUSE.POWER_UP = w.rd SC.GENCAUSE.POWER_UP) : KeepsPowerUp f :=
  fun w hw => (h w).trans hw

/-- A companion that starts has every register at its reset value but MODE and ESWSTAT, and RSTSTAT where RST_BTN is stuck (R346). -/
theorem Sw.rd_powerUp (w : Sw) (btn : Bool) (g : Fld)
    (h : g.id ∉ [SC.MODE.STATE.id, SC.ESWSTAT.STATE.id, SC.RSTSTAT.STUCK.id, SC.RSTSTAT.STUCK_SEEN.id]) :
    (w.powerUp btn).rd g = g.reset 0 := by
  simp only [List.mem_cons, List.not_mem_nil, or_false, not_or] at h
  obtain ⟨hmode, hesw, hstuck, hseen⟩ := h
  unfold Sw.powerUp
  extract_lets secs best set sc w₀ w₁ w₂
  have h₁ : w₁.rd g = w₀.rd g := by
    unfold w₁
    split
    · rfl
    · exact Sw.rd_wr_ne _ _ _ _ _ _ hmode
  have h₂ : w₂.rd g = g.reset 0 := (Sw.rd_wr_ne _ _ _ _ _ _ hesw).trans h₁
  split
  · exact ((Sw.rd_wr_ne _ _ _ _ _ _ hseen).trans (Sw.rd_wr_ne _ _ _ _ _ _ hstuck)).trans h₂
  · exact h₂

/-- A companion that starts drives no output and gives no permit (R346). -/
theorem Sw.powerUp_off (w : Sw) (btn : Bool) : (w.powerUp btn).power = true ∧ (w.powerUp btn).high = 0 ∧ (w.powerUp btn).low = 0 ∧
    (w.powerUp btn).cmdP = 0 ∧ (w.powerUp btn).cmdQ = 0 ∧ (w.powerUp btn).permitP = false ∧ (w.powerUp btn).permitQ = false := by
  unfold Sw.powerUp
  extract_lets secs best set sc w₀ w₁ w₂
  unfold w₂ w₁
  split <;> split <;> exact ⟨rfl, rfl, rfl, rfl, rfl, rfl, rfl⟩

theorem Sw.isOn_of_high_eq_zero {w : Sw} (h : w.high = 0) (k : Nat) : w.isOn k = false := by
  simp only [Sw.isOn, h, bit, Nat.zero_div, Nat.zero_mod, Nat.zero_ne_one, decide_false, Bool.false_and]

theorem Sw.general_of_powerUpCause {w : Sw} (h : w.rd SC.GENCAUSE.POWER_UP = 1) : w.general = true := by
  have hon : w.on SC.GENCAUSE.POWER_UP = true := by
    unfold Sw.on
    rw [h]
    rfl
  simp only [Sw.general, hon, Bool.true_or]

/-- No permit while GENERAL stands (R342). -/
theorem Sw.mayPermit_of_general {w : Sw} (h : w.general = true) : w.mayPermit = false := by
  simp only [Sw.mayPermit, h, Bool.not_true, Bool.and_false, Bool.false_and]

/-- Where P judges that no permit is due, none is commanded: Q's alone is a difference, which withholds it (R328). -/
theorem Sw.compare_withholds (w : Sw) (o qo : Nat) (qp qLock : Bool) :
    (w.compare o false qo qp qLock).permitP = false ∧ (w.compare o false qo qp qLock).permitQ = false := by
  unfold Sw.compare
  extract_lets differ w₁ w₂ pq stop w₃
  refine ⟨rfl, ?_⟩
  show (qp && !stop) = false
  cases qp with
  | false => rfl
  | true =>
    have hstop : stop = true := by
      simp only [stop, differ, ne_eq, Bool.true_eq_false, not_false_eq_true, decide_true, Bool.or_true, Bool.true_or]
    rw [hstop]
    rfl

/-- No cycle gives the permit while POWER_UP stands (R342, R346). -/
theorem Sw.cycle_withholds {w : Sw} (c : ScCycle) (h : w.rd SC.GENCAUSE.POWER_UP = 1) :
    (w.cycle c).permitP = false ∧ (w.cycle c).permitQ = false := by
  have hp : (w.readPins c).functions.mayPermit = false :=
    Sw.mayPermit_of_general (Sw.general_of_powerUpCause
      ((Sw.powerUpCause_functions _).trans ((Sw.powerUpCause_readPins w c).trans h)))
  unfold Sw.cycle
  extract_lets w₁ p o w₂ w₃ w₄
  have hp' : p = false := hp
  have h₂ : w₂.permitP = false ∧ w₂.permitQ = false := by
    unfold w₂
    rw [hp']
    exact Sw.compare_withholds w₁ _ _ _ _
  simpa only [w₃, w₄, Sw.wr_permitP, Sw.wr_permitQ] using h₂

/-! ### What every command does to the companions -/

@[simp] theorem State.cellReset_scs (s : State) (dt st p : Nat) (c : ColdCause) : (s.cellReset dt st p c).scs = s.scs := by
  unfold State.cellReset
  extract_lets v n reset
  cases c with
  | power vddio => rfl
  | pin ns => dsimp only; split <;> rfl

@[simp] theorem State.cellRelease_scs (s : State) (dt st p : Nat) : (s.cellRelease dt st p).scs = s.scs := rfl

@[simp] theorem State.tapCmd_scs (s : State) (dt st p : Nat) (c : TapOp) : (s.tapCmd dt st p c).scs = s.scs := by
  unfold State.tapCmd
  dsimp only
  split
  · rfl
  · split
    · exact State.cellCmd_scs _ _ _ _ _
    · rfl

/-- A command takes a state to another in which the companions are as before, or one of them is as a function that keeps POWER_UP, or
a press of its reset button, makes it. -/
def SparesPowerUp (c : Instr) (s t : State) : Prop :=
  t.scs = s.scs ∨ ∃ (dt : Nat) (m : Fin 2) (f : Sw → Sw) (a : Bool), t = s.scCmd dt m f a ∧
    (KeepsPowerUp f ∨ ∃ ms, c = .resetButton dt m ms)

theorem sparesPowerUp_of_scs {c : Instr} {s t : State} (h : t.scs = s.scs) : SparesPowerUp c s t := .inl h

theorem sparesPowerUp_scCmd {c : Instr} {s : State} {dt : Nat} {m : Fin 2} {f : Sw → Sw} {a : Bool} (hf : KeepsPowerUp f) :
    SparesPowerUp c s (s.scCmd dt m f a) := .inr ⟨dt, m, f, a, rfl, .inl hf⟩

theorem sparesPowerUp_of_eq {c : Instr} {s : State} {dt : Nat} {m : Fin 2} {f : Sw → Sw} {a : Bool}
    (hf : ∀ w, (f w).rd SC.GENCAUSE.POWER_UP = w.rd SC.GENCAUSE.POWER_UP) : SparesPowerUp c s (s.scCmd dt m f a) :=
  sparesPowerUp_scCmd (keepsPowerUp_of_eq hf)

/-- Every command answers, and none but a reset ends a POWER_UP (R344, R346). -/
theorem exec_sparesPowerUp (c : Instr) (s : State) : ∃ t, exec c s = .next t ∧ SparesPowerUp c s t := by
  cases c with
  | resetButton dt n ms => exact ⟨_, rfl, .inr ⟨dt, n, _, _, rfl, .inr ⟨ms, rfl⟩⟩⟩
  | safetyCycle dt n c => exact ⟨_, rfl, sparesPowerUp_of_eq fun w => w.powerUpCause_cycle c⟩
  | isoFrameRx dt n good f => exact ⟨_, rfl, sparesPowerUp_of_eq fun w => w.powerUpCause_isoFrame good f⟩
  | isoTimeout dt n field => exact ⟨_, rfl, sparesPowerUp_of_eq fun w => w.powerUpCause_isoTimeout field⟩
  | fieldSupplySag dt n x => exact ⟨_, rfl, sparesPowerUp_of_eq fun w => w.powerUpCause_sag x.toNat⟩
  | fieldSupplySagEnd dt n x => exact ⟨_, rfl, sparesPowerUp_of_eq fun w => w.powerUpCause_sagEnd x.toNat⟩
  | supplyLow dt n => exact ⟨_, rfl, sparesPowerUp_of_eq Sw.powerUpCause_supplyLow⟩
  | outputOverload dt n k => exact ⟨_, rfl, sparesPowerUp_of_eq fun w => w.powerUpCause_overload k⟩
  | outputOvertemp dt n k => exact ⟨_, rfl, sparesPowerUp_of_eq fun w => w.powerUpCause_overtemp k⟩
  | outputOpenWire dt n k => exact ⟨_, rfl, sparesPowerUp_of_eq fun w => w.powerUpCause_openWire k⟩
  | offTest dt n k high => exact ⟨_, rfl, sparesPowerUp_of_eq fun w => w.powerUpCause_offTest k high⟩
  | offTestEnd dt n during nUp => exact ⟨_, rfl, sparesPowerUp_of_eq fun w => w.powerUpCause_offTestEnd during.toNat nUp⟩
  | rstStuck dt n => exact ⟨_, rfl, sparesPowerUp_of_eq Sw.powerUpCause_rstStuck⟩
  | rstStuckClear dt n => exact ⟨_, rfl, sparesPowerUp_of_eq Sw.powerUpCause_rstStuckClear⟩
  | scPowerUp dt n btn => exact ⟨_, rfl, sparesPowerUp_scCmd fun w _ => w.rd_powerUp btn SC.GENCAUSE.POWER_UP (by decide)⟩
  | eswClose dt n => exact ⟨_, rfl, sparesPowerUp_of_eq fun w => Sw.powerUpCause_ite w (w.req = 1) w.powerUpCause_eswClose⟩
  | eswOpen dt n => exact ⟨_, rfl, sparesPowerUp_of_eq fun w => Sw.powerUpCause_ite w (w.req = 2) w.powerUpCause_eswOpen⟩
  | eswAbort dt n => exact ⟨_, rfl, sparesPowerUp_of_eq fun w => Sw.powerUpCause_ite w (w.req = 3) w.powerUpCause_eswAbort⟩
  | eswDelayExpiry dt n => exact ⟨_, rfl, sparesPowerUp_of_eq Sw.powerUpCause_eswDelay⟩
  | eswFbTimeout dt n => exact ⟨_, rfl, sparesPowerUp_of_eq Sw.powerUpCause_eswFbTimeout⟩
  | unlockExpiry dt n => exact ⟨_, rfl, sparesPowerUp_of_eq Sw.powerUpCause_unlockExpiry⟩
  | confirmTimeout dt n => exact ⟨_, rfl, sparesPowerUp_of_eq Sw.powerUpCause_confirmTimeout⟩
  | scUnpowered dt n => exact ⟨_, rfl, sparesPowerUp_of_eq Sw.powerUpCause_unpower⟩
  | modeEnter | modeLeave | scUnlock | relock | passwordChange | scParameterWrite | scConfirm | scPoll | scRead | scWrite =>
    exact ⟨_, rfl, sparesPowerUp_of_eq fun w => w.powerUpCause_serve _ _ _⟩
  | echoTimeout dt st p =>
    cases p with
    | none => exact ⟨_, rfl, sparesPowerUp_of_scs rfl⟩
    | some p => exact ⟨_, rfl, sparesPowerUp_of_scs (State.cellCmd_scs s dt st p _)⟩
  | _ =>
    exact ⟨_, rfl, sparesPowerUp_of_scs (by simp only [State.vcCmd_scs, State.cellCmd_scs, State.linkCmd_scs,
      State.cellReset_scs, State.cellRelease_scs, State.tapCmd_scs])⟩

/-- A command to a companion with power makes of it, as the command finds it, what its function does. -/
theorem State.scCmd_sc_swIn (s : State) (dt n : Nat) (f : Sw → Sw) (a : Bool) (h : (s.sc n).power = true ∨ a = true) :
    (s.scCmd dt n f a).sc n = (f (s.swIn dt n)).toSc := State.scCmd_sc s dt n f a h

/-- The time a command comes at does not move a field of a companion. -/
theorem State.rd_swIn (s : State) (dt n : Nat) (g : Fld) (i : Nat) : (s.swIn dt n).rd g i = (s.swAt n).rd g i := Sw.rd_congr rfl g i

theorem State.rd_swAt_scCmd (s : State) (dt n : Nat) (f : Sw → Sw) (a : Bool) (g : Fld) (i : Nat) (h : (s.sc n).power = true ∨ a = true) :
    ((s.scCmd dt n f a).swAt n).rd g i = (f (s.swIn dt n)).rd g i :=
  Sw.rd_congr (congrArg Sc.regs (State.scCmd_sc_swIn s dt n f a h)) g i

/-- The POWER_UP of a companion outlasts work on the other, and work on itself that keeps it. -/
theorem State.powerUpCause_scCmd (s : State) (dt m n : Nat) (f : Sw → Sw) (a : Bool) (hf : n = m → KeepsPowerUp f)
    (hp : (s.sc n).power = true) (h : (s.swAt n).rd SC.GENCAUSE.POWER_UP = 1) :
    ((s.scCmd dt m f a).swAt n).rd SC.GENCAUSE.POWER_UP = 1 := by
  by_cases hm : n = m
  · subst hm
    rw [State.rd_swAt_scCmd s dt n f a _ _ (.inl hp)]
    exact hf rfl _ ((State.rd_swIn s dt n _ 0).trans h)
  · exact (Sw.rd_congr (congrArg Sc.regs (State.scCmd_sc_ne s dt m f a n hm)) _ _).trans h

/-- Settles O54: a start puts every cause register at its reset value, of the operations of a companion none but a start and a
reset writes POWER_UP, and the permit needs GENERAL clear. -/
theorem companionPowerUp : Obligations.CompanionPowerUp := by
  unfold Obligations.CompanionPowerUp
  refine ⟨fun s dt n btn => ?_, fun s dt n c hp h => ?_, fun s t n c hc hp h he => ?_⟩
  · refine ⟨s.scCmd dt n (fun w => w.powerUp btn) true, rfl, ?_⟩
    have hsc := State.scCmd_sc_swIn s dt n (fun w => w.powerUp btn) true (.inr rfl)
    have hrd (g : Fld) := State.rd_swAt_scCmd s dt n (fun w => w.powerUp btn) true g 0 (.inr rfl)
    obtain ⟨hpower, hhigh, -, hcmdP, hcmdQ, hpermitP, hpermitQ⟩ := (s.swIn dt n).powerUp_off btn
    have hcause : ((s.scCmd dt n (fun w => w.powerUp btn) true).swAt n).rd SC.GENCAUSE.POWER_UP = 1 :=
      (hrd _).trans (Sw.rd_powerUp _ btn _ (by decide))
    have hpermit : ((s.scCmd dt n (fun w => w.powerUp btn) true).swAt n).rd SC.STATUS.PERMIT = 0 :=
      (hrd _).trans (Sw.rd_powerUp _ btn _ (by decide))
    have hhigh' : ((s.scCmd dt n (fun w => w.powerUp btn) true).swAt n).high = 0 := (congrArg Sc.high hsc).trans hhigh
    rw [hsc]
    exact ⟨hpower, Sw.isOn_of_high_eq_zero hhigh', hcmdP, hcmdQ, hpermitP, hpermitQ, Sw.general_of_powerUpCause hcause, hcause, hpermit⟩
  · refine ⟨s.scCmd dt n (fun w => w.cycle c), rfl, ?_⟩
    obtain ⟨hpermitP, hpermitQ⟩ := Sw.cycle_withholds c ((State.rd_swIn s dt n _ 0).trans h)
    rw [State.scCmd_sc_swIn s dt n _ _ (.inl hp)]
    exact ⟨hpermitP, hpermitQ,
      State.powerUpCause_scCmd s dt n n _ _ (fun _ => keepsPowerUp_of_eq fun w => w.powerUpCause_cycle c) hp h⟩
  · obtain ⟨u, hu, hu'⟩ := exec_sparesPowerUp c s
    obtain rfl : u = t := Host.Outcome.next.inj (hu.symm.trans he)
    obtain hscs | ⟨dt, m, f, a, rfl, hf⟩ := hu'
    · have hsc : u.sc n = s.sc n := by simp only [State.sc, hscs]
      exact (Sw.rd_congr (congrArg Sc.regs hsc) _ _).trans h
    · refine State.powerUpCause_scCmd s dt m n f a (fun hm => ?_) hp h
      obtain rfl : n = m := Fin.ext hm
      exact hf.resolve_right fun ⟨ms, hreset⟩ => hc dt ms hreset

end Sys2Proof.Machine
end
